-- ==== Sys2Proof/Word.lean ====
section
/-! DEFINITION. The word types of the RCN-64: registers are 32-bit words (R131), memory is bytes, addresses are plain
numbers once they are computed. -/

namespace Sys2Proof

/-- A register word (R131). -/
abbrev Word := BitVec 32

/-- A byte of memory (R4). -/
abbrev Byte := BitVec 8

end Sys2Proof
end

