-- ==== Sys2Proof/Syntax.lean ====
section
/-! DEFINITION. The commands of the block: one constructor for each row of spec/opcode_table.json, with the operands
the rules give it. Physical quantities (voltages, samples, instants, frames received) are operands. -/

namespace Sys2Proof

/-- A trunk frame: the header fields of Table 13-2 (LEN being the payload's length in words) and the payload bytes. -/
structure Frame where
  ty : Nat := 0
  cls : Nat := 0
  fbe : Nat := 0
  lbe : Nat := 0
  sub : Nat := 0
  status : Nat := 0
  src : Nat := 0
  tag : Nat := 0
  oid : Nat := 0
  ackSeq : Nat := 0
  ackV : Bool := false
  addr : Nat := 0
  aux : Nat := 0
  payload : List Byte := []
  deriving DecidableEq, Repr

/-- What reaches a port: 66-bit blocks as the lanes carry them, scrambled, in the order of the stream; the lane of the first
where two lanes are decoded; and the last 58 line bits before them on each lane (R398). -/
structure RxLine where
  first : Fin 2 := 0
  seed0 : BitVec 58 := 0
  seed1 : BitVec 58 := 0
  blks : List (BitVec 66) := []
  deriving DecidableEq, Repr

/-- The fields of a Grove frame (Table 17-1): TYPE, the HOP byte and the payload. -/
structure GFrame where
  ty : Nat := 0
  hop : Nat := 0
  payload : List Byte := []
  deriving DecidableEq, Repr

/-- What had been performed of a service-port frame that is cut short: reads of a READ frame, or the words of a WRITE frame. -/
inductive SvcPart where
  | reads (n : Fin 33)
  | writes (ws : List Word)
  deriving DecidableEq, Repr

/-- What a Sapling took of one channel over a block: its valid samples, and whether one of them clipped. -/
structure SapChan where
  samples : List (BitVec 24) := []
  clip : Bool := false
  deriving DecidableEq, Repr



/-- The commands (one constructor per row of the opcode table). -/
inductive Instr where
  -- Supplies, boot, modes, power (chapters 02 and 03)
  /-- R64: VIN rises through 17.0 V. -/
  | vinValid
  /-- R713: Root becomes powered after being unpowered. -/
  | rootPor
  /-- R80: VIN falls through 16.0 V; `holdLow` says that HOLD is below 14.0 V then (R84). -/
  | vinFail (holdLow : Bool)
  /-- R76: VIN has stayed at or above 17.0 V for 10 ms. -/
  | vinQualified
  /-- R76: HOLD reaches 17.0 V. -/
  | holdReady
  /-- R84: HOLD falls through 14.0 V. -/
  | holdExhausted
  /-- R76: VBAK crosses 2.5 V; `present` is its new side. -/
  | vbakPresent (present : Bool)
  /-- R76: VBAK falls below 2.6 V. -/
  | vbakLow
  /-- R78: VM rises through 11.0 V. -/
  | vmRiseOk
  /-- R78: VM falls through 10.5 V. -/
  | vmUndervoltage
  /-- R76: VM rises through 56 V (`over`), or falls through 54 V. -/
  | vmOvervoltage (ovr : Bool)
  /-- R76: the monitors' figures of this 100 µs, in mV. -/
  | vmonUpdate (vin hold vm vbak : BitVec 16)
  /-- R36: VIO_GEN comes within range; `straps` is what the strap lands then read (SYS_STRAP bits 7 to 0), `vio18` the
  measured threshold choice. -/
  | vioGenInRange (straps : BitVec 8) (vio18 : Bool)
  /-- R64: the Root-up step ends; straps as above, `vioOk` says that VIO_GEN is within range. -/
  | rootUpEnd (straps : BitVec 8) (vio18 vioOk : Bool)
  /-- R64 -/
  | railsStepEnd
  /-- R64 -/
  | pllStepEnd
  /-- R66: 2 ms after its end the running rails or PLL step has not succeeded. -/
  | bootStepTimeout
  /-- R64 -/
  | mdieReadyEnd
  /-- R67 -/
  | mdieReadyTimeout
  /-- R65: the boot verification of the slot in hand ends. -/
  | signatureCheckDone (ecc : List (Fin 3) := [])
  /-- R287: image apply ends. -/
  | imageApply
  /-- R56: tenant `t` writes `v` to SYS_MODE_REQ. -/
  | modeRequest (t : Fin 8) (v : Word)
  /-- R75 -/
  | powerdownCommit
  /-- R82 -/
  | holdupFwWindowEnd
  /-- R80 -/
  | holdupAxisCut
  /-- R87 -/
  | holdupCommit
  /-- R88 -/
  | holdupReturnWaitEnd
  /-- R80 -/
  | holdupEnd
  /-- R70: PWR_WTIMER`n` counts to zero. -/
  | wakeTimerExpiry (n : Fin 2)
  /-- R70: tenant `t` writes PWR_WTIMER`n`. -/
  | wakeTimerWrite (t : Fin 8) (n : Fin 2) (v : Word)
  /-- R71 -/
  | watchPeriodInstant
  /-- R72 -/
  | watchSnapEnd
  /-- R62: tenant `t` reads (`none`) or writes PWR_RMEM_DATA. -/
  | rmemDataAccess (t : Fin 8) (v : Option Word)
  /-- R47 -/
  | rstNLow
  /-- R48 -/
  | rstNRelease
  /-- R156: tenant `t` writes `v` to SYS_NODE_RST. -/
  | nodeResetRequest (t : Fin 8) (v : Word)
  /-- R77 -/
  | vinExcursion
  /-- R79 -/
  | holdChargeComplete
  /-- R72 -/
  | watchAcquisitionEnd
  -- Clocks and mill time (chapter 04)
  /-- R32 -/
  | ppsSecond
  /-- R96 -/
  | rootSlowFallback
  /-- R97: the monitor that fired: 0 SYS_REF, 1 system PLL, 2 timebase synthesiser, 3 and 4 trunk PLLs A and B. -/
  | pllLockLoss (which : Fin 5)
  /-- R108: a SYNC frame of host tenant `t` with this TAG arrives on port `p` carrying `t1`. -/
  | timeSyncRx (t : Fin 4) (p : Fin 2) (tag : Fin 1024) (t1 : BitVec 64)
  /-- R108 -/
  | timeDelayReqTx
  /-- R109: DELAY_RESP of host tenant `t` with this TAG arrives on port `p` carrying `t4`. -/
  | timeDelayRespRx (t : Fin 4) (p : Fin 2) (tag : Fin 1024) (t4 : BitVec 64)
  /-- R110 -/
  | timeExchangeMiss
  /-- R112 -/
  | timebaseHoldover
  /-- R114: tenant `t` writes `v` to TIM_CTRL. -/
  | timeSetCmd (t : Fin 8) (v : Word)
  /-- R105: tenant `t` reads TIM_NOW_LO. -/
  | timNowLoRead (t : Fin 8)
  /-- R120 -/
  | afeRealign
  -- Register access (chapter 05)
  /-- R138: tenant `t` writes `v` to the staged register at `a`. -/
  | rwsStageWrite (t : Fin 8) (a : BitVec 40) (v : Word)
  /-- R141: tenant `t` writes `v` to SYS_UPD_APPLY. -/
  | updateApply (t : Fin 8) (v : Word)
  /-- R143: tenant `t` writes `v` to SYS_UPD_AT_MASK. -/
  | timedApplyArm (t : Fin 8) (v : Word)
  /-- R124: mill time reaches the armed instant, or a step passes over it. -/
  | timedApplyFire
  /-- R147: tenant `t` writes `v` to the IADDR of indirect port `p` (0 GRV_SAP, 1 GRV_SCHED, 2 HWD_CONF, 3 DRV_TBL). -/
  | indirectAddrWrite (t : Fin 8) (p : Fin 4) (v : Word)
  /-- R149: as `indirectAddrWrite`, with RELEASE = 1. -/
  | indirectRelease (t : Fin 8) (p : Fin 4)
  /-- R147 -/
  | indirectDataRead (t : Fin 8) (p : Fin 4)
  /-- R148 -/
  | indirectDataWrite (t : Fin 8) (p : Fin 4) (v : Word)
  /-- R147: the fetch of port `p` completes; `answer` is what a Sapling answered where the target is one, `none` a
  failure there. -/
  | indirectFetchDone (p : Fin 4) (answer : Option Word) (ecc : Fin 3 := 0)
  /-- R148: the oldest queued write of port `p` completes; `acked` is a Sapling's answer where the target is one. -/
  | indirectQueueWriteDone (p : Fin 4) (acked : Bool)
  /-- R149 -/
  | indirectClaimTimeout (p : Fin 4)
  /-- R150: tenant `t` writes `v` to the register at `a` that holds a lock bit. -/
  | lockBitSet (t : Fin 8) (a : BitVec 40) (v : Word)
  /-- R154: tenant `t` writes `v` to SYS_URST. -/
  | unitReset (t : Fin 8) (v : Word)
  /-- R154, R188: the reset of unit `u` ends: SYS_URST bits 0 to 22, 24 SVCP, 25 GRV_A, 26 GRV_B. -/
  | unitResetEnd (u : Fin 32)
  /-- R133: tenant `t` writes `v` to the register at `a`. -/
  | registerWrite (t : Fin 8) (a : BitVec 40) (v : Word)
  /-- R9: tenant `t` reads the register at `a`. -/
  | rcRead (t : Fin 8) (a : BitVec 40)
  /-- R134: tenant `t` reads the low word, at `a`, of a 64-bit counter. -/
  | counter64LowRead (t : Fin 8) (a : BitVec 40)
  /-- R159: a READ frame of `n` + 1 words, FIXED as said; bit k of `cor` and `lost`: the frame's word k comes back from memory
  corrected, or is lost. -/
  | svcReadFrame (fixed : Bool) (a : BitVec 40) (n : Fin 32) (cor lost : BitVec 32)
  /-- R159: a WRITE frame of 1 to 32 words. -/
  | svcWriteFrame (fixed : Bool) (a : BitVec 40) (ws : List Word)
  /-- R161 -/
  | svcInvalidFrame
  /-- R161: a valid frame from `a` on ends early, after `part` of it has been performed. -/
  | svcFrameAbort (fixed : Bool) (a : BitVec 40) (part : SvcPart)
  /-- R164: tenant `t` writes `v` to CRC_`n`_DATA8. -/
  | crcData8Write (t : Fin 8) (n : Fin 4) (v : Word)
  /-- R164 -/
  | crcData16Write (t : Fin 8) (n : Fin 4) (v : Word)
  /-- R164 -/
  | crcData32Write (t : Fin 8) (n : Fin 4) (v : Word)
  -- Bark (chapter 06)
  /-- R169: the pair of source `src` changes to error. `inst` says which core, port, lane, controller, tenant or fence
  target raised it (R172); `stays` what the pair reads after the event. -/
  | barkSourceEvent (src : Fin 96) (inst : Fin 32) (stays : Bool)
  /-- R168: the pair of `src` has read 0b00 or 0b11 for 4 cycles; `stays` as above. -/
  | barkPairBroken (src : Fin 96) (inst : Fin 32) (stays : Bool)
  /-- R178 -/
  | barkWindowExpiry (src : Fin 96)
  /-- R196: copy `copy` (0 to 2) of the voted register at `a` has come to hold `v`. -/
  | brkVoteMismatch (copy : Fin 3) (a : BitVec 40) (v : Word)
  /-- R179: tenant `t` writes `v` to BRK_STICKY`k`. -/
  | stickyClear (t : Fin 8) (k : Fin 3) (v : Word)
  /-- R186: tenant `t` writes `v` to BRK_UNFENCE. -/
  | unfence (t : Fin 8) (v : Word)
  /-- R197: tenant `t` writes `v` to BRK_INJ. -/
  | faultInject (t : Fin 8) (v : Word)
  /-- R199 -/
  | injectLineRelease
  -- Analog channels, Root watch path, tach inputs (chapter 07)
  /-- R221: comparator `k` of watch channel `c` crosses while armed. -/
  | watchCmpCross (c : Fin 8) (k : Fin 2)
  /-- R220: one sample instant in ROOT: the eight watch channels' converted values, and which of them exceeded the watch
  range or show a sensor fault (bit c). -/
  | watchSample (data : List (BitVec 24)) (clip sflt : BitVec 8)
  /-- R209: channel `c` of die `n` produces a sample with nominal instant `inst`: the filter's output `data` and whether its
  window holds an overloaded modulator output. -/
  | afeSample (n : Fin 2) (c : Fin 16) (inst : BitVec 64) (data : BitVec 24) (ovr : Bool)
  /-- R217: the bias has stayed above 22 V (OPEN) or below 1 V (SHORT) for 10 ms. -/
  | sensorFaultOnset (n : Fin 2) (c : Fin 16) (isShort : Bool)
  /-- R217 -/
  | sensorFaultClear (n : Fin 2) (c : Fin 16)
  /-- R217: the bias voltage of a channel in mV. -/
  | biasMonitorUpdate (n : Fin 2) (c : Fin 16) (mv : BitVec 16)
  /-- R228: the lands of input `i` change to these levels at mill time `stamp` and hold them for `held` ns (R225). -/
  | tachEdge (i : Fin 8) (a b z : Bool) (stamp : BitVec 64) (held : BitVec 32 := 0xFFFFFFFF)
  /-- R230 -/
  | tachStopped (i : Fin 8)
  /-- R231: tenant `t` writes TCH_`i`_CFG, or TCH_`i`_DIV where `div`. -/
  | tachCfgWrite (t : Fin 8) (i : Fin 8) (div : Bool) (v : Word)
  -- Canopy (chapter 08)
  /-- R240: the oldest sample on its way to sample port `p` of bough `b` reaches it: one of channel `c` of A-die `n`. -/
  | ingestSample (b : Fin 4) (p : Fin 16) (n : Fin 2) (c : Fin 16)
  /-- R243: the oldest waiting stamp of tach input `i` reaches the stamp ports. -/
  | stampIngest (i : Fin 8)
  /-- R238: a word for context `k` of tile `t` fails parity on entry to bough `b`. -/
  | laneParityDrop (b : Fin 4) (t : Fin 16) (k : Fin 32)
  /-- R247: context `k` of FILT tile `t` takes its next input word. -/
  | filtInput (b : Fin 4) (t : Fin 16) (k : Fin 8)
  /-- R247: context `k` of ENV tile `t` takes its next input word. -/
  | envInput (b : Fin 4) (t : Fin 16) (k : Fin 8)
  /-- R249: the next reference event reaches the RSMP tile of bough `b`. -/
  | rsmpRefEvent (b : Fin 4)
  /-- R253 -/
  | rsmpRefTimeout (b : Fin 4)
  /-- R254: a frame of context `k` of FFT tile `t` is complete. -/
  | fftFrameComplete (b : Fin 4) (t : Fin 16) (k : Fin 4)
  /-- R258: the transform in hand of FFT tile `t` completes. -/
  | fftTransformDone (b : Fin 4) (t : Fin 16)
  /-- R260: a block of context `k` of STAT tile `t` ends. -/
  | statBlockEnd (b : Fin 4) (t : Fin 16) (k : Fin 16)
  /-- R262: point `k` of the ALRM tile takes its next value. -/
  | alarmValue (b : Fin 4) (k : Fin 32)
  /-- R263: tenant `t` writes `v` to Tt_AACK of the ALRM tile of bough `b`. -/
  | alarmAck (t : Fin 8) (b : Fin 4) (v : Word)
  /-- R265: context `k` of the PACK tile closes a record. -/
  | packRecordClose (b : Fin 4) (k : Fin 16)
  -- Images and grafting (chapter 09)
  /-- R283: tenant `t` writes SEC_IMG_CTRL with OP = VERIFY and GO. -/
  | imageVerify (t : Fin 8)
  /-- R291 -/
  | imageInstallA (t : Fin 8)
  /-- R291 -/
  | imageInstallB (t : Fin 8)
  /-- R294: OP = GRAFT for bough `b`. -/
  | imageGraft (t : Fin 8) (b : Fin 4)
  /-- R293: OP = ARB_RAISE for counter `k`. -/
  | arbRaise (t : Fin 8) (k : Fin 8)
  /-- R284: verification ends; `readErr`: an uncorrectable capture-store error was met (R290). -/
  | imageVerifyDone (readErr : Bool)
  /-- R292 -/
  | imageInstallDone (readErr : Bool := false)
  /-- R295 -/
  | graftEnd (readErr : Bool := false)
  -- Records and capture store (chapter 10)
  /-- R303: tenant `t` writes `v` to BUF_PART. -/
  | partitionApply (t : Fin 8) (v : Word)
  /-- R308: tenant `t` allocates `n` + 1 buffers. -/
  | bufAlloc (t : Fin 8) (n : Fin 512)
  /-- R310: tenant `t` frees buffer `u`. -/
  | bufFree (t : Fin 8) (u : Fin 16384)
  /-- R310: tenant `t` frees the chain that starts at buffer `u`. -/
  | bufFreeChain (t : Fin 8) (u : Fin 16384)
  /-- R301: tenant `t` writes `v` to REC_POST. -/
  | recPost (t : Fin 8) (v : Word)
  /-- R314: the record engine takes or refuses the next record offered to it. -/
  | recordAccept
  /-- R315: the engine copies the record in hand for its next subscription; `bad`: it meets an uncorrectable error. -/
  | recordCopy (bad : Bool)
  /-- R322: the next record of push subscription `sub` is written, or dropped; `bad` as above (R327). -/
  | pushWrite (sub : Fin 256) (bad : Bool)
  /-- R322 -/
  | pushBuffersFree (sub : Fin 256)
  /-- R325: the next record of pull subscription `sub` gets a descriptor; `bad` as above. -/
  | pullDescriptorWrite (sub : Fin 256) (bad : Bool)
  /-- R323: tenant `t` writes `v` to REC_SUB_`sub`_RDPTR. -/
  | rdptrWrite (t : Fin 8) (sub : Fin 256) (v : Word)
  /-- R328: tenant `t` writes `v` to REC_CAP_TRIG. -/
  | captureTrigger (t : Fin 8) (v : Word)
  /-- R329 -/
  | capturePart (n : Fin 32)
  /-- R330 -/
  | captureShortEnd (n : Fin 32)
  -- Heartwood (chapter 11)
  /-- R341: tenant `t` writes OP = OPEN to HWD_TXN_CTRL_`u`. -/
  | hwdTxnOpen (t : Fin 8) (u : Fin 8)
  /-- R345: OP = COMMIT. -/
  | hwdTxnCommit (t : Fin 8) (u : Fin 8)
  /-- R346: OP = ABORT. -/
  | hwdTxnAbort (t : Fin 8) (u : Fin 8)
  /-- R342: tenant `t` writes HWD_JE_GO_`u`. -/
  | hwdEntrySubmit (t : Fin 8) (u : Fin 8)
  /-- R344: the oldest queued write of the HWD_CONF port reaches the controller. -/
  | hwdConfPortWrite
  /-- R343: the oldest unstaged entry of tenant `t` is staged; `bad`: its source holds an uncorrectable word. -/
  | hwdEntryStaged (t : Fin 8) (bad : Bool)
  /-- R345 -/
  | hwdCommitRecord
  /-- R345 -/
  | hwdCommitDone
  /-- R358: `bad` numbers the journal entries that hold an uncorrectable word. -/
  | hwdReplayDone (bad : List Nat)
  /-- R336: a row is read; `one` and `two` of its words have 1 and 2 bits corrected, `unc` are uncorrectable. -/
  | hwdScrub (one two unc : Fin 9)
  /-- R353 -/
  | hwdEventCommit
  /-- R355: tenant `t` writes `v` to HWD_KEYS_LOCK_SET. -/
  | keysLockSet (t : Fin 8) (v : Word)
  -- Crew cores (chapter 12)
  /-- R368: tenant `t` writes `v` to CRW_CORE_CTL_`n`. -/
  | coreRelease (t : Fin 8) (n : Fin 4) (v : Word)
  /-- R371 -/
  | wdogExpiry (n : Fin 4)
  /-- R371: tenant `t` writes `v` to CRW_WDOG_KICK_`n`. -/
  | wdogKick (t : Fin 8) (n : Fin 4) (v : Word)
  /-- R371: core `n` writes `v` to mlkwdkick. -/
  | wdogKickCsr (n : Fin 4) (v : Word)
  /-- R372: PLIC source `i` is raised by its unit. -/
  | plicSourceEvent (i : Fin 32)
  /-- R375: MTIME reaches mtimecmp of core `n`. -/
  | mtimerInterrupt (n : Fin 4)
  /-- R381 -/
  | xlkfeEntry (n : Fin 4) (ecc : Fin 3 := 0)
  /-- R383: `ecc`: of the frame words, 0 none is wrong, 1 one is corrected, 2 one is uncorrectable (R366). -/
  | xlkfeMret (n : Fin 4) (ecc : Fin 3)
  /-- R363: a load of 2^`k` bytes, zero-extended where `uns`, by core `n` into x`rd` from x`rs1` + `imm`; `ecc` as
  above; `c` for a 2-byte instruction of the C extension (R360). -/
  | coreLoad (n : Fin 4) (c : Bool) (k : Fin 3) (uns : Bool) (rd rs1 : Fin 32) (imm : BitVec 12) (ecc : Fin 3)
  /-- R391: a store of the low 2^`k` bytes of x`rs2` to x`rs1` + `imm`; `c` as above. -/
  | coreStore (n : Fin 4) (c : Bool) (k : Fin 3) (rs1 rs2 : Fin 32) (imm : BitVec 12)
  /-- R391: FENCE with these sets (bit 3 I, 2 O, 1 R, 0 W), or FENCE.TSO. -/
  | coreFence (n : Fin 4) (tso : Bool) (pred succ : BitVec 4)
  /-- R391 -/
  | coreFenceI (n : Fin 4)
  /-- R393 -/
  | coreLr (n : Fin 4) (rd rs1 : Fin 32) (ecc : Fin 3)
  /-- R393 -/
  | coreSc (n : Fin 4) (rd rs1 rs2 : Fin 32)
  /-- R394: `op` 0 SWAP, 1 ADD, 2 XOR, 3 AND, 4 OR, 5 MIN, 6 MAX, 7 MINU, 8 MAXU. -/
  | coreAmo (n : Fin 4) (op : Fin 9) (rd rs1 rs2 : Fin 32) (ecc : Fin 3)
  /-- R376 -/
  | mlkmtloRead (n : Fin 4) (rd : Fin 32)
  /-- R397 -/
  | debugHaltReq (n : Fin 4)
  /-- R397 -/
  | debugResumeReq (n : Fin 4)
  /-- R396: Access Register command for register number `r` of hart `n`: a write of data0 where `wr`, else a read into
  data0; the program buffer follows where `post`. -/
  | debugAbstractCmd (n : Fin 4) (r : BitVec 16) (wr post : Bool) (ecc : Fin 3 := 0)
  /-- R397: a 32-bit system bus write of `v`, or a read (`none`). -/
  | debugSysbusAccess (a : BitVec 40) (v : Option Word) (ecc : Fin 3)
  /-- R377 -/
  | trapEntry (n : Fin 4)
  /-- R393 -/
  | coreMret (n : Fin 4)
  /-- R371 -/
  | coreWfi (n : Fin 4)
  /-- R388: core `n` writes `v` to CSR `c`. -/
  | customCsrWrite (n : Fin 4) (c : BitVec 12) (v : Word)
  -- Trunk lanes and frames (chapter 13); `x` is the port, 0 A and 1 B, and `l` the lane
  /-- R401: tenant `t` writes `v` to TKx_LANEl_CFG. -/
  | laneCfgWrite (t : Fin 8) (x l : Fin 2) (v : Word)
  /-- R400 -/
  | laneModulePresent (x l : Fin 2)
  /-- R400 -/
  | laneModabsRise (x l : Fin 2)
  /-- R400 -/
  | laneLos (x l : Fin 2)
  /-- R401 -/
  | laneTrainDone (x l : Fin 2)
  /-- R401 -/
  | laneTrainTimeout (x l : Fin 2)
  /-- R401 -/
  | laneBlockLock (x l : Fin 2)
  /-- R401 -/
  | laneFecLock (x l : Fin 2)
  /-- R401 -/
  | laneStateTimeout (x l : Fin 2)
  /-- R401: the FEC block lock is lost where `fec`, else the Clause 49 block lock. -/
  | laneLockLoss (x l : Fin 2) (fec : Bool)
  /-- R402 -/
  | laneHelloTx (x l : Fin 2)
  /-- R425 -/
  | portHelloTx (x : Fin 2)
  /-- R403: a HELLO with payload word `w` arrives, decoded on lane `via`, or from the stream (R716). -/
  | helloRx (x : Fin 2) (via : Option (Fin 2)) (w : BitVec 64)
  /-- R407: a MASK naming these lanes received. -/
  | maskRx (x : Fin 2) (lanes : BitVec 2)
  /-- R404 -/
  | markerInsert (x : Fin 2)
  /-- R405: a marker pair arrives with its stripe mask, the marker count on each lane, and the skew measured, in 100 ps, with
  lane 1 later where `late1`. -/
  | markerRx (x : Fin 2) (mask : BitVec 2) (c0 c1 : BitVec 8) (skew : BitVec 16) (late1 : Bool)
  /-- R417: blocks received on lane `via`, decoded on its own, or from the stream (R716); `fec`: the Clause 74 blocks that ended
  on lanes meanwhile (R399), whose blocks those of `r` are on a lane with FEC. -/
  | frameRx (x : Fin 2) (via : Option (Fin 2)) (fec : List (Fin 2 × BitVec 2112)) (r : RxLine)
  /-- R420 -/
  | resyncRetry (x : Fin 2)
  /-- R420: tenant `t` writes 1 to TKx_CTRL.RETRAIN, EN as it stands. -/
  | portRetrainCmd (t : Fin 8) (x : Fin 2)
  /-- R420 -/
  | portRetrainEnd (x : Fin 2)
  /-- R421 -/
  | resyncReqRx (x : Fin 2) (next rseq : BitVec 16)
  /-- R422 -/
  | resyncAckRx (x : Fin 2) (next rseq lost : BitVec 16)
  /-- R419 -/
  | linkAckRx (x : Fin 2) (ack : BitVec 16)
  /-- R419 -/
  | linkAckTx (x : Fin 2)
  /-- R410 -/
  | trunkWakePattern (x l : Fin 2)
  /-- R407 -/
  | maskMarkerTimeout (x : Fin 2)
  -- Trunk egress (chapter 15)
  /-- R475 -/
  | schedulerSelect (x : Fin 2)
  /-- R481 -/
  | gateCycleStart (x : Fin 2)
  /-- R482 -/
  | gateEntryChange (x : Fin 2)
  -- Trunk transactions and tenants (chapter 14); `f` is the frame as FRAME_RX hands it over
  /-- R435 -/
  | rdReqRx (x : Fin 2) (f : Frame) (ecc : List (Fin 3))
  /-- R435 -/
  | wrPostRx (x : Fin 2) (f : Frame)
  /-- R435 -/
  | wrNpRx (x : Fin 2) (f : Frame)
  /-- R448: the first waiting request of tenant `t`, port `x` and ordering ID `oid` that may run. -/
  | requestPerform (t : Fin 4) (x : Fin 2) (oid : Fin 64) (ecc : List (Fin 3))
  /-- R460 -/
  | unboundRequestRx (x : Fin 2) (f : Frame)
  /-- R446 -/
  | completionRx (x : Fin 2) (f : Frame)
  /-- R446 -/
  | completionTimeout (x : Fin 2) (tag : Fin 1024)
  /-- R443 -/
  | creditRx (x : Fin 2) (f : Frame)
  /-- R442 -/
  | creditTx (t : Fin 4)
  /-- R455 -/
  | bindReqRx (x : Fin 2) (f : Frame)
  /-- R457 -/
  | bindProofRx (x : Fin 2) (f : Frame)
  /-- R457 -/
  | bindProofTimeout (t : Fin 4)
  /-- R457 -/
  | bindLockoutEnd (t : Fin 4)
  /-- R459 -/
  | unbindRx (x : Fin 2) (f : Frame)
  /-- R459 -/
  | tenantIdleTimeout (t : Fin 4)
  /-- R465 -/
  | stopRx (x : Fin 2) (f : Frame)
  /-- R466 -/
  | doorbellRx (x : Fin 2) (f : Frame)
  /-- R466: tenant `t` writes `v` to TEN_MB_m_POP. -/
  | mailboxPop (t : Fin 8) (m : Fin 4) (v : Word)
  /-- R454: tenant `t` writes `v` to SEC_TKEY_DATA. -/
  | tkeyDataWrite (t : Fin 8) (v : Word)
  /-- R454: tenant `t` writes SEC_TKEY_CTRL with GO = 1 and TENANT = `h`. -/
  | tkeyCommit (t : Fin 8) (h : Fin 4)
  /-- R454 -/
  | tkeyCommitDone
  /-- R467: tenant `t` writes TEN_HRQ_q_CTRL with OP = READ, GO = 1 and the other fields as in `v`. -/
  | hrqRead (t : Fin 8) (q : Fin 4) (v : Word)
  /-- R467: the same with OP = WRITE_NP. -/
  | hrqWriteNp (t : Fin 8) (q : Fin 4) (v : Word)
  /-- R467: the same with OP = WRITE_POST. -/
  | hrqWritePost (t : Fin 8) (q : Fin 4) (v : Word)
  /-- R467: the same with OP = MSG. -/
  | hrqMsg (t : Fin 8) (q : Fin 4) (v : Word)
  /-- R468 -/
  | hrqCreditTimeout (q : Fin 4)
  -- Rack bridge (chapter 16); `L` is a rack interrupt level
  /-- R511 -/
  | crbBusRequest
  /-- R511 -/
  | crbGrant
  /-- R513 -/
  | crbArbTimeout
  /-- R514 -/
  | crbGrantLost
  /-- R508 -/
  | crbOutboundCycle
  /-- R508: the card answers the strobe in progress with CRB_RDY_N, CRB_BERR_N or both, driving `d` on CRB_AD. -/
  | crbSlaveAnswer (rdy berr : Bool) (d : BitVec 16)
  /-- R515 -/
  | crbMonTimeout
  /-- R524: the outbound request at place `k` of the queue reaches 19 µs. -/
  | crbStrobeDeadline (k : Fin 32)
  /-- R517: an answer line stays low over 1 µs, or (`low` false) has been released for 1 µs. -/
  | crbHung (low : Bool)
  /-- R526: a rack master's strobe: the address of the address phase, the word's place in the block (0 in a single cycle),
  whether more words follow, write, byte enables, and the data driven. -/
  | crbInboundCycle (a : BitVec 24) (n : Fin 64) (blk wr ub lb : Bool) (d : BitVec 16) (ecc : List (Fin 3))
  /-- R530 -/
  | crbInboundPostedPerform
  /-- R534: the rack interrupt lines that read low. -/
  | crbIrqServe (lines : BitVec 4)
  /-- R534 -/
  | crbIackWindow
  /-- R538 -/
  | crbIrqWake
  /-- R539: tenant `t` writes SET bit `L`. -/
  | crbOutirqSet (t : Fin 8) (L : Fin 4)
  /-- R539: tenant `t` writes CLEAR bit `L`. -/
  | crbOutirqClear (t : Fin 8) (L : Fin 4)
  /-- R540: an IACK cycle for level `L` with CRB_IACKIN_N low. -/
  | crbIackRespond (L : Fin 4)
  /-- R535: tenant `t` writes `v` to CRB_LVEC_POP. -/
  | crbLvecPop (t : Fin 8) (v : Word)
  /-- R541 -/
  | crbBridgeDeactivate
  /-- R536 -/
  | crbIrqLineReleased (L : Fin 4)
  /-- R515 -/
  | crbForeignStrobe
  /-- R543 -/
  | crbAnswerWithoutStrobe
  -- Grove and Saplings (chapter 17); `x` is a port (0 GA, 1 GB), `f` a frame as it arrives, `p` a Sapling by its place in the installation, `q` its port of arrival, `seq` the SEQ the frame folds
  /-- R560: tenant `t` writes OP = ENUM to GRV_x_CMD. -/
  | groveEnum (t : Fin 8) (x : Fin 2)
  /-- R574: tenant `t` writes OP = SLEEP. -/
  | groveSleep (t : Fin 8) (x : Fin 2)
  /-- R579: tenant `t` writes OP = WAKE. -/
  | groveWake (t : Fin 8) (x : Fin 2)
  /-- R570: tenant `t` writes OP = BEACON. -/
  | groveBeacon (t : Fin 8) (x : Fin 2)
  /-- R565 -/
  | groveSessionStart (x : Fin 2)
  /-- R565 -/
  | groveBeaconReturnTimeout (x : Fin 2)
  /-- R567; during the listen of R584, the end of one of its milliseconds. -/
  | groveCheckinWindowEnd (x : Fin 2)
  /-- R584 -/
  | groveDriftListenEnd (x : Fin 2)
  /-- R568 -/
  | groveTxEntry (x : Fin 2)
  /-- R568 -/
  | groveAnswerTimeout (x : Fin 2)
  /-- R552: `bs` are the bytes from TYPE to CRC; `bad` a framing error or an invalid symbol. -/
  | groveFrameRx (x : Fin 2) (bad : Bool) (bs : List Byte)
  /-- R567 -/
  | groveCheckinRx (x : Fin 2) (f : GFrame)
  /-- R560 -/
  | groveIdentRx (x : Fin 2) (f : GFrame)
  /-- R568 -/
  | groveAnswerRx (x : Fin 2) (f : GFrame)
  /-- R569 -/
  | groveBurstDataRx (x : Fin 2) (f : GFrame)
  /-- R569 -/
  | groveBurstGapTimeout (x : Fin 2)
  /-- R582 -/
  | groveWakeReqRx (x : Fin 2) (f : GFrame)
  /-- R574 -/
  | groveSleepOkRx (x : Fin 2) (f : GFrame)
  /-- R574 -/
  | groveSleepPrepTimeout (x : Fin 2)
  /-- R574 -/
  | groveCommitSent (x : Fin 2)
  /-- R579 -/
  | groveWakeToneEnd (x : Fin 2)
  /-- R581 -/
  | groveCarrierWake (x : Fin 2)
  /-- R566 -/
  | saplingBeacon (p : Fin 62) (q : Fin 2) (f : GFrame)
  /-- R555 -/
  | saplingRelay (p : Fin 62) (q : Fin 2) (f : GFrame)
  /-- R557 -/
  | saplingJabber (p : Fin 62) (q : Fin 2)
  /-- R589 -/
  | saplingEnum (p : Fin 62) (q : Fin 2) (f : GFrame)
  /-- R571 -/
  | saplingPoll (p : Fin 62) (q : Fin 2) (f : GFrame) (seq : BitVec 8)
  /-- R572: `data` are the samples the channel gives from the next instant on until the command ends; the burst goes on
  where they are fewer than it asks for. -/
  | saplingBurstReq (p : Fin 62) (q : Fin 2) (f : GFrame) (seq : BitVec 8) (data : List (BitVec 24))
  /-- R572 -/
  | saplingBurstAbort (p : Fin 62) (q : Fin 2) (f : GFrame) (seq : BitVec 8)
  /-- R590 -/
  | saplingRegRd (p : Fin 62) (q : Fin 2) (f : GFrame) (seq : BitVec 8)
  /-- R590 -/
  | saplingRegWr (p : Fin 62) (q : Fin 2) (f : GFrame) (seq : BitVec 8)
  /-- R558 -/
  | saplingPing (p : Fin 62) (q : Fin 2) (f : GFrame) (seq : BitVec 8)
  /-- R587 -/
  | saplingBypass (p : Fin 62) (q : Fin 2) (f : GFrame) (seq : BitVec 8)
  /-- R589 -/
  | saplingReset (p : Fin 62) (q : Fin 2) (f : GFrame) (seq : BitVec 8)
  /-- R566 -/
  | saplingTimeSet (p : Fin 62) (q : Fin 2) (f : GFrame)
  /-- R574 -/
  | saplingSleepPrep (p : Fin 62) (q : Fin 2) (f : GFrame) (seq : BitVec 8)
  /-- R575 -/
  | saplingSleepCommit (p : Fin 62) (q : Fin 2) (f : GFrame) (seq : BitVec 8)
  /-- R575 -/
  | saplingWakeWindow (p : Fin 62)
  /-- R575 -/
  | saplingListenEnd (p : Fin 62)
  /-- R578 -/
  | saplingWakeDetect (p : Fin 62) (q : Fin 2)
  /-- R580: the comparator of channel `ch` crosses at `rms`. -/
  | saplingWakeComparator (p : Fin 62) (ch : Fin 8) (rms : BitVec 16)
  /-- R580 -/
  | saplingWakeReqRepeat (p : Fin 62)
  /-- R580 -/
  | saplingWakeAck (p : Fin 62) (q : Fin 2) (f : GFrame) (seq : BitVec 8)
  /-- R571: `data` are the eight channels over the block, `sflt` those with a sensor fault. -/
  | saplingBlockEnd (p : Fin 62) (data : List SapChan) (sflt : BitVec 8)
  /-- R549 -/
  | saplingLinkDown (p : Fin 62) (q : Fin 2)
  /-- R557 -/
  | saplingJabberEnd (p : Fin 62) (q : Fin 2)
  /-- R578 -/
  | saplingWakeAll (p : Fin 62) (q : Fin 2) (f : GFrame)
  /-- R582 -/
  | saplingSleepAbort (p : Fin 62) (q : Fin 2) (f : GFrame)
  /-- R578 -/
  | saplingWakeWaitEnd (p : Fin 62)
  /-- R576 -/
  | saplingNodeSilence (p : Fin 62)
  /-- R583 -/
  | saplingCommitWakeTimeout (p : Fin 62)
  -- Motion (chapter 18); `n` is an axis
  /-- R598 -/
  | motionTick
  /-- R600: tenant `t` writes OP = STOP to MOT_n_CMD. -/
  | axisStop (t : Fin 8) (n : Fin 4)
  /-- R603: tenant `t` writes OP = RESUME. -/
  | axisResume (t : Fin 8) (n : Fin 4)
  /-- R600: tenant `t` writes OP = HALT. -/
  | axisHalt (t : Fin 8) (n : Fin 4)
  /-- R605: tenant `t` writes OP = HOME. -/
  | axisHome (t : Fin 8) (n : Fin 4)
  /-- R624: tenant `t` writes OP = SETPOS. -/
  | axisSetpos (t : Fin 8) (n : Fin 4)
  /-- R604: tenant `t` writes OP = CLEAR. -/
  | axisClear (t : Fin 8) (n : Fin 4)
  /-- R606: the filtered level of AXn_HOME. -/
  | homeInputEdge (n : Fin 4) (high : Bool)
  /-- R612: a counted edge of the master of axis `n`, `dt` ns after the one before. -/
  | gearMasterEdge (n : Fin 4) (dt : Nat)
  /-- R617: a rising edge of AXn_STEP_IN with the level of AXn_DIR_IN. -/
  | followStepIn (n : Fin 4) (dir : Bool)
  /-- R621 -/
  | encoderDeviationHalt (n : Fin 4)
  /-- R622: the filtered level of AXn_LIMIT. -/
  | limitActive (n : Fin 4) (high : Bool)
  /-- R623 -/
  | positionHistorySample
  -- Drive stage (chapter 19)
  /-- R651 -/
  | tripNLow
  /-- R652: TRIP_N goes high. -/
  | tripRelease
  /-- R631: the currents measured (R632), two coils for each axis in order, in mA. -/
  | chopperPeriod (mA : List Int)
  /-- R648 -/
  | drvOpenDetect (n : Fin 4)
  /-- R641 -/
  | standstillEntry (n : Fin 4)
  /-- R643 -/
  | energiseEnd (n : Fin 4)
  /-- R645: a full step of axis `n`, with the load angle its currents and back-EMF give. -/
  | loadAngleStep (n : Fin 4) (la : BitVec 8)
  /-- R648 -/
  | drvOcp (n : Fin 4)
  /-- R648: the P-die's junction temperature passes a limit, in °C, offset by +50. -/
  | drvOtw (temp : BitVec 8)
  /-- R648: as `drvOtw`, at the limits of OTP. -/
  | drvOtp (temp : BitVec 8)
  /-- R648 -/
  | drvLinkCrc
  /-- R648: the DRIVE clock at the P-die is absent for 1 µs, or runs again. -/
  | drvClockLoss (lost : Bool)
  /-- R650: tenant `t` writes 1 to DRV_TRIP_CLR.STOP. -/
  | stopLatchClear (t : Fin 8)
  -- JTAG port (chapters 12 and 21)
  /-- R684: EXTEST enters the instruction register; `sampled` are the levels captured from the scanned lands, `drive` what
  the scan shifts into the boundary-scan register. -/
  | jtagExtest (sampled drive : List Bool)
  /-- R683: as `jtagExtest`, the lands staying with their units. -/
  | jtagSamplePreload (sampled preload : List Bool)
  /-- R684 -/
  | jtagHighz
  /-- R683: an instruction code that selects the bypass register. -/
  | jtagBypass (code : BitVec 5)
  /-- R396: a scan of DTMCS that shifts in `v`. -/
  | jtagDtmcs (v : Word)
  /-- R396: a scan of DMI: operation (0 none, 1 read, 2 write, 3 reserved), address, data. -/
  | jtagDmi (op : Fin 4) (a : Fin 128) (v : Word) (ecc : Fin 3)
  deriving DecidableEq, Repr

end Sys2Proof
end

