-- ==== Sys2Proof/Decode.lean ====
section
/-! DEFINITION. Commands are no encoded instructions: the opcode table gives no row any bits, and the rules give the
block no command words. -/

namespace Sys2Proof

/-- The command that a word spells by the table's bits: no row has bits, so none. -/
def decodeTableWord (_nbits _w : Nat) : Option Instr := none

end Sys2Proof
end

