-- ==== Sys2Proof/Machine/Bits.lean ====
section
/-! DEFINITION. Bit-field, byte-order and integer helpers, and the sparse map in which the model holds registers and
memory: a list of (key, value) pairs, keys strictly rising, no entry equal to what an unlisted key reads as. -/

namespace Sys2Proof.Machine

/-! ### Sparse maps -/

/-- Pairs of a key and a value, in the canonical form `SMap.wf`. -/
abbrev SMap (α : Type) := List (Nat × α)

/-- What key `a` reads as; an unlisted key reads as `d a`. -/
def SMap.get (d : Nat → α) : SMap α → Nat → α
  | [], a => d a
  | (k, v) :: m, a => if k = a then v else SMap.get d m a

/-- The map without key `a`. -/
def SMap.erase (m : SMap α) (a : Nat) : SMap α := m.filter (fun p => p.1 != a)

/-- `a` with value `v` put in key order. -/
def SMap.ins (a : Nat) (v : α) : SMap α → SMap α
  | [] => [(a, v)]
  | (k, w) :: m => if a < k then (a, v) :: (k, w) :: m else (k, w) :: SMap.ins a v m

/-- Write `v` at `a`: the entry goes where the value is what an unlisted key reads as. -/
def SMap.set [DecidableEq α] (d : Nat → α) (m : SMap α) (a : Nat) (v : α) : SMap α :=
  if v = d a then SMap.erase m a else SMap.ins a v (SMap.erase m a)

/-- Keys strictly rising from `lo` on. -/
def SMap.rising : Nat → SMap α → Bool
  | _, [] => true
  | lo, (k, _) :: m => lo ≤ k && SMap.rising (k + 1) m

/-- The canonical form: keys strictly rising, no entry equal to what an unlisted key reads as. -/
def SMap.wf [DecidableEq α] (d : Nat → α) (m : SMap α) : Bool :=
  SMap.rising 0 m && m.all (fun p => p.2 ≠ d p.1)

/-- Key `a` is listed. -/
def SMap.has (m : SMap α) (a : Nat) : Bool := m.any (fun p => p.1 == a)

/-! ### Words and fields -/

/-- The field of `wid` bits from bit `lo` of a word. -/
def wordField (v : Word) (lo wid : Nat) : Nat := v.toNat / 2 ^ lo % 2 ^ wid

/-- A word with the `wid` bits from bit `lo` on set, the rest clear. -/
def fieldMask (lo wid : Nat) : Word := BitVec.ofNat 32 ((2 ^ wid - 1) * 2 ^ lo)

/-- The word with the field of `wid` bits from bit `lo` replaced by `n`, taken modulo 2^wid. -/
def wordSet (v : Word) (lo wid n : Nat) : Word :=
  (v &&& ~~~ fieldMask lo wid) ||| BitVec.ofNat 32 (n % 2 ^ wid * 2 ^ lo)

/-- Bit `k` of a number. -/
def nbit (n k : Nat) : Bool := n / 2 ^ k % 2 == 1

/-- `n` with bit `k` set. -/
def setBit (n k : Nat) : Nat := if nbit n k then n else n + 2 ^ k

/-- `n` with bit `k` cleared. -/
def clrBit (n k : Nat) : Nat := if nbit n k then n - 2 ^ k else n

/-- A Bool as a bit. -/
def b2n (b : Bool) : Nat := if b then 1 else 0

/-- The number whose low `w` bits read as two's complement. -/
def toSigned (w n : Nat) : Int :=
  let m := n % 2 ^ w
  if m < 2 ^ (w - 1) then (m : Int) else (m : Int) - (2 ^ w : Nat)

/-- Two's complement of an integer in `w` bits. -/
def ofSigned (w : Nat) (i : Int) : Nat := (i % (2 ^ w : Nat)).toNat

/-- `i` held within `lo` and `hi`. -/
def clampI (lo hi i : Int) : Int := if i < lo then lo else if hi < i then hi else i

/-- `n` held within `lo` and `hi`. -/
def clampN (lo hi n : Nat) : Nat := if n < lo then lo else if hi < n then hi else n

/-- Round `n / d` to the nearest integer, halves away from zero. -/
def roundDivI (n d : Int) : Int :=
  if n < 0 then -((-n * 2 + d) / (2 * d)) else (n * 2 + d) / (2 * d)

/-! ### Bytes -/

/-- The little-endian number of a list of bytes (R4). -/
def leNat : List Byte → Nat
  | [] => 0
  | b :: bs => b.toNat + 256 * leNat bs

/-- The big-endian number of a list of bytes. -/
def beNat (bs : List Byte) : Nat := leNat bs.reverse

/-- The `k` little-endian bytes of a number. -/
def toLE : Nat → Nat → List Byte
  | 0, _ => []
  | k + 1, n => BitVec.ofNat 8 n :: toLE k (n / 256)

/-- The `k` big-endian bytes of a number. -/
def toBE (k n : Nat) : List Byte := (toLE k n).reverse

/-- `n` bytes from offset `o` of a list, short where the list ends. -/
def slice (bs : List α) (o n : Nat) : List α := (bs.drop o).take n

/-- The little-endian number of `n` bytes from offset `o`. -/
def leAt (bs : List Byte) (o n : Nat) : Nat := leNat (slice bs o n)

/-- Reverse the low `w` bits of a number. -/
def reflect : Nat → Nat → Nat
  | 0, _ => 0
  | w + 1, n => n % 2 * 2 ^ w + reflect w (n / 2)

/-- Replace element `i` by its image, unchanged where there is none. -/
def modAt (l : List α) (i : Nat) (f : α → α) : List α :=
  match l, i with
  | [], _ => []
  | x :: xs, 0 => f x :: xs
  | x :: xs, i + 1 => x :: modAt xs i f

/-- A counter of `w` bits that does not wrap (R152). -/
def satAdd (w c k : Nat) : Nat := if c + k < 2 ^ w then c + k else 2 ^ w - 1

end Sys2Proof.Machine
end

