-- ==== Sys2Proof/Machine/Crypto.lean ====
section
/-! DEFINITION. The check-value and signature functions of the standards of Table 00-6: CRC-32C (RFC 3720), CRC-16,
SHA-256 (FIPS 180-4), HMAC with SHA-256 (FIPS 198-1) and ECDSA verification over P-256 (FIPS 186-5). -/

namespace Sys2Proof.Machine

/-! ### Check values -/

/-- Feed one bit-stream byte, most significant bit first, into a CRC register of `w` bits with polynomial `poly`. -/
def crcByteMsb (w poly : Nat) (v : Nat) (b : Nat) : Nat :=
  (List.range 8).foldl (fun v i =>
    let top := v / 2 ^ (w - 1) % 2
    let inb := b / 2 ^ (7 - i) % 2
    let v := v * 2 % 2 ^ w
    if top != inb then v ^^^ (poly % 2 ^ w) else v) v

/-- Feed one byte, least significant bit first, into a reflected CRC register. -/
def crcByteLsb (w poly : Nat) (v : Nat) (b : Nat) : Nat :=
  let rp := reflect w (poly % 2 ^ w)
  (List.range 8).foldl (fun v i =>
    let inb := b / 2 ^ i % 2
    let low := v % 2
    let v := v / 2
    if low != inb then v ^^^ rp else v) v

/-- CRC-32C of a list of bytes: initial value and final XOR 0xFFFF_FFFF, reflected. -/
def crc32c (bs : List Byte) : Nat :=
  bs.foldl (fun v b => crcByteLsb 32 0x1EDC6F41 v b.toNat) 0xFFFFFFFF ^^^ 0xFFFFFFFF

/-- CRC-16 with polynomial 0x1021 and initial value 0xFFFF. -/
def crc16 (bs : List Byte) : Nat := bs.foldl (fun v b => crcByteMsb 16 0x1021 v b.toNat) 0xFFFF

/-! ### SHA-256 -/

def rotr32 (n x : Nat) : Nat := (x / 2 ^ n) ||| (x * 2 ^ (32 - n) % 2 ^ 32)

def shaK : List Nat :=
  [0x428a2f98, 0x71374491, 0xb5c0fbcf, 0xe9b5dba5, 0x3956c25b, 0x59f111f1, 0x923f82a4, 0xab1c5ed5] ++
  [0xd807aa98, 0x12835b01, 0x243185be, 0x550c7dc3, 0x72be5d74, 0x80deb1fe, 0x9bdc06a7, 0xc19bf174] ++
  [0xe49b69c1, 0xefbe4786, 0x0fc19dc6, 0x240ca1cc, 0x2de92c6f, 0x4a7484aa, 0x5cb0a9dc, 0x76f988da] ++
  [0x983e5152, 0xa831c66d, 0xb00327c8, 0xbf597fc7, 0xc6e00bf3, 0xd5a79147, 0x06ca6351, 0x14292967] ++
  [0x27b70a85, 0x2e1b2138, 0x4d2c6dfc, 0x53380d13, 0x650a7354, 0x766a0abb, 0x81c2c92e, 0x92722c85] ++
  [0xa2bfe8a1, 0xa81a664b, 0xc24b8b70, 0xc76c51a3, 0xd192e819, 0xd6990624, 0xf40e3585, 0x106aa070] ++
  [0x19a4c116, 0x1e376c08, 0x2748774c, 0x34b0bcb5, 0x391c0cb3, 0x4ed8aa4a, 0x5b9cca4f, 0x682e6ff3] ++
  [0x748f82ee, 0x78a5636f, 0x84c87814, 0x8cc70208, 0x90befffa, 0xa4506ceb, 0xbef9a3f7, 0xc67178f2]

def shaH0 : List Nat :=
  [0x6a09e667, 0xbb67ae85, 0x3c6ef372, 0xa54ff53a, 0x510e527f, 0x9b05688c, 0x1f83d9ab, 0x5be0cd19]

/-- The padded message (FIPS 180-4, 5.1.1). -/
def shaPad (bs : List Byte) : List Byte :=
  let n := bs.length
  bs ++ [0x80] ++ List.replicate ((119 - n % 64) % 64) 0 ++ toBE 8 (8 * n)

/-- Extend a block's sixteen words, held newest first, to sixty-four. -/
def shaExtend : Nat → List Nat → List Nat
  | 0, w => w
  | k + 1, w =>
    let g := fun i => w.getD i 0
    let x2 := g 1
    let x15 := g 14
    let s1 := rotr32 17 x2 ^^^ rotr32 19 x2 ^^^ (x2 / 2 ^ 10)
    let s0 := rotr32 7 x15 ^^^ rotr32 18 x15 ^^^ (x15 / 2 ^ 3)
    shaExtend k ((s1 + g 6 + s0 + g 15) % 2 ^ 32 :: w)

structure ShaSt where
  a : Nat
  b : Nat
  c : Nat
  d : Nat
  e : Nat
  f : Nat
  g : Nat
  h : Nat
  deriving DecidableEq, Repr

/-- One round (FIPS 180-4, 6.2.2 step 3). -/
def shaRound (t : ShaSt) (kw : Nat × Nat) : ShaSt :=
  let s1 := rotr32 6 t.e ^^^ rotr32 11 t.e ^^^ rotr32 25 t.e
  let ch := (t.e &&& t.f) ^^^ ((0xFFFFFFFF ^^^ t.e) &&& t.g)
  let t1 := t.h + s1 + ch + kw.1 + kw.2
  let s0 := rotr32 2 t.a ^^^ rotr32 13 t.a ^^^ rotr32 22 t.a
  let maj := (t.a &&& t.b) ^^^ (t.a &&& t.c) ^^^ (t.b &&& t.c)
  ⟨(t1 + s0 + maj) % 2 ^ 32, t.a, t.b, t.c, (t.d + t1) % 2 ^ 32, t.e, t.f, t.g⟩

/-- Take one 64-byte block into the hash value. -/
def shaBlock (h : ShaSt) (blk : List Byte) : ShaSt :=
  let w0 := (List.range 16).foldl (fun w i => beNat (slice blk (4 * i) 4) :: w) []
  let r := (shaK.zip (shaExtend 48 w0).reverse).foldl shaRound h
  let add := fun x y => (x + y) % 2 ^ 32
  ⟨add h.a r.a, add h.b r.b, add h.c r.c, add h.d r.d, add h.e r.e, add h.f r.f, add h.g r.g, add h.h r.h⟩

def shaBlocks : Nat → ShaSt → List Byte → ShaSt
  | 0, h, _ => h
  | k + 1, h, bs => shaBlocks k (shaBlock h (bs.take 64)) (bs.drop 64)

/-- SHA-256 of a list of bytes. -/
def sha256 (bs : List Byte) : List Byte :=
  let p := shaPad bs
  let i := fun j => shaH0.getD j 0
  let r := shaBlocks (p.length / 64) ⟨i 0, i 1, i 2, i 3, i 4, i 5, i 6, i 7⟩ p
  [r.a, r.b, r.c, r.d, r.e, r.f, r.g, r.h].flatMap (toBE 4)

/-- HMAC-SHA-256 with a 32-byte key (FIPS 198-1). -/
def hmac256 (key msg : List Byte) : List Byte :=
  let k := key ++ List.replicate (64 - key.length) 0
  sha256 (k.map (· ^^^ 0x5C) ++ sha256 (k.map (· ^^^ 0x36) ++ msg))

/-! ### ECDSA over P-256 -/

def p256p : Nat := 0xffffffff00000001000000000000000000000000ffffffffffffffffffffffff
def p256n : Nat := 0xffffffff00000000ffffffffffffffffbce6faada7179e84f3b9cac2fc632551
def p256b : Nat := 0x5ac635d8aa3a93e7b3ebbd55769886bc651d06b0cc53b0f63bce3c3e27d2604b
def p256gx : Nat := 0x6b17d1f2e12c4247f8bce6e563a440f277037d812deb33a0f4a13945d898c296
def p256gy : Nat := 0x4fe342e2fe1a7f9b8ee7eb4a7c0f9e162bce33576b315ececbb6406837bf51f5

/-- `b ^ e` modulo `m`, over the `k` low bits of `e`. -/
def powMod (m : Nat) : Nat → Nat → Nat → Nat
  | 0, _, _ => 1 % m
  | k + 1, b, e =>
    let r := powMod m k (b * b % m) (e / 2)
    if e % 2 = 1 then b * r % m else r

/-- The inverse modulo a prime of 256 bits. -/
def invMod (m x : Nat) : Nat := powMod m 256 (x % m) (m - 2)

/-- Addition on the curve; `none` is the point at infinity. -/
def ecAdd (p q : Option (Nat × Nat)) : Option (Nat × Nat) :=
  match p, q with
  | none, q => q
  | p, none => p
  | some (x1, y1), some (x2, y2) =>
    if x1 = x2 ∧ (y1 + y2) % p256p = 0 then none
    else
      let l := if x1 = x2 then (3 * x1 * x1 + (p256p - 3)) * invMod p256p (2 * y1) % p256p
        else (y2 + p256p - y1) * invMod p256p (x2 + p256p - x1) % p256p
      let x3 := (l * l + 2 * p256p - x1 - x2) % p256p
      some (x3, (l * (x1 + p256p - x3) + p256p - y1) % p256p)

/-- `k` times a point, over the `n` low bits of `k`. -/
def ecMul : Nat → Nat → Option (Nat × Nat) → Option (Nat × Nat)
  | 0, _, _ => none
  | n + 1, k, p =>
    let r := ecMul n (k / 2) (ecAdd p p)
    if k % 2 = 1 then ecAdd p r else r

/-- ECDSA verification of signature (r, s) by key (qx, qy) over a message with SHA-256 (FIPS 186-5). -/
def ecdsaVerify (qx qy r s : Nat) (msg : List Byte) : Bool :=
  let onCurve := qx < p256p && qy < p256p &&
    (qy * qy) % p256p == (qx * qx * qx + (p256p - 3) * qx + p256b) % p256p
  if onCurve && 0 < r && r < p256n && 0 < s && s < p256n then
    let e := beNat (sha256 msg)
    let w := invMod p256n s
    match ecAdd (ecMul 256 (e * w % p256n) (some (p256gx, p256gy))) (ecMul 256 (r * w % p256n) (some (qx, qy))) with
    | some (x, _) => x % p256n == r
    | none => false
  else false

end Sys2Proof.Machine
end

