-- ==== Sys2Proof/Config.lean ====
section
/-! DEFINITION. What an implementation fixes and the spec leaves open: free values, constants without a body, so that no
proof can see what they are. A statement is true whatever they are. -/

namespace Sys2Proof.Config

/-- The free values that instructions take where the spec states no value, in the order they are taken. -/
opaque freeValue : Nat → Nat

/-- IDENT byte `i` of the satellite at place `p` (Table 17-3): vendor, revision, serial number, capabilities. -/
opaque saplingIdent : Nat → Nat → Nat

/-- The satellite at place `p` is of the eight-channel build. -/
opaque saplingWide : Nat → Bool

/-- The coefficient, signed 2.30, that the order resampler's interpolator gives tap `j` at sub-phase `i` (R250). -/
opaque sincTap : Nat → Nat → Int

/-- DTMCS.idle and the hartinfo word of the debug module. -/
opaque dtmIdle : Nat

opaque hartInfo : Nat

end Sys2Proof.Config
end

