-- ==== Sys2Proof/Machine/Pcs.lean ====
section
/-! DEFINITION. The physical coding of a trunk lane: 64b/66b blocks, the scrambler, Clause 74 FEC, frames as blocks, markers
and striping (R398, R399, R404, R411, R412). The details of Clauses 49 and 74 are the standards' (log entry 48, PRESUMED). -/

namespace Sys2Proof.Machine

/-! ### Blocks -/

/-- A 64b/66b block before scrambling: the sync header, first bit sent in bit 0, and the 64 payload bits, first bit sent in
bit 0 (R411). -/
structure PcsBlk where
  hdr : BitVec 2
  bits : BitVec 64
  deriving DecidableEq, Repr

/-- Data blocks have the header 01, control blocks 10, in the order sent; 00 and 11 are invalid. -/
def PcsBlk.isData (b : PcsBlk) : Bool := b.hdr == 2
def PcsBlk.isControl (b : PcsBlk) : Bool := b.hdr == 1

/-- A header of two equal bits. -/
def hdrBad (h : BitVec 2) : Bool := h == 0 || h == 3

/-- The type of a control block, its first octet. -/
def PcsBlk.type (b : PcsBlk) : Nat := b.bits.toNat % 256

/-- A Clause 49 start block (R412). -/
def PcsBlk.isStart (b : PcsBlk) : Bool := b.isControl && b.type == 0x78

def dataBlk (bs : List Byte) : PcsBlk := ⟨2, BitVec.ofNat 64 (leNat bs)⟩

/-- A start block carries header bytes 1 to 7 (R412). -/
def startBlk (bs : List Byte) : PcsBlk := ⟨1, BitVec.ofNat 64 (0x78 + 256 * leNat bs)⟩

/-- An idle block of type 0x1E, eight idle codes of 0 (R412). -/
def idleBlk : PcsBlk := ⟨1, 0x1E⟩

/-- The alignment marker of lane `l`: type 0x4B, O code 0xA, D1 lane and stripe mask, D2 marker count, D3 0 (R404). -/
def markerBlk (l mask count : Nat) : PcsBlk :=
  ⟨1, BitVec.ofNat 64 (0x4B + 256 * (l + 2 * mask) + 2 ^ 16 * (count % 256) + 2 ^ 32 * 0xA)⟩

/-- `n` data blocks of 8 bytes each. -/
def dataBlks : Nat → List Byte → List PcsBlk
  | 0, _ => []
  | n + 1, bs => dataBlk (bs.take 8) :: dataBlks n (bs.drop 8)

/-- The blocks of a frame of F bytes: a start block without START, then data blocks, F ÷ 8 in all (R412). -/
def frameBlks (bs : List Byte) : List PcsBlk := startBlk (slice bs 1 7) :: dataBlks (bs.length / 8 - 1) (bs.drop 8)

/-- The bytes of a frame from its blocks, START inserted (R412). -/
def blksFrame : List PcsBlk → List Byte
  | [] => []
  | b :: bs => 0x5C :: toLE 7 (b.bits.toNat / 256) ++ bs.flatMap fun d => toLE 8 d.bits.toNat

/-- LEN, as a start block carries it (Table 13-2). -/
def startLen (b : PcsBlk) : Nat := b.bits.toNat / 2 ^ 16 % 64

/-! ### The scrambler x^58 + x^39 + 1 (R398) -/

/-- `k` line bits for `k` payload bits, `k` at most 39, after the 58 line bits of `st`, the oldest in bit 0. -/
def scrPart (k st d : Nat) : Nat := Nat.xor (Nat.xor d (st / 2 ^ 19)) st % 2 ^ k

/-- The 58 line bits after `k` more. -/
def scrNext (k st y : Nat) : Nat := (st + 2 ^ 58 * y) / 2 ^ k

/-- 64 payload bits scrambled, and the state after them. -/
def scramble (st : BitVec 58) (d : BitVec 64) : BitVec 64 × BitVec 58 :=
  let a := scrPart 39 st.toNat (d.toNat % 2 ^ 39)
  let st1 := scrNext 39 st.toNat a
  let b := scrPart 25 st1 (d.toNat / 2 ^ 39)
  (BitVec.ofNat 64 (a + 2 ^ 39 * b), BitVec.ofNat 58 (scrNext 25 st1 b))

/-- 64 line bits descrambled, and the state after them. -/
def descramble (st : BitVec 58) (y : BitVec 64) : BitVec 64 × BitVec 58 :=
  let h := st.toNat + 2 ^ 58 * y.toNat
  (BitVec.ofNat 64 (Nat.xor (Nat.xor y.toNat (h / 2 ^ 19)) h), BitVec.ofNat 58 (h / 2 ^ 64))

/-- A block as the 66 line bits, first bit sent in bit 0: the sync header is not scrambled. -/
def lineWord (h : BitVec 2) (y : BitVec 64) : BitVec 66 := y ++ h

/-! ### Striping (R404) -/

/-- The lane of the next block of a stream on stripe set `mask`: the lanes in turn in TWO, else the lane in service. -/
def laneFor (mask next : Nat) : Nat := if mask = 3 then next % 2 else if mask = 2 then 1 else 0

/-- One value for each lane of a port. -/
def perLane (l : Nat) (a b : α) : α := if l = 0 then a else b

/-- The blocks of a stream on the lanes of `mask`, from lane `next` in TWO, each lane scrambled on its own. -/
def stripe (mask : Nat) : Nat → BitVec 58 → BitVec 58 → List PcsBlk → List (Nat × BitVec 66)
  | _, _, _, [] => []
  | next, s0, s1, b :: bs =>
    let l := laneFor mask next
    let y := scramble (perLane l s0 s1) b.bits
    (l, lineWord b.hdr y.1) ::
      stripe mask (1 - next % 2) (perLane l y.2 s0) (perLane l s1 y.2) bs

/-- The blocks a receiver takes from the lanes of `mask`, from lane `next` in TWO, the last 58 line bits before on each lane
given; `inv` complements the bits of a lane (RXINV). -/
def destripe (mask : Nat) (inv : Nat → Bool) : Nat → BitVec 58 → BitVec 58 → List (BitVec 66) → List PcsBlk
  | _, _, _, [] => []
  | next, s0, s1, w :: ws =>
    let l := laneFor mask next
    let v := if inv l then ~~~w else w
    let d := descramble (perLane l s0 s1) (v.extractLsb' 2 64)
    ⟨v.extractLsb' 0 2, d.1⟩ ::
      destripe mask inv (1 - next % 2) (perLane l d.2 s0) (perLane l s1 d.2) ws

/-! ### Clause 74 (R399): the (2112, 2080) code -/

/-- x^32 + x^23 + x^21 + x^11 + x^2 + 1. -/
def fecPoly : Nat := 2 ^ 32 + 2 ^ 23 + 2 ^ 21 + 2 ^ 11 + 2 ^ 2 + 1

/-- One step of the division: `r` times x, plus a bit, modulo `fecPoly`. -/
def fecStep (r b : Nat) : Nat :=
  let t := 2 * r + b
  if 2 ^ 32 ≤ t then Nat.xor t fecPoly else t

/-- The remainder of the `n` low bits of `v`, the highest first. -/
def fecRem (v : Nat) : Nat → Nat → Nat
  | 0, r => r
  | n + 1, r => fecRem v n (fecStep r (v / 2 ^ n % 2))

/-- `n` bits of the sequence that scrambles a block, from 58 bits of alternate ones and zeros. -/
def fecPn : Nat → Nat → Nat
  | 0, _ => 0
  | n + 1, st =>
    let b := Nat.xor (st / 2 ^ 57) (st / 2 ^ 38) % 2
    b * 2 ^ n + fecPn n (2 * st % 2 ^ 58 + b)

def pn2112 : Nat := fecPn 2112 0x2AAAAAAAAAAAAAA

/-- 65 bits for a block of 66: the transcode bit is the second bit of the header and the ninth of the payload, exclusive
or. -/
def fecShort (w : BitVec 66) : Nat :=
  Nat.xor (w.toNat / 2 % 2) (w.toNat / 2 ^ 10 % 2) + 2 * (w.toNat / 4)

def fecLong (n : Nat) : BitVec 66 :=
  let t := Nat.xor (n % 2) (n / 2 ^ 9 % 2)
  BitVec.ofNat 66 ((1 - t) + 2 * t + 4 * (n / 2 % 2 ^ 64))

/-- The FEC block of 32 blocks of a lane: their 65 bits each and 32 parity bits, scrambled. -/
def fecEncode (ws : List (BitVec 66)) : BitVec 2112 :=
  let d := (ws.take 32).foldl (fun n w => n * 2 ^ 65 + fecShort w) 0
  BitVec.ofNat 2112 (Nat.xor (d * 2 ^ 32 + fecRem (d * 2 ^ 32) 2112 0) pn2112)

/-- A burst of at most 11 bits at place `i` or later with syndrome `t` at place `i`. -/
def fecBurst : Nat → Nat → Nat → Option Nat
  | 0, _, _ => none
  | n + 1, i, t =>
    if t < 2 ^ 11 then some (t * 2 ^ i)
    else fecBurst n (i + 1) (if t % 2 = 1 then Nat.xor t fecPoly / 2 else t / 2)

/-- An FEC block received: its 32 blocks, and whether a burst of at most 11 bits was corrected; none where it is
uncorrectable. -/
def fecDecode (v : BitVec 2112) : Option (List (BitVec 66) × Bool) :=
  let c := Nat.xor v.toNat pn2112
  let words := fun n => (List.range 32).map fun k => fecLong (n / 2 ^ (32 + 65 * (31 - k)) % 2 ^ 65)
  let t := fecRem c 2112 0
  if t = 0 then some (words c, false)
  else match fecBurst 2112 0 t with
    | some e => if e < 2 ^ 2112 then some (words (Nat.xor c e), true) else none
    | none => none

end Sys2Proof.Machine
end

