-- ==== Sys2Proof/Machine/RegTable.lean ====
section
/-! DEFINITION. The register table: one row for each register (or array of registers) of the spec's register tables
(chapters 03 to 19, with R7 and Table 00-4, Table 00-5 for the access codes and reset entries).
A row says where the register lies, which of its bits each access code governs, its update group and its reset word. -/

namespace Sys2Proof.Machine

/-- Defaults of BRK_SRC_CFG_s: BASE, SEVERE, N, WCODE and FIXED of Table 06-1, source 0 first. -/
def brkSrcDefaults : List Nat :=
  [0x4001f, 0x4001f, 0x4001f, 0x14109, 0x14404, 0x14404, 0x4001f, 0x4001f, 0x15, 0x15, 0x1f, 0x15] ++
  [0x15, 0x1f, 0x4001f, 0x4001f, 0x1a, 0x1a, 0x10, 0x2e044, 0x10, 0x4001f, 0x20084, 0x15] ++
  [0x20104, 0x1a, 0x20104, 0x20104, 0x1a, 0x1a, 0x14109, 0x14109, 0x14049, 0x1a, 0x10, 0x15] ++
  [0x1a, 0x1a, 0x1a, 0x1a, 0x1a, 0x20ff4, 0x20ff4, 0x20ff4, 0x20ff4, 0x14049, 0x14049, 0x14049] ++
  [0x14049, 0x1a, 0x1a, 0x1a, 0x1a, 0x20109, 0x20109, 0x1a, 0x28089, 0x10, 0x1a, 0x28ff4] ++
  [0x15, 0x14109, 0x1a, 0x1a, 0x20049, 0x20039, 0x20084, 0x20084, 0x14ff4, 0x14ff4, 0x1a, 0x1a] ++
  [0x1a, 0x14104, 0x10, 0x14404, 0x20044, 0x14104, 0x14104, 0x15, 0x1a, 0x20404, 0x15, 0x15] ++
  [0x10, 0x15, 0x15, 0x1a, 0x1a, 0x15, 0x1a, 0x1a, 0x15, 0x15, 0x15, 0x14049]

/-- How the reset word of a row is found: one word for all, or by the index within the row where Table 06-1, 08-1,
10-17, 14-8 or 15-3 gives the registers of one array different words. -/
inductive RstKind where
  | word (w : Word)
  | brkSrc
  | tileInfo
  | bufQuota
  | tenPerm
  | tenWinLim
  | tksGate
  deriving DecidableEq, Repr

/-- One row of the register table. `rw` holds RW and RT bits, `rws` staged bits, `w1c` bits a 1 clears, `rc` bits a read
clears, `rwl` bits governed by the lock bit `lock` (register address, bit number), `ret` the bits that node reset and the
loss of the main rails keep (Table 05-6). A staged register's update group is `grp` plus the distance in units of `gstr`. -/
structure RegRow where
  base : Nat
  dims : List (Nat × Nat)
  rw : Word := 0
  rws : Word := 0
  w1c : Word := 0
  rc : Word := 0
  rwl : Word := 0
  lock : Nat × Nat := (0, 0)
  grp : Nat := 0
  gstr : Nat := 0
  ret : Word := 0
  rst : RstKind := .word 0
  deriving DecidableEq, Repr

/-- `d` is a distance that the index ranges `dims` (count, stride), outermost first, reach. -/
def inDims : List (Nat × Nat) → Nat → Bool
  | [], d => d == 0
  | (n, st) :: rest, d => d / st < n && inDims rest (d % st)

def RegRow.has (r : RegRow) (a : Nat) : Bool := r.base ≤ a && inDims r.dims (a - r.base)

/-- Tile types by tile number (Table 08-1), the fixed TYPE field of Tt_INFO. -/
def tileTypeOf (t : Nat) : Nat := if t < 6 then 0 else if t < 8 then 1 else if t < 10 then 2 else if t = 10 then 3 else if t < 14 then 4 else if t = 14 then 5 else 6

/-- The reset word at distance `d` into a row. -/
def RstKind.at : RstKind → Nat → Word
  | .word w, _ => w
  | .brkSrc, d => BitVec.ofNat 32 (brkSrcDefaults.getD (d / 4) 0)
  | .tileInfo, d => BitVec.ofNat 32 (tileTypeOf (d % 0x10000 / 0x400))
  | .bufQuota, d => if d / 4 < 4 then 2048 else if d / 4 = 6 then 1024 else if d / 4 = 7 then 4096 else 0
  | .tenPerm, d => if d / 0x40 < 6 then 0 else 0xFFFFFFFF
  | .tenWinLim, d => if 6 ≤ d / 0x40 && d % 0x40 == 0 then 0x870100FF else 0
  | .tksGate, d => if d % 0x1000 = 0 then 0x1F01E848 else 0

/-- Rows of block 0x00: SYS_MODE, SYS_MODE_REQ, SYS_BOOT_STAT, SYS_BOOT_TIME, SYS_PARTID, SYS_REV, SYS_UID_LO, SYS_UID_HI, SYS_STRAP, SYS_UPD_APPLY, SYS_UPD_PEND, SYS_UPD_AT_LO, SYS_UPD_AT_HI, SYS_UPD_AT_MASK, SYS_UPD_STAT, SYS_URST, SYS_NODE_RST, SYS_URST_STAT, SYS_SVC_IRQ, SYS_SVC_CNT. -/
def rowsBlk00 : List RegRow :=
  [
    { base := 0x40000100, dims := [], rw := 0xffffc800, ret := 0x3000, rst := .word 0x22 },
    { base := 0x40000104, dims := [], rw := 0xfff08cff },
    { base := 0x40000108, dims := [], rw := 0xfc00, ret := 0xffff0000 },
    { base := 0x4000010c, dims := [], rw := 0xfff00000 },
    { base := 0x40000000, dims := [], rst := .word 0x4c4e0064 },
    { base := 0x40000004, dims := [], rw := 0xc0000000, ret := 0x3fffffff, rst := .word 0x42091 },
    { base := 0x40000008, dims := [], ret := 0xffffffff },
    { base := 0x4000000c, dims := [], ret := 0xffffffff },
    { base := 0x40000010, dims := [], rw := 0xfffff800, ret := 0x7ff },
    { base := 0x40000020, dims := [], rw := 0xffff0000 },
    { base := 0x40000024, dims := [], rw := 0xffff0000 },
    { base := 0x40000028, dims := [], rw := 0xffffffff },
    { base := 0x4000002c, dims := [], rw := 0xffffffff },
    { base := 0x40000030, dims := [], rw := 0xffffffff },
    { base := 0x40000034, dims := [], rw := 0xfff80000, w1c := 0x6ffff, ret := 0x20000 },
    { base := 0x40000040, dims := [], rw := 0xff800000 },
    { base := 0x40000044, dims := [] },
    { base := 0x40000048, dims := [], rw := 0xff800000 },
    { base := 0x40000050, dims := [], rw := 0xfffffff8, w1c := 0x7 },
    { base := 0x40000054, dims := [], rc := 0xffffffff }
  ]

/-- Rows of block 0x01: PWR_STATUS, PWR_WAKE_EN, PWR_WAKE_CAUSE, PWR_WAKE_TGT, PWR_START_MODE, PWR_WTIMER, PWR_WATCH_PERIOD, PWR_WATCH_SNAP, PWR_WATCH_SKIP, PWR_HOLD_CFG, PWR_HOLD_STAT, PWR_HOLD_ABORTED, PWR_VIN_FAILS, PWR_VMON0, PWR_VMON1, PWR_RMEM_ADDR, PWR_RMEM_DATA. -/
def rowsBlk01 : List RegRow :=
  [
    { base := 0x40010000, dims := [], rw := 0xfffffe00 },
    { base := 0x40010004, dims := [], rw := 0xffffffff, ret := 0x1fffff },
    { base := 0x40010008, dims := [], rw := 0xf0c00000, w1c := 0xf3fffff, ret := 0xf3fffff, rst := .word 0x4000000 },
    { base := 0x4001000c, dims := [], rw := 0xffffffff, ret := 0xfffff, rst := .word 0x55555 },
    { base := 0x40010010, dims := [], rw := 0xffffffff, ret := 0xf, rst := .word 0x5 },
    { base := 0x40010014, dims := [(2, 0x4)], rw := 0xffffffff, ret := 0xffffffff },
    { base := 0x4001001c, dims := [], rw := 0xffffffff, ret := 0x1ffff, rst := .word 0xe10 },
    { base := 0x40010020, dims := [], rw := 0xffffffff, ret := 0xffff, rst := .word 0x3e8 },
    { base := 0x40010024, dims := [], rw := 0xffff0000, rc := 0xffff, ret := 0xffff },
    { base := 0x40010028, dims := [], rw := 0xffffffff, ret := 0x1ff, rst := .word 0x1f8 },
    { base := 0x4001002c, dims := [], rw := 0xf000, ret := 0xffff0fff },
    { base := 0x40010030, dims := [], rw := 0xffff0000, ret := 0xffff },
    { base := 0x40010034, dims := [], rw := 0xffff0000, ret := 0xffff },
    { base := 0x40010038, dims := [] },
    { base := 0x4001003c, dims := [] },
    { base := 0x40010040, dims := [], rw := 0xffffffff, ret := 0x8001fffc, rst := .word 0x80000000 },
    { base := 0x40010044, dims := [], rw := 0xffffffff }
  ]

/-- Rows of block 0x02: TIM_STATUS, TIM_CTRL, TIM_NOW_LO, TIM_NOW_HI, TIM_SET_LO, TIM_SET_HI, TIM_MASTER, TIM_SYNC_CFG, TIM_LOOP_CFG, TIM_ASYM, TIM_OFFSET, TIM_DELAY, TIM_FREQ_ADJ, TIM_CNT. -/
def rowsBlk02 : List RegRow :=
  [
    { base := 0x40020000, dims := [], rw := 0xfffffe00 },
    { base := 0x40020004, dims := [], rw := 0xfffffffb, rst := .word 0x1 },
    { base := 0x40020008, dims := [], ret := 0xffffffff },
    { base := 0x4002000c, dims := [], ret := 0xffffffff },
    { base := 0x40020010, dims := [], rw := 0xffffffff },
    { base := 0x40020014, dims := [], rw := 0xffffffff },
    { base := 0x40020018, dims := [], rw := 0xfffffecc, rws := 0x133, grp := 14, rst := .word 0x20 },
    { base := 0x4002001c, dims := [], rw := 0xffff00f0, rws := 0xff0f, grp := 14, rst := .word 0xa0d },
    { base := 0x40020020, dims := [], rw := 0xe0e0, rws := 0xffff1f1f, grp := 14, rst := .word 0x32320703 },
    { base := 0x40020024, dims := [], rw := 0xffff0000, rws := 0xffff, grp := 14 },
    { base := 0x40020028, dims := [] },
    { base := 0x4002002c, dims := [] },
    { base := 0x40020030, dims := [] },
    { base := 0x40020034, dims := [], rc := 0xffffffff }
  ]

/-- Rows of block 0x03: BRK_STATUS, BRK_CTRL, BRK_STICKY, BRK_LIVE, BRK_PAIR, BRK_ESC, BRK_FENCE, BRK_UNFENCE, BRK_TOTAL, BRK_INJ, BRK_SRC_CFG. -/
def rowsBlk03 : List RegRow :=
  [
    { base := 0x40030000, dims := [], rw := 0xffff00f8, w1c := 0x4, rst := .word 0x1 },
    { base := 0x40030004, dims := [], rw := 0xfffffffd, rwl := 0x2, lock := (0x40030004, 0), rst := .word 0x2 },
    { base := 0x40030010, dims := [(3, 0x4)], w1c := 0xffffffff },
    { base := 0x40030020, dims := [(3, 0x4)] },
    { base := 0x40030030, dims := [(3, 0x4)] },
    { base := 0x40030040, dims := [(3, 0x4)] },
    { base := 0x40030050, dims := [], rw := 0xe000000 },
    { base := 0x40030054, dims := [], rw := 0xe000000 },
    { base := 0x40030058, dims := [], rc := 0xffffffff },
    { base := 0x40030060, dims := [], rw := 0xffffcbff },
    { base := 0x40030100, dims := [(96, 0x4)], rw := 0xf80000, rwl := 0x3ffff, lock := (0x40030004, 0), rst := .brkSrc }
  ]

/-- Rows of block 0x04: AFE_STATUS, AFE_SETTLE_CNT, AFE_SFLT_STICKY, AFE_CLIP_STICKY, AFE_CH_CFG, AFE_CH_STAT, AFE_CH_BIAS, AFE_WCH_CFG, AFE_WCH_CMP, AFE_WCH_RMS, AFE_WATCH_STAT. -/
def rowsBlk04 : List RegRow :=
  [
    { base := 0x40040000, dims := [(2, 0x10000)], rw := 0xfffffff0 },
    { base := 0x40040004, dims := [(2, 0x10000)], rc := 0xffffffff },
    { base := 0x40040008, dims := [(2, 0x10000)], rw := 0xffff0000, w1c := 0xffff },
    { base := 0x4004000c, dims := [(2, 0x10000)], rw := 0xffff0000, w1c := 0xffff },
    { base := 0x40040100, dims := [(2, 0x10000), (16, 0x10)], rw := 0xfff80000, rws := 0x7ffff, grp := 0, gstr := 0x10000 },
    { base := 0x40040104, dims := [(2, 0x10000), (16, 0x10)], rw := 0xe0000000, rst := .word 0x600000 },
    { base := 0x40040108, dims := [(2, 0x10000), (16, 0x10)], rw := 0xffff0000 },
    { base := 0x40040200, dims := [(2, 0x10000), (4, 0x10)], rw := 0xffffffff, ret := 0x1f },
    { base := 0x40040204, dims := [(2, 0x10000), (4, 0x10), (2, 0x4)], rw := 0xffffffff, ret := 0x7fffff, rst := .word 0x24ffff },
    { base := 0x4004020c, dims := [(2, 0x10000), (4, 0x10)], ret := 0xffffffff },
    { base := 0x40040240, dims := [(2, 0x10000)], rw := 0xff000000, ret := 0xffffff }
  ]

/-- Rows of block 0x06: TCH_STATUS, TCH_OVR_STICKY, TCH_CFG, TCH_DIV, TCH_TIMEOUT, TCH_POS, TCH_REV, TCH_LAST_LO, TCH_LAST_HI, TCH_PERIOD, TCH_CNT. -/
def rowsBlk06 : List RegRow :=
  [
    { base := 0x40060000, dims := [], rw := 0xff000000 },
    { base := 0x40060004, dims := [], rw := 0xffffff00, w1c := 0xff },
    { base := 0x40060100, dims := [(8, 0x40)], rw := 0xffffffff },
    { base := 0x40060104, dims := [(8, 0x40)], rw := 0xffffffff },
    { base := 0x40060108, dims := [(8, 0x40)], rw := 0xffffffff, rst := .word 0x3e8 },
    { base := 0x4006010c, dims := [(8, 0x40)] },
    { base := 0x40060110, dims := [(8, 0x40)] },
    { base := 0x40060114, dims := [(8, 0x40)] },
    { base := 0x40060118, dims := [(8, 0x40)] },
    { base := 0x4006011c, dims := [(8, 0x40)] },
    { base := 0x40060120, dims := [(8, 0x40)], rc := 0xffffffff }
  ]

/-- Rows of block 0x08: CNP_STATUS, CNP_IMG, CNP_DROP, CNP_SETTLE_CNT, CNP_GAP_CNT, CNP_TUNE_REJ, CNP_T_INFO, CNP_T_TUNE, CNP_T_STAT, CNP_T_CNT, CNP_T_P, CNP_T_ASTATE, CNP_T_AACK, CNP_T_TAB, CNP_USERWIN. -/
def rowsBlk08 : List RegRow :=
  [
    { base := 0x40080000, dims := [(4, 0x10000)], rw := 0xfffffffc },
    { base := 0x40080004, dims := [(4, 0x10000)] },
    { base := 0x40080008, dims := [(4, 0x10000)], rc := 0xffffffff },
    { base := 0x4008000c, dims := [(4, 0x10000)], rc := 0xffffffff },
    { base := 0x40080010, dims := [(4, 0x10000)], rc := 0xffffffff },
    { base := 0x40080014, dims := [(4, 0x10000)], rc := 0xffffffff },
    { base := 0x40081000, dims := [(4, 0x10000), (16, 0x400)], rw := 0xfffffc00, rst := .tileInfo },
    { base := 0x40081004, dims := [(4, 0x10000), (16, 0x400)], rw := 0x7f000000 },
    { base := 0x40081008, dims := [(4, 0x10000), (16, 0x400)], rw := 0xfffffff8, w1c := 0x7 },
    { base := 0x4008100c, dims := [(4, 0x10000), (16, 0x400)], rc := 0xffffffff },
    { base := 0x40081010, dims := [(4, 0x10000), (16, 0x400), (24, 0x4)], rws := 0xffffffff, grp := 2, gstr := 0x10000 },
    { base := 0x40081080, dims := [(4, 0x10000), (16, 0x400), (2, 0x4)], rst := .word 0xffffffff },
    { base := 0x40081088, dims := [(4, 0x10000), (16, 0x400)], w1c := 0xffffffff },
    { base := 0x40081100, dims := [(4, 0x10000), (16, 0x400), (192, 0x4)], rws := 0xffffffff, grp := 2, gstr := 0x10000 },
    { base := 0x40088000, dims := [(4, 0x10000), (2, 0x1000), (1024, 0x4)], rws := 0xffffffff, grp := 2, gstr := 0x10000 }
  ]

/-- Rows of block 0x0C: CNX_STATUS, CNX_ING, CNX_ALLOW, CNX_XL, CNX_STP. -/
def rowsBlk0C : List RegRow :=
  [
    { base := 0x400c0000, dims := [], rw := 0xfffffffe },
    { base := 0x400c0100, dims := [(4, 0x40), (16, 0x4)], rw := 0xffffffc0, rws := 0x3f, grp := 6 },
    { base := 0x400c0200, dims := [(4, 0x40), (16, 0x4)] },
    { base := 0x400c0400, dims := [(32, 0x4)], rw := 0xfffff800 },
    { base := 0x400c0500, dims := [(4, 0x4)], rw := 0xf0f0f0f0 }
  ]

/-- Rows of block 0x10: REC_STATUS, REC_CNT, REC_CNT2, REC_POST, REC_POST_RES, REC_CAP_TRIG, REC_CAP_BUSY, REC_CAP_CNT, REC_CAP_CFG, REC_SUB_MATCH, REC_SUB_CTL, REC_SUB_RBASE_LO, REC_SUB_RBASE_HI, REC_SUB_RSIZE, REC_SUB_RDPTR, REC_SUB_WPTR, REC_SUB_CNT. -/
def rowsBlk10 : List RegRow :=
  [
    { base := 0x40100000, dims := [], rw := 0xffffff80 },
    { base := 0x40100004, dims := [], rc := 0xffffffff },
    { base := 0x40100008, dims := [], rc := 0xffffffff },
    { base := 0x40100010, dims := [], rw := 0xffffc000 },
    { base := 0x40100014, dims := [], rw := 0xfffffffc },
    { base := 0x40100020, dims := [] },
    { base := 0x40100024, dims := [] },
    { base := 0x40100028, dims := [], rc := 0xffffffff },
    { base := 0x40100100, dims := [(32, 0x4)], rw := 0xffffffff },
    { base := 0x40102000, dims := [(256, 0x20)], rws := 0xffffffff, grp := 13 },
    { base := 0x40102004, dims := [(256, 0x20)], rw := 0xffff8000, rws := 0x7fff, grp := 13 },
    { base := 0x40102008, dims := [(256, 0x20)], rws := 0xffffffff, grp := 13 },
    { base := 0x4010200c, dims := [(256, 0x20)], rw := 0xffff0000, rws := 0xffff, grp := 13 },
    { base := 0x40102010, dims := [(256, 0x20)], rw := 0xffffffe0, rws := 0x1f, grp := 13, rst := .word 0xc },
    { base := 0x40102014, dims := [(256, 0x20)], rw := 0xffffffff },
    { base := 0x40102018, dims := [(256, 0x20)], rw := 0xfe000000 },
    { base := 0x4010201c, dims := [(256, 0x20)], rc := 0xffffffff }
  ]

/-- Rows of block 0x11: BUF_STATUS, BUF_PART, BUF_CMD, BUF_RESULT, BUF_QUERY, BUF_OWNER, BUF_CNT, BUF_RSV, BUF_QUOTA, BUF_HELD, BUF_RING. -/
def rowsBlk11 : List RegRow :=
  [
    { base := 0x40110000, dims := [], rw := 0xffff0000 },
    { base := 0x40110004, dims := [], rw := 0xfffffff8 },
    { base := 0x40110010, dims := [], rw := 0xc000f000 },
    { base := 0x40110014, dims := [], rw := 0xc0000008 },
    { base := 0x40110018, dims := [], rw := 0xffffffff },
    { base := 0x4011001c, dims := [], rw := 0xffffff00, rst := .word 0xf },
    { base := 0x40110080, dims := [], rc := 0xffffffff },
    { base := 0x40110084, dims := [], rw := 0xfffffff0 },
    { base := 0x40110040, dims := [(8, 0x4)], rw := 0xffff8000, rws := 0x7fff, grp := 13, rst := .bufQuota },
    { base := 0x40110060, dims := [(8, 0x4)], rw := 0xffff8000 },
    { base := 0x40110100, dims := [(32, 0x4)], rw := 0xffffffff }
  ]

/-- Rows of block 0x12: HWD_STATUS, HWD_CTRL, HWD_WPERM, HWD_CNT, HWD_JFREE, HWD_BOOT_WCNT, HWD_TR_CFG, HWD_TR_CNT, HWD_EVT_HEAD, HWD_EVT_SEQ, HWD_EVT_CNT, HWD_KEYS_LOCK, HWD_KEYS_LOCK_SET, HWD_TR_HEAD, HWD_TR_TAIL, HWD_TXN_CTRL, HWD_TXN_STAT, HWD_TXN_COST, HWD_JE_SRC, HWD_JE_DST, HWD_JE_LEN, HWD_JE_GO, HWD_CONF_IADDR, HWD_CONF_IDATA, HWD_CONF_ISTAT. -/
def rowsBlk12 : List RegRow :=
  [
    { base := 0x40120000, dims := [], rw := 0xfffffff0 },
    { base := 0x40120004, dims := [], rw := 0xffffffff },
    { base := 0x40120008, dims := [], rw := 0xff000000, rwl := 0xffffff, lock := (0x40120004, 0), rst := .word 0xc0c080 },
    { base := 0x4012000c, dims := [], rc := 0xffffffff },
    { base := 0x40120010, dims := [], rw := 0xfff00000, rst := .word 0xf0000 },
    { base := 0x40120014, dims := [], ret := 0xffffffff },
    { base := 0x40120020, dims := [], rw := 0xffffffff },
    { base := 0x4012002c, dims := [], rc := 0xffffffff },
    { base := 0x40120030, dims := [], rw := 0xffff8000, ret := 0x7fff },
    { base := 0x40120034, dims := [], ret := 0xffffffff },
    { base := 0x40120038, dims := [], rw := 0xffff0000, rc := 0xffff },
    { base := 0x40120040, dims := [], rw := 0xffff0000, ret := 0xffff },
    { base := 0x40120044, dims := [] },
    { base := 0x40120024, dims := [], rw := 0xff000000, ret := 0xffffff },
    { base := 0x40120028, dims := [], rw := 0xff000000, ret := 0xffffff },
    { base := 0x40120100, dims := [(8, 0x20)], rw := 0xfffffffc },
    { base := 0x40120104, dims := [(8, 0x20)], rw := 0xfc000008 },
    { base := 0x40120108, dims := [(8, 0x20)], rw := 0xfff00000 },
    { base := 0x4012010c, dims := [(8, 0x20)], rw := 0xffffffff },
    { base := 0x40120110, dims := [(8, 0x20)], rw := 0xffffffff },
    { base := 0x40120114, dims := [(8, 0x20)], rw := 0xffffffff },
    { base := 0x40120118, dims := [(8, 0x20)], rw := 0xfffffffe },
    { base := 0x40120200, dims := [], rw := 0x7fffffff, rst := .word 0x40000000 },
    { base := 0x40120204, dims := [], rw := 0xffffffff },
    { base := 0x40120208, dims := [], rw := 0xfffff0e0, w1c := 0x1c }
  ]

/-- Rows of block 0x14: CRW_STATUS, CRW_CTRL, CRW_DBG, CRW_L2_CNT, CRW_CORE_CTL, CRW_BOOT_ADDR, CRW_FE_SPLIM, CRW_WDOG, CRW_WDOG_KICK, CRW_CNT, CRW_PC. -/
def rowsBlk14 : List RegRow :=
  [
    { base := 0x40140000, dims := [], rw := 0xfffff000 },
    { base := 0x40140004, dims := [], rw := 0xffffffff },
    { base := 0x40140008, dims := [], rw := 0xffffffe0, rwl := 0x1f, lock := (0x40140004, 0), ret := 0x1f },
    { base := 0x4014000c, dims := [], rc := 0xffffffff },
    { base := 0x40140100, dims := [(4, 0x40)], rw := 0xfffffffe },
    { base := 0x40140104, dims := [(4, 0x40)], rw := 0xffffffff },
    { base := 0x40140108, dims := [(4, 0x40)], rw := 0xffffffff },
    { base := 0x4014010c, dims := [(4, 0x40)], rw := 0xfffe0000, rwl := 0x1ffff, lock := (0x40140004, 0), rst := .word 0x3e8 },
    { base := 0x40140110, dims := [(4, 0x40)] },
    { base := 0x40140114, dims := [(4, 0x40)], rc := 0xffffffff },
    { base := 0x40140118, dims := [(4, 0x40)] }
  ]

/-- Rows of block 0x18: TK_STATUS, TK_CTRL, TK_ID, TK_PARTNER, TK_SEQ, TK_REPLAY, TK_MALFORMED, TK_CNT, TK_CNT2, TK_IRQ, TK_IRQ_EN, TK_SKEW, TK_WAKE, TK_TXFRM_LO, TK_TXFRM_HI, TK_RXFRM_LO, TK_RXFRM_HI, TK_LANE_CFG, TK_LANE_STAT, TK_LANE_CNT, TK_LANE_FEC, TK_LANE_TXEQ. -/
def rowsBlk18 : List RegRow :=
  [
    { base := 0x40180000, dims := [(2, 0x10000)], rw := 0xffffff00 },
    { base := 0x40180004, dims := [(2, 0x10000)], rw := 0xfffffffd, rst := .word 0x1 },
    { base := 0x40180008, dims := [(2, 0x10000)], rw := 0xffffffff, rst := .word 0x1 },
    { base := 0x4018000c, dims := [(2, 0x10000)], rw := 0xfffc0000 },
    { base := 0x40180010, dims := [(2, 0x10000)] },
    { base := 0x40180014, dims := [(2, 0x10000)], rw := 0xffff0000 },
    { base := 0x40180018, dims := [(2, 0x10000)], rc := 0xffffffff },
    { base := 0x4018001c, dims := [(2, 0x10000)], rc := 0xffffffff },
    { base := 0x40180020, dims := [(2, 0x10000)], rc := 0xffffffff },
    { base := 0x40180024, dims := [(2, 0x10000)], rw := 0xffffffe0, w1c := 0x1f },
    { base := 0x40180028, dims := [(2, 0x10000)], rw := 0xffffffff },
    { base := 0x4018002c, dims := [(2, 0x10000)], rw := 0xfffe0000 },
    { base := 0x40180080, dims := [(2, 0x10000)], rw := 0xffffffff, ret := 0x3 },
    { base := 0x40180030, dims := [(2, 0x10000)] },
    { base := 0x40180034, dims := [(2, 0x10000)] },
    { base := 0x40180038, dims := [(2, 0x10000)] },
    { base := 0x4018003c, dims := [(2, 0x10000)] },
    { base := 0x40180040, dims := [(2, 0x10000), (2, 0x20)], rw := 0xffffffff, rst := .word 0x1 },
    { base := 0x40180044, dims := [(2, 0x10000), (2, 0x20)], rw := 0xfffffe00 },
    { base := 0x40180048, dims := [(2, 0x10000), (2, 0x20)], rc := 0xffffffff },
    { base := 0x4018004c, dims := [(2, 0x10000), (2, 0x20)], rc := 0xffffffff },
    { base := 0x40180050, dims := [(2, 0x10000), (2, 0x20)], rw := 0xffffffff, rst := .word 0x3f0 }
  ]

/-- Rows of block 0x1A: TKS_STATUS, TKS_IRQ, TKS_IRQ_EN, TKS_CTRL, TKS_CYCLE, TKS_BASE_LO, TKS_BASE_HI, TKS_WEIGHT, TKS_GSTAT, TKS_CNT, TKS_TXB_LO, TKS_TXB_HI, TKS_CSH_RATE, TKS_CSH_BURST, TKS_QSH_RATE, TKS_QSH_BURST, TKS_GATE, TKS_POL_RATE, TKS_POL_BURST, TKS_PDROP_LO, TKS_PDROP_HI. -/
def rowsBlk1A : List RegRow :=
  [
    { base := 0x401a0000, dims := [], rw := 0xfffffff0 },
    { base := 0x401a0004, dims := [], rw := 0xffffffe0, w1c := 0x1f },
    { base := 0x401a0008, dims := [], rw := 0xffffffff },
    { base := 0x401a1000, dims := [(2, 0x1000)], rw := 0xfffffffe, rws := 0x1, grp := 9, gstr := 0x1000 },
    { base := 0x401a1004, dims := [(2, 0x1000)], rw := 0xff000000, rws := 0xffffff, grp := 9, gstr := 0x1000, rst := .word 0x1e848 },
    { base := 0x401a1008, dims := [(2, 0x1000)], rws := 0xffffffff, grp := 9, gstr := 0x1000 },
    { base := 0x401a100c, dims := [(2, 0x1000)], rws := 0xffffffff, grp := 9, gstr := 0x1000 },
    { base := 0x401a1010, dims := [(2, 0x1000)], rws := 0xffffffff, grp := 9, gstr := 0x1000, rst := .word 0x1010101 },
    { base := 0x401a1014, dims := [(2, 0x1000)], rw := 0xffff80c0 },
    { base := 0x401a1018, dims := [(2, 0x1000)], rc := 0xffffffff },
    { base := 0x401a1100, dims := [(2, 0x1000), (6, 0x8)] },
    { base := 0x401a1104, dims := [(2, 0x1000), (6, 0x8)] },
    { base := 0x401a1200, dims := [(2, 0x1000), (6, 0x8)], rw := 0x7ffc0000, rws := 0x8003ffff, grp := 9, gstr := 0x1000 },
    { base := 0x401a1204, dims := [(2, 0x1000), (6, 0x8)], rw := 0xfff00000, rws := 0xfffff, grp := 9, gstr := 0x1000, rst := .word 0x4800 },
    { base := 0x401a1400, dims := [(2, 0x1000), (4, 0x40), (6, 0x8)], rw := 0x7ffc0000, rws := 0x8003ffff, grp := 9, gstr := 0x1000 },
    { base := 0x401a1404, dims := [(2, 0x1000), (4, 0x40), (6, 0x8)], rw := 0xfff00000, rws := 0xfffff, grp := 9, gstr := 0x1000, rst := .word 0x4800 },
    { base := 0x401a1800, dims := [(2, 0x1000), (64, 0x4)], rw := 0xe0000000, rws := 0x1fffffff, grp := 9, gstr := 0x1000, rst := .tksGate },
    { base := 0x401a3000, dims := [(4, 0x40), (6, 0x8)], rw := 0x7ffc0000, rws := 0x8003ffff, grp := 13 },
    { base := 0x401a3004, dims := [(4, 0x40), (6, 0x8)], rw := 0xfff00000, rws := 0xfffff, grp := 13, rst := .word 0x4800 },
    { base := 0x401a3200, dims := [(4, 0x8)], rc := 0xffffffff },
    { base := 0x401a3204, dims := [(4, 0x8)], rw := 0xffff0000, rc := 0xffff }
  ]

/-- Rows of block 0x1B: TEN_STATUS, TEN_CTO, TEN_CNT, TEN_IRQ, TEN_IRQ_EN, TEN_T_CFG, TEN_T_HOST, TEN_T_BIND, TEN_T_CRED, TEN_T_CNT, TEN_T_CNT2, TEN_T_PERM, TEN_MB_STAT, TEN_MB_AUX, TEN_MB_DATA, TEN_MB_POP, TEN_HRQ_CTRL, TEN_HRQ_AUX, TEN_HRQ_ADDR_LO, TEN_HRQ_ADDR_HI, TEN_HRQ_BUF, TEN_HRQ_STAT, TEN_WIN_BASE, TEN_WIN_LIM. -/
def rowsBlk1B : List RegRow :=
  [
    { base := 0x401b0000, dims := [], rw := 0xffffff00 },
    { base := 0x401b0004, dims := [], rw := 0xffffffff, rst := .word 0x3e8 },
    { base := 0x401b0008, dims := [], rc := 0xffffffff },
    { base := 0x401b000c, dims := [], rw := 0xfffff000, w1c := 0xfff },
    { base := 0x401b0010, dims := [], rw := 0xffffffff },
    { base := 0x401b0100, dims := [(8, 0x40)], rw := 0xffe000f0, rws := 0x1fff0f, grp := 13, rst := .word 0x30006 },
    { base := 0x401b0104, dims := [(8, 0x40)], rw := 0xfffe0000, rws := 0x1ffff, grp := 13 },
    { base := 0x401b0108, dims := [(8, 0x40)], rw := 0xfffe0000 },
    { base := 0x401b010c, dims := [(8, 0x40)], rw := 0xf0008080 },
    { base := 0x401b0110, dims := [(8, 0x40)], rc := 0xffffffff },
    { base := 0x401b0114, dims := [(8, 0x40)], rc := 0xffffffff },
    { base := 0x401b0120, dims := [(8, 0x40), (4, 0x4)], rws := 0xffffffff, grp := 13, rst := .tenPerm },
    { base := 0x401b0400, dims := [(4, 0x40)], rw := 0xffffff00 },
    { base := 0x401b0404, dims := [(4, 0x40)] },
    { base := 0x401b0408, dims := [(4, 0x40), (8, 0x4)] },
    { base := 0x401b0428, dims := [(4, 0x40)], rw := 0xfffffffe },
    { base := 0x401b0800, dims := [(4, 0x20)], rw := 0x7fffffff },
    { base := 0x401b0804, dims := [(4, 0x20)], rw := 0xffffffff },
    { base := 0x401b0808, dims := [(4, 0x20)], rw := 0xffffffff },
    { base := 0x401b080c, dims := [(4, 0x20)], rw := 0xffffffff },
    { base := 0x401b0810, dims := [(4, 0x20)], rw := 0xffffffff },
    { base := 0x401b0814, dims := [(4, 0x20)], rw := 0xfffc0000 },
    { base := 0x401b1000, dims := [(8, 0x40), (8, 0x8)], rw := 0xff000000, rws := 0xffffff, grp := 13 },
    { base := 0x401b1004, dims := [(8, 0x40), (8, 0x8)], rw := 0x78000000, rws := 0x87ffffff, grp := 13, rst := .tenWinLim }
  ]

/-- Rows of block 0x1C: CRB_STATUS, CRB_CFG, CRB_MON_TIMEOUT, CRB_CNT, CRB_CNT2, CRB_IRQ, CRB_IRQ_EN, CRB_IRQ_HANDLE, CRB_LVEC, CRB_LVEC_POP, CRB_OUTIRQ_SET, CRB_OUTIRQ_CFG, CRB_OW_LBASE, CRB_OW_RBASE, CRB_OW_CFG, CRB_IW_RBASE, CRB_IW_TBASE, CRB_IW_CFG, CRB_VEC. -/
def rowsBlk1C : List RegRow :=
  [
    { base := 0x401c0000, dims := [], rw := 0xe0, ret := 0x3 },
    { base := 0x401c0004, dims := [], rw := 0xffffffff, rst := .word 0x6431 },
    { base := 0x401c0008, dims := [], rw := 0xffffffff, rst := .word 0x10 },
    { base := 0x401c000c, dims := [], rc := 0xffffffff },
    { base := 0x401c0010, dims := [], rc := 0xffffffff },
    { base := 0x401c0014, dims := [], rw := 0xffffff00, w1c := 0xff },
    { base := 0x401c0018, dims := [], rw := 0xffffffff },
    { base := 0x401c001c, dims := [], rw := 0xffffffff },
    { base := 0x401c0020, dims := [], rw := 0xffff0000 },
    { base := 0x401c0024, dims := [], rw := 0xfffffffe },
    { base := 0x401c0028, dims := [], rw := 0xffffff00 },
    { base := 0x401c0040, dims := [(4, 0x4)], rw := 0xfffff800, rws := 0x7ff, grp := 11, rst := .word 0x700 },
    { base := 0x401c0100, dims := [(8, 0x10)], rw := 0xffffff00, rws := 0xff, grp := 11 },
    { base := 0x401c0104, dims := [(8, 0x10)], rw := 0xffffff00, rws := 0xff, grp := 11 },
    { base := 0x401c0108, dims := [(8, 0x10)], rw := 0x7ffff000, rws := 0x80000fff, grp := 11, rst := .word 0x700 },
    { base := 0x401c0200, dims := [(8, 0x10)], rw := 0xffffff00, rws := 0xff, grp := 11 },
    { base := 0x401c0204, dims := [(8, 0x10)], rw := 0xff000000, rws := 0xffffff, grp := 11 },
    { base := 0x401c0208, dims := [(8, 0x10)], rw := 0x7ffff000, rws := 0x80000fff, grp := 11, rst := .word 0x700 },
    { base := 0x401c0400, dims := [(256, 0x4)], rw := 0xfffffe00, rws := 0x1ff, grp := 11 }
  ]

/-- Rows of block 0x1E: GRV_SAP_IADDR, GRV_SAP_IDATA, GRV_SAP_ISTAT, GRV_SCHED_IADDR, GRV_SCHED_IDATA, GRV_SCHED_ISTAT, GRV_STATUS, GRV_EXPECT, GRV_SAP_INFO, GRV_STAT, GRV_CFG, GRV_CMD, GRV_SESSION, GRV_TXQ_BASE, GRV_TXQ_WPTR, GRV_TXQ_RPTR, GRV_RXQ_BASE, GRV_RXQ_WPTR, GRV_RXQ_RPTR, GRV_CNT, GRV_CNT2, GRV_IRQ, GRV_IRQ_EN. -/
def rowsBlk1E : List RegRow :=
  [
    { base := 0x401e0010, dims := [], rw := 0x7fffffff, rst := .word 0x40000000 },
    { base := 0x401e0014, dims := [], rw := 0xffffffff },
    { base := 0x401e0018, dims := [], rw := 0xfffff0e0, w1c := 0x1c },
    { base := 0x401e0020, dims := [], rw := 0x7fffffff, rst := .word 0x40000000 },
    { base := 0x401e0024, dims := [], rw := 0xffffffff },
    { base := 0x401e0028, dims := [], rw := 0xfffff0e0, w1c := 0x1c },
    { base := 0x401e0000, dims := [], rw := 0xffff8000, ret := 0x1 },
    { base := 0x401e0004, dims := [], rw := 0xc0c040c0, rws := 0x3f3fbf3f, grp := 12 },
    { base := 0x401e0104, dims := [(62, 0x4)], rw := 0xffff0000, w1c := 0x2000, ret := 0xffff },
    { base := 0x401e1000, dims := [(2, 0x1000)], rw := 0xfffff800 },
    { base := 0x401e1004, dims := [(2, 0x1000)], rw := 0xfffff000, rws := 0xfff, grp := 12, rst := .word 0x429 },
    { base := 0x401e1008, dims := [(2, 0x1000)], rw := 0xfffffff8 },
    { base := 0x401e100c, dims := [(2, 0x1000)] },
    { base := 0x401e1010, dims := [(2, 0x1000)], rw := 0xffffffff },
    { base := 0x401e1014, dims := [(2, 0x1000)], rw := 0xffffffff },
    { base := 0x401e1018, dims := [(2, 0x1000)], rw := 0xfffff800 },
    { base := 0x401e101c, dims := [(2, 0x1000)], rw := 0xffffffff },
    { base := 0x401e1020, dims := [(2, 0x1000)], rw := 0xfffff800 },
    { base := 0x401e1024, dims := [(2, 0x1000)], rw := 0xffffffff },
    { base := 0x401e1028, dims := [(2, 0x1000)], rc := 0xffffffff },
    { base := 0x401e102c, dims := [(2, 0x1000)], rc := 0xffffffff },
    { base := 0x401e1030, dims := [(2, 0x1000)], rw := 0xffffff80, w1c := 0x7f },
    { base := 0x401e1034, dims := [(2, 0x1000)], rw := 0xffffffff }
  ]

/-- Rows of block 0x20: MOT_STATUS, MOT_GRP, MOT_STOPINFO, MOT_IRQ, MOT_IRQ_EN, MOT_CFG, MOT_STEPIO, MOT_VLIFT, MOT_VKNEE_UP, MOT_VCRUISE, MOT_VLAND, MOT_ACC_LO, MOT_ACC_HI, MOT_DEC_LO, MOT_DEC_HI, MOT_TARGET, MOT_HOME_CFG, MOT_HVFAST, MOT_HVSLOW, MOT_HBACK, MOT_HOFFSET, MOT_HMAX, MOT_ENC_CFG, MOT_ENC_MULT, MOT_GEAR_CFG, MOT_GACC, MOT_VKNEE_DN, MOT_POS, MOT_VEL, MOT_STAT, MOT_REMAIN, MOT_CMD, MOT_SETPOS, MOT_ENCPOS, MOT_GEAR_LAG, MOT_GEAR_REL, MOT_CNT, MOT_GM, MOT_GR. -/
def rowsBlk20 : List RegRow :=
  [
    { base := 0x40200000, dims := [], rw := 0xffffffc0 },
    { base := 0x40200004, dims := [], rw := 0xfffffff0, rws := 0xf, grp := 7 },
    { base := 0x40200008, dims := [], rw := 0xfff00000 },
    { base := 0x4020000c, dims := [], rw := 0xfffff000, w1c := 0xfff },
    { base := 0x40200010, dims := [], rw := 0xffffffff },
    { base := 0x40200100, dims := [(4, 0x100)], rw := 0xff000000, rws := 0xffffff, grp := 7 },
    { base := 0x40200104, dims := [(4, 0x100)], rw := 0xffff0000, rws := 0xffff, grp := 7, rst := .word 0x1414 },
    { base := 0x40200108, dims := [(4, 0x100)], rws := 0xffffffff, grp := 7, rst := .word 0x10000 },
    { base := 0x4020010c, dims := [(4, 0x100)], rws := 0xffffffff, grp := 7, rst := .word 0x320000 },
    { base := 0x40200110, dims := [(4, 0x100)], rws := 0xffffffff, grp := 7, rst := .word 0x640000 },
    { base := 0x40200114, dims := [(4, 0x100)], rws := 0xffffffff, grp := 7, rst := .word 0x10000 },
    { base := 0x40200118, dims := [(4, 0x100)], rws := 0xffffffff, grp := 7, rst := .word 0xc80000 },
    { base := 0x4020011c, dims := [(4, 0x100)], rws := 0xffffffff, grp := 7, rst := .word 0x640000 },
    { base := 0x40200120, dims := [(4, 0x100)], rws := 0xffffffff, grp := 7, rst := .word 0xc80000 },
    { base := 0x40200124, dims := [(4, 0x100)], rws := 0xffffffff, grp := 7, rst := .word 0x640000 },
    { base := 0x40200128, dims := [(4, 0x100)], rws := 0xffffffff, grp := 7, ret := 0xffffffff },
    { base := 0x40200144, dims := [(4, 0x100)], rw := 0xfffffff8, rws := 0x7, grp := 7 },
    { base := 0x40200148, dims := [(4, 0x100)], rws := 0xffffffff, grp := 7, rst := .word 0x320000 },
    { base := 0x4020014c, dims := [(4, 0x100)], rws := 0xffffffff, grp := 7, rst := .word 0x10000 },
    { base := 0x40200150, dims := [(4, 0x100)], rw := 0x80000000, rws := 0x7fffffff, grp := 7, rst := .word 0x400 },
    { base := 0x40200154, dims := [(4, 0x100)], rws := 0xffffffff, grp := 7 },
    { base := 0x40200158, dims := [(4, 0x100)], rw := 0x80000000, rws := 0x7fffffff, grp := 7, rst := .word 0x7fffffff },
    { base := 0x4020015c, dims := [(4, 0x100)], rw := 0xf0, rws := 0xffffff0f, grp := 7, rst := .word 0x400000 },
    { base := 0x40200160, dims := [(4, 0x100)], rws := 0xffffffff, grp := 7, rst := .word 0x10000 },
    { base := 0x40200168, dims := [(4, 0x100)], rw := 0xffffff80, rws := 0x7f, grp := 7 },
    { base := 0x4020016c, dims := [(4, 0x100)], rws := 0xffffffff, grp := 7 },
    { base := 0x4020017c, dims := [(4, 0x100)], rws := 0xffffffff, grp := 7, rst := .word 0x320000 },
    { base := 0x4020012c, dims := [(4, 0x100)], ret := 0xffffffff },
    { base := 0x40200130, dims := [(4, 0x100)] },
    { base := 0x40200134, dims := [(4, 0x100)], rw := 0xffc08000, w1c := 0x200, ret := 0xc0, rst := .word 0x40 },
    { base := 0x40200138, dims := [(4, 0x100)] },
    { base := 0x4020013c, dims := [(4, 0x100)], rw := 0xfffffff8 },
    { base := 0x40200140, dims := [(4, 0x100)], rw := 0xffffffff },
    { base := 0x40200164, dims := [(4, 0x100)] },
    { base := 0x40200170, dims := [(4, 0x100)] },
    { base := 0x40200174, dims := [(4, 0x100)] },
    { base := 0x40200178, dims := [(4, 0x100)], rc := 0xffffffff },
    { base := 0x40200180, dims := [(4, 0x100), (8, 0x8)], rws := 0xffffffff, grp := 7 },
    { base := 0x40200184, dims := [(4, 0x100), (8, 0x8)], rws := 0xffffffff, grp := 7 }
  ]

/-- Rows of block 0x21: DRV_TBL_IADDR, DRV_TBL_IDATA, DRV_TBL_ISTAT, DRV_STATUS, DRV_FAULT, DRV_TRIP, DRV_TRIP_CLR, DRV_IRQ, DRV_IRQ_EN, DRV_SKIP_CNT, DRV_CHOP, DRV_TEMP, DRV_AX_CFG, DRV_AX_CUR, DRV_AX_REG, DRV_AX_LOAD_CFG, DRV_AX_LOAD_CFG2, DRV_AX_STAT, DRV_AX_EIDX, DRV_AX_LOAD, DRV_AX_COIL, DRV_AX_LAMAX. -/
def rowsBlk21 : List RegRow :=
  [
    { base := 0x40210030, dims := [], rw := 0x7fffffff, rst := .word 0x40000000 },
    { base := 0x40210034, dims := [], rw := 0xffffffff },
    { base := 0x40210038, dims := [], rw := 0xfffff0e0, w1c := 0x1c },
    { base := 0x40210000, dims := [], rw := 0xffffff00 },
    { base := 0x40210004, dims := [], rw := 0xffffc000, w1c := 0x3dff },
    { base := 0x40210008, dims := [], rw := 0xfffffee0 },
    { base := 0x4021000c, dims := [], rw := 0xfffffffe },
    { base := 0x40210010, dims := [], rw := 0xffffff00, w1c := 0xff },
    { base := 0x40210014, dims := [], rw := 0xffffffff },
    { base := 0x40210018, dims := [], rc := 0xffffffff },
    { base := 0x4021001c, dims := [], rw := 0xc0e0f800, rws := 0x3f1f07ff, grp := 8, rst := .word 0x40803e8 },
    { base := 0x40210020, dims := [], rw := 0xffffff00 },
    { base := 0x40210100, dims := [(4, 0x40)], rw := 0xff00f800, rws := 0xff07ff, grp := 8, rst := .word 0x64001c },
    { base := 0x40210104, dims := [(4, 0x40)], rw := 0xf800f800, rws := 0x7ff07ff, grp := 8, rst := .word 0xfa01f4 },
    { base := 0x40210108, dims := [(4, 0x40)], rw := 0xffff0000, rws := 0xffff, grp := 8, rst := .word 0x840 },
    { base := 0x4021010c, dims := [(4, 0x40)], rw := 0xf0000000, rws := 0xfffffff, grp := 8, rst := .word 0x34080c8 },
    { base := 0x40210110, dims := [(4, 0x40)], rws := 0xffffffff, grp := 8, rst := .word 0x21100064 },
    { base := 0x40210114, dims := [(4, 0x40)], rw := 0xffffffe0 },
    { base := 0x40210118, dims := [(4, 0x40)], rw := 0xfffffc00, ret := 0x3ff },
    { base := 0x4021011c, dims := [(4, 0x40)], rw := 0xf800ff00 },
    { base := 0x40210120, dims := [(4, 0x40)] },
    { base := 0x40210124, dims := [(4, 0x40)], rw := 0xffffff00, rc := 0xff }
  ]

/-- Rows of block 0x22: CRC_CFG, CRC_POLY, CRC_XOROUT, CRC_VAL, CRC_DATA8, CRC_DATA16, CRC_DATA32, CRC_RESULT. -/
def rowsBlk22 : List RegRow :=
  [
    { base := 0x40220000, dims := [(4, 0x40)], rw := 0xffffffff },
    { base := 0x40220004, dims := [(4, 0x40)], rw := 0xffffffff },
    { base := 0x40220008, dims := [(4, 0x40)], rw := 0xffffffff },
    { base := 0x4022000c, dims := [(4, 0x40)], rw := 0xffffffff },
    { base := 0x40220010, dims := [(4, 0x40)] },
    { base := 0x40220014, dims := [(4, 0x40)] },
    { base := 0x40220018, dims := [(4, 0x40)] },
    { base := 0x4022001c, dims := [(4, 0x40)] }
  ]

/-- Rows of block 0x23: SEC_CTRL, SEC_IMG_ADDR, SEC_IMG_LEN, SEC_IMG_CTRL, SEC_IMG_STAT, SEC_IMG_PERM, SEC_IMG_ARB, SEC_SLOT_ID, SEC_SLOT_INFO, SEC_ARB, SEC_KEYHASH, SEC_TKEY_DATA, SEC_TKEY_CTRL, SEC_TKEY_STAT. -/
def rowsBlk23 : List RegRow :=
  [
    { base := 0x40230000, dims := [], rw := 0xffffffff },
    { base := 0x40230010, dims := [], rw := 0xffffffff },
    { base := 0x40230014, dims := [], rw := 0xffffffff },
    { base := 0x40230018, dims := [], rw := 0x7fffffff },
    { base := 0x4023001c, dims := [], rw := 0xffffc000 },
    { base := 0x40230020, dims := [], rw := 0xff000000, rwl := 0xffffff, lock := (0x40230000, 0), rst := .word 0xc0c0c0 },
    { base := 0x40230024, dims := [], rw := 0xffffffff },
    { base := 0x40230030, dims := [(2, 0x8)] },
    { base := 0x40230034, dims := [(2, 0x8)], rw := 0xfff0 },
    { base := 0x40230040, dims := [(8, 0x4)], ret := 0xffffffff },
    { base := 0x40230080, dims := [(2, 0x20), (8, 0x4)], ret := 0xffffffff },
    { base := 0x40230100, dims := [] },
    { base := 0x40230104, dims := [], rw := 0x7fffffff },
    { base := 0x40230108, dims := [], rw := 0xfffff0f0, ret := 0xf }
  ]

/-- The rows of block `b` (Table 05-2). Rows of a unit with several blocks stand under its first block. -/
def blockRows (b : Nat) : List RegRow :=
  match b with
  | 0x00 => rowsBlk00
  | 0x01 => rowsBlk01
  | 0x02 => rowsBlk02
  | 0x03 => rowsBlk03
  | 0x04 => rowsBlk04
  | 0x05 => rowsBlk04
  | 0x06 => rowsBlk06
  | 0x08 => rowsBlk08
  | 0x09 => rowsBlk08
  | 0x0A => rowsBlk08
  | 0x0B => rowsBlk08
  | 0x0C => rowsBlk0C
  | 0x10 => rowsBlk10
  | 0x11 => rowsBlk11
  | 0x12 => rowsBlk12
  | 0x14 => rowsBlk14
  | 0x18 => rowsBlk18
  | 0x19 => rowsBlk18
  | 0x1A => rowsBlk1A
  | 0x1B => rowsBlk1B
  | 0x1C => rowsBlk1C
  | 0x1E => rowsBlk1E
  | 0x20 => rowsBlk20
  | 0x21 => rowsBlk21
  | 0x22 => rowsBlk22
  | 0x23 => rowsBlk23
  | _ => []

def regBase : Nat := 0x40000000

/-- The block of the unit register space that address `a` lies in; 64, which has no registers, elsewhere (Table 05-2). -/
def blockOf (a : Nat) : Nat := if a / 0x400000 = 0x100 then a / 0x10000 % 64 else 64

/-- The row of the register at address `a`, none where no register is named there (R130). -/
def findReg (a : Nat) : Option RegRow :=
  (blockRows (blockOf a)).find? (·.has a)

/-- The word the register at `a` holds after power-on reset; 0 where there is no register. -/
def resetWord (a : Nat) : Word :=
  match findReg a with
  | some r => r.rst.at (a - r.base)
  | none => 0

/-- The bits of the register at `a` that node reset and the loss of the main rails keep (Table 05-6, R715). -/
def keepMask (a : Nat) : Word :=
  match findReg a with
  | some r => r.ret
  | none => 0

/-- The update group of a staged register at `a` (Table 05-3). -/
def RegRow.group (r : RegRow) (a : Nat) : Nat :=
  if r.gstr = 0 then r.grp else r.grp + (a - r.base) / r.gstr

end Sys2Proof.Machine
end

