-- ==== Sys2Proof/Machine/RegNames.lean ====
section
/-! DEFINITION. Names of the spec's registers (addresses) and of their fields (address, lowest bit, width), as the field
tables of chapters 03 to 19 give them; and the numbers of Bark's sources (Table 06-1). -/

namespace Sys2Proof.Machine

/-- A field of a register: the register's address, the field's lowest bit and its width. -/
structure FRef where
  addr : Nat
  lo : Nat
  wid : Nat
  deriving DecidableEq, Repr

/-- PWR_STATUS, 03_modes_and_power_sequencing.md Table 03-11. -/
def PWR_STATUS.addr : Nat := 0x40010000
def PWR_STATUS.VIN_OK : FRef := ⟨PWR_STATUS.addr, 0, 1⟩
def PWR_STATUS.VIN_QUAL : FRef := ⟨PWR_STATUS.addr, 1, 1⟩
def PWR_STATUS.HOLD_OK : FRef := ⟨PWR_STATUS.addr, 2, 1⟩
def PWR_STATUS.CHARGING : FRef := ⟨PWR_STATUS.addr, 3, 1⟩
def PWR_STATUS.VBAK_OK : FRef := ⟨PWR_STATUS.addr, 4, 1⟩
def PWR_STATUS.VBAK_LOW : FRef := ⟨PWR_STATUS.addr, 5, 1⟩
def PWR_STATUS.VM_OK : FRef := ⟨PWR_STATUS.addr, 6, 1⟩
def PWR_STATUS.VM_UV : FRef := ⟨PWR_STATUS.addr, 7, 1⟩
def PWR_STATUS.VM_OV : FRef := ⟨PWR_STATUS.addr, 8, 1⟩
/-- PWR_WAKE_EN, 03_modes_and_power_sequencing.md Table 03-12. -/
def PWR_WAKE_EN.addr : Nat := 0x40010004
def PWR_WAKE_EN.CMP : FRef := ⟨PWR_WAKE_EN.addr, 0, 16⟩
def PWR_WAKE_EN.TMR0 : FRef := ⟨PWR_WAKE_EN.addr, 16, 1⟩
def PWR_WAKE_EN.TMR1 : FRef := ⟨PWR_WAKE_EN.addr, 17, 1⟩
def PWR_WAKE_EN.TRUNK : FRef := ⟨PWR_WAKE_EN.addr, 18, 1⟩
def PWR_WAKE_EN.GROVE : FRef := ⟨PWR_WAKE_EN.addr, 19, 1⟩
def PWR_WAKE_EN.RACK : FRef := ⟨PWR_WAKE_EN.addr, 20, 1⟩
/-- PWR_WAKE_CAUSE, 03_modes_and_power_sequencing.md Table 03-13. -/
def PWR_WAKE_CAUSE.addr : Nat := 0x40010008
def PWR_WAKE_CAUSE.CAUSE : FRef := ⟨PWR_WAKE_CAUSE.addr, 0, 21⟩
def PWR_WAKE_CAUSE.WATCH : FRef := ⟨PWR_WAKE_CAUSE.addr, 21, 1⟩
def PWR_WAKE_CAUSE.VINRET : FRef := ⟨PWR_WAKE_CAUSE.addr, 24, 1⟩
def PWR_WAKE_CAUSE.RSTN : FRef := ⟨PWR_WAKE_CAUSE.addr, 25, 1⟩
def PWR_WAKE_CAUSE.POR : FRef := ⟨PWR_WAKE_CAUSE.addr, 26, 1⟩
def PWR_WAKE_CAUSE.REQ : FRef := ⟨PWR_WAKE_CAUSE.addr, 27, 1⟩
/-- PWR_WAKE_TGT, 03_modes_and_power_sequencing.md Table 03-14. -/
def PWR_WAKE_TGT.addr : Nat := 0x4001000c
def PWR_WAKE_TGT.CMP_TGT : FRef := ⟨PWR_WAKE_TGT.addr, 0, 4⟩
def PWR_WAKE_TGT.TMR_TGT : FRef := ⟨PWR_WAKE_TGT.addr, 4, 4⟩
def PWR_WAKE_TGT.TRK_TGT : FRef := ⟨PWR_WAKE_TGT.addr, 8, 4⟩
def PWR_WAKE_TGT.GRV_TGT : FRef := ⟨PWR_WAKE_TGT.addr, 12, 4⟩
def PWR_WAKE_TGT.CRB_TGT : FRef := ⟨PWR_WAKE_TGT.addr, 16, 4⟩
/-- PWR_START_MODE, 03_modes_and_power_sequencing.md Table 03-15. -/
def PWR_START_MODE.addr : Nat := 0x40010010
def PWR_START_MODE.MODE : FRef := ⟨PWR_START_MODE.addr, 0, 4⟩
/-- PWR_WTIMER, 03_modes_and_power_sequencing.md Table 03-16. -/
def PWR_WTIMER.addr (k : Nat) : Nat := 0x40010014 + 0x4 * k
def PWR_WTIMER.COUNT (k : Nat) : FRef := ⟨(PWR_WTIMER.addr k), 0, 32⟩
/-- PWR_WATCH_PERIOD, 03_modes_and_power_sequencing.md Table 03-17. -/
def PWR_WATCH_PERIOD.addr : Nat := 0x4001001c
def PWR_WATCH_PERIOD.SEC : FRef := ⟨PWR_WATCH_PERIOD.addr, 0, 17⟩
/-- PWR_WATCH_SNAP, 03_modes_and_power_sequencing.md Table 03-18. -/
def PWR_WATCH_SNAP.addr : Nat := 0x40010020
def PWR_WATCH_SNAP.MS : FRef := ⟨PWR_WATCH_SNAP.addr, 0, 16⟩
/-- PWR_WATCH_SKIP, 03_modes_and_power_sequencing.md Table 03-19. -/
def PWR_WATCH_SKIP.addr : Nat := 0x40010024
def PWR_WATCH_SKIP.COUNT : FRef := ⟨PWR_WATCH_SKIP.addr, 0, 16⟩
/-- PWR_HOLD_CFG, 03_modes_and_power_sequencing.md Table 03-20. -/
def PWR_HOLD_CFG.addr : Nat := 0x40010028
def PWR_HOLD_CFG.FW_MS : FRef := ⟨PWR_HOLD_CFG.addr, 0, 4⟩
def PWR_HOLD_CFG.MSG_EN : FRef := ⟨PWR_HOLD_CFG.addr, 4, 4⟩
def PWR_HOLD_CFG.CHG_EN : FRef := ⟨PWR_HOLD_CFG.addr, 8, 1⟩
/-- PWR_HOLD_STAT, 03_modes_and_power_sequencing.md Table 03-21. -/
def PWR_HOLD_STAT.addr : Nat := 0x4001002c
def PWR_HOLD_STAT.FROM : FRef := ⟨PWR_HOLD_STAT.addr, 0, 4⟩
def PWR_HOLD_STAT.AXCUT : FRef := ⟨PWR_HOLD_STAT.addr, 4, 4⟩
def PWR_HOLD_STAT.COMMIT : FRef := ⟨PWR_HOLD_STAT.addr, 8, 1⟩
def PWR_HOLD_STAT.RETURNED : FRef := ⟨PWR_HOLD_STAT.addr, 9, 1⟩
def PWR_HOLD_STAT.GRAVE : FRef := ⟨PWR_HOLD_STAT.addr, 10, 1⟩
def PWR_HOLD_STAT.ABORT : FRef := ⟨PWR_HOLD_STAT.addr, 11, 1⟩
def PWR_HOLD_STAT.TIME_US : FRef := ⟨PWR_HOLD_STAT.addr, 16, 16⟩
/-- PWR_HOLD_ABORTED, 03_modes_and_power_sequencing.md Table 03-22. -/
def PWR_HOLD_ABORTED.addr : Nat := 0x40010030
def PWR_HOLD_ABORTED.COUNT : FRef := ⟨PWR_HOLD_ABORTED.addr, 0, 16⟩
/-- PWR_VIN_FAILS, 03_modes_and_power_sequencing.md Table 03-23. -/
def PWR_VIN_FAILS.addr : Nat := 0x40010034
def PWR_VIN_FAILS.COUNT : FRef := ⟨PWR_VIN_FAILS.addr, 0, 16⟩
/-- PWR_VMON0, 03_modes_and_power_sequencing.md Table 03-24. -/
def PWR_VMON0.addr : Nat := 0x40010038
def PWR_VMON0.VIN_MV : FRef := ⟨PWR_VMON0.addr, 0, 16⟩
def PWR_VMON0.HOLD_MV : FRef := ⟨PWR_VMON0.addr, 16, 16⟩
/-- PWR_VMON1, 03_modes_and_power_sequencing.md Table 03-25. -/
def PWR_VMON1.addr : Nat := 0x4001003c
def PWR_VMON1.VM_MV : FRef := ⟨PWR_VMON1.addr, 0, 16⟩
def PWR_VMON1.VBAK_MV : FRef := ⟨PWR_VMON1.addr, 16, 16⟩
/-- PWR_RMEM_ADDR, 03_modes_and_power_sequencing.md Table 03-26. -/
def PWR_RMEM_ADDR.addr : Nat := 0x40010040
def PWR_RMEM_ADDR.WADDR : FRef := ⟨PWR_RMEM_ADDR.addr, 2, 15⟩
def PWR_RMEM_ADDR.AUTOINC : FRef := ⟨PWR_RMEM_ADDR.addr, 31, 1⟩
/-- PWR_RMEM_DATA, 03_modes_and_power_sequencing.md Table 03-27. -/
def PWR_RMEM_DATA.addr : Nat := 0x40010044
def PWR_RMEM_DATA.DATA : FRef := ⟨PWR_RMEM_DATA.addr, 0, 32⟩
/-- SYS_MODE, 03_modes_and_power_sequencing.md Table 03-28. -/
def SYS_MODE.addr : Nat := 0x40000100
def SYS_MODE.MODE : FRef := ⟨SYS_MODE.addr, 0, 4⟩
def SYS_MODE.BASE : FRef := ⟨SYS_MODE.addr, 4, 4⟩
def SYS_MODE.SEQ : FRef := ⟨SYS_MODE.addr, 8, 3⟩
def SYS_MODE.SAFE_LATCH : FRef := ⟨SYS_MODE.addr, 12, 1⟩
def SYS_MODE.WATCH_CYCLE : FRef := ⟨SYS_MODE.addr, 13, 1⟩
/-- SYS_MODE_REQ, 03_modes_and_power_sequencing.md Table 03-29. -/
def SYS_MODE_REQ.addr : Nat := 0x40000104
def SYS_MODE_REQ.TARGET : FRef := ⟨SYS_MODE_REQ.addr, 0, 4⟩
def SYS_MODE_REQ.STATUS : FRef := ⟨SYS_MODE_REQ.addr, 8, 2⟩
def SYS_MODE_REQ.TENANT : FRef := ⟨SYS_MODE_REQ.addr, 12, 3⟩
def SYS_MODE_REQ.REASON : FRef := ⟨SYS_MODE_REQ.addr, 16, 4⟩
/-- SYS_BOOT_STAT, 03_modes_and_power_sequencing.md Table 03-30. -/
def SYS_BOOT_STAT.addr : Nat := 0x40000108
def SYS_BOOT_STAT.PATH : FRef := ⟨SYS_BOOT_STAT.addr, 0, 1⟩
def SYS_BOOT_STAT.SLOT : FRef := ⟨SYS_BOOT_STAT.addr, 1, 1⟩
def SYS_BOOT_STAT.FALLBACK : FRef := ⟨SYS_BOOT_STAT.addr, 2, 1⟩
def SYS_BOOT_STAT.NO_IMAGE : FRef := ⟨SYS_BOOT_STAT.addr, 3, 1⟩
def SYS_BOOT_STAT.STRAP_WAIT : FRef := ⟨SYS_BOOT_STAT.addr, 4, 1⟩
def SYS_BOOT_STAT.RAIL_FAIL : FRef := ⟨SYS_BOOT_STAT.addr, 5, 1⟩
def SYS_BOOT_STAT.PLL_FAIL : FRef := ⟨SYS_BOOT_STAT.addr, 6, 1⟩
def SYS_BOOT_STAT.MDIE_FAIL : FRef := ⟨SYS_BOOT_STAT.addr, 7, 1⟩
def SYS_BOOT_STAT.POR : FRef := ⟨SYS_BOOT_STAT.addr, 8, 1⟩
def SYS_BOOT_STAT.TGT_SUBST : FRef := ⟨SYS_BOOT_STAT.addr, 9, 1⟩
def SYS_BOOT_STAT.BOOTS : FRef := ⟨SYS_BOOT_STAT.addr, 16, 16⟩
/-- SYS_BOOT_TIME, 03_modes_and_power_sequencing.md Table 03-31. -/
def SYS_BOOT_TIME.addr : Nat := 0x4000010c
def SYS_BOOT_TIME.US : FRef := ⟨SYS_BOOT_TIME.addr, 0, 20⟩
/-- TIM_STATUS, 04_clocks_and_mill_time.md Table 04-8. -/
def TIM_STATUS.addr : Nat := 0x40020000
def TIM_STATUS.STATE : FRef := ⟨TIM_STATUS.addr, 0, 2⟩
def TIM_STATUS.SRC_PORT : FRef := ⟨TIM_STATUS.addr, 2, 1⟩
def TIM_STATUS.RSLOW_RC : FRef := ⟨TIM_STATUS.addr, 3, 1⟩
def TIM_STATUS.SYS_PLL : FRef := ⟨TIM_STATUS.addr, 4, 1⟩
def TIM_STATUS.TB_PLL : FRef := ⟨TIM_STATUS.addr, 5, 1⟩
def TIM_STATUS.TRK_PLL_A : FRef := ⟨TIM_STATUS.addr, 6, 1⟩
def TIM_STATUS.TRK_PLL_B : FRef := ⟨TIM_STATUS.addr, 7, 1⟩
def TIM_STATUS.MASTER_OK : FRef := ⟨TIM_STATUS.addr, 8, 1⟩
/-- TIM_CTRL, 04_clocks_and_mill_time.md Table 04-9. -/
def TIM_CTRL.addr : Nat := 0x40020004
def TIM_CTRL.DISC_EN : FRef := ⟨TIM_CTRL.addr, 0, 1⟩
def TIM_CTRL.PPS_EN : FRef := ⟨TIM_CTRL.addr, 1, 1⟩
def TIM_CTRL.SET : FRef := ⟨TIM_CTRL.addr, 2, 1⟩
def TIM_CTRL.EPOCH_LOG : FRef := ⟨TIM_CTRL.addr, 8, 4⟩
/-- TIM_NOW_LO, 04_clocks_and_mill_time.md Table 04-10. -/
def TIM_NOW_LO.addr : Nat := 0x40020008
def TIM_NOW_LO.NS : FRef := ⟨TIM_NOW_LO.addr, 0, 32⟩
/-- TIM_NOW_HI, 04_clocks_and_mill_time.md Table 04-10. -/
def TIM_NOW_HI.addr : Nat := 0x4002000c
def TIM_NOW_HI.NS : FRef := ⟨TIM_NOW_HI.addr, 0, 32⟩
/-- TIM_SET_LO, 04_clocks_and_mill_time.md Table 04-11. -/
def TIM_SET_LO.addr : Nat := 0x40020010
def TIM_SET_LO.NS : FRef := ⟨TIM_SET_LO.addr, 0, 32⟩
/-- TIM_SET_HI, 04_clocks_and_mill_time.md Table 04-11. -/
def TIM_SET_HI.addr : Nat := 0x40020014
def TIM_SET_HI.NS : FRef := ⟨TIM_SET_HI.addr, 0, 32⟩
/-- TIM_MASTER, 04_clocks_and_mill_time.md Table 04-12. -/
def TIM_MASTER.addr : Nat := 0x40020018
def TIM_MASTER.TENANT : FRef := ⟨TIM_MASTER.addr, 0, 2⟩
def TIM_MASTER.PORT : FRef := ⟨TIM_MASTER.addr, 4, 2⟩
def TIM_MASTER.VALID : FRef := ⟨TIM_MASTER.addr, 8, 1⟩
/-- TIM_SYNC_CFG, 04_clocks_and_mill_time.md Table 04-13. -/
def TIM_SYNC_CFG.addr : Nat := 0x4002001c
def TIM_SYNC_CFG.LOG_INT : FRef := ⟨TIM_SYNC_CFG.addr, 0, 4⟩
def TIM_SYNC_CFG.STEP_US : FRef := ⟨TIM_SYNC_CFG.addr, 8, 8⟩
/-- TIM_LOOP_CFG, 04_clocks_and_mill_time.md Table 04-14. -/
def TIM_LOOP_CFG.addr : Nat := 0x40020020
def TIM_LOOP_CFG.KP_SH : FRef := ⟨TIM_LOOP_CFG.addr, 0, 5⟩
def TIM_LOOP_CFG.KI_SH : FRef := ⟨TIM_LOOP_CFG.addr, 8, 5⟩
def TIM_LOOP_CFG.LOCK_NS : FRef := ⟨TIM_LOOP_CFG.addr, 16, 8⟩
def TIM_LOOP_CFG.UNLOCK_X10NS : FRef := ⟨TIM_LOOP_CFG.addr, 24, 8⟩
/-- TIM_ASYM, 04_clocks_and_mill_time.md Table 04-15. -/
def TIM_ASYM.addr : Nat := 0x40020024
def TIM_ASYM.NS : FRef := ⟨TIM_ASYM.addr, 0, 16⟩
/-- TIM_OFFSET, 04_clocks_and_mill_time.md Table 04-16. -/
def TIM_OFFSET.addr : Nat := 0x40020028
def TIM_OFFSET.NS : FRef := ⟨TIM_OFFSET.addr, 0, 32⟩
/-- TIM_DELAY, 04_clocks_and_mill_time.md Table 04-17. -/
def TIM_DELAY.addr : Nat := 0x4002002c
def TIM_DELAY.NS : FRef := ⟨TIM_DELAY.addr, 0, 32⟩
/-- TIM_FREQ_ADJ, 04_clocks_and_mill_time.md Table 04-18. -/
def TIM_FREQ_ADJ.addr : Nat := 0x40020030
def TIM_FREQ_ADJ.PPB : FRef := ⟨TIM_FREQ_ADJ.addr, 0, 32⟩
/-- TIM_CNT, 04_clocks_and_mill_time.md Table 04-19. -/
def TIM_CNT.addr : Nat := 0x40020034
def TIM_CNT.STEPS : FRef := ⟨TIM_CNT.addr, 0, 8⟩
def TIM_CNT.MISS : FRef := ⟨TIM_CNT.addr, 8, 8⟩
def TIM_CNT.REJECT : FRef := ⟨TIM_CNT.addr, 16, 8⟩
def TIM_CNT.FOREIGN : FRef := ⟨TIM_CNT.addr, 24, 8⟩
/-- SYS_PARTID, 05_register_conventions.md Table 05-10. -/
def SYS_PARTID.addr : Nat := 0x40000000
def SYS_PARTID.ID : FRef := ⟨SYS_PARTID.addr, 0, 32⟩
/-- SYS_REV, 05_register_conventions.md Table 05-11. -/
def SYS_REV.addr : Nat := 0x40000004
def SYS_REV.DDIE : FRef := ⟨SYS_REV.addr, 0, 6⟩
def SYS_REV.AFE0 : FRef := ⟨SYS_REV.addr, 6, 6⟩
def SYS_REV.AFE1 : FRef := ⟨SYS_REV.addr, 12, 6⟩
def SYS_REV.PDIE : FRef := ⟨SYS_REV.addr, 18, 6⟩
def SYS_REV.MDIE : FRef := ⟨SYS_REV.addr, 24, 6⟩
/-- SYS_UID_LO, 05_register_conventions.md Table 05-12. -/
def SYS_UID_LO.addr : Nat := 0x40000008
def SYS_UID_LO.UID : FRef := ⟨SYS_UID_LO.addr, 0, 32⟩
/-- SYS_UID_HI, 05_register_conventions.md Table 05-12. -/
def SYS_UID_HI.addr : Nat := 0x4000000c
def SYS_UID_HI.UID : FRef := ⟨SYS_UID_HI.addr, 0, 32⟩
/-- SYS_STRAP, 05_register_conventions.md Table 05-13. -/
def SYS_STRAP.addr : Nat := 0x40000010
def SYS_STRAP.BOOT_SEL : FRef := ⟨SYS_STRAP.addr, 0, 3⟩
def SYS_STRAP.CRB_ROLE : FRef := ⟨SYS_STRAP.addr, 3, 2⟩
def SYS_STRAP.GROVE_MODE : FRef := ⟨SYS_STRAP.addr, 5, 1⟩
def SYS_STRAP.SVC_EN : FRef := ⟨SYS_STRAP.addr, 6, 1⟩
def SYS_STRAP.TEST_EN : FRef := ⟨SYS_STRAP.addr, 7, 1⟩
def SYS_STRAP.BOOT_INV : FRef := ⟨SYS_STRAP.addr, 8, 1⟩
def SYS_STRAP.VIO18 : FRef := ⟨SYS_STRAP.addr, 9, 1⟩
def SYS_STRAP.FT_FUSE : FRef := ⟨SYS_STRAP.addr, 10, 1⟩
/-- SYS_UPD_APPLY, 05_register_conventions.md Table 05-14. -/
def SYS_UPD_APPLY.addr : Nat := 0x40000020
def SYS_UPD_APPLY.MASK : FRef := ⟨SYS_UPD_APPLY.addr, 0, 16⟩
/-- SYS_UPD_PEND, 05_register_conventions.md Table 05-15. -/
def SYS_UPD_PEND.addr : Nat := 0x40000024
def SYS_UPD_PEND.PEND : FRef := ⟨SYS_UPD_PEND.addr, 0, 16⟩
/-- SYS_UPD_AT_LO, 05_register_conventions.md Table 05-16. -/
def SYS_UPD_AT_LO.addr : Nat := 0x40000028
def SYS_UPD_AT_LO.NS : FRef := ⟨SYS_UPD_AT_LO.addr, 0, 32⟩
/-- SYS_UPD_AT_HI, 05_register_conventions.md Table 05-16. -/
def SYS_UPD_AT_HI.addr : Nat := 0x4000002c
def SYS_UPD_AT_HI.NS : FRef := ⟨SYS_UPD_AT_HI.addr, 0, 32⟩
/-- SYS_UPD_AT_MASK, 05_register_conventions.md Table 05-17. -/
def SYS_UPD_AT_MASK.addr : Nat := 0x40000030
def SYS_UPD_AT_MASK.MASK : FRef := ⟨SYS_UPD_AT_MASK.addr, 0, 16⟩
/-- SYS_UPD_STAT, 05_register_conventions.md Table 05-18. -/
def SYS_UPD_STAT.addr : Nat := 0x40000034
def SYS_UPD_STAT.SKIPPED : FRef := ⟨SYS_UPD_STAT.addr, 0, 16⟩
def SYS_UPD_STAT.ARMED : FRef := ⟨SYS_UPD_STAT.addr, 16, 1⟩
def SYS_UPD_STAT.CANCELLED : FRef := ⟨SYS_UPD_STAT.addr, 17, 1⟩
def SYS_UPD_STAT.LATE_ARM : FRef := ⟨SYS_UPD_STAT.addr, 18, 1⟩
/-- SYS_URST, 05_register_conventions.md Table 05-19. -/
def SYS_URST.addr : Nat := 0x40000040
def SYS_URST.AFE0 : FRef := ⟨SYS_URST.addr, 0, 1⟩
def SYS_URST.AFE1 : FRef := ⟨SYS_URST.addr, 1, 1⟩
def SYS_URST.TCH : FRef := ⟨SYS_URST.addr, 2, 1⟩
def SYS_URST.CNP : FRef := ⟨SYS_URST.addr, 3, 4⟩
def SYS_URST.CNX : FRef := ⟨SYS_URST.addr, 7, 1⟩
def SYS_URST.REC : FRef := ⟨SYS_URST.addr, 8, 1⟩
def SYS_URST.BUF : FRef := ⟨SYS_URST.addr, 9, 1⟩
def SYS_URST.HWD : FRef := ⟨SYS_URST.addr, 10, 1⟩
def SYS_URST.CRW : FRef := ⟨SYS_URST.addr, 11, 4⟩
def SYS_URST.TKA : FRef := ⟨SYS_URST.addr, 15, 1⟩
def SYS_URST.TKB : FRef := ⟨SYS_URST.addr, 16, 1⟩
def SYS_URST.TKS : FRef := ⟨SYS_URST.addr, 17, 1⟩
def SYS_URST.CRB : FRef := ⟨SYS_URST.addr, 18, 1⟩
def SYS_URST.GRV : FRef := ⟨SYS_URST.addr, 19, 1⟩
def SYS_URST.MOT : FRef := ⟨SYS_URST.addr, 20, 1⟩
def SYS_URST.DRV : FRef := ⟨SYS_URST.addr, 21, 1⟩
def SYS_URST.CRC : FRef := ⟨SYS_URST.addr, 22, 1⟩
/-- SYS_NODE_RST, 05_register_conventions.md Table 05-20. -/
def SYS_NODE_RST.addr : Nat := 0x40000044
def SYS_NODE_RST.KEY : FRef := ⟨SYS_NODE_RST.addr, 0, 32⟩
/-- SYS_URST_STAT, 05_register_conventions.md Table 05-19. -/
def SYS_URST_STAT.addr : Nat := 0x40000048
def SYS_URST_STAT.AFE0 : FRef := ⟨SYS_URST_STAT.addr, 0, 1⟩
def SYS_URST_STAT.AFE1 : FRef := ⟨SYS_URST_STAT.addr, 1, 1⟩
def SYS_URST_STAT.TCH : FRef := ⟨SYS_URST_STAT.addr, 2, 1⟩
def SYS_URST_STAT.CNP : FRef := ⟨SYS_URST_STAT.addr, 3, 4⟩
def SYS_URST_STAT.CNX : FRef := ⟨SYS_URST_STAT.addr, 7, 1⟩
def SYS_URST_STAT.REC : FRef := ⟨SYS_URST_STAT.addr, 8, 1⟩
def SYS_URST_STAT.BUF : FRef := ⟨SYS_URST_STAT.addr, 9, 1⟩
def SYS_URST_STAT.HWD : FRef := ⟨SYS_URST_STAT.addr, 10, 1⟩
def SYS_URST_STAT.CRW : FRef := ⟨SYS_URST_STAT.addr, 11, 4⟩
def SYS_URST_STAT.TKA : FRef := ⟨SYS_URST_STAT.addr, 15, 1⟩
def SYS_URST_STAT.TKB : FRef := ⟨SYS_URST_STAT.addr, 16, 1⟩
def SYS_URST_STAT.TKS : FRef := ⟨SYS_URST_STAT.addr, 17, 1⟩
def SYS_URST_STAT.CRB : FRef := ⟨SYS_URST_STAT.addr, 18, 1⟩
def SYS_URST_STAT.GRV : FRef := ⟨SYS_URST_STAT.addr, 19, 1⟩
def SYS_URST_STAT.MOT : FRef := ⟨SYS_URST_STAT.addr, 20, 1⟩
def SYS_URST_STAT.DRV : FRef := ⟨SYS_URST_STAT.addr, 21, 1⟩
def SYS_URST_STAT.CRC : FRef := ⟨SYS_URST_STAT.addr, 22, 1⟩
/-- SYS_SVC_IRQ, 05_register_conventions.md Table 05-21. -/
def SYS_SVC_IRQ.addr : Nat := 0x40000050
def SYS_SVC_IRQ.MODE_CHG : FRef := ⟨SYS_SVC_IRQ.addr, 0, 1⟩
def SYS_SVC_IRQ.BARK : FRef := ⟨SYS_SVC_IRQ.addr, 1, 1⟩
def SYS_SVC_IRQ.UPD : FRef := ⟨SYS_SVC_IRQ.addr, 2, 1⟩
def SYS_SVC_IRQ.EN : FRef := ⟨SYS_SVC_IRQ.addr, 16, 3⟩
/-- SYS_SVC_CNT, 05_register_conventions.md Table 05-22. -/
def SYS_SVC_CNT.addr : Nat := 0x40000054
def SYS_SVC_CNT.FRAMES : FRef := ⟨SYS_SVC_CNT.addr, 0, 16⟩
def SYS_SVC_CNT.ABORT : FRef := ⟨SYS_SVC_CNT.addr, 16, 8⟩
def SYS_SVC_CNT.ERR : FRef := ⟨SYS_SVC_CNT.addr, 24, 8⟩
/-- CRC_CFG, 05_register_conventions.md Table 05-23. -/
def CRC_CFG.addr (n : Nat) : Nat := 0x40220000 + 0x40 * n
def CRC_CFG.WIDTH (n : Nat) : FRef := ⟨(CRC_CFG.addr n), 0, 2⟩
def CRC_CFG.REFIN (n : Nat) : FRef := ⟨(CRC_CFG.addr n), 2, 1⟩
def CRC_CFG.REFOUT (n : Nat) : FRef := ⟨(CRC_CFG.addr n), 3, 1⟩
/-- CRC_POLY, 05_register_conventions.md Table 05-24. -/
def CRC_POLY.addr (n : Nat) : Nat := 0x40220004 + 0x40 * n
def CRC_POLY.VALUE (n : Nat) : FRef := ⟨(CRC_POLY.addr n), 0, 32⟩
/-- CRC_XOROUT, 05_register_conventions.md Table 05-24. -/
def CRC_XOROUT.addr (n : Nat) : Nat := 0x40220008 + 0x40 * n
def CRC_XOROUT.VALUE (n : Nat) : FRef := ⟨(CRC_XOROUT.addr n), 0, 32⟩
/-- CRC_VAL, 05_register_conventions.md Table 05-24. -/
def CRC_VAL.addr (n : Nat) : Nat := 0x4022000c + 0x40 * n
def CRC_VAL.VALUE (n : Nat) : FRef := ⟨(CRC_VAL.addr n), 0, 32⟩
/-- CRC_DATA8, 05_register_conventions.md Table 05-25. -/
def CRC_DATA8.addr (n : Nat) : Nat := 0x40220010 + 0x40 * n
def CRC_DATA8.DATA (n : Nat) : FRef := ⟨(CRC_DATA8.addr n), 0, 32⟩
/-- CRC_DATA16, 05_register_conventions.md Table 05-25. -/
def CRC_DATA16.addr (n : Nat) : Nat := 0x40220014 + 0x40 * n
def CRC_DATA16.DATA (n : Nat) : FRef := ⟨(CRC_DATA16.addr n), 0, 32⟩
/-- CRC_DATA32, 05_register_conventions.md Table 05-25. -/
def CRC_DATA32.addr (n : Nat) : Nat := 0x40220018 + 0x40 * n
def CRC_DATA32.DATA (n : Nat) : FRef := ⟨(CRC_DATA32.addr n), 0, 32⟩
/-- CRC_RESULT, 05_register_conventions.md Table 05-26. -/
def CRC_RESULT.addr (n : Nat) : Nat := 0x4022001c + 0x40 * n
def CRC_RESULT.CRC (n : Nat) : FRef := ⟨(CRC_RESULT.addr n), 0, 32⟩
/-- BRK_STATUS, 06_bark_fault_collector.md Table 06-7. -/
def BRK_STATUS.addr : Nat := 0x40030000
def BRK_STATUS.VOTE_OK : FRef := ⟨BRK_STATUS.addr, 0, 1⟩
def BRK_STATUS.FENCED : FRef := ⟨BRK_STATUS.addr, 1, 1⟩
def BRK_STATUS.UNFENCE_REF : FRef := ⟨BRK_STATUS.addr, 2, 1⟩
def BRK_STATUS.LOG_LOST : FRef := ⟨BRK_STATUS.addr, 8, 8⟩
/-- BRK_CTRL, 06_bark_fault_collector.md Table 06-8. -/
def BRK_CTRL.addr : Nat := 0x40030004
def BRK_CTRL.LOCK : FRef := ⟨BRK_CTRL.addr, 0, 1⟩
def BRK_CTRL.MSG_EN : FRef := ⟨BRK_CTRL.addr, 1, 1⟩
/-- BRK_STICKY, 06_bark_fault_collector.md Table 06-9. -/
def BRK_STICKY.addr (k : Nat) : Nat := 0x40030010 + 0x4 * k
def BRK_STICKY.STICKY (k : Nat) : FRef := ⟨(BRK_STICKY.addr k), 0, 32⟩
/-- BRK_LIVE, 06_bark_fault_collector.md Table 06-9. -/
def BRK_LIVE.addr (k : Nat) : Nat := 0x40030020 + 0x4 * k
def BRK_LIVE.LIVE (k : Nat) : FRef := ⟨(BRK_LIVE.addr k), 0, 32⟩
/-- BRK_PAIR, 06_bark_fault_collector.md Table 06-9. -/
def BRK_PAIR.addr (k : Nat) : Nat := 0x40030030 + 0x4 * k
def BRK_PAIR.PAIR (k : Nat) : FRef := ⟨(BRK_PAIR.addr k), 0, 32⟩
/-- BRK_ESC, 06_bark_fault_collector.md Table 06-9. -/
def BRK_ESC.addr (k : Nat) : Nat := 0x40030040 + 0x4 * k
def BRK_ESC.ESC (k : Nat) : FRef := ⟨(BRK_ESC.addr k), 0, 32⟩
/-- BRK_FENCE, 06_bark_fault_collector.md Table 06-10. -/
def BRK_FENCE.addr : Nat := 0x40030050
def BRK_FENCE.AFE0 : FRef := ⟨BRK_FENCE.addr, 0, 1⟩
def BRK_FENCE.AFE1 : FRef := ⟨BRK_FENCE.addr, 1, 1⟩
def BRK_FENCE.TCH : FRef := ⟨BRK_FENCE.addr, 2, 1⟩
def BRK_FENCE.CNP : FRef := ⟨BRK_FENCE.addr, 3, 4⟩
def BRK_FENCE.CNX : FRef := ⟨BRK_FENCE.addr, 7, 1⟩
def BRK_FENCE.REC : FRef := ⟨BRK_FENCE.addr, 8, 1⟩
def BRK_FENCE.BUF : FRef := ⟨BRK_FENCE.addr, 9, 1⟩
def BRK_FENCE.HWD : FRef := ⟨BRK_FENCE.addr, 10, 1⟩
def BRK_FENCE.CRW : FRef := ⟨BRK_FENCE.addr, 11, 4⟩
def BRK_FENCE.TKA : FRef := ⟨BRK_FENCE.addr, 15, 1⟩
def BRK_FENCE.TKB : FRef := ⟨BRK_FENCE.addr, 16, 1⟩
def BRK_FENCE.TKS : FRef := ⟨BRK_FENCE.addr, 17, 1⟩
def BRK_FENCE.CRB : FRef := ⟨BRK_FENCE.addr, 18, 1⟩
def BRK_FENCE.GRV_A : FRef := ⟨BRK_FENCE.addr, 19, 1⟩
def BRK_FENCE.GRV_B : FRef := ⟨BRK_FENCE.addr, 20, 1⟩
def BRK_FENCE.MOT : FRef := ⟨BRK_FENCE.addr, 21, 1⟩
def BRK_FENCE.DRV : FRef := ⟨BRK_FENCE.addr, 22, 1⟩
def BRK_FENCE.CRC : FRef := ⟨BRK_FENCE.addr, 23, 1⟩
def BRK_FENCE.SVCP : FRef := ⟨BRK_FENCE.addr, 24, 1⟩
def BRK_FENCE.TEN : FRef := ⟨BRK_FENCE.addr, 28, 4⟩
/-- BRK_UNFENCE, 06_bark_fault_collector.md Table 06-10. -/
def BRK_UNFENCE.addr : Nat := 0x40030054
def BRK_UNFENCE.AFE0 : FRef := ⟨BRK_UNFENCE.addr, 0, 1⟩
def BRK_UNFENCE.AFE1 : FRef := ⟨BRK_UNFENCE.addr, 1, 1⟩
def BRK_UNFENCE.TCH : FRef := ⟨BRK_UNFENCE.addr, 2, 1⟩
def BRK_UNFENCE.CNP : FRef := ⟨BRK_UNFENCE.addr, 3, 4⟩
def BRK_UNFENCE.CNX : FRef := ⟨BRK_UNFENCE.addr, 7, 1⟩
def BRK_UNFENCE.REC : FRef := ⟨BRK_UNFENCE.addr, 8, 1⟩
def BRK_UNFENCE.BUF : FRef := ⟨BRK_UNFENCE.addr, 9, 1⟩
def BRK_UNFENCE.HWD : FRef := ⟨BRK_UNFENCE.addr, 10, 1⟩
def BRK_UNFENCE.CRW : FRef := ⟨BRK_UNFENCE.addr, 11, 4⟩
def BRK_UNFENCE.TKA : FRef := ⟨BRK_UNFENCE.addr, 15, 1⟩
def BRK_UNFENCE.TKB : FRef := ⟨BRK_UNFENCE.addr, 16, 1⟩
def BRK_UNFENCE.TKS : FRef := ⟨BRK_UNFENCE.addr, 17, 1⟩
def BRK_UNFENCE.CRB : FRef := ⟨BRK_UNFENCE.addr, 18, 1⟩
def BRK_UNFENCE.GRV_A : FRef := ⟨BRK_UNFENCE.addr, 19, 1⟩
def BRK_UNFENCE.GRV_B : FRef := ⟨BRK_UNFENCE.addr, 20, 1⟩
def BRK_UNFENCE.MOT : FRef := ⟨BRK_UNFENCE.addr, 21, 1⟩
def BRK_UNFENCE.DRV : FRef := ⟨BRK_UNFENCE.addr, 22, 1⟩
def BRK_UNFENCE.CRC : FRef := ⟨BRK_UNFENCE.addr, 23, 1⟩
def BRK_UNFENCE.SVCP : FRef := ⟨BRK_UNFENCE.addr, 24, 1⟩
def BRK_UNFENCE.TEN : FRef := ⟨BRK_UNFENCE.addr, 28, 4⟩
/-- BRK_TOTAL, 06_bark_fault_collector.md Table 06-11. -/
def BRK_TOTAL.addr : Nat := 0x40030058
def BRK_TOTAL.INFO : FRef := ⟨BRK_TOTAL.addr, 0, 16⟩
def BRK_TOTAL.MINOR : FRef := ⟨BRK_TOTAL.addr, 16, 8⟩
def BRK_TOTAL.MAJOR : FRef := ⟨BRK_TOTAL.addr, 24, 8⟩
/-- BRK_INJ, 06_bark_fault_collector.md Table 06-12. -/
def BRK_INJ.addr : Nat := 0x40030060
def BRK_INJ.SRC : FRef := ⟨BRK_INJ.addr, 0, 7⟩
def BRK_INJ.MODE : FRef := ⟨BRK_INJ.addr, 8, 2⟩
def BRK_INJ.GO : FRef := ⟨BRK_INJ.addr, 10, 1⟩
def BRK_INJ.STATUS : FRef := ⟨BRK_INJ.addr, 12, 2⟩
def BRK_INJ.INST : FRef := ⟨BRK_INJ.addr, 14, 2⟩
/-- BRK_SRC_CFG, 06_bark_fault_collector.md Table 06-13. -/
def BRK_SRC_CFG.addr (s : Nat) : Nat := 0x40030100 + 0x4 * s
def BRK_SRC_CFG.BASE (s : Nat) : FRef := ⟨(BRK_SRC_CFG.addr s), 0, 2⟩
def BRK_SRC_CFG.SEVERE (s : Nat) : FRef := ⟨(BRK_SRC_CFG.addr s), 2, 2⟩
def BRK_SRC_CFG.N (s : Nat) : FRef := ⟨(BRK_SRC_CFG.addr s), 4, 8⟩
def BRK_SRC_CFG.WCODE (s : Nat) : FRef := ⟨(BRK_SRC_CFG.addr s), 12, 6⟩
def BRK_SRC_CFG.FIXED (s : Nat) : FRef := ⟨(BRK_SRC_CFG.addr s), 18, 1⟩
def BRK_SRC_CFG.COUNT (s : Nat) : FRef := ⟨(BRK_SRC_CFG.addr s), 24, 8⟩
/-- AFE_STATUS, 07_analog_inputs.md Table 07-13. -/
def AFE_STATUS.addr (n : Nat) : Nat := 0x40040000 + 0x10000 * n
def AFE_STATUS.MODCLK (n : Nat) : FRef := ⟨(AFE_STATUS.addr n), 0, 1⟩
def AFE_STATUS.IEPE_OK (n : Nat) : FRef := ⟨(AFE_STATUS.addr n), 1, 1⟩
def AFE_STATUS.REF_OK (n : Nat) : FRef := ⟨(AFE_STATUS.addr n), 2, 1⟩
def AFE_STATUS.LINK_OK (n : Nat) : FRef := ⟨(AFE_STATUS.addr n), 3, 1⟩
/-- AFE_SETTLE_CNT, 07_analog_inputs.md Table 07-14. -/
def AFE_SETTLE_CNT.addr (n : Nat) : Nat := 0x40040004 + 0x10000 * n
def AFE_SETTLE_CNT.COUNT (n : Nat) : FRef := ⟨(AFE_SETTLE_CNT.addr n), 0, 32⟩
/-- AFE_SFLT_STICKY, 07_analog_inputs.md Table 07-15. -/
def AFE_SFLT_STICKY.addr (n : Nat) : Nat := 0x40040008 + 0x10000 * n
def AFE_SFLT_STICKY.CH (n : Nat) : FRef := ⟨(AFE_SFLT_STICKY.addr n), 0, 16⟩
/-- AFE_CLIP_STICKY, 07_analog_inputs.md Table 07-15. -/
def AFE_CLIP_STICKY.addr (n : Nat) : Nat := 0x4004000c + 0x10000 * n
def AFE_CLIP_STICKY.CH (n : Nat) : FRef := ⟨(AFE_CLIP_STICKY.addr n), 0, 16⟩
/-- AFE_CH_CFG, 07_analog_inputs.md Table 07-16. -/
def AFE_CH_CFG.addr (n c : Nat) : Nat := 0x40040100 + 0x10000 * n + 0x10 * c
def AFE_CH_CFG.EN (n c : Nat) : FRef := ⟨(AFE_CH_CFG.addr n c), 0, 1⟩
def AFE_CH_CFG.RANGE (n c : Nat) : FRef := ⟨(AFE_CH_CFG.addr n c), 1, 3⟩
def AFE_CH_CFG.FILTER (n c : Nat) : FRef := ⟨(AFE_CH_CFG.addr n c), 4, 2⟩
def AFE_CH_CFG.RATE (n c : Nat) : FRef := ⟨(AFE_CH_CFG.addr n c), 6, 4⟩
def AFE_CH_CFG.INPUT (n c : Nat) : FRef := ⟨(AFE_CH_CFG.addr n c), 10, 2⟩
def AFE_CH_CFG.COUPLING (n c : Nat) : FRef := ⟨(AFE_CH_CFG.addr n c), 12, 1⟩
def AFE_CH_CFG.IEPE (n c : Nat) : FRef := ⟨(AFE_CH_CFG.addr n c), 13, 2⟩
def AFE_CH_CFG.MARK_IDX (n c : Nat) : FRef := ⟨(AFE_CH_CFG.addr n c), 15, 1⟩
def AFE_CH_CFG.MARK_IN (n c : Nat) : FRef := ⟨(AFE_CH_CFG.addr n c), 16, 3⟩
/-- AFE_CH_STAT, 07_analog_inputs.md Table 07-17. -/
def AFE_CH_STAT.addr (n c : Nat) : Nat := 0x40040104 + 0x10000 * n + 0x10 * c
def AFE_CH_STAT.SETTLE_LEFT (n c : Nat) : FRef := ⟨(AFE_CH_STAT.addr n c), 0, 21⟩
def AFE_CH_STAT.SFLT (n c : Nat) : FRef := ⟨(AFE_CH_STAT.addr n c), 21, 2⟩
def AFE_CH_STAT.CLIP (n c : Nat) : FRef := ⟨(AFE_CH_STAT.addr n c), 23, 1⟩
def AFE_CH_STAT.SEQ (n c : Nat) : FRef := ⟨(AFE_CH_STAT.addr n c), 24, 4⟩
def AFE_CH_STAT.ACTIVE (n c : Nat) : FRef := ⟨(AFE_CH_STAT.addr n c), 28, 1⟩
/-- AFE_CH_BIAS, 07_analog_inputs.md Table 07-18. -/
def AFE_CH_BIAS.addr (n c : Nat) : Nat := 0x40040108 + 0x10000 * n + 0x10 * c
def AFE_CH_BIAS.MV (n c : Nat) : FRef := ⟨(AFE_CH_BIAS.addr n c), 0, 16⟩
/-- AFE_WCH_CFG, 07_analog_inputs.md Table 07-19. -/
def AFE_WCH_CFG.addr (n w : Nat) : Nat := 0x40040200 + 0x10000 * n + 0x10 * w
def AFE_WCH_CFG.EN (n w : Nat) : FRef := ⟨(AFE_WCH_CFG.addr n w), 0, 1⟩
def AFE_WCH_CFG.RANGE (n w : Nat) : FRef := ⟨(AFE_WCH_CFG.addr n w), 1, 3⟩
def AFE_WCH_CFG.IEPE_KEEP (n w : Nat) : FRef := ⟨(AFE_WCH_CFG.addr n w), 4, 1⟩
/-- AFE_WCH_CMP, 07_analog_inputs.md Table 07-20. -/
def AFE_WCH_CMP.addr (n w k : Nat) : Nat := 0x40040204 + 0x10000 * n + 0x10 * w + 0x4 * k
def AFE_WCH_CMP.THRESH (n w k : Nat) : FRef := ⟨(AFE_WCH_CMP.addr n w k), 0, 16⟩
def AFE_WCH_CMP.BAND (n w k : Nat) : FRef := ⟨(AFE_WCH_CMP.addr n w k), 16, 2⟩
def AFE_WCH_CMP.TAVG (n w k : Nat) : FRef := ⟨(AFE_WCH_CMP.addr n w k), 18, 2⟩
def AFE_WCH_CMP.HYST (n w k : Nat) : FRef := ⟨(AFE_WCH_CMP.addr n w k), 20, 3⟩
/-- AFE_WCH_RMS, 07_analog_inputs.md Table 07-21. -/
def AFE_WCH_RMS.addr (n w : Nat) : Nat := 0x4004020c + 0x10000 * n + 0x10 * w
def AFE_WCH_RMS.RMS0 (n w : Nat) : FRef := ⟨(AFE_WCH_RMS.addr n w), 0, 16⟩
def AFE_WCH_RMS.RMS1 (n w : Nat) : FRef := ⟨(AFE_WCH_RMS.addr n w), 16, 16⟩
/-- AFE_WATCH_STAT, 07_analog_inputs.md Table 07-22. -/
def AFE_WATCH_STAT.addr (n : Nat) : Nat := 0x40040240 + 0x10000 * n
def AFE_WATCH_STAT.HPTR (n : Nat) : FRef := ⟨(AFE_WATCH_STAT.addr n), 0, 15⟩
def AFE_WATCH_STAT.VALID (n : Nat) : FRef := ⟨(AFE_WATCH_STAT.addr n), 15, 1⟩
def AFE_WATCH_STAT.HIT (n : Nat) : FRef := ⟨(AFE_WATCH_STAT.addr n), 16, 8⟩
/-- TCH_STATUS, 07_analog_inputs.md Table 07-24. -/
def TCH_STATUS.addr : Nat := 0x40060000
def TCH_STATUS.STOPPED : FRef := ⟨TCH_STATUS.addr, 0, 8⟩
def TCH_STATUS.DIRREV : FRef := ⟨TCH_STATUS.addr, 8, 8⟩
def TCH_STATUS.ACTIVE : FRef := ⟨TCH_STATUS.addr, 16, 8⟩
/-- TCH_OVR_STICKY, 07_analog_inputs.md Table 07-25. -/
def TCH_OVR_STICKY.addr : Nat := 0x40060004
def TCH_OVR_STICKY.OVR : FRef := ⟨TCH_OVR_STICKY.addr, 0, 8⟩
/-- TCH_CFG, 07_analog_inputs.md Table 07-26. -/
def TCH_CFG.addr (i : Nat) : Nat := 0x40060100 + 0x40 * i
def TCH_CFG.MODE (i : Nat) : FRef := ⟨(TCH_CFG.addr i), 0, 2⟩
def TCH_CFG.EDGE (i : Nat) : FRef := ⟨(TCH_CFG.addr i), 2, 2⟩
def TCH_CFG.FILT (i : Nat) : FRef := ⟨(TCH_CFG.addr i), 4, 5⟩
def TCH_CFG.ZEN (i : Nat) : FRef := ⟨(TCH_CFG.addr i), 9, 1⟩
def TCH_CFG.ZRST (i : Nat) : FRef := ⟨(TCH_CFG.addr i), 10, 1⟩
def TCH_CFG.INV_DIR (i : Nat) : FRef := ⟨(TCH_CFG.addr i), 11, 1⟩
def TCH_CFG.SEL (i : Nat) : FRef := ⟨(TCH_CFG.addr i), 12, 2⟩
/-- TCH_DIV, 07_analog_inputs.md Table 07-27. -/
def TCH_DIV.addr (i : Nat) : Nat := 0x40060104 + 0x40 * i
def TCH_DIV.COUNTS (i : Nat) : FRef := ⟨(TCH_DIV.addr i), 0, 16⟩
def TCH_DIV.DECIM (i : Nat) : FRef := ⟨(TCH_DIV.addr i), 16, 12⟩
/-- TCH_TIMEOUT, 07_analog_inputs.md Table 07-28. -/
def TCH_TIMEOUT.addr (i : Nat) : Nat := 0x40060108 + 0x40 * i
def TCH_TIMEOUT.MS (i : Nat) : FRef := ⟨(TCH_TIMEOUT.addr i), 0, 16⟩
/-- TCH_POS, 07_analog_inputs.md Table 07-29. -/
def TCH_POS.addr (i : Nat) : Nat := 0x4006010c + 0x40 * i
def TCH_POS.POS (i : Nat) : FRef := ⟨(TCH_POS.addr i), 0, 32⟩
/-- TCH_REV, 07_analog_inputs.md Table 07-29. -/
def TCH_REV.addr (i : Nat) : Nat := 0x40060110 + 0x40 * i
def TCH_REV.REV (i : Nat) : FRef := ⟨(TCH_REV.addr i), 0, 32⟩
/-- TCH_LAST_LO, 07_analog_inputs.md Table 07-30. -/
def TCH_LAST_LO.addr (i : Nat) : Nat := 0x40060114 + 0x40 * i
def TCH_LAST_LO.NS (i : Nat) : FRef := ⟨(TCH_LAST_LO.addr i), 0, 32⟩
/-- TCH_LAST_HI, 07_analog_inputs.md Table 07-30. -/
def TCH_LAST_HI.addr (i : Nat) : Nat := 0x40060118 + 0x40 * i
def TCH_LAST_HI.NS (i : Nat) : FRef := ⟨(TCH_LAST_HI.addr i), 0, 32⟩
/-- TCH_PERIOD, 07_analog_inputs.md Table 07-29. -/
def TCH_PERIOD.addr (i : Nat) : Nat := 0x4006011c + 0x40 * i
def TCH_PERIOD.PERIOD (i : Nat) : FRef := ⟨(TCH_PERIOD.addr i), 0, 32⟩
/-- TCH_CNT, 07_analog_inputs.md Table 07-31. -/
def TCH_CNT.addr (i : Nat) : Nat := 0x40060120 + 0x40 * i
def TCH_CNT.QERR (i : Nat) : FRef := ⟨(TCH_CNT.addr i), 0, 16⟩
def TCH_CNT.LOST (i : Nat) : FRef := ⟨(TCH_CNT.addr i), 16, 16⟩
/-- CNP_STATUS, 08_canopy_tiles.md Table 08-9. -/
def CNP_STATUS.addr (b : Nat) : Nat := 0x40080000 + 0x10000 * b
def CNP_STATUS.ACTIVE (b : Nat) : FRef := ⟨(CNP_STATUS.addr b), 0, 1⟩
def CNP_STATUS.GRAFT (b : Nat) : FRef := ⟨(CNP_STATUS.addr b), 1, 1⟩
/-- CNP_IMG, 08_canopy_tiles.md Table 08-10. -/
def CNP_IMG.addr (b : Nat) : Nat := 0x40080004 + 0x10000 * b
def CNP_IMG.ID (b : Nat) : FRef := ⟨(CNP_IMG.addr b), 0, 32⟩
/-- CNP_DROP, 08_canopy_tiles.md Table 08-11. -/
def CNP_DROP.addr (b : Nat) : Nat := 0x40080008 + 0x10000 * b
def CNP_DROP.ING (b : Nat) : FRef := ⟨(CNP_DROP.addr b), 0, 16⟩
def CNP_DROP.LANE (b : Nat) : FRef := ⟨(CNP_DROP.addr b), 16, 16⟩
/-- CNP_SETTLE_CNT, 08_canopy_tiles.md Table 08-12. -/
def CNP_SETTLE_CNT.addr (b : Nat) : Nat := 0x4008000c + 0x10000 * b
def CNP_SETTLE_CNT.COUNT (b : Nat) : FRef := ⟨(CNP_SETTLE_CNT.addr b), 0, 32⟩
/-- CNP_GAP_CNT, 08_canopy_tiles.md Table 08-12. -/
def CNP_GAP_CNT.addr (b : Nat) : Nat := 0x40080010 + 0x10000 * b
def CNP_GAP_CNT.COUNT (b : Nat) : FRef := ⟨(CNP_GAP_CNT.addr b), 0, 32⟩
/-- CNP_TUNE_REJ, 08_canopy_tiles.md Table 08-12. -/
def CNP_TUNE_REJ.addr (b : Nat) : Nat := 0x40080014 + 0x10000 * b
def CNP_TUNE_REJ.COUNT (b : Nat) : FRef := ⟨(CNP_TUNE_REJ.addr b), 0, 32⟩
/-- CNP_T_INFO, 08_canopy_tiles.md Table 08-13. -/
def CNP_T_INFO.addr (b t : Nat) : Nat := 0x40081000 + 0x10000 * b + 0x400 * t
def CNP_T_INFO.TYPE (b t : Nat) : FRef := ⟨(CNP_T_INFO.addr b t), 0, 4⟩
def CNP_T_INFO.USED (b t : Nat) : FRef := ⟨(CNP_T_INFO.addr b t), 4, 1⟩
def CNP_T_INFO.NCTX (b t : Nat) : FRef := ⟨(CNP_T_INFO.addr b t), 5, 5⟩
/-- CNP_T_TUNE, 08_canopy_tiles.md Table 08-14. -/
def CNP_T_TUNE.addr (b t : Nat) : Nat := 0x40081004 + 0x10000 * b + 0x400 * t
def CNP_T_TUNE.P (b t : Nat) : FRef := ⟨(CNP_T_TUNE.addr b t), 0, 24⟩
def CNP_T_TUNE.TABLE (b t : Nat) : FRef := ⟨(CNP_T_TUNE.addr b t), 31, 1⟩
/-- CNP_T_STAT, 08_canopy_tiles.md Table 08-15. -/
def CNP_T_STAT.addr (b t : Nat) : Nat := 0x40081008 + 0x10000 * b + 0x400 * t
def CNP_T_STAT.MEMCOR (b t : Nat) : FRef := ⟨(CNP_T_STAT.addr b t), 0, 1⟩
def CNP_T_STAT.GAP (b t : Nat) : FRef := ⟨(CNP_T_STAT.addr b t), 1, 1⟩
def CNP_T_STAT.TYPEERR (b t : Nat) : FRef := ⟨(CNP_T_STAT.addr b t), 2, 1⟩
/-- CNP_T_CNT, 08_canopy_tiles.md Table 08-16. -/
def CNP_T_CNT.addr (b t : Nat) : Nat := 0x4008100c + 0x10000 * b + 0x400 * t
def CNP_T_CNT.EVT (b t : Nat) : FRef := ⟨(CNP_T_CNT.addr b t), 0, 16⟩
def CNP_T_CNT.DROP (b t : Nat) : FRef := ⟨(CNP_T_CNT.addr b t), 16, 16⟩
/-- CNP_T_P, 08_canopy_tiles.md Table 08-8. -/
def CNP_T_P.addr (b t r : Nat) : Nat := 0x40081010 + 0x10000 * b + 0x400 * t + 0x4 * r
def CNP_T_P.V (b t r : Nat) : FRef := ⟨(CNP_T_P.addr b t r), 0, 32⟩
/-- CNP_T_ASTATE, 08_canopy_tiles.md Table 08-23. -/
def CNP_T_ASTATE.addr (b t h : Nat) : Nat := 0x40081080 + 0x10000 * b + 0x400 * t + 0x4 * h
def CNP_T_ASTATE.ST (b t h : Nat) : FRef := ⟨(CNP_T_ASTATE.addr b t h), 0, 32⟩
/-- CNP_T_AACK, 08_canopy_tiles.md Table 08-23. -/
def CNP_T_AACK.addr (b t : Nat) : Nat := 0x40081088 + 0x10000 * b + 0x400 * t
def CNP_T_AACK.LATCHED (b t : Nat) : FRef := ⟨(CNP_T_AACK.addr b t), 0, 32⟩
/-- CNP_T_TAB, 08_canopy_tiles.md Table 08-8. -/
def CNP_T_TAB.addr (b t w : Nat) : Nat := 0x40081100 + 0x10000 * b + 0x400 * t + 0x4 * w
def CNP_T_TAB.V (b t w : Nat) : FRef := ⟨(CNP_T_TAB.addr b t w), 0, 32⟩
/-- CNP_USERWIN, 08_canopy_tiles.md. -/
def CNP_USERWIN.addr (b f w : Nat) : Nat := 0x40088000 + 0x10000 * b + 0x1000 * f + 0x4 * w
def CNP_USERWIN.V (b f w : Nat) : FRef := ⟨(CNP_USERWIN.addr b f w), 0, 32⟩
/-- CNX_STATUS, 08_canopy_tiles.md Table 08-25. -/
def CNX_STATUS.addr : Nat := 0x400c0000
def CNX_STATUS.APPLIED : FRef := ⟨CNX_STATUS.addr, 0, 1⟩
/-- CNX_ING, 08_canopy_tiles.md Table 08-25. -/
def CNX_ING.addr (b p : Nat) : Nat := 0x400c0100 + 0x40 * b + 0x4 * p
def CNX_ING.CH (b p : Nat) : FRef := ⟨(CNX_ING.addr b p), 0, 5⟩
def CNX_ING.EN (b p : Nat) : FRef := ⟨(CNX_ING.addr b p), 5, 1⟩
/-- CNX_ALLOW, 08_canopy_tiles.md Table 08-25. -/
def CNX_ALLOW.addr (b p : Nat) : Nat := 0x400c0200 + 0x40 * b + 0x4 * p
def CNX_ALLOW.MASK (b p : Nat) : FRef := ⟨(CNX_ALLOW.addr b p), 0, 32⟩
/-- CNX_XL, 08_canopy_tiles.md Table 08-25. -/
def CNX_XL.addr (s : Nat) : Nat := 0x400c0400 + 0x4 * s
def CNX_XL.BOUGH (s : Nat) : FRef := ⟨(CNX_XL.addr s), 0, 2⟩
def CNX_XL.TILE (s : Nat) : FRef := ⟨(CNX_XL.addr s), 2, 4⟩
def CNX_XL.DEST (s : Nat) : FRef := ⟨(CNX_XL.addr s), 6, 4⟩
def CNX_XL.USED (s : Nat) : FRef := ⟨(CNX_XL.addr s), 10, 1⟩
/-- CNX_STP, 08_canopy_tiles.md Table 08-25. -/
def CNX_STP.addr (b : Nat) : Nat := 0x400c0500 + 0x4 * b
def CNX_STP.IN0 (b : Nat) : FRef := ⟨(CNX_STP.addr b), 0, 3⟩
def CNX_STP.USED0 (b : Nat) : FRef := ⟨(CNX_STP.addr b), 3, 1⟩
def CNX_STP.IN1 (b : Nat) : FRef := ⟨(CNX_STP.addr b), 8, 3⟩
def CNX_STP.USED1 (b : Nat) : FRef := ⟨(CNX_STP.addr b), 11, 1⟩
def CNX_STP.IN2 (b : Nat) : FRef := ⟨(CNX_STP.addr b), 16, 3⟩
def CNX_STP.USED2 (b : Nat) : FRef := ⟨(CNX_STP.addr b), 19, 1⟩
def CNX_STP.IN3 (b : Nat) : FRef := ⟨(CNX_STP.addr b), 24, 3⟩
def CNX_STP.USED3 (b : Nat) : FRef := ⟨(CNX_STP.addr b), 27, 1⟩
/-- SEC_CTRL, 09_structure_images.md Table 09-11. -/
def SEC_CTRL.addr : Nat := 0x40230000
def SEC_CTRL.LOCK : FRef := ⟨SEC_CTRL.addr, 0, 1⟩
/-- SEC_IMG_ADDR, 09_structure_images.md Table 09-12. -/
def SEC_IMG_ADDR.addr : Nat := 0x40230010
def SEC_IMG_ADDR.VALUE : FRef := ⟨SEC_IMG_ADDR.addr, 0, 26⟩
/-- SEC_IMG_LEN, 09_structure_images.md Table 09-12. -/
def SEC_IMG_LEN.addr : Nat := 0x40230014
def SEC_IMG_LEN.VALUE : FRef := ⟨SEC_IMG_LEN.addr, 0, 26⟩
/-- SEC_IMG_CTRL, 09_structure_images.md Table 09-13. -/
def SEC_IMG_CTRL.addr : Nat := 0x40230018
def SEC_IMG_CTRL.OP : FRef := ⟨SEC_IMG_CTRL.addr, 0, 4⟩
def SEC_IMG_CTRL.BOUGH : FRef := ⟨SEC_IMG_CTRL.addr, 4, 2⟩
def SEC_IMG_CTRL.ARB_ID : FRef := ⟨SEC_IMG_CTRL.addr, 8, 3⟩
def SEC_IMG_CTRL.GO : FRef := ⟨SEC_IMG_CTRL.addr, 31, 1⟩
/-- SEC_IMG_STAT, 09_structure_images.md Table 09-14. -/
def SEC_IMG_STAT.addr : Nat := 0x4023001c
def SEC_IMG_STAT.RESULT : FRef := ⟨SEC_IMG_STAT.addr, 0, 4⟩
def SEC_IMG_STAT.TENANT : FRef := ⟨SEC_IMG_STAT.addr, 4, 3⟩
def SEC_IMG_STAT.BUSY : FRef := ⟨SEC_IMG_STAT.addr, 7, 1⟩
def SEC_IMG_STAT.SECT : FRef := ⟨SEC_IMG_STAT.addr, 8, 6⟩
/-- SEC_IMG_PERM, 09_structure_images.md Table 09-15. -/
def SEC_IMG_PERM.addr : Nat := 0x40230020
def SEC_IMG_PERM.INSTALL : FRef := ⟨SEC_IMG_PERM.addr, 0, 8⟩
def SEC_IMG_PERM.GRAFT : FRef := ⟨SEC_IMG_PERM.addr, 8, 8⟩
def SEC_IMG_PERM.ARB : FRef := ⟨SEC_IMG_PERM.addr, 16, 8⟩
/-- SEC_IMG_ARB, 09_structure_images.md Table 09-16. -/
def SEC_IMG_ARB.addr : Nat := 0x40230024
def SEC_IMG_ARB.VALUE : FRef := ⟨SEC_IMG_ARB.addr, 0, 32⟩
/-- SEC_SLOT_ID, 09_structure_images.md Table 09-17. -/
def SEC_SLOT_ID.addr (x : Nat) : Nat := 0x40230030 + 0x8 * x
def SEC_SLOT_ID.IMAGE_ID (x : Nat) : FRef := ⟨(SEC_SLOT_ID.addr x), 0, 32⟩
/-- SEC_SLOT_INFO, 09_structure_images.md Table 09-17. -/
def SEC_SLOT_INFO.addr (x : Nat) : Nat := 0x40230034 + 0x8 * x
def SEC_SLOT_INFO.VALID (x : Nat) : FRef := ⟨(SEC_SLOT_INFO.addr x), 0, 1⟩
def SEC_SLOT_INFO.ARB_ID (x : Nat) : FRef := ⟨(SEC_SLOT_INFO.addr x), 1, 3⟩
def SEC_SLOT_INFO.SEQ (x : Nat) : FRef := ⟨(SEC_SLOT_INFO.addr x), 16, 16⟩
/-- SEC_ARB, 09_structure_images.md Table 09-18. -/
def SEC_ARB.addr (k : Nat) : Nat := 0x40230040 + 0x4 * k
def SEC_ARB.COUNT (k : Nat) : FRef := ⟨(SEC_ARB.addr k), 0, 32⟩
/-- SEC_KEYHASH, 09_structure_images.md Table 09-18. -/
def SEC_KEYHASH.addr (x j : Nat) : Nat := 0x40230080 + 0x20 * x + 0x4 * j
def SEC_KEYHASH.HASH (x j : Nat) : FRef := ⟨(SEC_KEYHASH.addr x j), 0, 32⟩
/-- REC_STATUS, 10_records_and_capture_store.md Table 10-9. -/
def REC_STATUS.addr : Nat := 0x40100000
def REC_STATUS.QUEUE : FRef := ⟨REC_STATUS.addr, 0, 7⟩
/-- REC_CNT, 10_records_and_capture_store.md Table 10-9. -/
def REC_CNT.addr : Nat := 0x40100004
def REC_CNT.UNSUB : FRef := ⟨REC_CNT.addr, 0, 16⟩
def REC_CNT.REFUSED : FRef := ⟨REC_CNT.addr, 16, 16⟩
/-- REC_CNT2, 10_records_and_capture_store.md Table 10-9. -/
def REC_CNT2.addr : Nat := 0x40100008
def REC_CNT2.FANOUT : FRef := ⟨REC_CNT2.addr, 0, 16⟩
def REC_CNT2.RSV : FRef := ⟨REC_CNT2.addr, 16, 16⟩
/-- REC_POST, 10_records_and_capture_store.md Table 10-10. -/
def REC_POST.addr : Nat := 0x40100010
def REC_POST.BUF : FRef := ⟨REC_POST.addr, 0, 14⟩
/-- REC_POST_RES, 10_records_and_capture_store.md Table 10-10. -/
def REC_POST_RES.addr : Nat := 0x40100014
def REC_POST_RES.STATUS : FRef := ⟨REC_POST_RES.addr, 0, 2⟩
/-- REC_CAP_TRIG, 10_records_and_capture_store.md Table 10-11. -/
def REC_CAP_TRIG.addr : Nat := 0x40100020
def REC_CAP_TRIG.TRIG : FRef := ⟨REC_CAP_TRIG.addr, 0, 32⟩
/-- REC_CAP_BUSY, 10_records_and_capture_store.md Table 10-11. -/
def REC_CAP_BUSY.addr : Nat := 0x40100024
def REC_CAP_BUSY.BUSY : FRef := ⟨REC_CAP_BUSY.addr, 0, 32⟩
/-- REC_CAP_CNT, 10_records_and_capture_store.md Table 10-11. -/
def REC_CAP_CNT.addr : Nat := 0x40100028
def REC_CAP_CNT.IGN : FRef := ⟨REC_CAP_CNT.addr, 0, 16⟩
def REC_CAP_CNT.SHORT : FRef := ⟨REC_CAP_CNT.addr, 16, 16⟩
/-- REC_CAP_CFG, 10_records_and_capture_store.md Table 10-12. -/
def REC_CAP_CFG.addr (n : Nat) : Nat := 0x40100100 + 0x4 * n
def REC_CAP_CFG.PRE_K (n : Nat) : FRef := ⟨(REC_CAP_CFG.addr n), 0, 10⟩
def REC_CAP_CFG.POST_K (n : Nat) : FRef := ⟨(REC_CAP_CFG.addr n), 10, 10⟩
def REC_CAP_CFG.PT (n : Nat) : FRef := ⟨(REC_CAP_CFG.addr n), 20, 7⟩
def REC_CAP_CFG.PT_EN (n : Nat) : FRef := ⟨(REC_CAP_CFG.addr n), 27, 1⟩
def REC_CAP_CFG.EN (n : Nat) : FRef := ⟨(REC_CAP_CFG.addr n), 28, 1⟩
/-- REC_SUB_MATCH, 10_records_and_capture_store.md Table 10-13. -/
def REC_SUB_MATCH.addr (s : Nat) : Nat := 0x40102000 + 0x20 * s
def REC_SUB_MATCH.SUBSRC (s : Nat) : FRef := ⟨(REC_SUB_MATCH.addr s), 0, 16⟩
def REC_SUB_MATCH.RTYPE (s : Nat) : FRef := ⟨(REC_SUB_MATCH.addr s), 16, 8⟩
def REC_SUB_MATCH.RMASK (s : Nat) : FRef := ⟨(REC_SUB_MATCH.addr s), 24, 8⟩
/-- REC_SUB_CTL, 10_records_and_capture_store.md Table 10-13. -/
def REC_SUB_CTL.addr (s : Nat) : Nat := 0x40102004 + 0x20 * s
def REC_SUB_CTL.EN (s : Nat) : FRef := ⟨(REC_SUB_CTL.addr s), 0, 1⟩
def REC_SUB_CTL.TENANT (s : Nat) : FRef := ⟨(REC_SUB_CTL.addr s), 1, 3⟩
def REC_SUB_CTL.CLASS (s : Nat) : FRef := ⟨(REC_SUB_CTL.addr s), 4, 3⟩
def REC_SUB_CTL.METHOD (s : Nat) : FRef := ⟨(REC_SUB_CTL.addr s), 7, 1⟩
def REC_SUB_CTL.PCRC (s : Nat) : FRef := ⟨(REC_SUB_CTL.addr s), 8, 1⟩
def REC_SUB_CTL.OID (s : Nat) : FRef := ⟨(REC_SUB_CTL.addr s), 9, 6⟩
/-- REC_SUB_RBASE_LO, 10_records_and_capture_store.md Table 10-14. -/
def REC_SUB_RBASE_LO.addr (s : Nat) : Nat := 0x40102008 + 0x20 * s
def REC_SUB_RBASE_LO.ADDR (s : Nat) : FRef := ⟨(REC_SUB_RBASE_LO.addr s), 0, 32⟩
/-- REC_SUB_RBASE_HI, 10_records_and_capture_store.md Table 10-14. -/
def REC_SUB_RBASE_HI.addr (s : Nat) : Nat := 0x4010200c + 0x20 * s
def REC_SUB_RBASE_HI.ADDR (s : Nat) : FRef := ⟨(REC_SUB_RBASE_HI.addr s), 0, 16⟩
/-- REC_SUB_RSIZE, 10_records_and_capture_store.md Table 10-14. -/
def REC_SUB_RSIZE.addr (s : Nat) : Nat := 0x40102010 + 0x20 * s
def REC_SUB_RSIZE.LOG (s : Nat) : FRef := ⟨(REC_SUB_RSIZE.addr s), 0, 5⟩
/-- REC_SUB_RDPTR, 10_records_and_capture_store.md Table 10-15. -/
def REC_SUB_RDPTR.addr (s : Nat) : Nat := 0x40102014 + 0x20 * s
def REC_SUB_RDPTR.OFF (s : Nat) : FRef := ⟨(REC_SUB_RDPTR.addr s), 0, 25⟩
/-- REC_SUB_WPTR, 10_records_and_capture_store.md Table 10-15. -/
def REC_SUB_WPTR.addr (s : Nat) : Nat := 0x40102018 + 0x20 * s
def REC_SUB_WPTR.OFF (s : Nat) : FRef := ⟨(REC_SUB_WPTR.addr s), 0, 25⟩
/-- REC_SUB_CNT, 10_records_and_capture_store.md Table 10-15. -/
def REC_SUB_CNT.addr (s : Nat) : Nat := 0x4010201c + 0x20 * s
def REC_SUB_CNT.FULL (s : Nat) : FRef := ⟨(REC_SUB_CNT.addr s), 0, 16⟩
def REC_SUB_CNT.QUOTA (s : Nat) : FRef := ⟨(REC_SUB_CNT.addr s), 16, 8⟩
def REC_SUB_CNT.ERR (s : Nat) : FRef := ⟨(REC_SUB_CNT.addr s), 24, 8⟩
/-- BUF_STATUS, 10_records_and_capture_store.md Table 10-16. -/
def BUF_STATUS.addr : Nat := 0x40110000
def BUF_STATUS.FREE : FRef := ⟨BUF_STATUS.addr, 0, 15⟩
def BUF_STATUS.PARTED : FRef := ⟨BUF_STATUS.addr, 15, 1⟩
/-- BUF_PART, 10_records_and_capture_store.md Table 10-16. -/
def BUF_PART.addr : Nat := 0x40110004
def BUF_PART.APPLY : FRef := ⟨BUF_PART.addr, 0, 1⟩
def BUF_PART.STAT : FRef := ⟨BUF_PART.addr, 1, 2⟩
/-- BUF_CMD, 10_records_and_capture_store.md Table 10-16. -/
def BUF_CMD.addr : Nat := 0x40110010
def BUF_CMD.OP : FRef := ⟨BUF_CMD.addr, 0, 3⟩
def BUF_CMD.COUNT : FRef := ⟨BUF_CMD.addr, 3, 9⟩
def BUF_CMD.BUF : FRef := ⟨BUF_CMD.addr, 16, 14⟩
/-- BUF_RESULT, 10_records_and_capture_store.md Table 10-16. -/
def BUF_RESULT.addr : Nat := 0x40110014
def BUF_RESULT.STATUS : FRef := ⟨BUF_RESULT.addr, 0, 3⟩
def BUF_RESULT.NDONE : FRef := ⟨BUF_RESULT.addr, 4, 12⟩
def BUF_RESULT.BUF : FRef := ⟨BUF_RESULT.addr, 16, 14⟩
/-- BUF_QUERY, 10_records_and_capture_store.md Table 10-17. -/
def BUF_QUERY.addr : Nat := 0x40110018
def BUF_QUERY.BUF : FRef := ⟨BUF_QUERY.addr, 0, 14⟩
/-- BUF_OWNER, 10_records_and_capture_store.md Table 10-17. -/
def BUF_OWNER.addr : Nat := 0x4011001c
def BUF_OWNER.OWNER : FRef := ⟨BUF_OWNER.addr, 0, 4⟩
def BUF_OWNER.CHARGE : FRef := ⟨BUF_OWNER.addr, 4, 4⟩
/-- BUF_CNT, 10_records_and_capture_store.md Table 10-18. -/
def BUF_CNT.addr : Nat := 0x40110080
def BUF_CNT.DOUBLE : FRef := ⟨BUF_CNT.addr, 0, 16⟩
def BUF_CNT.FOREIGN : FRef := ⟨BUF_CNT.addr, 16, 16⟩
/-- BUF_RSV, 10_records_and_capture_store.md Table 10-18. -/
def BUF_RSV.addr : Nat := 0x40110084
def BUF_RSV.CORE : FRef := ⟨BUF_RSV.addr, 0, 4⟩
/-- BUF_QUOTA, 10_records_and_capture_store.md Table 10-17. -/
def BUF_QUOTA.addr (t : Nat) : Nat := 0x40110040 + 0x4 * t
def BUF_QUOTA.QUOTA (t : Nat) : FRef := ⟨(BUF_QUOTA.addr t), 0, 15⟩
/-- BUF_HELD, 10_records_and_capture_store.md Table 10-17. -/
def BUF_HELD.addr (t : Nat) : Nat := 0x40110060 + 0x4 * t
def BUF_HELD.HELD (t : Nat) : FRef := ⟨(BUF_HELD.addr t), 0, 15⟩
/-- BUF_RING, 10_records_and_capture_store.md Table 10-18. -/
def BUF_RING.addr (n : Nat) : Nat := 0x40110100 + 0x4 * n
def BUF_RING.LOG (n : Nat) : FRef := ⟨(BUF_RING.addr n), 0, 4⟩
/-- HWD_STATUS, 11_heartwood.md Table 11-7. -/
def HWD_STATUS.addr : Nat := 0x40120000
def HWD_STATUS.READY : FRef := ⟨HWD_STATUS.addr, 0, 1⟩
def HWD_STATUS.REPLAY : FRef := ⟨HWD_STATUS.addr, 1, 1⟩
def HWD_STATUS.READONLY : FRef := ⟨HWD_STATUS.addr, 2, 1⟩
def HWD_STATUS.JBUSY : FRef := ⟨HWD_STATUS.addr, 3, 1⟩
/-- HWD_CTRL, 11_heartwood.md Table 11-8. -/
def HWD_CTRL.addr : Nat := 0x40120004
def HWD_CTRL.LOCK : FRef := ⟨HWD_CTRL.addr, 0, 1⟩
/-- HWD_WPERM, 11_heartwood.md Table 11-8. -/
def HWD_WPERM.addr : Nat := 0x40120008
def HWD_WPERM.TREND : FRef := ⟨HWD_WPERM.addr, 0, 8⟩
def HWD_WPERM.CONF : FRef := ⟨HWD_WPERM.addr, 8, 8⟩
def HWD_WPERM.KEYLOCK : FRef := ⟨HWD_WPERM.addr, 16, 8⟩
/-- HWD_CNT, 11_heartwood.md Table 11-9. -/
def HWD_CNT.addr : Nat := 0x4012000c
def HWD_CNT.COR : FRef := ⟨HWD_CNT.addr, 0, 16⟩
def HWD_CNT.UNC : FRef := ⟨HWD_CNT.addr, 16, 8⟩
def HWD_CNT.LINK : FRef := ⟨HWD_CNT.addr, 24, 8⟩
/-- HWD_JFREE, 11_heartwood.md Table 11-9. -/
def HWD_JFREE.addr : Nat := 0x40120010
def HWD_JFREE.BYTES : FRef := ⟨HWD_JFREE.addr, 0, 20⟩
/-- HWD_BOOT_WCNT, 11_heartwood.md Table 11-9. -/
def HWD_BOOT_WCNT.addr : Nat := 0x40120014
def HWD_BOOT_WCNT.COUNT : FRef := ⟨HWD_BOOT_WCNT.addr, 0, 32⟩
/-- HWD_TR_CFG, 11_heartwood.md Table 11-10. -/
def HWD_TR_CFG.addr : Nat := 0x40120020
def HWD_TR_CFG.NOWRAP : FRef := ⟨HWD_TR_CFG.addr, 0, 1⟩
/-- HWD_TR_CNT, 11_heartwood.md Table 11-10. -/
def HWD_TR_CNT.addr : Nat := 0x4012002c
def HWD_TR_CNT.OVER : FRef := ⟨HWD_TR_CNT.addr, 0, 16⟩
def HWD_TR_CNT.REFUSED : FRef := ⟨HWD_TR_CNT.addr, 16, 16⟩
/-- HWD_EVT_HEAD, 11_heartwood.md Table 11-10. -/
def HWD_EVT_HEAD.addr : Nat := 0x40120030
def HWD_EVT_HEAD.ENTRY : FRef := ⟨HWD_EVT_HEAD.addr, 0, 15⟩
/-- HWD_EVT_SEQ, 11_heartwood.md Table 11-10. -/
def HWD_EVT_SEQ.addr : Nat := 0x40120034
def HWD_EVT_SEQ.ESEQ : FRef := ⟨HWD_EVT_SEQ.addr, 0, 32⟩
/-- HWD_EVT_CNT, 11_heartwood.md Table 11-10. -/
def HWD_EVT_CNT.addr : Nat := 0x40120038
def HWD_EVT_CNT.DROP : FRef := ⟨HWD_EVT_CNT.addr, 0, 16⟩
/-- HWD_KEYS_LOCK, 11_heartwood.md Table 11-11. -/
def HWD_KEYS_LOCK.addr : Nat := 0x40120040
def HWD_KEYS_LOCK.LOCKED : FRef := ⟨HWD_KEYS_LOCK.addr, 0, 16⟩
/-- HWD_KEYS_LOCK_SET, 11_heartwood.md Table 11-11. -/
def HWD_KEYS_LOCK_SET.addr : Nat := 0x40120044
def HWD_KEYS_LOCK_SET.BLOCKS : FRef := ⟨HWD_KEYS_LOCK_SET.addr, 0, 16⟩
def HWD_KEYS_LOCK_SET.KEY : FRef := ⟨HWD_KEYS_LOCK_SET.addr, 16, 16⟩
/-- HWD_TR_HEAD, 11_heartwood.md Table 11-10. -/
def HWD_TR_HEAD.addr : Nat := 0x40120024
def HWD_TR_HEAD.OFF : FRef := ⟨HWD_TR_HEAD.addr, 0, 24⟩
/-- HWD_TR_TAIL, 11_heartwood.md Table 11-10. -/
def HWD_TR_TAIL.addr : Nat := 0x40120028
def HWD_TR_TAIL.OFF : FRef := ⟨HWD_TR_TAIL.addr, 0, 24⟩
/-- HWD_TXN_CTRL, 11_heartwood.md Table 11-12. -/
def HWD_TXN_CTRL.addr (t : Nat) : Nat := 0x40120100 + 0x20 * t
def HWD_TXN_CTRL.OP (t : Nat) : FRef := ⟨(HWD_TXN_CTRL.addr t), 0, 2⟩
/-- HWD_TXN_STAT, 11_heartwood.md Table 11-12. -/
def HWD_TXN_STAT.addr (t : Nat) : Nat := 0x40120104 + 0x20 * t
def HWD_TXN_STAT.STATE (t : Nat) : FRef := ⟨(HWD_TXN_STAT.addr t), 0, 3⟩
def HWD_TXN_STAT.RESULT (t : Nat) : FRef := ⟨(HWD_TXN_STAT.addr t), 4, 4⟩
def HWD_TXN_STAT.NENT (t : Nat) : FRef := ⟨(HWD_TXN_STAT.addr t), 8, 9⟩
def HWD_TXN_STAT.PEND (t : Nat) : FRef := ⟨(HWD_TXN_STAT.addr t), 17, 9⟩
/-- HWD_TXN_COST, 11_heartwood.md Table 11-12. -/
def HWD_TXN_COST.addr (t : Nat) : Nat := 0x40120108 + 0x20 * t
def HWD_TXN_COST.BYTES (t : Nat) : FRef := ⟨(HWD_TXN_COST.addr t), 0, 20⟩
/-- HWD_JE_SRC, 11_heartwood.md Table 11-12. -/
def HWD_JE_SRC.addr (t : Nat) : Nat := 0x4012010c + 0x20 * t
def HWD_JE_SRC.ADDR (t : Nat) : FRef := ⟨(HWD_JE_SRC.addr t), 0, 26⟩
/-- HWD_JE_DST, 11_heartwood.md Table 11-12. -/
def HWD_JE_DST.addr (t : Nat) : Nat := 0x40120110 + 0x20 * t
def HWD_JE_DST.OFF (t : Nat) : FRef := ⟨(HWD_JE_DST.addr t), 0, 18⟩
def HWD_JE_DST.KIND (t : Nat) : FRef := ⟨(HWD_JE_DST.addr t), 31, 1⟩
/-- HWD_JE_LEN, 11_heartwood.md Table 11-12. -/
def HWD_JE_LEN.addr (t : Nat) : Nat := 0x40120114 + 0x20 * t
def HWD_JE_LEN.BYTES (t : Nat) : FRef := ⟨(HWD_JE_LEN.addr t), 0, 17⟩
/-- HWD_JE_GO, 11_heartwood.md Table 11-12. -/
def HWD_JE_GO.addr (t : Nat) : Nat := 0x40120118 + 0x20 * t
def HWD_JE_GO.GO (t : Nat) : FRef := ⟨(HWD_JE_GO.addr t), 0, 1⟩
/-- HWD_CONF_IADDR, 05_register_conventions.md Table 05-5. -/
def HWD_CONF_IADDR.addr : Nat := 0x40120200
def HWD_CONF_IADDR.WADDR : FRef := ⟨HWD_CONF_IADDR.addr, 0, 24⟩
def HWD_CONF_IADDR.AUTOINC : FRef := ⟨HWD_CONF_IADDR.addr, 30, 1⟩
def HWD_CONF_IADDR.RELEASE : FRef := ⟨HWD_CONF_IADDR.addr, 31, 1⟩
/-- HWD_CONF_IDATA, 05_register_conventions.md Table 05-5. -/
def HWD_CONF_IDATA.addr : Nat := 0x40120204
def HWD_CONF_IDATA.DATA : FRef := ⟨HWD_CONF_IDATA.addr, 0, 32⟩
/-- HWD_CONF_ISTAT, 05_register_conventions.md Table 05-5. -/
def HWD_CONF_ISTAT.addr : Nat := 0x40120208
def HWD_CONF_ISTAT.READY : FRef := ⟨HWD_CONF_ISTAT.addr, 0, 1⟩
def HWD_CONF_ISTAT.BUSY : FRef := ⟨HWD_CONF_ISTAT.addr, 1, 1⟩
def HWD_CONF_ISTAT.ERR : FRef := ⟨HWD_CONF_ISTAT.addr, 2, 1⟩
def HWD_CONF_ISTAT.UNDERRUN : FRef := ⟨HWD_CONF_ISTAT.addr, 3, 1⟩
def HWD_CONF_ISTAT.OVERFLOW : FRef := ⟨HWD_CONF_ISTAT.addr, 4, 1⟩
def HWD_CONF_ISTAT.OWNER : FRef := ⟨HWD_CONF_ISTAT.addr, 8, 3⟩
def HWD_CONF_ISTAT.OWNED : FRef := ⟨HWD_CONF_ISTAT.addr, 11, 1⟩
/-- GRV_SAP_IADDR, 05_register_conventions.md Table 05-5. -/
def GRV_SAP_IADDR.addr : Nat := 0x401e0010
def GRV_SAP_IADDR.WADDR : FRef := ⟨GRV_SAP_IADDR.addr, 0, 24⟩
def GRV_SAP_IADDR.AUTOINC : FRef := ⟨GRV_SAP_IADDR.addr, 30, 1⟩
def GRV_SAP_IADDR.RELEASE : FRef := ⟨GRV_SAP_IADDR.addr, 31, 1⟩
/-- GRV_SAP_IDATA, 05_register_conventions.md Table 05-5. -/
def GRV_SAP_IDATA.addr : Nat := 0x401e0014
def GRV_SAP_IDATA.DATA : FRef := ⟨GRV_SAP_IDATA.addr, 0, 32⟩
/-- GRV_SAP_ISTAT, 05_register_conventions.md Table 05-5. -/
def GRV_SAP_ISTAT.addr : Nat := 0x401e0018
def GRV_SAP_ISTAT.READY : FRef := ⟨GRV_SAP_ISTAT.addr, 0, 1⟩
def GRV_SAP_ISTAT.BUSY : FRef := ⟨GRV_SAP_ISTAT.addr, 1, 1⟩
def GRV_SAP_ISTAT.ERR : FRef := ⟨GRV_SAP_ISTAT.addr, 2, 1⟩
def GRV_SAP_ISTAT.UNDERRUN : FRef := ⟨GRV_SAP_ISTAT.addr, 3, 1⟩
def GRV_SAP_ISTAT.OVERFLOW : FRef := ⟨GRV_SAP_ISTAT.addr, 4, 1⟩
def GRV_SAP_ISTAT.OWNER : FRef := ⟨GRV_SAP_ISTAT.addr, 8, 3⟩
def GRV_SAP_ISTAT.OWNED : FRef := ⟨GRV_SAP_ISTAT.addr, 11, 1⟩
/-- GRV_SCHED_IADDR, 05_register_conventions.md Table 05-5. -/
def GRV_SCHED_IADDR.addr : Nat := 0x401e0020
def GRV_SCHED_IADDR.WADDR : FRef := ⟨GRV_SCHED_IADDR.addr, 0, 24⟩
def GRV_SCHED_IADDR.AUTOINC : FRef := ⟨GRV_SCHED_IADDR.addr, 30, 1⟩
def GRV_SCHED_IADDR.RELEASE : FRef := ⟨GRV_SCHED_IADDR.addr, 31, 1⟩
/-- GRV_SCHED_IDATA, 05_register_conventions.md Table 05-5. -/
def GRV_SCHED_IDATA.addr : Nat := 0x401e0024
def GRV_SCHED_IDATA.DATA : FRef := ⟨GRV_SCHED_IDATA.addr, 0, 32⟩
/-- GRV_SCHED_ISTAT, 05_register_conventions.md Table 05-5. -/
def GRV_SCHED_ISTAT.addr : Nat := 0x401e0028
def GRV_SCHED_ISTAT.READY : FRef := ⟨GRV_SCHED_ISTAT.addr, 0, 1⟩
def GRV_SCHED_ISTAT.BUSY : FRef := ⟨GRV_SCHED_ISTAT.addr, 1, 1⟩
def GRV_SCHED_ISTAT.ERR : FRef := ⟨GRV_SCHED_ISTAT.addr, 2, 1⟩
def GRV_SCHED_ISTAT.UNDERRUN : FRef := ⟨GRV_SCHED_ISTAT.addr, 3, 1⟩
def GRV_SCHED_ISTAT.OVERFLOW : FRef := ⟨GRV_SCHED_ISTAT.addr, 4, 1⟩
def GRV_SCHED_ISTAT.OWNER : FRef := ⟨GRV_SCHED_ISTAT.addr, 8, 3⟩
def GRV_SCHED_ISTAT.OWNED : FRef := ⟨GRV_SCHED_ISTAT.addr, 11, 1⟩
/-- DRV_TBL_IADDR, 05_register_conventions.md Table 05-5. -/
def DRV_TBL_IADDR.addr : Nat := 0x40210030
def DRV_TBL_IADDR.WADDR : FRef := ⟨DRV_TBL_IADDR.addr, 0, 24⟩
def DRV_TBL_IADDR.AUTOINC : FRef := ⟨DRV_TBL_IADDR.addr, 30, 1⟩
def DRV_TBL_IADDR.RELEASE : FRef := ⟨DRV_TBL_IADDR.addr, 31, 1⟩
/-- DRV_TBL_IDATA, 05_register_conventions.md Table 05-5. -/
def DRV_TBL_IDATA.addr : Nat := 0x40210034
def DRV_TBL_IDATA.DATA : FRef := ⟨DRV_TBL_IDATA.addr, 0, 32⟩
/-- DRV_TBL_ISTAT, 05_register_conventions.md Table 05-5. -/
def DRV_TBL_ISTAT.addr : Nat := 0x40210038
def DRV_TBL_ISTAT.READY : FRef := ⟨DRV_TBL_ISTAT.addr, 0, 1⟩
def DRV_TBL_ISTAT.BUSY : FRef := ⟨DRV_TBL_ISTAT.addr, 1, 1⟩
def DRV_TBL_ISTAT.ERR : FRef := ⟨DRV_TBL_ISTAT.addr, 2, 1⟩
def DRV_TBL_ISTAT.UNDERRUN : FRef := ⟨DRV_TBL_ISTAT.addr, 3, 1⟩
def DRV_TBL_ISTAT.OVERFLOW : FRef := ⟨DRV_TBL_ISTAT.addr, 4, 1⟩
def DRV_TBL_ISTAT.OWNER : FRef := ⟨DRV_TBL_ISTAT.addr, 8, 3⟩
def DRV_TBL_ISTAT.OWNED : FRef := ⟨DRV_TBL_ISTAT.addr, 11, 1⟩
/-- CRW_STATUS, 12_crew_cores.md Table 12-9. -/
def CRW_STATUS.addr : Nat := 0x40140000
def CRW_STATUS.STATE0 : FRef := ⟨CRW_STATUS.addr, 0, 3⟩
def CRW_STATUS.STATE1 : FRef := ⟨CRW_STATUS.addr, 3, 3⟩
def CRW_STATUS.STATE2 : FRef := ⟨CRW_STATUS.addr, 6, 3⟩
def CRW_STATUS.STATE3 : FRef := ⟨CRW_STATUS.addr, 9, 3⟩
/-- CRW_CTRL, 12_crew_cores.md Table 12-10. -/
def CRW_CTRL.addr : Nat := 0x40140004
def CRW_CTRL.LOCK : FRef := ⟨CRW_CTRL.addr, 0, 1⟩
/-- CRW_DBG, 12_crew_cores.md Table 12-10. -/
def CRW_DBG.addr : Nat := 0x40140008
def CRW_DBG.EN : FRef := ⟨CRW_DBG.addr, 0, 4⟩
def CRW_DBG.SBA : FRef := ⟨CRW_DBG.addr, 4, 1⟩
/-- CRW_L2_CNT, 12_crew_cores.md Table 12-11. -/
def CRW_L2_CNT.addr : Nat := 0x4014000c
def CRW_L2_CNT.COR : FRef := ⟨CRW_L2_CNT.addr, 0, 16⟩
def CRW_L2_CNT.UNC : FRef := ⟨CRW_L2_CNT.addr, 16, 16⟩
/-- CRW_CORE_CTL, 12_crew_cores.md Table 12-12. -/
def CRW_CORE_CTL.addr (n : Nat) : Nat := 0x40140100 + 0x40 * n
def CRW_CORE_CTL.RELEASE (n : Nat) : FRef := ⟨(CRW_CORE_CTL.addr n), 0, 1⟩
/-- CRW_BOOT_ADDR, 12_crew_cores.md Table 12-12. -/
def CRW_BOOT_ADDR.addr (n : Nat) : Nat := 0x40140104 + 0x40 * n
def CRW_BOOT_ADDR.ADDR (n : Nat) : FRef := ⟨(CRW_BOOT_ADDR.addr n), 0, 32⟩
/-- CRW_FE_SPLIM, 12_crew_cores.md Table 12-12. -/
def CRW_FE_SPLIM.addr (n : Nat) : Nat := 0x40140108 + 0x40 * n
def CRW_FE_SPLIM.LIMIT (n : Nat) : FRef := ⟨(CRW_FE_SPLIM.addr n), 0, 32⟩
/-- CRW_WDOG, 12_crew_cores.md Table 12-12. -/
def CRW_WDOG.addr (n : Nat) : Nat := 0x4014010c + 0x40 * n
def CRW_WDOG.MS (n : Nat) : FRef := ⟨(CRW_WDOG.addr n), 0, 16⟩
def CRW_WDOG.EN (n : Nat) : FRef := ⟨(CRW_WDOG.addr n), 16, 1⟩
/-- CRW_WDOG_KICK, 12_crew_cores.md Table 12-12. -/
def CRW_WDOG_KICK.addr (n : Nat) : Nat := 0x40140110 + 0x40 * n
def CRW_WDOG_KICK.KEY (n : Nat) : FRef := ⟨(CRW_WDOG_KICK.addr n), 0, 32⟩
/-- CRW_CNT, 12_crew_cores.md Table 12-11. -/
def CRW_CNT.addr (n : Nat) : Nat := 0x40140114 + 0x40 * n
def CRW_CNT.TCM_COR (n : Nat) : FRef := ⟨(CRW_CNT.addr n), 0, 12⟩
def CRW_CNT.TCM_UNC (n : Nat) : FRef := ⟨(CRW_CNT.addr n), 12, 4⟩
def CRW_CNT.SFAULT (n : Nat) : FRef := ⟨(CRW_CNT.addr n), 16, 8⟩
def CRW_CNT.WDOG (n : Nat) : FRef := ⟨(CRW_CNT.addr n), 24, 8⟩
/-- CRW_PC, 12_crew_cores.md Table 12-12. -/
def CRW_PC.addr (n : Nat) : Nat := 0x40140118 + 0x40 * n
def CRW_PC.PC (n : Nat) : FRef := ⟨(CRW_PC.addr n), 0, 32⟩
/-- TK_STATUS, 13_trunk_lanes_and_frames.md Table 13-9. -/
def TK_STATUS.addr (x : Nat) : Nat := 0x40180000 + 0x10000 * x
def TK_STATUS.PORT (x : Nat) : FRef := ⟨(TK_STATUS.addr x), 0, 2⟩
def TK_STATUS.TXMASK (x : Nat) : FRef := ⟨(TK_STATUS.addr x), 2, 2⟩
def TK_STATUS.RXMASK (x : Nat) : FRef := ⟨(TK_STATUS.addr x), 4, 2⟩
def TK_STATUS.RESYNC (x : Nat) : FRef := ⟨(TK_STATUS.addr x), 6, 1⟩
def TK_STATUS.SKEW_ERR (x : Nat) : FRef := ⟨(TK_STATUS.addr x), 7, 1⟩
/-- TK_CTRL, 13_trunk_lanes_and_frames.md Table 13-9. -/
def TK_CTRL.addr (x : Nat) : Nat := 0x40180004 + 0x10000 * x
def TK_CTRL.EN (x : Nat) : FRef := ⟨(TK_CTRL.addr x), 0, 1⟩
def TK_CTRL.RETRAIN (x : Nat) : FRef := ⟨(TK_CTRL.addr x), 1, 1⟩
/-- TK_ID, 13_trunk_lanes_and_frames.md Table 13-9. -/
def TK_ID.addr (x : Nat) : Nat := 0x40180008 + 0x10000 * x
def TK_ID.NODE_ID (x : Nat) : FRef := ⟨(TK_ID.addr x), 0, 16⟩
/-- TK_PARTNER, 13_trunk_lanes_and_frames.md Table 13-9. -/
def TK_PARTNER.addr (x : Nat) : Nat := 0x4018000c + 0x10000 * x
def TK_PARTNER.NODE_ID (x : Nat) : FRef := ⟨(TK_PARTNER.addr x), 0, 16⟩
def TK_PARTNER.PORT (x : Nat) : FRef := ⟨(TK_PARTNER.addr x), 16, 1⟩
def TK_PARTNER.VALID (x : Nat) : FRef := ⟨(TK_PARTNER.addr x), 17, 1⟩
/-- TK_SEQ, 13_trunk_lanes_and_frames.md Table 13-9. -/
def TK_SEQ.addr (x : Nat) : Nat := 0x40180010 + 0x10000 * x
def TK_SEQ.TX (x : Nat) : FRef := ⟨(TK_SEQ.addr x), 0, 16⟩
def TK_SEQ.RX (x : Nat) : FRef := ⟨(TK_SEQ.addr x), 16, 16⟩
/-- TK_REPLAY, 13_trunk_lanes_and_frames.md Table 13-9. -/
def TK_REPLAY.addr (x : Nat) : Nat := 0x40180014 + 0x10000 * x
def TK_REPLAY.HELD (x : Nat) : FRef := ⟨(TK_REPLAY.addr x), 0, 8⟩
def TK_REPLAY.PEAK (x : Nat) : FRef := ⟨(TK_REPLAY.addr x), 8, 8⟩
/-- TK_MALFORMED, 13_trunk_lanes_and_frames.md Table 13-10. -/
def TK_MALFORMED.addr (x : Nat) : Nat := 0x40180018 + 0x10000 * x
def TK_MALFORMED.COUNT (x : Nat) : FRef := ⟨(TK_MALFORMED.addr x), 0, 32⟩
/-- TK_CNT, 13_trunk_lanes_and_frames.md Table 13-10. -/
def TK_CNT.addr (x : Nat) : Nat := 0x4018001c + 0x10000 * x
def TK_CNT.CRC (x : Nat) : FRef := ⟨(TK_CNT.addr x), 0, 8⟩
def TK_CNT.FRAMING (x : Nat) : FRef := ⟨(TK_CNT.addr x), 8, 8⟩
def TK_CNT.RESYNC (x : Nat) : FRef := ⟨(TK_CNT.addr x), 16, 8⟩
def TK_CNT.RETRAIN (x : Nat) : FRef := ⟨(TK_CNT.addr x), 24, 8⟩
/-- TK_CNT2, 13_trunk_lanes_and_frames.md Table 13-10. -/
def TK_CNT2.addr (x : Nat) : Nat := 0x40180020 + 0x10000 * x
def TK_CNT2.ACKERR (x : Nat) : FRef := ⟨(TK_CNT2.addr x), 0, 8⟩
def TK_CNT2.RSEQERR (x : Nat) : FRef := ⟨(TK_CNT2.addr x), 8, 8⟩
def TK_CNT2.LINKERR (x : Nat) : FRef := ⟨(TK_CNT2.addr x), 16, 8⟩
def TK_CNT2.LOST (x : Nat) : FRef := ⟨(TK_CNT2.addr x), 24, 8⟩
/-- TK_IRQ, 13_trunk_lanes_and_frames.md Table 13-10. -/
def TK_IRQ.addr (x : Nat) : Nat := 0x40180024 + 0x10000 * x
def TK_IRQ.PORT_CHG (x : Nat) : FRef := ⟨(TK_IRQ.addr x), 0, 1⟩
def TK_IRQ.LANE_CHG (x : Nat) : FRef := ⟨(TK_IRQ.addr x), 1, 1⟩
def TK_IRQ.RESYNC (x : Nat) : FRef := ⟨(TK_IRQ.addr x), 2, 1⟩
def TK_IRQ.MALFORMED (x : Nat) : FRef := ⟨(TK_IRQ.addr x), 3, 1⟩
def TK_IRQ.PARTNER_CHG (x : Nat) : FRef := ⟨(TK_IRQ.addr x), 4, 1⟩
/-- TK_IRQ_EN, 13_trunk_lanes_and_frames.md Table 13-10. -/
def TK_IRQ_EN.addr (x : Nat) : Nat := 0x40180028 + 0x10000 * x
def TK_IRQ_EN.EN (x : Nat) : FRef := ⟨(TK_IRQ_EN.addr x), 0, 5⟩
/-- TK_SKEW, 13_trunk_lanes_and_frames.md Table 13-9. -/
def TK_SKEW.addr (x : Nat) : Nat := 0x4018002c + 0x10000 * x
def TK_SKEW.SKEW (x : Nat) : FRef := ⟨(TK_SKEW.addr x), 0, 16⟩
def TK_SKEW.LATE1 (x : Nat) : FRef := ⟨(TK_SKEW.addr x), 16, 1⟩
/-- TK_WAKE, 13_trunk_lanes_and_frames.md Table 13-11. -/
def TK_WAKE.addr (x : Nat) : Nat := 0x40180080 + 0x10000 * x
def TK_WAKE.LANE (x : Nat) : FRef := ⟨(TK_WAKE.addr x), 0, 2⟩
/-- TK_TXFRM_LO, 13_trunk_lanes_and_frames.md Table 13-9. -/
def TK_TXFRM_LO.addr (x : Nat) : Nat := 0x40180030 + 0x10000 * x
def TK_TXFRM_LO.COUNT (x : Nat) : FRef := ⟨(TK_TXFRM_LO.addr x), 0, 32⟩
/-- TK_TXFRM_HI, 13_trunk_lanes_and_frames.md Table 13-9. -/
def TK_TXFRM_HI.addr (x : Nat) : Nat := 0x40180034 + 0x10000 * x
def TK_TXFRM_HI.COUNT (x : Nat) : FRef := ⟨(TK_TXFRM_HI.addr x), 0, 32⟩
/-- TK_RXFRM_LO, 13_trunk_lanes_and_frames.md Table 13-9. -/
def TK_RXFRM_LO.addr (x : Nat) : Nat := 0x40180038 + 0x10000 * x
def TK_RXFRM_LO.COUNT (x : Nat) : FRef := ⟨(TK_RXFRM_LO.addr x), 0, 32⟩
/-- TK_RXFRM_HI, 13_trunk_lanes_and_frames.md Table 13-9. -/
def TK_RXFRM_HI.addr (x : Nat) : Nat := 0x4018003c + 0x10000 * x
def TK_RXFRM_HI.COUNT (x : Nat) : FRef := ⟨(TK_RXFRM_HI.addr x), 0, 32⟩
/-- TK_LANE_CFG, 13_trunk_lanes_and_frames.md Table 13-11. -/
def TK_LANE_CFG.addr (x l : Nat) : Nat := 0x40180040 + 0x10000 * x + 0x20 * l
def TK_LANE_CFG.EN (x l : Nat) : FRef := ⟨(TK_LANE_CFG.addr x l), 0, 1⟩
def TK_LANE_CFG.PMD (x l : Nat) : FRef := ⟨(TK_LANE_CFG.addr x l), 1, 1⟩
def TK_LANE_CFG.FEC (x l : Nat) : FRef := ⟨(TK_LANE_CFG.addr x l), 2, 1⟩
def TK_LANE_CFG.TXINV (x l : Nat) : FRef := ⟨(TK_LANE_CFG.addr x l), 3, 1⟩
def TK_LANE_CFG.RXINV (x l : Nat) : FRef := ⟨(TK_LANE_CFG.addr x l), 4, 1⟩
/-- TK_LANE_STAT, 13_trunk_lanes_and_frames.md Table 13-11. -/
def TK_LANE_STAT.addr (x l : Nat) : Nat := 0x40180044 + 0x10000 * x + 0x20 * l
def TK_LANE_STAT.STATE (x l : Nat) : FRef := ⟨(TK_LANE_STAT.addr x l), 0, 3⟩
def TK_LANE_STAT.BLOCK_LOCK (x l : Nat) : FRef := ⟨(TK_LANE_STAT.addr x l), 3, 1⟩
def TK_LANE_STAT.FEC_LOCK (x l : Nat) : FRef := ⟨(TK_LANE_STAT.addr x l), 4, 1⟩
def TK_LANE_STAT.SIGDET (x l : Nat) : FRef := ⟨(TK_LANE_STAT.addr x l), 5, 1⟩
def TK_LANE_STAT.LOS (x l : Nat) : FRef := ⟨(TK_LANE_STAT.addr x l), 6, 1⟩
def TK_LANE_STAT.MODABS (x l : Nat) : FRef := ⟨(TK_LANE_STAT.addr x l), 7, 1⟩
def TK_LANE_STAT.MISMATCH (x l : Nat) : FRef := ⟨(TK_LANE_STAT.addr x l), 8, 1⟩
/-- TK_LANE_CNT, 13_trunk_lanes_and_frames.md Table 13-11. -/
def TK_LANE_CNT.addr (x l : Nat) : Nat := 0x40180048 + 0x10000 * x + 0x20 * l
def TK_LANE_CNT.LOCK_LOSS (x l : Nat) : FRef := ⟨(TK_LANE_CNT.addr x l), 0, 8⟩
def TK_LANE_CNT.TRAIN_FAIL (x l : Nat) : FRef := ⟨(TK_LANE_CNT.addr x l), 8, 8⟩
def TK_LANE_CNT.BAD_SH (x l : Nat) : FRef := ⟨(TK_LANE_CNT.addr x l), 16, 16⟩
/-- TK_LANE_FEC, 13_trunk_lanes_and_frames.md Table 13-11. -/
def TK_LANE_FEC.addr (x l : Nat) : Nat := 0x4018004c + 0x10000 * x + 0x20 * l
def TK_LANE_FEC.COR (x l : Nat) : FRef := ⟨(TK_LANE_FEC.addr x l), 0, 16⟩
def TK_LANE_FEC.UNC (x l : Nat) : FRef := ⟨(TK_LANE_FEC.addr x l), 16, 16⟩
/-- TK_LANE_TXEQ, 13_trunk_lanes_and_frames.md Table 13-11. -/
def TK_LANE_TXEQ.addr (x l : Nat) : Nat := 0x40180050 + 0x10000 * x + 0x20 * l
def TK_LANE_TXEQ.PRE (x l : Nat) : FRef := ⟨(TK_LANE_TXEQ.addr x l), 0, 4⟩
def TK_LANE_TXEQ.MAIN (x l : Nat) : FRef := ⟨(TK_LANE_TXEQ.addr x l), 4, 6⟩
def TK_LANE_TXEQ.POST (x l : Nat) : FRef := ⟨(TK_LANE_TXEQ.addr x l), 10, 5⟩
/-- TEN_STATUS, 14_trunk_transactions_and_tenants.md Table 14-9. -/
def TEN_STATUS.addr : Nat := 0x401b0000
def TEN_STATUS.BOUND : FRef := ⟨TEN_STATUS.addr, 0, 4⟩
def TEN_STATUS.EXCH : FRef := ⟨TEN_STATUS.addr, 4, 4⟩
/-- TEN_CTO, 14_trunk_transactions_and_tenants.md Table 14-9. -/
def TEN_CTO.addr : Nat := 0x401b0004
def TEN_CTO.US : FRef := ⟨TEN_CTO.addr, 0, 20⟩
/-- TEN_CNT, 14_trunk_transactions_and_tenants.md Table 14-9. -/
def TEN_CNT.addr : Nat := 0x401b0008
def TEN_CNT.UNB_ANS : FRef := ⟨TEN_CNT.addr, 0, 16⟩
def TEN_CNT.UNB_DROP : FRef := ⟨TEN_CNT.addr, 16, 16⟩
/-- TEN_IRQ, 14_trunk_transactions_and_tenants.md Table 14-9. -/
def TEN_IRQ.addr : Nat := 0x401b000c
def TEN_IRQ.MB : FRef := ⟨TEN_IRQ.addr, 0, 4⟩
def TEN_IRQ.HRQ : FRef := ⟨TEN_IRQ.addr, 4, 4⟩
def TEN_IRQ.BIND : FRef := ⟨TEN_IRQ.addr, 8, 4⟩
/-- TEN_IRQ_EN, 14_trunk_transactions_and_tenants.md Table 14-9. -/
def TEN_IRQ_EN.addr : Nat := 0x401b0010
def TEN_IRQ_EN.EN : FRef := ⟨TEN_IRQ_EN.addr, 0, 12⟩
/-- TEN_T_CFG, 14_trunk_transactions_and_tenants.md Table 14-10. -/
def TEN_T_CFG.addr (t : Nat) : Nat := 0x401b0100 + 0x40 * t
def TEN_T_CFG.PORT (t : Nat) : FRef := ⟨(TEN_T_CFG.addr t), 0, 2⟩
def TEN_T_CFG.REGORD (t : Nat) : FRef := ⟨(TEN_T_CFG.addr t), 2, 1⟩
def TEN_T_CFG.STOP_EN (t : Nat) : FRef := ⟨(TEN_T_CFG.addr t), 3, 1⟩
def TEN_T_CFG.IDLE_S (t : Nat) : FRef := ⟨(TEN_T_CFG.addr t), 8, 8⟩
def TEN_T_CFG.BARK (t : Nat) : FRef := ⟨(TEN_T_CFG.addr t), 16, 1⟩
def TEN_T_CFG.MODE (t : Nat) : FRef := ⟨(TEN_T_CFG.addr t), 17, 1⟩
def TEN_T_CFG.RACK (t : Nat) : FRef := ⟨(TEN_T_CFG.addr t), 18, 1⟩
def TEN_T_CFG.FWMSG (t : Nat) : FRef := ⟨(TEN_T_CFG.addr t), 19, 1⟩
def TEN_T_CFG.DOORBELL (t : Nat) : FRef := ⟨(TEN_T_CFG.addr t), 20, 1⟩
/-- TEN_T_HOST, 14_trunk_transactions_and_tenants.md Table 14-10. -/
def TEN_T_HOST.addr (t : Nat) : Nat := 0x401b0104 + 0x40 * t
def TEN_T_HOST.NODE_ID (t : Nat) : FRef := ⟨(TEN_T_HOST.addr t), 0, 16⟩
def TEN_T_HOST.EN (t : Nat) : FRef := ⟨(TEN_T_HOST.addr t), 16, 1⟩
/-- TEN_T_BIND, 14_trunk_transactions_and_tenants.md Table 14-10. -/
def TEN_T_BIND.addr (t : Nat) : Nat := 0x401b0108 + 0x40 * t
def TEN_T_BIND.NODE_ID (t : Nat) : FRef := ⟨(TEN_T_BIND.addr t), 0, 16⟩
def TEN_T_BIND.BOUND (t : Nat) : FRef := ⟨(TEN_T_BIND.addr t), 16, 1⟩
/-- TEN_T_CRED, 14_trunk_transactions_and_tenants.md Table 14-10. -/
def TEN_T_CRED.addr (t : Nat) : Nat := 0x401b010c + 0x40 * t
def TEN_T_CRED.NP (t : Nat) : FRef := ⟨(TEN_T_CRED.addr t), 0, 7⟩
def TEN_T_CRED.PH (t : Nat) : FRef := ⟨(TEN_T_CRED.addr t), 8, 7⟩
def TEN_T_CRED.PD (t : Nat) : FRef := ⟨(TEN_T_CRED.addr t), 16, 12⟩
/-- TEN_T_CNT, 14_trunk_transactions_and_tenants.md Table 14-10. -/
def TEN_T_CNT.addr (t : Nat) : Nat := 0x401b0110 + 0x40 * t
def TEN_T_CNT.CREDIT (t : Nat) : FRef := ⟨(TEN_T_CNT.addr t), 0, 8⟩
def TEN_T_CNT.TAGDUP (t : Nat) : FRef := ⟨(TEN_T_CNT.addr t), 8, 8⟩
def TEN_T_CNT.PWFAIL (t : Nat) : FRef := ⟨(TEN_T_CNT.addr t), 16, 8⟩
def TEN_T_CNT.MSGDROP (t : Nat) : FRef := ⟨(TEN_T_CNT.addr t), 24, 8⟩
/-- TEN_T_CNT2, 14_trunk_transactions_and_tenants.md Table 14-10. -/
def TEN_T_CNT2.addr (t : Nat) : Nat := 0x401b0114 + 0x40 * t
def TEN_T_CNT2.BINDFAIL (t : Nat) : FRef := ⟨(TEN_T_CNT2.addr t), 0, 8⟩
def TEN_T_CNT2.UNEXP (t : Nat) : FRef := ⟨(TEN_T_CNT2.addr t), 8, 8⟩
def TEN_T_CNT2.CPLDROP (t : Nat) : FRef := ⟨(TEN_T_CNT2.addr t), 16, 8⟩
def TEN_T_CNT2.LATE (t : Nat) : FRef := ⟨(TEN_T_CNT2.addr t), 24, 8⟩
/-- TEN_T_PERM, 14_trunk_transactions_and_tenants.md Table 14-10. -/
def TEN_T_PERM.addr (t j : Nat) : Nat := 0x401b0120 + 0x40 * t + 0x4 * j
def TEN_T_PERM.ENTRIES (t j : Nat) : FRef := ⟨(TEN_T_PERM.addr t j), 0, 32⟩
/-- TEN_MB_STAT, 14_trunk_transactions_and_tenants.md Table 14-11. -/
def TEN_MB_STAT.addr (t : Nat) : Nat := 0x401b0400 + 0x40 * t
def TEN_MB_STAT.COUNT (t : Nat) : FRef := ⟨(TEN_MB_STAT.addr t), 0, 5⟩
def TEN_MB_STAT.LEN (t : Nat) : FRef := ⟨(TEN_MB_STAT.addr t), 5, 3⟩
/-- TEN_MB_AUX, 14_trunk_transactions_and_tenants.md Table 14-11. -/
def TEN_MB_AUX.addr (t : Nat) : Nat := 0x401b0404 + 0x40 * t
def TEN_MB_AUX.AUX (t : Nat) : FRef := ⟨(TEN_MB_AUX.addr t), 0, 32⟩
/-- TEN_MB_DATA, 14_trunk_transactions_and_tenants.md Table 14-11. -/
def TEN_MB_DATA.addr (t k : Nat) : Nat := 0x401b0408 + 0x40 * t + 0x4 * k
def TEN_MB_DATA.DATA (t k : Nat) : FRef := ⟨(TEN_MB_DATA.addr t k), 0, 32⟩
/-- TEN_MB_POP, 14_trunk_transactions_and_tenants.md Table 14-11. -/
def TEN_MB_POP.addr (t : Nat) : Nat := 0x401b0428 + 0x40 * t
def TEN_MB_POP.POP (t : Nat) : FRef := ⟨(TEN_MB_POP.addr t), 0, 1⟩
/-- TEN_HRQ_CTRL, 14_trunk_transactions_and_tenants.md Table 14-11. -/
def TEN_HRQ_CTRL.addr (q : Nat) : Nat := 0x401b0800 + 0x20 * q
def TEN_HRQ_CTRL.OP (q : Nat) : FRef := ⟨(TEN_HRQ_CTRL.addr q), 0, 2⟩
def TEN_HRQ_CTRL.TENANT (q : Nat) : FRef := ⟨(TEN_HRQ_CTRL.addr q), 2, 2⟩
def TEN_HRQ_CTRL.LEN (q : Nat) : FRef := ⟨(TEN_HRQ_CTRL.addr q), 4, 5⟩
def TEN_HRQ_CTRL.CLASS (q : Nat) : FRef := ⟨(TEN_HRQ_CTRL.addr q), 9, 3⟩
def TEN_HRQ_CTRL.OID (q : Nat) : FRef := ⟨(TEN_HRQ_CTRL.addr q), 12, 6⟩
def TEN_HRQ_CTRL.GO (q : Nat) : FRef := ⟨(TEN_HRQ_CTRL.addr q), 31, 1⟩
/-- TEN_HRQ_AUX, 14_trunk_transactions_and_tenants.md Table 14-11. -/
def TEN_HRQ_AUX.addr (q : Nat) : Nat := 0x401b0804 + 0x20 * q
def TEN_HRQ_AUX.AUX (q : Nat) : FRef := ⟨(TEN_HRQ_AUX.addr q), 0, 32⟩
/-- TEN_HRQ_ADDR_LO, 14_trunk_transactions_and_tenants.md Table 14-11. -/
def TEN_HRQ_ADDR_LO.addr (q : Nat) : Nat := 0x401b0808 + 0x20 * q
def TEN_HRQ_ADDR_LO.ADDR (q : Nat) : FRef := ⟨(TEN_HRQ_ADDR_LO.addr q), 0, 32⟩
/-- TEN_HRQ_ADDR_HI, 14_trunk_transactions_and_tenants.md Table 14-11. -/
def TEN_HRQ_ADDR_HI.addr (q : Nat) : Nat := 0x401b080c + 0x20 * q
def TEN_HRQ_ADDR_HI.ADDR (q : Nat) : FRef := ⟨(TEN_HRQ_ADDR_HI.addr q), 0, 16⟩
/-- TEN_HRQ_BUF, 14_trunk_transactions_and_tenants.md Table 14-11. -/
def TEN_HRQ_BUF.addr (q : Nat) : Nat := 0x401b0810 + 0x20 * q
def TEN_HRQ_BUF.ADDR (q : Nat) : FRef := ⟨(TEN_HRQ_BUF.addr q), 0, 26⟩
/-- TEN_HRQ_STAT, 14_trunk_transactions_and_tenants.md Table 14-11. -/
def TEN_HRQ_STAT.addr (q : Nat) : Nat := 0x401b0814 + 0x20 * q
def TEN_HRQ_STAT.BUSY (q : Nat) : FRef := ⟨(TEN_HRQ_STAT.addr q), 0, 1⟩
def TEN_HRQ_STAT.RESULT (q : Nat) : FRef := ⟨(TEN_HRQ_STAT.addr q), 1, 3⟩
def TEN_HRQ_STAT.RSTATUS (q : Nat) : FRef := ⟨(TEN_HRQ_STAT.addr q), 4, 4⟩
def TEN_HRQ_STAT.TAG (q : Nat) : FRef := ⟨(TEN_HRQ_STAT.addr q), 8, 10⟩
/-- TEN_WIN_BASE, 14_trunk_transactions_and_tenants.md Table 14-10. -/
def TEN_WIN_BASE.addr (t w : Nat) : Nat := 0x401b1000 + 0x40 * t + 0x8 * w
def TEN_WIN_BASE.BASE (t w : Nat) : FRef := ⟨(TEN_WIN_BASE.addr t w), 0, 24⟩
/-- TEN_WIN_LIM, 14_trunk_transactions_and_tenants.md Table 14-10. -/
def TEN_WIN_LIM.addr (t w : Nat) : Nat := 0x401b1004 + 0x40 * t + 0x8 * w
def TEN_WIN_LIM.LIMIT (t w : Nat) : FRef := ⟨(TEN_WIN_LIM.addr t w), 0, 24⟩
def TEN_WIN_LIM.RD (t w : Nat) : FRef := ⟨(TEN_WIN_LIM.addr t w), 24, 1⟩
def TEN_WIN_LIM.WR (t w : Nat) : FRef := ⟨(TEN_WIN_LIM.addr t w), 25, 1⟩
def TEN_WIN_LIM.ATTR (t w : Nat) : FRef := ⟨(TEN_WIN_LIM.addr t w), 26, 1⟩
def TEN_WIN_LIM.EN (t w : Nat) : FRef := ⟨(TEN_WIN_LIM.addr t w), 31, 1⟩
/-- SEC_TKEY_DATA, 14_trunk_transactions_and_tenants.md Table 14-12. -/
def SEC_TKEY_DATA.addr : Nat := 0x40230100
def SEC_TKEY_DATA.DATA : FRef := ⟨SEC_TKEY_DATA.addr, 0, 32⟩
/-- SEC_TKEY_CTRL, 14_trunk_transactions_and_tenants.md Table 14-12. -/
def SEC_TKEY_CTRL.addr : Nat := 0x40230104
def SEC_TKEY_CTRL.TENANT : FRef := ⟨SEC_TKEY_CTRL.addr, 0, 2⟩
def SEC_TKEY_CTRL.GO : FRef := ⟨SEC_TKEY_CTRL.addr, 31, 1⟩
/-- SEC_TKEY_STAT, 14_trunk_transactions_and_tenants.md Table 14-12. -/
def SEC_TKEY_STAT.addr : Nat := 0x40230108
def SEC_TKEY_STAT.PRESENT : FRef := ⟨SEC_TKEY_STAT.addr, 0, 4⟩
def SEC_TKEY_STAT.RESULT : FRef := ⟨SEC_TKEY_STAT.addr, 8, 3⟩
def SEC_TKEY_STAT.BUSY : FRef := ⟨SEC_TKEY_STAT.addr, 11, 1⟩
/-- TKS_STATUS, 15_trunk_egress_scheduling.md Table 15-4. -/
def TKS_STATUS.addr : Nat := 0x401a0000
def TKS_STATUS.PEND : FRef := ⟨TKS_STATUS.addr, 0, 2⟩
def TKS_STATUS.HOLD : FRef := ⟨TKS_STATUS.addr, 2, 2⟩
/-- TKS_IRQ, 15_trunk_egress_scheduling.md Table 15-4. -/
def TKS_IRQ.addr : Nat := 0x401a0004
def TKS_IRQ.QDROP_A : FRef := ⟨TKS_IRQ.addr, 0, 1⟩
def TKS_IRQ.QDROP_B : FRef := ⟨TKS_IRQ.addr, 1, 1⟩
def TKS_IRQ.POLDROP : FRef := ⟨TKS_IRQ.addr, 2, 1⟩
def TKS_IRQ.CYC_A : FRef := ⟨TKS_IRQ.addr, 3, 1⟩
def TKS_IRQ.CYC_B : FRef := ⟨TKS_IRQ.addr, 4, 1⟩
/-- TKS_IRQ_EN, 15_trunk_egress_scheduling.md Table 15-4. -/
def TKS_IRQ_EN.addr : Nat := 0x401a0008
def TKS_IRQ_EN.EN : FRef := ⟨TKS_IRQ_EN.addr, 0, 5⟩
/-- TKS_CTRL, 15_trunk_egress_scheduling.md Table 15-5. -/
def TKS_CTRL.addr (x : Nat) : Nat := 0x401a1000 + 0x1000 * x
def TKS_CTRL.GATE_EN (x : Nat) : FRef := ⟨(TKS_CTRL.addr x), 0, 1⟩
/-- TKS_CYCLE, 15_trunk_egress_scheduling.md Table 15-5. -/
def TKS_CYCLE.addr (x : Nat) : Nat := 0x401a1004 + 0x1000 * x
def TKS_CYCLE.STEPS (x : Nat) : FRef := ⟨(TKS_CYCLE.addr x), 0, 24⟩
/-- TKS_BASE_LO, 15_trunk_egress_scheduling.md Table 15-5. -/
def TKS_BASE_LO.addr (x : Nat) : Nat := 0x401a1008 + 0x1000 * x
def TKS_BASE_LO.NS (x : Nat) : FRef := ⟨(TKS_BASE_LO.addr x), 0, 32⟩
/-- TKS_BASE_HI, 15_trunk_egress_scheduling.md Table 15-5. -/
def TKS_BASE_HI.addr (x : Nat) : Nat := 0x401a100c + 0x1000 * x
def TKS_BASE_HI.NS (x : Nat) : FRef := ⟨(TKS_BASE_HI.addr x), 0, 32⟩
/-- TKS_WEIGHT, 15_trunk_egress_scheduling.md Table 15-5. -/
def TKS_WEIGHT.addr (x : Nat) : Nat := 0x401a1010 + 0x1000 * x
def TKS_WEIGHT.W0 (x : Nat) : FRef := ⟨(TKS_WEIGHT.addr x), 0, 8⟩
def TKS_WEIGHT.W1 (x : Nat) : FRef := ⟨(TKS_WEIGHT.addr x), 8, 8⟩
def TKS_WEIGHT.W2 (x : Nat) : FRef := ⟨(TKS_WEIGHT.addr x), 16, 8⟩
def TKS_WEIGHT.W3 (x : Nat) : FRef := ⟨(TKS_WEIGHT.addr x), 24, 8⟩
/-- TKS_GSTAT, 15_trunk_egress_scheduling.md Table 15-5. -/
def TKS_GSTAT.addr (x : Nat) : Nat := 0x401a1014 + 0x1000 * x
def TKS_GSTAT.ENTRY (x : Nat) : FRef := ⟨(TKS_GSTAT.addr x), 0, 6⟩
def TKS_GSTAT.OPEN (x : Nat) : FRef := ⟨(TKS_GSTAT.addr x), 8, 5⟩
def TKS_GSTAT.PEND (x : Nat) : FRef := ⟨(TKS_GSTAT.addr x), 13, 1⟩
def TKS_GSTAT.HOLD (x : Nat) : FRef := ⟨(TKS_GSTAT.addr x), 14, 1⟩
/-- TKS_CNT, 15_trunk_egress_scheduling.md Table 15-5. -/
def TKS_CNT.addr (x : Nat) : Nat := 0x401a1018 + 0x1000 * x
def TKS_CNT.QDROP (x : Nat) : FRef := ⟨(TKS_CNT.addr x), 0, 16⟩
def TKS_CNT.GUARD (x : Nat) : FRef := ⟨(TKS_CNT.addr x), 16, 16⟩
/-- TKS_TXB_LO, 15_trunk_egress_scheduling.md Table 15-5. -/
def TKS_TXB_LO.addr (x c : Nat) : Nat := 0x401a1100 + 0x1000 * x + 0x8 * c
def TKS_TXB_LO.BYTES (x c : Nat) : FRef := ⟨(TKS_TXB_LO.addr x c), 0, 32⟩
/-- TKS_TXB_HI, 15_trunk_egress_scheduling.md Table 15-5. -/
def TKS_TXB_HI.addr (x c : Nat) : Nat := 0x401a1104 + 0x1000 * x + 0x8 * c
def TKS_TXB_HI.BYTES (x c : Nat) : FRef := ⟨(TKS_TXB_HI.addr x c), 0, 32⟩
/-- TKS_CSH_RATE, 15_trunk_egress_scheduling.md Table 15-6. -/
def TKS_CSH_RATE.addr (x c : Nat) : Nat := 0x401a1200 + 0x1000 * x + 0x8 * c
def TKS_CSH_RATE.RATE (x c : Nat) : FRef := ⟨(TKS_CSH_RATE.addr x c), 0, 18⟩
def TKS_CSH_RATE.EN (x c : Nat) : FRef := ⟨(TKS_CSH_RATE.addr x c), 31, 1⟩
/-- TKS_CSH_BURST, 15_trunk_egress_scheduling.md Table 15-6. -/
def TKS_CSH_BURST.addr (x c : Nat) : Nat := 0x401a1204 + 0x1000 * x + 0x8 * c
def TKS_CSH_BURST.BYTES (x c : Nat) : FRef := ⟨(TKS_CSH_BURST.addr x c), 0, 20⟩
/-- TKS_QSH_RATE, 15_trunk_egress_scheduling.md Table 15-6. -/
def TKS_QSH_RATE.addr (x s c : Nat) : Nat := 0x401a1400 + 0x1000 * x + 0x40 * s + 0x8 * c
def TKS_QSH_RATE.RATE (x s c : Nat) : FRef := ⟨(TKS_QSH_RATE.addr x s c), 0, 18⟩
def TKS_QSH_RATE.EN (x s c : Nat) : FRef := ⟨(TKS_QSH_RATE.addr x s c), 31, 1⟩
/-- TKS_QSH_BURST, 15_trunk_egress_scheduling.md Table 15-6. -/
def TKS_QSH_BURST.addr (x s c : Nat) : Nat := 0x401a1404 + 0x1000 * x + 0x40 * s + 0x8 * c
def TKS_QSH_BURST.BYTES (x s c : Nat) : FRef := ⟨(TKS_QSH_BURST.addr x s c), 0, 20⟩
/-- TKS_GATE, 15 Table 15-5. -/
def TKS_GATE.addr (x e : Nat) : Nat := 0x401a1800 + 0x1000 * x + 0x4 * e
def TKS_GATE.DUR (x e : Nat) : FRef := ⟨(TKS_GATE.addr x e), 0, 24⟩
def TKS_GATE.OPEN (x e : Nat) : FRef := ⟨(TKS_GATE.addr x e), 24, 5⟩
/-- TKS_POL_RATE, 15_trunk_egress_scheduling.md Table 15-6. -/
def TKS_POL_RATE.addr (t c : Nat) : Nat := 0x401a3000 + 0x40 * t + 0x8 * c
def TKS_POL_RATE.RATE (t c : Nat) : FRef := ⟨(TKS_POL_RATE.addr t c), 0, 18⟩
def TKS_POL_RATE.EN (t c : Nat) : FRef := ⟨(TKS_POL_RATE.addr t c), 31, 1⟩
/-- TKS_POL_BURST, 15_trunk_egress_scheduling.md Table 15-6. -/
def TKS_POL_BURST.addr (t c : Nat) : Nat := 0x401a3004 + 0x40 * t + 0x8 * c
def TKS_POL_BURST.BYTES (t c : Nat) : FRef := ⟨(TKS_POL_BURST.addr t c), 0, 20⟩
/-- TKS_PDROP_LO, 15 Table 15-6. -/
def TKS_PDROP_LO.addr (t : Nat) : Nat := 0x401a3200 + 0x8 * t
def TKS_PDROP_LO.DROP0 (t : Nat) : FRef := ⟨(TKS_PDROP_LO.addr t), 0, 8⟩
def TKS_PDROP_LO.DROP1 (t : Nat) : FRef := ⟨(TKS_PDROP_LO.addr t), 8, 8⟩
def TKS_PDROP_LO.DROP2 (t : Nat) : FRef := ⟨(TKS_PDROP_LO.addr t), 16, 8⟩
def TKS_PDROP_LO.DROP3 (t : Nat) : FRef := ⟨(TKS_PDROP_LO.addr t), 24, 8⟩
/-- TKS_PDROP_HI, 15_trunk_egress_scheduling.md Table 15-6. -/
def TKS_PDROP_HI.addr (t : Nat) : Nat := 0x401a3204 + 0x8 * t
def TKS_PDROP_HI.DROP4 (t : Nat) : FRef := ⟨(TKS_PDROP_HI.addr t), 0, 8⟩
def TKS_PDROP_HI.DROP5 (t : Nat) : FRef := ⟨(TKS_PDROP_HI.addr t), 8, 8⟩
/-- CRB_STATUS, 16_crerum_rack_bridge.md Table 16-7. -/
def CRB_STATUS.addr : Nat := 0x401c0000
def CRB_STATUS.ROLE : FRef := ⟨CRB_STATUS.addr, 0, 2⟩
def CRB_STATUS.ACTIVE : FRef := ⟨CRB_STATUS.addr, 2, 1⟩
def CRB_STATUS.MASTER : FRef := ⟨CRB_STATUS.addr, 3, 1⟩
def CRB_STATUS.HUNG : FRef := ⟨CRB_STATUS.addr, 4, 1⟩
def CRB_STATUS.OW_ERR : FRef := ⟨CRB_STATUS.addr, 8, 8⟩
def CRB_STATUS.IW_ERR : FRef := ⟨CRB_STATUS.addr, 16, 8⟩
def CRB_STATUS.LINES : FRef := ⟨CRB_STATUS.addr, 24, 4⟩
def CRB_STATUS.OUT : FRef := ⟨CRB_STATUS.addr, 28, 4⟩
/-- CRB_CFG, 16_crerum_rack_bridge.md Table 16-8. -/
def CRB_CFG.addr : Nat := 0x401c0004
def CRB_CFG.MON_EN : FRef := ⟨CRB_CFG.addr, 0, 1⟩
def CRB_CFG.HOLD : FRef := ⟨CRB_CFG.addr, 4, 4⟩
def CRB_CFG.ARB_US : FRef := ⟨CRB_CFG.addr, 8, 8⟩
/-- CRB_MON_TIMEOUT, 16_crerum_rack_bridge.md Table 16-8. -/
def CRB_MON_TIMEOUT.addr : Nat := 0x401c0008
def CRB_MON_TIMEOUT.US : FRef := ⟨CRB_MON_TIMEOUT.addr, 0, 10⟩
/-- CRB_CNT, 16_crerum_rack_bridge.md Table 16-9. -/
def CRB_CNT.addr : Nat := 0x401c000c
def CRB_CNT.TIMEOUT : FRef := ⟨CRB_CNT.addr, 0, 8⟩
def CRB_CNT.BERR_OUT : FRef := ⟨CRB_CNT.addr, 8, 8⟩
def CRB_CNT.ARB : FRef := ⟨CRB_CNT.addr, 16, 8⟩
def CRB_CNT.PROTO : FRef := ⟨CRB_CNT.addr, 24, 8⟩
/-- CRB_CNT2, 16_crerum_rack_bridge.md Table 16-9. -/
def CRB_CNT2.addr : Nat := 0x401c0010
def CRB_CNT2.SPUR : FRef := ⟨CRB_CNT2.addr, 0, 8⟩
def CRB_CNT2.UNMAPPED : FRef := ⟨CRB_CNT2.addr, 8, 8⟩
def CRB_CNT2.INFAIL : FRef := ⟨CRB_CNT2.addr, 16, 8⟩
def CRB_CNT2.LDROP : FRef := ⟨CRB_CNT2.addr, 24, 8⟩
/-- CRB_IRQ, 16_crerum_rack_bridge.md Table 16-9. -/
def CRB_IRQ.addr : Nat := 0x401c0014
def CRB_IRQ.LVEC : FRef := ⟨CRB_IRQ.addr, 0, 1⟩
def CRB_IRQ.HUNG : FRef := ⟨CRB_IRQ.addr, 1, 1⟩
def CRB_IRQ.SPUR : FRef := ⟨CRB_IRQ.addr, 2, 1⟩
def CRB_IRQ.ARB : FRef := ⟨CRB_IRQ.addr, 3, 1⟩
def CRB_IRQ.OUTACK : FRef := ⟨CRB_IRQ.addr, 4, 4⟩
/-- CRB_IRQ_EN, 16_crerum_rack_bridge.md Table 16-9. -/
def CRB_IRQ_EN.addr : Nat := 0x401c0018
def CRB_IRQ_EN.EN : FRef := ⟨CRB_IRQ_EN.addr, 0, 8⟩
/-- CRB_IRQ_HANDLE, 16_crerum_rack_bridge.md Table 16-10. -/
def CRB_IRQ_HANDLE.addr : Nat := 0x401c001c
def CRB_IRQ_HANDLE.EN : FRef := ⟨CRB_IRQ_HANDLE.addr, 0, 4⟩
def CRB_IRQ_HANDLE.RORA : FRef := ⟨CRB_IRQ_HANDLE.addr, 4, 4⟩
/-- CRB_LVEC, 16_crerum_rack_bridge.md Table 16-10. -/
def CRB_LVEC.addr : Nat := 0x401c0020
def CRB_LVEC.VECTOR : FRef := ⟨CRB_LVEC.addr, 0, 8⟩
def CRB_LVEC.LEVEL : FRef := ⟨CRB_LVEC.addr, 8, 2⟩
def CRB_LVEC.COUNT : FRef := ⟨CRB_LVEC.addr, 10, 5⟩
def CRB_LVEC.VALID : FRef := ⟨CRB_LVEC.addr, 15, 1⟩
/-- CRB_LVEC_POP, 16_crerum_rack_bridge.md Table 16-10. -/
def CRB_LVEC_POP.addr : Nat := 0x401c0024
def CRB_LVEC_POP.POP : FRef := ⟨CRB_LVEC_POP.addr, 0, 1⟩
/-- CRB_OUTIRQ_SET, 16_crerum_rack_bridge.md Table 16-10. -/
def CRB_OUTIRQ_SET.addr : Nat := 0x401c0028
def CRB_OUTIRQ_SET.SET : FRef := ⟨CRB_OUTIRQ_SET.addr, 0, 4⟩
def CRB_OUTIRQ_SET.CLEAR : FRef := ⟨CRB_OUTIRQ_SET.addr, 4, 4⟩
/-- CRB_OUTIRQ_CFG, 16_crerum_rack_bridge.md Table 16-10. -/
def CRB_OUTIRQ_CFG.addr (L : Nat) : Nat := 0x401c0040 + 0x4 * L
def CRB_OUTIRQ_CFG.VECTOR (L : Nat) : FRef := ⟨(CRB_OUTIRQ_CFG.addr L), 0, 8⟩
def CRB_OUTIRQ_CFG.OWNER (L : Nat) : FRef := ⟨(CRB_OUTIRQ_CFG.addr L), 8, 3⟩
/-- CRB_OW_LBASE, 16_crerum_rack_bridge.md Table 16-11. -/
def CRB_OW_LBASE.addr (w : Nat) : Nat := 0x401c0100 + 0x10 * w
def CRB_OW_LBASE.LBASE (w : Nat) : FRef := ⟨(CRB_OW_LBASE.addr w), 0, 8⟩
/-- CRB_OW_RBASE, 16_crerum_rack_bridge.md Table 16-11. -/
def CRB_OW_RBASE.addr (w : Nat) : Nat := 0x401c0104 + 0x10 * w
def CRB_OW_RBASE.RBASE (w : Nat) : FRef := ⟨(CRB_OW_RBASE.addr w), 0, 8⟩
/-- CRB_OW_CFG, 16_crerum_rack_bridge.md Table 16-11. -/
def CRB_OW_CFG.addr (w : Nat) : Nat := 0x401c0108 + 0x10 * w
def CRB_OW_CFG.SIZE (w : Nat) : FRef := ⟨(CRB_OW_CFG.addr w), 0, 4⟩
def CRB_OW_CFG.SWAP (w : Nat) : FRef := ⟨(CRB_OW_CFG.addr w), 4, 2⟩
def CRB_OW_CFG.ORD (w : Nat) : FRef := ⟨(CRB_OW_CFG.addr w), 6, 1⟩
def CRB_OW_CFG.BLK (w : Nat) : FRef := ⟨(CRB_OW_CFG.addr w), 7, 1⟩
def CRB_OW_CFG.OWNER (w : Nat) : FRef := ⟨(CRB_OW_CFG.addr w), 8, 3⟩
def CRB_OW_CFG.KIND (w : Nat) : FRef := ⟨(CRB_OW_CFG.addr w), 11, 1⟩
def CRB_OW_CFG.EN (w : Nat) : FRef := ⟨(CRB_OW_CFG.addr w), 31, 1⟩
/-- CRB_IW_RBASE, 16_crerum_rack_bridge.md Table 16-11. -/
def CRB_IW_RBASE.addr (w : Nat) : Nat := 0x401c0200 + 0x10 * w
def CRB_IW_RBASE.RBASE (w : Nat) : FRef := ⟨(CRB_IW_RBASE.addr w), 0, 8⟩
/-- CRB_IW_TBASE, 16_crerum_rack_bridge.md Table 16-11. -/
def CRB_IW_TBASE.addr (w : Nat) : Nat := 0x401c0204 + 0x10 * w
def CRB_IW_TBASE.TBASE (w : Nat) : FRef := ⟨(CRB_IW_TBASE.addr w), 0, 24⟩
/-- CRB_IW_CFG, 16_crerum_rack_bridge.md Table 16-11. -/
def CRB_IW_CFG.addr (w : Nat) : Nat := 0x401c0208 + 0x10 * w
def CRB_IW_CFG.SIZE (w : Nat) : FRef := ⟨(CRB_IW_CFG.addr w), 0, 4⟩
def CRB_IW_CFG.SWAP (w : Nat) : FRef := ⟨(CRB_IW_CFG.addr w), 4, 2⟩
def CRB_IW_CFG.ORD (w : Nat) : FRef := ⟨(CRB_IW_CFG.addr w), 6, 1⟩
def CRB_IW_CFG.BLK (w : Nat) : FRef := ⟨(CRB_IW_CFG.addr w), 7, 1⟩
def CRB_IW_CFG.OWNER (w : Nat) : FRef := ⟨(CRB_IW_CFG.addr w), 8, 3⟩
def CRB_IW_CFG.KIND (w : Nat) : FRef := ⟨(CRB_IW_CFG.addr w), 11, 1⟩
def CRB_IW_CFG.EN (w : Nat) : FRef := ⟨(CRB_IW_CFG.addr w), 31, 1⟩
/-- CRB_VEC, 16_crerum_rack_bridge.md Table 16-10. -/
def CRB_VEC.addr (v : Nat) : Nat := 0x401c0400 + 0x4 * v
def CRB_VEC.HOST (v : Nat) : FRef := ⟨(CRB_VEC.addr v), 0, 4⟩
def CRB_VEC.LOCAL (v : Nat) : FRef := ⟨(CRB_VEC.addr v), 4, 1⟩
def CRB_VEC.CLASS (v : Nat) : FRef := ⟨(CRB_VEC.addr v), 5, 3⟩
def CRB_VEC.EN (v : Nat) : FRef := ⟨(CRB_VEC.addr v), 8, 1⟩
/-- GRV_STATUS, 17_grove_chain.md Table 17-12. -/
def GRV_STATUS.addr : Nat := 0x401e0000
def GRV_STATUS.MODE : FRef := ⟨GRV_STATUS.addr, 0, 1⟩
def GRV_STATUS.RING : FRef := ⟨GRV_STATUS.addr, 1, 2⟩
def GRV_STATUS.BREAK_A : FRef := ⟨GRV_STATUS.addr, 3, 6⟩
def GRV_STATUS.BREAK_B : FRef := ⟨GRV_STATUS.addr, 9, 6⟩
/-- GRV_EXPECT, 17_grove_chain.md Table 17-12. -/
def GRV_EXPECT.addr : Nat := 0x401e0004
def GRV_EXPECT.COUNT_A : FRef := ⟨GRV_EXPECT.addr, 0, 6⟩
def GRV_EXPECT.COUNT_B : FRef := ⟨GRV_EXPECT.addr, 8, 6⟩
def GRV_EXPECT.BUILD_EN : FRef := ⟨GRV_EXPECT.addr, 15, 1⟩
def GRV_EXPECT.CH8_A : FRef := ⟨GRV_EXPECT.addr, 16, 6⟩
def GRV_EXPECT.CH8_B : FRef := ⟨GRV_EXPECT.addr, 24, 6⟩
/-- GRV_SAP_INFO, 17_grove_chain.md Table 17-12. -/
def GRV_SAP_INFO.addr (a1 : Nat) : Nat := 0x401e0104 + 0x4 * a1
def GRV_SAP_INFO.PRESENT (a1 : Nat) : FRef := ⟨(GRV_SAP_INFO.addr a1), 0, 1⟩
def GRV_SAP_INFO.ROUTE (a1 : Nat) : FRef := ⟨(GRV_SAP_INFO.addr a1), 1, 1⟩
def GRV_SAP_INFO.HOP (a1 : Nat) : FRef := ⟨(GRV_SAP_INFO.addr a1), 2, 6⟩
def GRV_SAP_INFO.CHANNELS (a1 : Nat) : FRef := ⟨(GRV_SAP_INFO.addr a1), 8, 4⟩
def GRV_SAP_INFO.BYPASSED (a1 : Nat) : FRef := ⟨(GRV_SAP_INFO.addr a1), 12, 1⟩
def GRV_SAP_INFO.DRIFTY (a1 : Nat) : FRef := ⟨(GRV_SAP_INFO.addr a1), 13, 1⟩
def GRV_SAP_INFO.ABSENT (a1 : Nat) : FRef := ⟨(GRV_SAP_INFO.addr a1), 14, 1⟩
def GRV_SAP_INFO.UNREACH (a1 : Nat) : FRef := ⟨(GRV_SAP_INFO.addr a1), 15, 1⟩
/-- GRV_STAT, 17_grove_chain.md Table 17-13. -/
def GRV_STAT.addr (x : Nat) : Nat := 0x401e1000 + 0x1000 * x
def GRV_STAT.STATE (x : Nat) : FRef := ⟨(GRV_STAT.addr x), 0, 3⟩
def GRV_STAT.LEN (x : Nat) : FRef := ⟨(GRV_STAT.addr x), 3, 6⟩
def GRV_STAT.TURNED (x : Nat) : FRef := ⟨(GRV_STAT.addr x), 9, 1⟩
def GRV_STAT.CARRIER (x : Nat) : FRef := ⟨(GRV_STAT.addr x), 10, 1⟩
/-- GRV_CFG, 17_grove_chain.md Table 17-13. -/
def GRV_CFG.addr (x : Nat) : Nat := 0x401e1004 + 0x1000 * x
def GRV_CFG.EN (x : Nat) : FRef := ⟨(GRV_CFG.addr x), 0, 1⟩
def GRV_CFG.RESP_US (x : Nat) : FRef := ⟨(GRV_CFG.addr x), 1, 8⟩
def GRV_CFG.RETRY (x : Nat) : FRef := ⟨(GRV_CFG.addr x), 9, 3⟩
/-- GRV_CMD, 17_grove_chain.md Table 17-13. -/
def GRV_CMD.addr (x : Nat) : Nat := 0x401e1008 + 0x1000 * x
def GRV_CMD.OP (x : Nat) : FRef := ⟨(GRV_CMD.addr x), 0, 3⟩
/-- GRV_SESSION, 17_grove_chain.md Table 17-13. -/
def GRV_SESSION.addr (x : Nat) : Nat := 0x401e100c + 0x1000 * x
def GRV_SESSION.SESSION (x : Nat) : FRef := ⟨(GRV_SESSION.addr x), 0, 32⟩
/-- GRV_TXQ_BASE, 17_grove_chain.md Table 17-13. -/
def GRV_TXQ_BASE.addr (x : Nat) : Nat := 0x401e1010 + 0x1000 * x
def GRV_TXQ_BASE.LOG (x : Nat) : FRef := ⟨(GRV_TXQ_BASE.addr x), 0, 4⟩
def GRV_TXQ_BASE.OFF (x : Nat) : FRef := ⟨(GRV_TXQ_BASE.addr x), 7, 13⟩
/-- GRV_TXQ_WPTR, 17_grove_chain.md Table 17-13. -/
def GRV_TXQ_WPTR.addr (x : Nat) : Nat := 0x401e1014 + 0x1000 * x
def GRV_TXQ_WPTR.PTR (x : Nat) : FRef := ⟨(GRV_TXQ_WPTR.addr x), 0, 11⟩
/-- GRV_TXQ_RPTR, 17_grove_chain.md Table 17-13. -/
def GRV_TXQ_RPTR.addr (x : Nat) : Nat := 0x401e1018 + 0x1000 * x
def GRV_TXQ_RPTR.PTR (x : Nat) : FRef := ⟨(GRV_TXQ_RPTR.addr x), 0, 11⟩
/-- GRV_RXQ_BASE, 17_grove_chain.md Table 17-13. -/
def GRV_RXQ_BASE.addr (x : Nat) : Nat := 0x401e101c + 0x1000 * x
def GRV_RXQ_BASE.LOG (x : Nat) : FRef := ⟨(GRV_RXQ_BASE.addr x), 0, 4⟩
def GRV_RXQ_BASE.OFF (x : Nat) : FRef := ⟨(GRV_RXQ_BASE.addr x), 7, 13⟩
/-- GRV_RXQ_WPTR, 17_grove_chain.md Table 17-13. -/
def GRV_RXQ_WPTR.addr (x : Nat) : Nat := 0x401e1020 + 0x1000 * x
def GRV_RXQ_WPTR.PTR (x : Nat) : FRef := ⟨(GRV_RXQ_WPTR.addr x), 0, 11⟩
/-- GRV_RXQ_RPTR, 17_grove_chain.md Table 17-13. -/
def GRV_RXQ_RPTR.addr (x : Nat) : Nat := 0x401e1024 + 0x1000 * x
def GRV_RXQ_RPTR.PTR (x : Nat) : FRef := ⟨(GRV_RXQ_RPTR.addr x), 0, 11⟩
/-- GRV_CNT, 17_grove_chain.md Table 17-13. -/
def GRV_CNT.addr (x : Nat) : Nat := 0x401e1028 + 0x1000 * x
def GRV_CNT.CRC (x : Nat) : FRef := ⟨(GRV_CNT.addr x), 0, 8⟩
def GRV_CNT.TIMEOUT (x : Nat) : FRef := ⟨(GRV_CNT.addr x), 8, 8⟩
def GRV_CNT.UNSOL (x : Nat) : FRef := ⟨(GRV_CNT.addr x), 16, 8⟩
def GRV_CNT.MALF (x : Nat) : FRef := ⟨(GRV_CNT.addr x), 24, 8⟩
/-- GRV_CNT2, 17_grove_chain.md Table 17-13. -/
def GRV_CNT2.addr (x : Nat) : Nat := 0x401e102c + 0x1000 * x
def GRV_CNT2.LATE (x : Nat) : FRef := ⟨(GRV_CNT2.addr x), 0, 8⟩
def GRV_CNT2.DRIFT (x : Nat) : FRef := ⟨(GRV_CNT2.addr x), 8, 8⟩
def GRV_CNT2.TURNED (x : Nat) : FRef := ⟨(GRV_CNT2.addr x), 16, 8⟩
def GRV_CNT2.RXDROP (x : Nat) : FRef := ⟨(GRV_CNT2.addr x), 24, 8⟩
/-- GRV_IRQ, 17_grove_chain.md Table 17-13. -/
def GRV_IRQ.addr (x : Nat) : Nat := 0x401e1030 + 0x1000 * x
def GRV_IRQ.RX (x : Nat) : FRef := ⟨(GRV_IRQ.addr x), 0, 1⟩
def GRV_IRQ.SESSION (x : Nat) : FRef := ⟨(GRV_IRQ.addr x), 1, 1⟩
def GRV_IRQ.ASLEEP (x : Nat) : FRef := ⟨(GRV_IRQ.addr x), 2, 1⟩
def GRV_IRQ.WAKE (x : Nat) : FRef := ⟨(GRV_IRQ.addr x), 3, 1⟩
def GRV_IRQ.BREAK (x : Nat) : FRef := ⟨(GRV_IRQ.addr x), 4, 1⟩
def GRV_IRQ.BABBLE (x : Nat) : FRef := ⟨(GRV_IRQ.addr x), 5, 1⟩
def GRV_IRQ.ENUM_DONE (x : Nat) : FRef := ⟨(GRV_IRQ.addr x), 6, 1⟩
/-- GRV_IRQ_EN, 17_grove_chain.md Table 17-13. -/
def GRV_IRQ_EN.addr (x : Nat) : Nat := 0x401e1034 + 0x1000 * x
def GRV_IRQ_EN.EN (x : Nat) : FRef := ⟨(GRV_IRQ_EN.addr x), 0, 7⟩
/-- MOT_STATUS, 18_traverse_motion.md Table 18-6. -/
def MOT_STATUS.addr : Nat := 0x40200000
def MOT_STATUS.MOVING : FRef := ⟨MOT_STATUS.addr, 0, 4⟩
def MOT_STATUS.ENABLED : FRef := ⟨MOT_STATUS.addr, 4, 1⟩
def MOT_STATUS.TRIP : FRef := ⟨MOT_STATUS.addr, 5, 1⟩
/-- MOT_GRP, 18_traverse_motion.md Table 18-6. -/
def MOT_GRP.addr : Nat := 0x40200004
def MOT_GRP.MEMBERS : FRef := ⟨MOT_GRP.addr, 0, 4⟩
/-- MOT_STOPINFO, 18_traverse_motion.md Table 18-6. -/
def MOT_STOPINFO.addr : Nat := 0x40200008
def MOT_STOPINFO.REASON : FRef := ⟨MOT_STOPINFO.addr, 0, 16⟩
def MOT_STOPINFO.TENANT : FRef := ⟨MOT_STOPINFO.addr, 16, 3⟩
def MOT_STOPINFO.VALID : FRef := ⟨MOT_STOPINFO.addr, 19, 1⟩
/-- MOT_IRQ, 18_traverse_motion.md Table 18-6. -/
def MOT_IRQ.addr : Nat := 0x4020000c
def MOT_IRQ.DONE : FRef := ⟨MOT_IRQ.addr, 0, 4⟩
def MOT_IRQ.HALT : FRef := ⟨MOT_IRQ.addr, 4, 4⟩
def MOT_IRQ.SWITCH : FRef := ⟨MOT_IRQ.addr, 8, 4⟩
/-- MOT_IRQ_EN, 18_traverse_motion.md Table 18-6. -/
def MOT_IRQ_EN.addr : Nat := 0x40200010
def MOT_IRQ_EN.EN : FRef := ⟨MOT_IRQ_EN.addr, 0, 12⟩
/-- MOT_CFG, 18_traverse_motion.md Table 18-7. -/
def MOT_CFG.addr (n : Nat) : Nat := 0x40200100 + 0x100 * n
def MOT_CFG.MODE (n : Nat) : FRef := ⟨(MOT_CFG.addr n), 0, 2⟩
def MOT_CFG.OUT (n : Nat) : FRef := ⟨(MOT_CFG.addr n), 2, 1⟩
def MOT_CFG.INV (n : Nat) : FRef := ⟨(MOT_CFG.addr n), 3, 1⟩
def MOT_CFG.LIM_EN (n : Nat) : FRef := ⟨(MOT_CFG.addr n), 4, 1⟩
def MOT_CFG.LIM_SIDE (n : Nat) : FRef := ⟨(MOT_CFG.addr n), 5, 1⟩
def MOT_CFG.LIM_POL (n : Nat) : FRef := ⟨(MOT_CFG.addr n), 6, 1⟩
def MOT_CFG.HOME_POL (n : Nat) : FRef := ⟨(MOT_CFG.addr n), 7, 1⟩
def MOT_CFG.IN_MULT (n : Nat) : FRef := ⟨(MOT_CFG.addr n), 8, 8⟩
def MOT_CFG.OUT_DIV (n : Nat) : FRef := ⟨(MOT_CFG.addr n), 16, 8⟩
/-- MOT_STEPIO, 18_traverse_motion.md Table 18-7. -/
def MOT_STEPIO.addr (n : Nat) : Nat := 0x40200104 + 0x100 * n
def MOT_STEPIO.PW (n : Nat) : FRef := ⟨(MOT_STEPIO.addr n), 0, 8⟩
def MOT_STEPIO.DSET (n : Nat) : FRef := ⟨(MOT_STEPIO.addr n), 8, 8⟩
/-- MOT_VLIFT, 18_traverse_motion.md Table 18-7. -/
def MOT_VLIFT.addr (n : Nat) : Nat := 0x40200108 + 0x100 * n
def MOT_VLIFT.V (n : Nat) : FRef := ⟨(MOT_VLIFT.addr n), 0, 32⟩
/-- MOT_VKNEE_UP, 18_traverse_motion.md Table 18-7. -/
def MOT_VKNEE_UP.addr (n : Nat) : Nat := 0x4020010c + 0x100 * n
def MOT_VKNEE_UP.V (n : Nat) : FRef := ⟨(MOT_VKNEE_UP.addr n), 0, 32⟩
/-- MOT_VCRUISE, 18_traverse_motion.md Table 18-7. -/
def MOT_VCRUISE.addr (n : Nat) : Nat := 0x40200110 + 0x100 * n
def MOT_VCRUISE.V (n : Nat) : FRef := ⟨(MOT_VCRUISE.addr n), 0, 32⟩
/-- MOT_VLAND, 18_traverse_motion.md Table 18-7. -/
def MOT_VLAND.addr (n : Nat) : Nat := 0x40200114 + 0x100 * n
def MOT_VLAND.V (n : Nat) : FRef := ⟨(MOT_VLAND.addr n), 0, 32⟩
/-- MOT_ACC_LO, 18_traverse_motion.md Table 18-7. -/
def MOT_ACC_LO.addr (n : Nat) : Nat := 0x40200118 + 0x100 * n
def MOT_ACC_LO.A (n : Nat) : FRef := ⟨(MOT_ACC_LO.addr n), 0, 32⟩
/-- MOT_ACC_HI, 18_traverse_motion.md Table 18-7. -/
def MOT_ACC_HI.addr (n : Nat) : Nat := 0x4020011c + 0x100 * n
def MOT_ACC_HI.A (n : Nat) : FRef := ⟨(MOT_ACC_HI.addr n), 0, 32⟩
/-- MOT_DEC_LO, 18_traverse_motion.md Table 18-7. -/
def MOT_DEC_LO.addr (n : Nat) : Nat := 0x40200120 + 0x100 * n
def MOT_DEC_LO.A (n : Nat) : FRef := ⟨(MOT_DEC_LO.addr n), 0, 32⟩
/-- MOT_DEC_HI, 18_traverse_motion.md Table 18-7. -/
def MOT_DEC_HI.addr (n : Nat) : Nat := 0x40200124 + 0x100 * n
def MOT_DEC_HI.A (n : Nat) : FRef := ⟨(MOT_DEC_HI.addr n), 0, 32⟩
/-- MOT_TARGET, 18_traverse_motion.md Table 18-7. -/
def MOT_TARGET.addr (n : Nat) : Nat := 0x40200128 + 0x100 * n
def MOT_TARGET.POS (n : Nat) : FRef := ⟨(MOT_TARGET.addr n), 0, 32⟩
/-- MOT_HOME_CFG, 18_traverse_motion.md Table 18-7. -/
def MOT_HOME_CFG.addr (n : Nat) : Nat := 0x40200144 + 0x100 * n
def MOT_HOME_CFG.METHOD (n : Nat) : FRef := ⟨(MOT_HOME_CFG.addr n), 0, 2⟩
def MOT_HOME_CFG.HDIR (n : Nat) : FRef := ⟨(MOT_HOME_CFG.addr n), 2, 1⟩
/-- MOT_HVFAST, 18_traverse_motion.md Table 18-7. -/
def MOT_HVFAST.addr (n : Nat) : Nat := 0x40200148 + 0x100 * n
def MOT_HVFAST.V (n : Nat) : FRef := ⟨(MOT_HVFAST.addr n), 0, 32⟩
/-- MOT_HVSLOW, 18_traverse_motion.md Table 18-7. -/
def MOT_HVSLOW.addr (n : Nat) : Nat := 0x4020014c + 0x100 * n
def MOT_HVSLOW.V (n : Nat) : FRef := ⟨(MOT_HVSLOW.addr n), 0, 32⟩
/-- MOT_HBACK, 18_traverse_motion.md Table 18-7. -/
def MOT_HBACK.addr (n : Nat) : Nat := 0x40200150 + 0x100 * n
def MOT_HBACK.DIST (n : Nat) : FRef := ⟨(MOT_HBACK.addr n), 0, 31⟩
/-- MOT_HOFFSET, 18_traverse_motion.md Table 18-7. -/
def MOT_HOFFSET.addr (n : Nat) : Nat := 0x40200154 + 0x100 * n
def MOT_HOFFSET.POS (n : Nat) : FRef := ⟨(MOT_HOFFSET.addr n), 0, 32⟩
/-- MOT_HMAX, 18_traverse_motion.md Table 18-7. -/
def MOT_HMAX.addr (n : Nat) : Nat := 0x40200158 + 0x100 * n
def MOT_HMAX.DIST (n : Nat) : FRef := ⟨(MOT_HMAX.addr n), 0, 31⟩
/-- MOT_ENC_CFG, 18_traverse_motion.md Table 18-7. -/
def MOT_ENC_CFG.addr (n : Nat) : Nat := 0x4020015c + 0x100 * n
def MOT_ENC_CFG.EN (n : Nat) : FRef := ⟨(MOT_ENC_CFG.addr n), 0, 1⟩
def MOT_ENC_CFG.INPUT (n : Nat) : FRef := ⟨(MOT_ENC_CFG.addr n), 1, 3⟩
def MOT_ENC_CFG.FILT_MS (n : Nat) : FRef := ⟨(MOT_ENC_CFG.addr n), 8, 8⟩
def MOT_ENC_CFG.DEV (n : Nat) : FRef := ⟨(MOT_ENC_CFG.addr n), 16, 16⟩
/-- MOT_ENC_MULT, 18_traverse_motion.md Table 18-7. -/
def MOT_ENC_MULT.addr (n : Nat) : Nat := 0x40200160 + 0x100 * n
def MOT_ENC_MULT.MULT (n : Nat) : FRef := ⟨(MOT_ENC_MULT.addr n), 0, 32⟩
/-- MOT_GEAR_CFG, 18_traverse_motion.md Table 18-7. -/
def MOT_GEAR_CFG.addr (n : Nat) : Nat := 0x40200168 + 0x100 * n
def MOT_GEAR_CFG.MASTER (n : Nat) : FRef := ⟨(MOT_GEAR_CFG.addr n), 0, 3⟩
def MOT_GEAR_CFG.BLEND (n : Nat) : FRef := ⟨(MOT_GEAR_CFG.addr n), 3, 1⟩
def MOT_GEAR_CFG.NENT (n : Nat) : FRef := ⟨(MOT_GEAR_CFG.addr n), 4, 3⟩
/-- MOT_GACC, 18_traverse_motion.md Table 18-7. -/
def MOT_GACC.addr (n : Nat) : Nat := 0x4020016c + 0x100 * n
def MOT_GACC.A (n : Nat) : FRef := ⟨(MOT_GACC.addr n), 0, 32⟩
/-- MOT_VKNEE_DN, 18_traverse_motion.md Table 18-7. -/
def MOT_VKNEE_DN.addr (n : Nat) : Nat := 0x4020017c + 0x100 * n
def MOT_VKNEE_DN.V (n : Nat) : FRef := ⟨(MOT_VKNEE_DN.addr n), 0, 32⟩
/-- MOT_POS, 18_traverse_motion.md Table 18-8. -/
def MOT_POS.addr (n : Nat) : Nat := 0x4020012c + 0x100 * n
def MOT_POS.POS (n : Nat) : FRef := ⟨(MOT_POS.addr n), 0, 32⟩
/-- MOT_VEL, 18_traverse_motion.md Table 18-8. -/
def MOT_VEL.addr (n : Nat) : Nat := 0x40200130 + 0x100 * n
def MOT_VEL.V (n : Nat) : FRef := ⟨(MOT_VEL.addr n), 0, 32⟩
/-- MOT_STAT, 18_traverse_motion.md Table 18-8. -/
def MOT_STAT.addr (n : Nat) : Nat := 0x40200134 + 0x100 * n
def MOT_STAT.STATE (n : Nat) : FRef := ⟨(MOT_STAT.addr n), 0, 4⟩
def MOT_STAT.DIR (n : Nat) : FRef := ⟨(MOT_STAT.addr n), 4, 1⟩
def MOT_STAT.AT_TARGET (n : Nat) : FRef := ⟨(MOT_STAT.addr n), 5, 1⟩
def MOT_STAT.POS_LOST (n : Nat) : FRef := ⟨(MOT_STAT.addr n), 6, 1⟩
def MOT_STAT.POS_SUSPECT (n : Nat) : FRef := ⟨(MOT_STAT.addr n), 7, 1⟩
def MOT_STAT.HOME_OK (n : Nat) : FRef := ⟨(MOT_STAT.addr n), 8, 1⟩
def MOT_STAT.HOME_FAIL (n : Nat) : FRef := ⟨(MOT_STAT.addr n), 9, 1⟩
def MOT_STAT.HOME (n : Nat) : FRef := ⟨(MOT_STAT.addr n), 10, 1⟩
def MOT_STAT.LIMIT (n : Nat) : FRef := ⟨(MOT_STAT.addr n), 11, 1⟩
def MOT_STAT.HPHASE (n : Nat) : FRef := ⟨(MOT_STAT.addr n), 12, 3⟩
def MOT_STAT.CAUSE (n : Nat) : FRef := ⟨(MOT_STAT.addr n), 16, 4⟩
def MOT_STAT.CMDRES (n : Nat) : FRef := ⟨(MOT_STAT.addr n), 20, 2⟩
/-- MOT_REMAIN, 18_traverse_motion.md Table 18-8. -/
def MOT_REMAIN.addr (n : Nat) : Nat := 0x40200138 + 0x100 * n
def MOT_REMAIN.DIST (n : Nat) : FRef := ⟨(MOT_REMAIN.addr n), 0, 32⟩
/-- MOT_CMD, 18_traverse_motion.md Table 18-8. -/
def MOT_CMD.addr (n : Nat) : Nat := 0x4020013c + 0x100 * n
def MOT_CMD.OP (n : Nat) : FRef := ⟨(MOT_CMD.addr n), 0, 3⟩
/-- MOT_SETPOS, 18_traverse_motion.md Table 18-8. -/
def MOT_SETPOS.addr (n : Nat) : Nat := 0x40200140 + 0x100 * n
def MOT_SETPOS.POS (n : Nat) : FRef := ⟨(MOT_SETPOS.addr n), 0, 32⟩
/-- MOT_ENCPOS, 18_traverse_motion.md Table 18-8. -/
def MOT_ENCPOS.addr (n : Nat) : Nat := 0x40200164 + 0x100 * n
def MOT_ENCPOS.POS (n : Nat) : FRef := ⟨(MOT_ENCPOS.addr n), 0, 32⟩
/-- MOT_GEAR_LAG, 18_traverse_motion.md Table 18-8. -/
def MOT_GEAR_LAG.addr (n : Nat) : Nat := 0x40200170 + 0x100 * n
def MOT_GEAR_LAG.LAG (n : Nat) : FRef := ⟨(MOT_GEAR_LAG.addr n), 0, 32⟩
/-- MOT_GEAR_REL, 18_traverse_motion.md Table 18-8. -/
def MOT_GEAR_REL.addr (n : Nat) : Nat := 0x40200174 + 0x100 * n
def MOT_GEAR_REL.M (n : Nat) : FRef := ⟨(MOT_GEAR_REL.addr n), 0, 32⟩
/-- MOT_CNT, 18_traverse_motion.md Table 18-8. -/
def MOT_CNT.addr (n : Nat) : Nat := 0x40200178 + 0x100 * n
def MOT_CNT.HALTS (n : Nat) : FRef := ⟨(MOT_CNT.addr n), 0, 8⟩
def MOT_CNT.FOLERR (n : Nat) : FRef := ⟨(MOT_CNT.addr n), 8, 8⟩
def MOT_CNT.HOMEFAIL (n : Nat) : FRef := ⟨(MOT_CNT.addr n), 16, 8⟩
def MOT_CNT.LIMIT (n : Nat) : FRef := ⟨(MOT_CNT.addr n), 24, 8⟩
/-- MOT_GM, 18_traverse_motion.md Table 18-7. -/
def MOT_GM.addr (n k : Nat) : Nat := 0x40200180 + 0x100 * n + 0x8 * k
def MOT_GM.M (n k : Nat) : FRef := ⟨(MOT_GM.addr n k), 0, 32⟩
/-- MOT_GR, 18_traverse_motion.md Table 18-7. -/
def MOT_GR.addr (n k : Nat) : Nat := 0x40200184 + 0x100 * n + 0x8 * k
def MOT_GR.RATIO (n k : Nat) : FRef := ⟨(MOT_GR.addr n k), 0, 32⟩
/-- DRV_STATUS, 19_drive_stage.md Table 19-7. -/
def DRV_STATUS.addr : Nat := 0x40210000
def DRV_STATUS.DRIVEN : FRef := ⟨DRV_STATUS.addr, 0, 4⟩
def DRV_STATUS.TRIP : FRef := ⟨DRV_STATUS.addr, 4, 1⟩
def DRV_STATUS.VM_OK : FRef := ⟨DRV_STATUS.addr, 5, 1⟩
def DRV_STATUS.CLK_OK : FRef := ⟨DRV_STATUS.addr, 6, 1⟩
def DRV_STATUS.LINK_OK : FRef := ⟨DRV_STATUS.addr, 7, 1⟩
/-- DRV_FAULT, 19_drive_stage.md Table 19-7. -/
def DRV_FAULT.addr : Nat := 0x40210004
def DRV_FAULT.OCP : FRef := ⟨DRV_FAULT.addr, 0, 4⟩
def DRV_FAULT.OPEN : FRef := ⟨DRV_FAULT.addr, 4, 4⟩
def DRV_FAULT.OTP : FRef := ⟨DRV_FAULT.addr, 8, 1⟩
def DRV_FAULT.OTW : FRef := ⟨DRV_FAULT.addr, 9, 1⟩
def DRV_FAULT.VM_UV : FRef := ⟨DRV_FAULT.addr, 10, 1⟩
def DRV_FAULT.VM_OV : FRef := ⟨DRV_FAULT.addr, 11, 1⟩
def DRV_FAULT.LINK : FRef := ⟨DRV_FAULT.addr, 12, 1⟩
def DRV_FAULT.CLK : FRef := ⟨DRV_FAULT.addr, 13, 1⟩
/-- DRV_TRIP, 19_drive_stage.md Table 19-7. -/
def DRV_TRIP.addr : Nat := 0x40210008
def DRV_TRIP.TRIPN : FRef := ⟨DRV_TRIP.addr, 0, 1⟩
def DRV_TRIP.GRAVE : FRef := ⟨DRV_TRIP.addr, 1, 1⟩
def DRV_TRIP.STOP : FRef := ⟨DRV_TRIP.addr, 2, 1⟩
def DRV_TRIP.FENCE : FRef := ⟨DRV_TRIP.addr, 3, 1⟩
def DRV_TRIP.FAULT : FRef := ⟨DRV_TRIP.addr, 4, 1⟩
def DRV_TRIP.ACTIVE : FRef := ⟨DRV_TRIP.addr, 8, 1⟩
/-- DRV_TRIP_CLR, 19_drive_stage.md Table 19-7. -/
def DRV_TRIP_CLR.addr : Nat := 0x4021000c
def DRV_TRIP_CLR.STOP : FRef := ⟨DRV_TRIP_CLR.addr, 0, 1⟩
/-- DRV_IRQ, 19_drive_stage.md Table 19-7. -/
def DRV_IRQ.addr : Nat := 0x40210010
def DRV_IRQ.FAULT : FRef := ⟨DRV_IRQ.addr, 0, 1⟩
def DRV_IRQ.TRIP : FRef := ⟨DRV_IRQ.addr, 1, 1⟩
def DRV_IRQ.OTW : FRef := ⟨DRV_IRQ.addr, 2, 1⟩
def DRV_IRQ.TBL : FRef := ⟨DRV_IRQ.addr, 3, 1⟩
def DRV_IRQ.STALL : FRef := ⟨DRV_IRQ.addr, 4, 4⟩
/-- DRV_IRQ_EN, 19_drive_stage.md Table 19-7. -/
def DRV_IRQ_EN.addr : Nat := 0x40210014
def DRV_IRQ_EN.EN : FRef := ⟨DRV_IRQ_EN.addr, 0, 8⟩
/-- DRV_SKIP_CNT, 19_drive_stage.md Table 19-7. -/
def DRV_SKIP_CNT.addr : Nat := 0x40210018
def DRV_SKIP_CNT.SKIP : FRef := ⟨DRV_SKIP_CNT.addr, 0, 16⟩
def DRV_SKIP_CNT.DISCARD : FRef := ⟨DRV_SKIP_CNT.addr, 16, 16⟩
/-- DRV_CHOP, 19_drive_stage.md Table 19-7. -/
def DRV_CHOP.addr : Nat := 0x4021001c
def DRV_CHOP.PERIOD : FRef := ⟨DRV_CHOP.addr, 0, 11⟩
def DRV_CHOP.DT : FRef := ⟨DRV_CHOP.addr, 16, 5⟩
def DRV_CHOP.MINPULSE : FRef := ⟨DRV_CHOP.addr, 24, 6⟩
/-- DRV_TEMP, 19_drive_stage.md Table 19-7. -/
def DRV_TEMP.addr : Nat := 0x40210020
def DRV_TEMP.DEGC : FRef := ⟨DRV_TEMP.addr, 0, 8⟩
/-- DRV_AX_CFG, 19_drive_stage.md Table 19-8. -/
def DRV_AX_CFG.addr (n : Nat) : Nat := 0x40210100 + 0x40 * n
def DRV_AX_CFG.EN (n : Nat) : FRef := ⟨(DRV_AX_CFG.addr n), 0, 1⟩
def DRV_AX_CFG.DECAY (n : Nat) : FRef := ⟨(DRV_AX_CFG.addr n), 1, 2⟩
def DRV_AX_CFG.FAST_FRAC (n : Nat) : FRef := ⟨(DRV_AX_CFG.addr n), 3, 3⟩
def DRV_AX_CFG.STANDSTILL (n : Nat) : FRef := ⟨(DRV_AX_CFG.addr n), 6, 1⟩
def DRV_AX_CFG.TBL (n : Nat) : FRef := ⟨(DRV_AX_CFG.addr n), 7, 1⟩
def DRV_AX_CFG.EIDX_INV (n : Nat) : FRef := ⟨(DRV_AX_CFG.addr n), 8, 1⟩
def DRV_AX_CFG.STALL (n : Nat) : FRef := ⟨(DRV_AX_CFG.addr n), 9, 2⟩
def DRV_AX_CFG.STBY_MS (n : Nat) : FRef := ⟨(DRV_AX_CFG.addr n), 16, 8⟩
/-- DRV_AX_CUR, 19_drive_stage.md Table 19-8. -/
def DRV_AX_CUR.addr (n : Nat) : Nat := 0x40210104 + 0x40 * n
def DRV_AX_CUR.IRUN (n : Nat) : FRef := ⟨(DRV_AX_CUR.addr n), 0, 11⟩
def DRV_AX_CUR.IMIN (n : Nat) : FRef := ⟨(DRV_AX_CUR.addr n), 16, 11⟩
/-- DRV_AX_REG, 19_drive_stage.md Table 19-8. -/
def DRV_AX_REG.addr (n : Nat) : Nat := 0x40210108 + 0x40 * n
def DRV_AX_REG.KP (n : Nat) : FRef := ⟨(DRV_AX_REG.addr n), 0, 8⟩
def DRV_AX_REG.KI (n : Nat) : FRef := ⟨(DRV_AX_REG.addr n), 8, 8⟩
/-- DRV_AX_LOAD_CFG, 19_drive_stage.md Table 19-8. -/
def DRV_AX_LOAD_CFG.addr (n : Nat) : Nat := 0x4021010c + 0x40 * n
def DRV_AX_LOAD_CFG.LA_LIMIT (n : Nat) : FRef := ⟨(DRV_AX_LOAD_CFG.addr n), 0, 8⟩
def DRV_AX_LOAD_CFG.LA_UP (n : Nat) : FRef := ⟨(DRV_AX_LOAD_CFG.addr n), 8, 8⟩
def DRV_AX_LOAD_CFG.LA_DN (n : Nat) : FRef := ⟨(DRV_AX_LOAD_CFG.addr n), 16, 8⟩
def DRV_AX_LOAD_CFG.LA_FILT (n : Nat) : FRef := ⟨(DRV_AX_LOAD_CFG.addr n), 24, 4⟩
/-- DRV_AX_LOAD_CFG2, 19_drive_stage.md Table 19-8. -/
def DRV_AX_LOAD_CFG2.addr (n : Nat) : Nat := 0x40210110 + 0x40 * n
def DRV_AX_LOAD_CFG2.LOAD_VMIN (n : Nat) : FRef := ⟨(DRV_AX_LOAD_CFG2.addr n), 0, 16⟩
def DRV_AX_LOAD_CFG2.ISTEP (n : Nat) : FRef := ⟨(DRV_AX_LOAD_CFG2.addr n), 16, 8⟩
def DRV_AX_LOAD_CFG2.UP_MS (n : Nat) : FRef := ⟨(DRV_AX_LOAD_CFG2.addr n), 24, 4⟩
def DRV_AX_LOAD_CFG2.DN_MS (n : Nat) : FRef := ⟨(DRV_AX_LOAD_CFG2.addr n), 28, 4⟩
/-- DRV_AX_STAT, 19_drive_stage.md Table 19-8. -/
def DRV_AX_STAT.addr (n : Nat) : Nat := 0x40210114 + 0x40 * n
def DRV_AX_STAT.STATE (n : Nat) : FRef := ⟨(DRV_AX_STAT.addr n), 0, 3⟩
def DRV_AX_STAT.STALL (n : Nat) : FRef := ⟨(DRV_AX_STAT.addr n), 3, 1⟩
def DRV_AX_STAT.LOAD_VALID (n : Nat) : FRef := ⟨(DRV_AX_STAT.addr n), 4, 1⟩
/-- DRV_AX_EIDX, 19_drive_stage.md Table 19-8. -/
def DRV_AX_EIDX.addr (n : Nat) : Nat := 0x40210118 + 0x40 * n
def DRV_AX_EIDX.EIDX (n : Nat) : FRef := ⟨(DRV_AX_EIDX.addr n), 0, 10⟩
/-- DRV_AX_LOAD, 19_drive_stage.md Table 19-8. -/
def DRV_AX_LOAD.addr (n : Nat) : Nat := 0x4021011c + 0x40 * n
def DRV_AX_LOAD.LA (n : Nat) : FRef := ⟨(DRV_AX_LOAD.addr n), 0, 8⟩
def DRV_AX_LOAD.I (n : Nat) : FRef := ⟨(DRV_AX_LOAD.addr n), 16, 11⟩
/-- DRV_AX_COIL, 19_drive_stage.md Table 19-8. -/
def DRV_AX_COIL.addr (n : Nat) : Nat := 0x40210120 + 0x40 * n
def DRV_AX_COIL.IA (n : Nat) : FRef := ⟨(DRV_AX_COIL.addr n), 0, 16⟩
def DRV_AX_COIL.IB (n : Nat) : FRef := ⟨(DRV_AX_COIL.addr n), 16, 16⟩
/-- DRV_AX_LAMAX, 19_drive_stage.md Table 19-8. -/
def DRV_AX_LAMAX.addr (n : Nat) : Nat := 0x40210124 + 0x40 * n
def DRV_AX_LAMAX.LA (n : Nat) : FRef := ⟨(DRV_AX_LAMAX.addr n), 0, 8⟩

/-! Bark sources (Table 06-1). -/
def Src.BRK_VOTE : Nat := 0
def Src.BRK_SELF : Nat := 1
def Src.IC_PARITY : Nat := 2
def Src.IC_TIMEOUT : Nat := 3
def Src.BUS_DECODE : Nat := 4
def Src.TEN_PERM : Nat := 5
def Src.SYSCTL_CHK : Nat := 6
def Src.PWR_SEQ : Nat := 7
def Src.PWR_HOLD : Nat := 8
def Src.PWR_VIO : Nat := 9
def Src.PWR_RAIL : Nat := 10
def Src.ROOT_MEM : Nat := 11
def Src.TEMP_HIGH : Nat := 12
def Src.TEMP_CRIT : Nat := 13
def Src.CLK_REF : Nat := 14
def Src.CLK_SYSPLL : Nat := 15
def Src.CLK_TIMEPLL : Nat := 16
def Src.CLK_TRKPLL : Nat := 17
def Src.CLK_RSLOW : Nat := 18
def Src.TIM_UNLOCK : Nat := 19
def Src.LATE : Nat := 20
def Src.SEC_FAULT : Nat := 21
def Src.SEC_AUTH : Nat := 22
def Src.SEC_ROLLBACK : Nat := 23
def Src.SVC_PROTO : Nat := 24
def Src.SVC_CHK : Nat := 25
def Src.AFE0_SFLT : Nat := 26
def Src.AFE1_SFLT : Nat := 27
def Src.AFE0_CHK : Nat := 28
def Src.AFE1_CHK : Nat := 29
def Src.AFE0_LINK : Nat := 30
def Src.AFE1_LINK : Nat := 31
def Src.IEPE_SUP : Nat := 32
def Src.AFE_REF : Nat := 33
def Src.WATCH_CHK : Nat := 34
def Src.TCH_OVR : Nat := 35
def Src.TCH_CHK : Nat := 36
def Src.CNP0_UNC : Nat := 37
def Src.CNP1_UNC : Nat := 38
def Src.CNP2_UNC : Nat := 39
def Src.CNP3_UNC : Nat := 40
def Src.CNP0_COR : Nat := 41
def Src.CNP1_COR : Nat := 42
def Src.CNP2_COR : Nat := 43
def Src.CNP3_COR : Nat := 44
def Src.CNP0_LANE : Nat := 45
def Src.CNP1_LANE : Nat := 46
def Src.CNP2_LANE : Nat := 47
def Src.CNP3_LANE : Nat := 48
def Src.CNX_CHK : Nat := 49
def Src.CRC_CHK : Nat := 50
def Src.REC_CHK : Nat := 51
def Src.REC_SUB : Nat := 52
def Src.BUF_DOUBLE_FREE : Nat := 53
def Src.BUF_FOREIGN_FREE : Nat := 54
def Src.BUF_CHK : Nat := 55
def Src.CAP_UNC : Nat := 56
def Src.CAP_COR : Nat := 57
def Src.HWD_UNC : Nat := 58
def Src.HWD_COR : Nat := 59
def Src.HWD_JOURNAL : Nat := 60
def Src.HWD_LINK : Nat := 61
def Src.CREW_DOUBLE_FAULT : Nat := 62
def Src.CRW_TCM_UNC : Nat := 63
def Src.CRW_L2_UNC : Nat := 64
def Src.CRW_WDOG : Nat := 65
def Src.TKA_LANE : Nat := 66
def Src.TKB_LANE : Nat := 67
def Src.TKA_CRC : Nat := 68
def Src.TKB_CRC : Nat := 69
def Src.TKA_CHK : Nat := 70
def Src.TKB_CHK : Nat := 71
def Src.TKS_CHK : Nat := 72
def Src.TRK_PROTO : Nat := 73
def Src.TRK_SEQ : Nat := 74
def Src.TRK_UNBOUND : Nat := 75
def Src.TEN_BIND : Nat := 76
def Src.CRB_TIMEOUT : Nat := 77
def Src.CRB_PROTO : Nat := 78
def Src.CRB_ARB : Nat := 79
def Src.CRB_CHK : Nat := 80
def Src.GRV_CRC : Nat := 81
def Src.GRV_BREAK : Nat := 82
def Src.GRV_BABBLE : Nat := 83
def Src.GRV_DRIFT : Nat := 84
def Src.GRV_SAPLING : Nat := 85
def Src.GRV_ENUM : Nat := 86
def Src.GRV_CHK : Nat := 87
def Src.MOT_CHK : Nat := 88
def Src.MOT_AXIS : Nat := 89
def Src.DRV_OCP : Nat := 90
def Src.DRV_OTP : Nat := 91
def Src.DRV_OPEN : Nat := 92
def Src.DRV_STALL : Nat := 93
def Src.DRV_VM : Nat := 94
def Src.DRV_LINK : Nat := 95

end Sys2Proof.Machine
end

