-- ==== Sys2Proof/Machine/State.lean ====
section
/-! DEFINITION. The state of the node as plain data: the register file (all registers of chapters 03 to 19, by address),
memory, and the state that the rules give each unit behind its registers. -/

namespace Sys2Proof.Machine

/-! ### Modes and supplies (chapter 03) -/

/-- The major modes of Table 03-1. -/
inductive Mode where
  | off | root | waking | load | watch | run | survey | bridge | degraded | safe | holdup | factory
  deriving DecidableEq, Repr

/-- SYS_MODE.SEQ (Table 03-28). -/
inductive Seq where
  | none | cold | warm | pdown | hold | ret
  deriving DecidableEq, Repr

/-- The steps of a boot or wake (Table 03-5): Root-up, its wait for VIO_GEN (R36), rails, PLL, M-die ready, signature
check, image apply, and `held`: held in LOAD without a valid image (R67). -/
inductive Phase where
  | none | rootUp | vioWait | rails | pll | mdie | verify | apply | held
  deriving DecidableEq, Repr

/-- What the boot or wake in hand follows, which decides its target (Table 03-3). `start true` is a cold boot or a boot
after node reset, `start false` one whose target is PWR_START_MODE but which leads to no FACTORY TEST (R54). -/
inductive BootWhy where
  | start (factory : Bool)
  | wake (mask : Nat)
  | resume (m : Mode)
  deriving DecidableEq, Repr

/-- Which loss of VIN the last OFF followed (Table 03-2). -/
inductive OffFrom where
  | none | root | holdup | safe
  deriving DecidableEq, Repr

/-- Power and mode control: the mode controller in Root (R60) and the supply monitors (Table 03-6). -/
structure Pwr where
  mode : Mode := .off
  base : Mode := .off
  seq : Seq := .none
  safeLatch : Bool := false
  watchCycle : Bool := false
  /-- Root has power (R53). -/
  rootPowered : Bool := true
  vinOk : Bool := false
  vinQual : Bool := false
  /-- The 10 ms qualification of VIN is running (R76, R77). -/
  qualRun : Bool := false
  holdOk : Bool := false
  charging : Bool := false
  vbakOk : Bool := false
  vbakLow : Bool := false
  /-- VM has risen through 11.0 V and not since fallen through 10.5 V (R78). -/
  vmRisen : Bool := false
  vmUv : Bool := false
  vmOv : Bool := false
  vioGenOk : Bool := false
  vioCrbOk : Bool := true
  phase : Phase := .none
  why : BootWhy := .start true
  /-- A boot has left its Root-up step since the last POR (R713). -/
  booted : Bool := false
  offFrom : OffFrom := .none
  /-- The latched mode request and its tenant (R91, R92). -/
  latchedReq : Option (Mode × Nat) := none
  /-- RST_N or SYS_NODE_RST latched during HOLDUP or a power-down (R90). -/
  latchedRst : Bool := false
  /-- RST_N reads low. -/
  rstLow : Bool := false
  /-- The node is held in node reset by RST_N (R48). -/
  rstHeld : Bool := false
  /-- Enabled wake causes latched during a power-down to ROOT (R70, Table 03-8). -/
  wakeLatched : Nat := 0
  /-- The image verification record: the BOOT write counter when the images were last verified (R68). -/
  verif : Option Nat := none
  /-- The slot being verified and whether it is the second one tried (R286). -/
  slot : Nat := 0
  fallback : Bool := false
  /-- `uptime` at the start of the last boot or wake, and of the last sequence. -/
  bootStart : Nat := 0
  seqStart : Nat := 0
  /-- The firmware window of R82 is open. -/
  fwWindow : Bool := false
  /-- The sequence has reached its commit point; the return wait of R88 runs. -/
  committed : Bool := false
  retWait : Bool := false
  /-- Root senses wake causes in the WAKING in hand, which began in ROOT (R70). -/
  sense : Bool := false
  /-- VIN failed during the power-down in hand (R93). -/
  pdownLost : Bool := false
  /-- A watch cycle that begins at the end of the power-down in hand (R59, R71). -/
  watchArm : Bool := false
  /-- T0 of the watch cycle in mill time, and the number of its last instant (R71). -/
  watchT0 : Nat := 0
  watchN : Nat := 0
  /-- Acquisition of a snapshot runs (R72). -/
  watchAcq : Bool := false
  /-- Events of ROOT_FAST sources held while Bark does not run (R170, R190). -/
  heldSrc : List Nat := []
  /-- ROOT_SLOW runs on its RC fallback until POR (R96). -/
  rslowRc : Bool := false
  /-- `uptime` at the last write of each wake timer. -/
  wt0At : Nat := 0
  wt1At : Nat := 0
  /-- A GRAVE fault in Heartwood during HOLDUP: nothing more is written to the journal (R86). -/
  noJournal : Bool := false
  /-- The event entry of the boot in hand has been made (R352). -/
  bootLogged : Bool := false
  deriving DecidableEq, Repr

/-! ### Register conventions (chapter 05) -/

/-- The state of an indirect port behind its registers (R147 to R149): the held word, a fetch in progress, the write
queue (address, word, tenant), oldest first. `no`: how many fetches the port has started, so that the answer to one given up
is not taken for the next. -/
structure IndPort where
  held : Option Word := none
  fetching : Bool := false
  no : Nat := 0
  wq : List (Nat × Word × Nat) := []
  deriving DecidableEq, Repr

/-- The result of the last register or memory access a command performed: who accessed, the status of Table 14-2 and the
words read. The model's own record: read commands leave their answer here. -/
structure Rsp where
  tenant : Nat := 0
  status : Nat := 0
  data : List Word := []
  deriving DecidableEq, Repr

/-- A reset that waits for a completion: its unit, 31 for the node, the port and number of its request, and whether the
completion has been discarded (R154, R156). -/
structure Carried where
  unit : Nat
  port : Nat
  id : Nat
  gone : Bool := false
  deriving DecidableEq, Repr

/-- A service-port frame one of whose words waits at the rack bridge: a WRITE, the words still to be performed (address and
data), and the words read (R132, R159). -/
structure SvcFrame where
  wr : Bool
  left : List (Nat × Option Word) := []
  data : List Word := []
  deriving DecidableEq, Repr

/-- State behind the SYS registers: the tenant and the instant of the armed timed apply (R142, R143), unit resets waiting for a commit or a
completion (R154), fences being lifted (R186), and the service port (R158 to R161). `carrier` is the request whose
register write is being performed: its port, 2 for the service port, and its number. `carry`: resets that wait for its completion to leave: a port's
unit (SYS_URST bit), or 31 for the node, with tenant and tag. -/
structure SysH where
  atTenant : Nat := 0
  atTime : Nat := 0
  rstWait : Nat := 0
  carrier : Option (Nat × Nat) := none
  carry : List Carried := []
  unfencing : Nat := 0
  /-- SVC_MISO is high-impedance until the next fall of SVC_CS_N (R161). -/
  svcIgnored : Bool := false
  /-- The frame in hand, one of its words at the rack bridge, and the number of the last frame. -/
  svc : Option SvcFrame := none
  svcNo : Nat := 0
  deriving DecidableEq, Repr

/-! ### Timebase (chapter 04) -/

/-- A TIME exchange in progress: port, TAG, t1, t2 and, once DELAY_REQ has left, t3 (Table 04-3). -/
structure Exch where
  port : Nat
  tag : Nat
  t1 : Nat
  t2 : Nat
  t3 : Option Nat := none
  deriving DecidableEq, Repr

/-- The timebase behind the TIM registers. `now` is mill time in ns and `frac` what the frequency adjustment has left over,
in units of 2^-8 × 10^-9 ns. `acc` and `dHist` are in half ns, the step of R109's halves. `late`: port and TAG of the
exchanges missed whose answers have not come (R103). -/
structure Tim where
  now : Nat := 0
  frac : Int := 0
  acc : Int := 0
  dHist : List Int := []
  lockCnt : Nat := 0
  unlockCnt : Nat := 0
  stepCnt : Nat := 0
  exch : Option Exch := none
  late : List (Nat × Nat) := []
  /-- The modulators realign at the next whole second (R120). -/
  realign : Bool := false
  /-- Mill time at the last rise of TIME_PPS (R32). -/
  ppsAt : Option Nat := none
  deriving DecidableEq, Repr

/-! ### Bark (chapter 06) -/

/-- Bark behind its registers. -/
structure Brk where
  /-- Class of the reaction performed since the sticky bit set, by source (R174, R180). -/
  perf : SMap Nat := []
  /-- Sources that have acted GRAVE (R191). -/
  graves : List Nat := []
  /-- Fence targets that index-dependent sources have named since their sticky bits set (R172, R186). -/
  named : List (Nat × Nat) := []
  /-- Second and third copies of voted registers where they differ from the first (R195). -/
  voteB : SMap (Option Word) := []
  voteC : SMap (Option Word) := []
  /-- The sources whose pairs LINE00 or LINE11 injections hold, oldest first, and whether each pair read error before
  (R199). -/
  injLine : List (Nat × Bool) := []
  /-- The injection that waits for its checker's next check: source and instance (R197). -/
  inj : Option (Nat × Nat) := none
  /-- `uptime` at which the window of each source expires (R177, R178). -/
  closes : SMap Nat := []
  /-- The instance (tenant, core, port, controller, silent target) of each source's last event. -/
  inst : SMap Nat := []
  deriving DecidableEq, Repr

/-! ### Analog channels and tach inputs (chapter 07) -/

/-- A channel behind its registers: SEQ of its next sample, and the stamps of index events that no sample has yet
marked (R211, R212). -/
structure AfeCh where
  nextSeq : Nat := 0
  idxAt : List Nat := []
  deriving DecidableEq, Repr

/-- The Root watch path: armed comparators (bit 2c + k), sets written since entry to ROOT, and the IEPE setting of each
watch channel when the rails last went off (R220 to R223). -/
structure Watch where
  armed : Nat := 0xFFFF
  sets : Nat := 0
  iepe : List Nat := []
  deriving DecidableEq, Repr

/-- A stamp: mill time, the info word of Table 07-10, and the revolution count it gives the reference path (R244). -/
structure Stamp where
  t : Nat
  info : Word
  rev : Int := 0
  deriving DecidableEq, Repr

/-- An input behind its registers: accepted land levels, counted edges since the last index event and since the last
delivered one under DECIM, stamps waiting (R229), flags for the next stamp, and `uptime` of the last counted edge (R230). -/
structure TchIn where
  a : Bool := false
  b : Bool := false
  z : Bool := false
  cnt : Nat := 0
  decim : Nat := 0
  queue : List Stamp := []
  gapNext : Bool := false
  tstep : Bool := false
  lastIdx : Option Nat := none
  ovr : Bool := false
  edgeAt : Nat := 0
  deriving DecidableEq, Repr

/-! ### Canopy (chapter 08) -/

/-- A stream word with its tag sideband (Table 08-2). -/
structure SWord where
  w : Word := 0
  ty : Nat := 0
  ck : Nat := 0
  first : Bool := false
  last : Bool := false
  settle : Bool := false
  gap : Bool := false
  mark : Bool := false
  src : Nat := 0
  deriving DecidableEq, Repr

/-- A value held by a tile: the word, whether it is a FLOAT, its instant in 1/16 ns, and its flags. -/
structure Smp where
  w : Word := 0
  isFloat : Bool := false
  t16 : Nat := 0
  settle : Bool := false
  clip : Bool := false
  sflt : Bool := false
  mark : Bool := false
  deriving DecidableEq, Repr

/-- A frame, block or record that a context has completed: its values or words, time, interval, and what its INFO word or
header says. -/
structure Blk where
  smps : List Smp := []
  words : List Word := []
  t : Nat := 0
  ivl : Nat := 0
  excl : Nat := 0
  clip : Bool := false
  sflt : Bool := false
  gap : Bool := false
  invalid : Bool := false
  part : Nat := 0
  split : Bool := false
  final : Bool := true
  mark : Bool := false
  deriving DecidableEq, Repr

/-- The state of a biquad: x[−1], x[−2], y[−1], y[−2]. -/
structure Biquad where
  x1 : Int := 0
  x2 : Int := 0
  y1 : Int := 0
  y2 : Int := 0
  deriving DecidableEq, Repr

/-- A revolution that an RSMP context still has to resample: its reference events in order, the revolution count, and
which intervals failed the speed check. -/
structure Rev where
  evs : List Nat := []
  rev : Int := 0
  bad : List Bool := []
  allBad : Bool := false
  gap : Bool := false
  deriving DecidableEq, Repr

/-- A tile context. `q`: words waiting in its input. `hit`: words to come that fail parity on entry. `tlo`, `t16`, `ivl`: the TIME pair and IVL in force, `t16` being the
nominal instant of the next sample in 1/16 ns. `hist`: the inputs of the FIR window or since the previous output, newest
first. `dec`, `hold`, `seq`, `outGap`: inputs since the last output, outputs still to mark SETTLE, SEQ of the next
output, GAP pending. `buf`: samples of the frame, block or revolution in progress. `revs`: revolutions
begun in a STAT block. `done`: frames, blocks or records completed. `nfrm`, `excl`, `clip`, `sflt`, `mark`, `gap`, `skip`: of the
FFT average in progress. `idx`, `inval`, `setT`: ALRM's place in a set. `words`, `packT`, `part`, `openGap`: PACK's open
record. `pend`: revolutions to resample. -/
structure Ctx where
  q : List SWord := []
  hit : Nat := 0
  gapNext : Bool := false
  tlo : Nat := 0
  t16 : Nat := 0
  ivl : Nat := 0
  hist : List Smp := []
  bqs : List Biquad := []
  dec : Nat := 0
  hold : Nat := 0
  seq : Nat := 0
  outGap : Bool := false
  buf : List Smp := []
  revs : Nat := 0
  done : List Blk := []
  nfrm : Nat := 0
  every : Nat := 0
  avg : List Int := []
  excl : Nat := 0
  clip : Bool := false
  sflt : Bool := false
  mark : Bool := false
  gap : Bool := false
  skip : Bool := false
  idx : Option Nat := none
  inval : Bool := false
  setT : Nat := 0
  words : List Word := []
  nsmp : Nat := 0
  packT : Option Nat := none
  part : Nat := 0
  openGap : Bool := false
  pend : List Rev := []
  deriving DecidableEq, Repr

/-- A sample ingest port (R240 to R243). `inq`: samples on their way to it, each with its channel and nominal instant; `q`:
words it holds. -/
structure IngPort where
  lastSeq : Option Nat := none
  needTime : Bool := true
  gapNext : Bool := false
  inq : List (Nat × Word × Nat) := []
  q : List SWord := []
  deriving DecidableEq, Repr

/-- The reference path of a bough for one input (R244): the last two index stamps, newest first, each with the revolution
count it gave. -/
structure RefPath where
  stamps : List (Nat × Int) := []
  deriving DecidableEq, Repr

/-- A stamp on its way to an RSMP tile: its instant, whether it is an index event, whether it carries GAP or TSTEP, and
the revolution count it gives. -/
structure RefEv where
  t : Nat
  idx : Bool
  bad : Bool
  rev : Int
  deriving DecidableEq, Repr

/-- The RSMP tile of a bough: reference events waiting, the events of the revolution in progress (none while it waits for
an index event), which of its intervals failed the speed check, and the previous interval. -/
structure Rsmp where
  evq : List RefEv := []
  evs : List Nat := []
  rev : Int := 0
  bad : List Bool := []
  prevIv : Option Nat := none
  gap : Bool := false
  deriving DecidableEq, Repr

/-- A value waiting at an alarm point (R261). -/
structure AlrmVal where
  valid : Bool
  v : Word
  t : Nat
  clip : Bool := false
  sflt : Bool := false
  deriving DecidableEq, Repr

/-- An alarm point: values waiting, the last one judged, level flags and persistence counts (R262). -/
structure Point where
  q : List AlrmVal := []
  lastV : Word := 0
  lastT : Nat := 0
  lastClip : Bool := false
  lastSflt : Bool := false
  alert : Bool := false
  danger : Bool := false
  nAlert : Nat := 0
  nDanger : Nat := 0
  deriving DecidableEq, Repr

/-- Canopy behind its registers. Contexts are keyed 512 b + 32 t + k, ports 16 b + p, reference paths 8 b + i, points
32 b + k; `desc` holds the context descriptors of the structure in force (Table 09-6). -/
structure Canopy where
  desc : SMap Nat := []
  ctx : SMap Ctx := []
  ing : SMap IngPort := []
  refs : SMap RefPath := []
  rsmp : SMap Rsmp := []
  pts : SMap Point := []
  /-- Frames waiting for the transform of each FFT tile, keyed 16 b + t: (context, frame). -/
  ffq : SMap (List (Nat × Blk)) := []
  /-- Words of each tile that wait at its lane, keyed 16 b + t, oldest first: while there are any the tile stalls (R237). -/
  outq : SMap (List SWord) := []
  /-- What the image in force gives the registers whose reset entry is "image" (Table 08-8). -/
  img : SMap Word := []
  deriving DecidableEq, Repr

/-! ### Records and capture store (chapter 10) -/

/-- A record: the header of Table 10-1 and its payload. -/
structure Rec where
  ty : Nat := 0
  part : Nat := 0
  source : Nat := 0
  flags : Nat := 0
  excl : Nat := 0
  seq : Nat := 0
  pos : Nat := 0
  time : Nat := 0
  rev : Nat := 0
  angle : Nat := 0
  payload : List Word := []
  deriving DecidableEq, Repr

/-- Who offers a record: PACK context 16 b + k, alarm point 32 b + k, capture channel, or a firmware post with its
chain. -/
inductive Producer where
  | pack (g : Nat)
  | alarm (g : Nat)
  | capture (n : Nat)
  | post (chain : List Nat)
  deriving DecidableEq, Repr

/-- A copy of a record for a subscription: its chain, bytes and header fields; `sent` once its push writes are queued, `left` once the
last of them has left the port (R322). -/
structure Delivery where
  sub : Nat
  tenant : Nat
  chain : List Nat
  bytes : List Byte
  r : Rec
  sent : Bool := false
  left : Bool := false
  deriving DecidableEq, Repr

/-- A capture running: the ring sample numbers it still has to deliver, its next part, flags, and the channel
configuration it began under (R328 to R330). -/
structure Capture where
  next : Nat
  stop : Nat
  part : Nat := 0
  multi : Bool := false
  short : Bool := false
  cfg : Word := 0
  deriving DecidableEq, Repr

/-- The raw ring of a channel: samples written since the partition, and of each sample it holds, newest first, its nominal
instant in ns and its interval in 1/16 ns (R305, R329). -/
structure Ring where
  cnt : Nat := 0
  hist : List (Nat × Nat) := []
  deriving DecidableEq, Repr

/-- Record engine and buffer manager behind their registers: records offered, the input queue with the subscriptions each
still has to be copied for, copies in delivery order, producer sequence numbers, captures, rings (effective LOG of each
channel, and contents count), buffer owners (tag + 16 × tenant charged, Table of R306; unlisted FREE), results per tenant. -/
structure RecEng where
  offered : List (Producer × Rec) := []
  inq : List (Producer × Rec × List Nat) := []
  dlv : List Delivery := []
  seqs : SMap Nat := []
  caps : SMap (Option Capture) := []
  logs : List Nat := []
  rings : SMap Ring := []
  own : SMap Nat := []
  bufRes : SMap Word := []
  deriving DecidableEq, Repr

/-! ### Security enclave: images (chapter 09) -/

/-- A slot descriptor (R286), committed in Heartwood. -/
structure SlotDesc where
  valid : Bool := false
  len : Nat := 0
  arbId : Nat := 0
  arb : Nat := 0
  imageId : Nat := 0
  digest : List Byte := []
  installSeq : Nat := 0
  deriving DecidableEq, Repr

/-- An image operation running: its OP code, its step (0 verify, 1 install, 2 graft), bough, address and length. -/
structure ImgOp where
  op : Nat
  step : Nat := 0
  bough : Nat := 0
  addr : Nat := 0
  len : Nat := 0
  deriving DecidableEq, Repr

/-- The enclave's image functions: the operation running, the slot booted from, the (ARB_ID, ARB_COUNTER) of each image
applied (the slot image as 4, and the graft in force in each bough), the slot descriptors. -/
structure SecImg where
  op : Option ImgOp := none
  booted : Option Nat := none
  applied : List (Nat × Nat × Nat) := []
  slotA : SlotDesc := {}
  slotB : SlotDesc := {}
  deriving DecidableEq, Repr

/-! ### Heartwood (chapter 11) -/

/-- An entry of a transaction: CONF or TREND, its offset in CONF, its source in the capture store (none through the
HWD_CONF port), its length, and its bytes once they are staged (R342 to R344). -/
structure JEntry where
  trend : Bool := false
  off : Nat := 0
  src : Option Nat := none
  len : Nat := 0
  data : List Byte := []
  staged : Bool := false
  deriving DecidableEq, Repr

/-- An event entry awaiting commit (Table 11-4, without ESEQ). -/
structure Ev where
  time : Nat
  kind : Nat
  source : Nat := 0
  cls : Nat := 0
  ctx : Nat := 0
  detail : Nat := 0
  deriving DecidableEq, Repr

/-- A write of a commit that is being applied: the journal entry it brings home (none: a padding record), where it goes, the
bytes that were there, and the new ones (R347, R358). -/
structure HwdPut where
  ent : Option Nat := none
  off : Nat := 0
  old : List Byte := []
  new : List Byte := []
  deriving DecidableEq, Repr

/-- The Heartwood controller behind its registers: entries of each tenant's transaction, COMMITTING tenants in grant order,
the commit being applied (tenant, the home bytes written with what they held before), pending event entries, bytes in use
in TREND, whether a COMMIT was cut off before its record (R358), journal closed (R357), firmware window over (R356). -/
structure Hwd where
  txns : List (List JEntry) := List.replicate 8 []
  queue : List Nat := []
  applying : Option (Nat × List HwdPut) := none
  lockPend : Nat := 0
  events : List Ev := []
  trendUsed : Nat := 0
  lostCommit : Bool := false
  closed : Bool := false
  fwOver : Bool := false
  deriving DecidableEq, Repr


/-! ### Crew cores (chapter 12) -/

/-- A crew core: general registers, pc, bytes of the instruction last fetched, the program buffer
in execution (its byte to go on at, and the user mode that Debug Mode keeps), user mode, CSRs (by number; those that are other storage apart), the mill-time
snapshot of mlkmtlo, posted I/O stores (pc of the store, address, bytes; oldest first), FRAME of the levels interrupted, the source that each
frame level has claimed (0 none), the lines of L2 in the prefetch buffer (address and bytes, newest first, R364),
the watchdog's count (R371: ns it has run since its last reload, but for the time since `uptime` `wdogAt` while the core
runs), Debug Mode's dpc and cause, a halt that waits (the cause dcsr will show), resethaltreq and havereset. -/
structure Core where
  x : List Word := List.replicate 32 0
  pc : Word := 0
  ilen : Nat := 4
  prog : Option (Nat × Bool) := none
  user : Bool := false
  csr : SMap Word := []
  mtSnap : Word := 0
  sb : List (Word × Nat × List Byte) := []
  outer : List Bool := []
  claims : List Nat := []
  pref : List (Nat × List Byte) := []
  wdogAt : Nat := 0
  wdogUsed : Nat := 0
  dpc : Word := 0
  dcause : Nat := 0
  halt : Option Nat := none
  resetHalt : Bool := false
  haveReset : Bool := false
  deriving DecidableEq, Repr

/-- The PLIC (R372): priorities, enables and thresholds per context, events held of edge sources, sources in service. -/
structure Plic where
  prio : List Nat := List.replicate 32 0
  enab : List Nat := List.replicate 4 0
  thr : List Nat := List.replicate 4 0
  edge : Nat := 0
  serv : Nat := 0
  deriving DecidableEq, Repr

/-- The ACLINT (R375): software interrupt bits, compare values, and MTIME as its value at an `uptime`. -/
structure Aclint where
  msip : List Bool := List.replicate 4 false
  cmp : List Nat := List.replicate 4 0xFFFFFFFFFFFFFFFF
  val : Nat := 0
  at_ : Nat := 0
  deriving DecidableEq, Repr

/-- The debug module (R396): dmactive, hartsel, data0, program buffer, cmderr, system bus address, data and sberror, and
the control bits of sbcs (sbreadonaddr, sbautoincrement, sbreadondata), harts that acknowledged a resume, harts held by
hartreset. -/
structure Dm where
  active : Bool := false
  hart : Nat := 0
  data0 : Word := 0
  prog : List Word := [0, 0]
  cmderr : Nat := 0
  sbaddr : Nat := 0
  sbdata : Word := 0
  sberror : Nat := 0
  onAddr : Bool := false
  autoInc : Bool := false
  onData : Bool := false
  ack : Nat := 0
  inReset : Nat := 0
  deriving DecidableEq, Repr

structure Crew where
  cores : List Core := List.replicate 4 {}
  plic : Plic := {}
  acl : Aclint := {}
  dm : Dm := {}
  deriving DecidableEq, Repr



/-! ### Trunk (chapters 13 to 15) -/

/-- A lane behind its registers: a valid HELLO received and one sent since it entered HELLO, the partner its HELLO names
(node ID, port), decoded as part of the port's stream, and the blocks of the frame it is receiving on its own (R401, R716). -/
structure Lane where
  helloRx : Bool := false
  helloTx : Bool := false
  partner : Option (Nat × Nat) := none
  inStream : Bool := false
  part : List PcsBlk := []
  deriving DecidableEq, Repr

/-- What the node still has to do when a queued frame leaves or is lost: the completion of a request of tenant `t` (its
tag and NPH credit, and its number), a write of a push record (the new WPTR with its last one), a firmware request slot. -/
inductive FrameUse where
  | plain
  | cpl (t tag id : Nat)
  | push (sub : Nat) (wptr : Option Nat)
  | slot (q : Nat)
  deriving DecidableEq, Repr

/-- A frame in an egress queue: the frame, and the node ID it goes to. -/
structure EgFrame where
  f : Frame
  dst : Nat := 0
  use : FrameUse := .plain
  deriving DecidableEq, Repr

/-- One of the node's own tags on a port: the address folded (R416), outstanding or timed out, its request slot while that waits
for it, its tenant, what the request was: a read, its words, OID and place of its data; and `uptime` of its issue (R446). -/
structure OwnTag where
  addr : Nat
  out : Bool := true
  late : Bool := false
  slot : Option Nat := none
  ten : Nat := 0
  rd : Bool := true
  words : Nat := 0
  oid : Nat := 0
  buf : Nat := 0
  sentAt : Nat := 0
  deriving DecidableEq, Repr

/-- A port behind its registers. `held`: frames held for replay with their SEQ, oldest first; `pos`: how many of them have
been sent again or for the first time since the last RESYNC ACK. `rseq`, `nreq`, `defer`: the latest REQ, how often it went,
and whether it waits for a marker pair (R407, R420). `answered`: NEXT_SEQ, RSEQ and LOST of the last RESYNC ACK sent. `linkq`:
LINK and RESYNC frames due at the next frame boundary. `ackDue`: received frames not acknowledged. `markPend`: the stripe
set that begins at the next marker pair. `peerRx`, `peerStripe`: lanes the partner receives, and sends on. `maskWait`: a
MASK waits for its marker pair. `lead`: the lane that joined the port first. `part`: blocks of the frame in reception from the
stream. `handed`, `tx`: the frames last handed to the transaction layer and last sent; `line`: the blocks last put on the lanes,
each with its lane; `blk`: blocks of frames sent on each lane since the last marker pair. -/
structure TkPort where
  idle : Bool := false
  lanes : List Lane := List.replicate 2 {}
  effId : Nat := 0
  held : List (Nat × EgFrame) := []
  pos : Nat := 0
  rseq : Nat := 0
  nreq : Nat := 0
  defer : Bool := false
  answered : Option (Nat × Nat × Nat) := none
  linkq : List Frame := []
  ackDue : Bool := false
  mrkCnt : Nat := 0
  markPend : Option Nat := none
  peerRx : Nat := 0
  peerStripe : Nat := 0
  maskWait : Bool := false
  lead : Nat := 0
  part : List PcsBlk := []
  handed : Option Frame := none
  tx : Option EgFrame := none
  line : List (Nat × BitVec 66) := []
  blk : List Nat := [0, 0]
  tags : SMap (Option OwnTag) := []
  nextTag : Nat := 0
  deriving DecidableEq, Repr

/-- A token bucket at an `uptime`, in 1/80,000 byte (R478). -/
structure Bucket where
  tok : Nat := 18432 * 80000
  at_ : Nat := 0
  deriving DecidableEq, Repr

/-- A gate list: enabled, cycle in ns, BASE, and its entries (ns, OPEN). -/
structure GateList where
  en : Bool := false
  cycle : Nat := 1000000
  base : Nat := 0
  ents : List (Nat × Nat) := [(1000000, 31)]
  deriving DecidableEq, Repr

/-- Gates held after a step of mill time (R489): the change of scale, the end of the old cycle and the restart on the new
scale, the mask and entry held. -/
structure GateHold where
  off : Int
  endm : Int
  restart : Int
  mask : Nat
  entry : Nat
  deriving DecidableEq, Repr

/-- A port's scheduler: the list in force, a list waiting with its start (R488), a hold. -/
structure Gates where
  cur : GateList := {}
  wait : Option (GateList × Nat) := none
  hold : Option GateHold := none
  deriving DecidableEq, Repr

/-- The trunk scheduler behind its registers. Queues are keyed 64 x + 8 s + c for port x, subscriber s (4 unbound) and
class c; frames beyond the 64th of a queue are their producers' and wait (R472). `tc`: TIME and CREDIT frames of each port
(R476). `def_` and `ptr`: deficits, keyed as queues, and the subscriber in turn, keyed 8 x + c. Buckets: class shapers
8 x + c, queue shapers 64 x + 8 s + c, policers 8 t + c. -/
structure Sched where
  q : SMap (List EgFrame) := []
  tc : List (List EgFrame) := [[], []]
  def_ : SMap Nat := []
  ptr : SMap Nat := []
  csh : SMap Bucket := []
  qsh : SMap Bucket := []
  pol : SMap Bucket := []
  gates : List Gates := [{}, {}]
  deriving DecidableEq, Repr

/-- A binding exchange (R455 to R457): node, port, nonces. -/
structure BindEx where
  node : Nat
  port : Nat
  nh : List Byte
  nn : List Byte
  deriving DecidableEq, Repr

/-- A host tenant behind its registers: running exchange, lockout, `uptime` of the last BIND_REQ; credits consumed and the
last limits sent (NPH, PH, PD; modulo 65,536), a CREDIT owed after BIND_DONE; the host's limits and use of them (PH, PD);
mailbox (AUX, payload); tags outstanding, and those among them that only wait for BUSY and hold no credit; `uptime` of the
last frame accepted from its node, or of the binding (R459). -/
structure Ten where
  exch : Option BindEx := none
  lockout : Bool := false
  lastReq : Option Nat := none
  heard : Nat := 0
  cons : Nat × Nat × Nat := (0, 0, 0)
  sent : Nat × Nat × Nat := (64, 64, 2048)
  owed : Bool := false
  hostLim : Option (Nat × Nat) := none
  hostUse : Nat × Nat := (0, 0)
  mbox : List (Nat × List Byte) := []
  tags : List Nat := []
  busyTags : List Nat := []
  deriving DecidableEq, Repr

/-- Who sent an outbound request: an accepted trunk request, a crew core's load (register, log2 of its bytes, zero-extended)
or store (pc, address), the service port, the debug module. -/
inductive CrbFrom where
  | req (id : Nat)
  | load (n rd k : Nat) (uns : Bool) (a : Nat)
  | store (n : Nat) (pc : Word) (a : Nat)
  | dbg
  | svc (no : Nat)
  deriving DecidableEq, Repr

/-- A rack word of a request: its address, and which bytes of the request its even and odd bytes are. -/
structure CrbWord where
  addr : Nat
  ub : Option Nat
  lb : Option Nat
  deriving DecidableEq, Repr

/-- An outbound request: its tenant, whether it is non-posted, whether it already counts as performed, POSTED window, write, block
transfers, rack words still to do, bytes to write, bytes read, and past its strobe deadline. -/
structure CrbOut where
  src : CrbFrom
  t : Nat
  np : Bool
  performed : Bool := false
  post : Bool := false
  wr : Bool
  blk : Bool
  words : List CrbWord
  data : List Byte
  cut : Bool := false
  deriving DecidableEq, Repr

/-- A request accepted from a host tenant (R447 to R450): kind 0 RD_REQ, 1 WR_POST, 2 WR_NP, 3 DOORBELL; target (0 register
blocks, 1 other rows, 2 rack windows) and its number; ATTR; the judgement at receipt (R463), for the rack the request that its
outbound window makes of it, or the status that refuses it; performed and not complete; it
holds credit of the binding in force; the answer (status, payload, AUX) once complete. -/
structure Req where
  id : Nat
  t : Nat
  x : Nat
  kind : Nat
  f : Frame
  target : Nat × Nat := (0, 0)
  ordered : Bool := true
  allowed : Bool := true
  ow : Option CrbOut := none
  owSt : Nat := 0
  started : Bool := false
  cred : Bool := true
  ans : Option (Nat × List Byte × Nat) := none
  deriving DecidableEq, Repr

/-- Tenants behind their registers: requests in issue order, the tenant key stagings of SVC and LOCAL and the commit
running (tenant, key), buckets of unbound answers per port (in 10^-9 answer), and the tenant and port of each request
slot. -/
structure TenH where
  ten : List Ten := List.replicate 4 {}
  reqs : List Req := []
  nextId : Nat := 0
  stag : List (List Word) := [[], []]
  commit : Option (Nat × List Byte) := none
  unb : List (Nat × Nat) := [(16000000000, 0), (16000000000, 0)]
  slots : List (Nat × Nat) := List.replicate 4 (0, 0)
  deriving DecidableEq, Repr



/-! ### Rack bridge (chapter 16) -/

/-- A posted inbound write: its owner, bytes with their internal addresses, or with their offsets in the staging area of a
mailbox window. -/
structure CrbIn where
  t : Nat
  bytes : List (Nat × Byte)
  mbox : Option Nat := none
  deriving DecidableEq, Repr

/-- The strobe in progress on the rack: none, of the head outbound request, of an IACK cycle, or of another master. -/
inductive CrbCyc where
  | idle
  | data
  | iack (level : Nat)
  | foreign
  deriving DecidableEq, Repr

/-- The bridge behind its registers: CRB_BREQ_N low, requests served in this mastership, the strobe in progress, outbound
queue, posted inbound writes, the bytes read ahead for a block (first address), mailbox staging areas, local vector FIFO
(vector, level), IACK cycles of each level in this 1 ms, `uptime` of its last spurious one, levels waiting for release
(R536), mill time at which each line was first sampled low, the last inbound answer (CRB_BERR_N, data) and whether data are driven with it, whether CRB_IACKIN_N was passed on, whether the grant went
during the strobe in progress (R514), the bytes of an inbound block write so far (R528), and whether the bridge, no longer
active, still completes its strobe (R541), and `uptime` at which CRB_BREQ_N was last released (R512), at which it fell (R513), and of the last fall of CRB_DS_N (R515). -/
structure Crb where
  breq : Bool := false
  served : Nat := 0
  cyc : CrbCyc := .idle
  q : List CrbOut := []
  inb : List CrbIn := []
  ahead : Option (Nat × List Byte) := none
  stag : List (List Byte) := List.replicate 8 (List.replicate 44 0)
  lvec : List (Nat × Nat) := []
  iacks : List Nat := [0, 0, 0, 0]
  spurAt : List (Option Nat) := [none, none, none, none]
  waitHigh : Nat := 0
  lowAt : List Nat := [0, 0, 0, 0]
  ans : Option (Bool × Nat) := none
  drives : Bool := false
  iackPass : Bool := true
  lost : Bool := false
  blkIn : List (Nat × Byte) := []
  stopping : Bool := false
  relAt : Option Nat := none
  reqAt : Nat := 0
  dsAt : Nat := 0
  deriving DecidableEq, Repr


/-! ### Grove (chapter 17) -/

/-- Who sent the command a Grove port is at: a transmit entry with its TAG, the GRV_SAP port (word address), an
enumeration step (address to give), or the controller cutting off a babbler. -/
inductive GFrom where
  | entry (tag : Nat)
  | sap (wr : Bool) (no : Nat)
  | enum (a : Nat)
  | bypass
  deriving DecidableEq, Repr

/-- A command on a Grove port that awaits its answer: sender, frame, the SEQ folded, attempts made and allowed, BURST_DATA
received, and `uptime` of the last attempt (R568, R569). -/
structure GCmd where
  src : GFrom
  f : GFrame
  seq : Nat := 0
  tries : Nat := 1
  most : Nat := 1
  burst : Bool := false
  sentAt : Nat := 0
  deriving DecidableEq, Repr

/-- What follows a wake tone (R579, R584): a session, an enumeration, the rest of a drift recovery. -/
inductive GTone where
  | session
  | enum
  | recover
  deriving DecidableEq, Repr

/-- Where the session of a port stands: no window open, the window of R567, the listen of R584 step 1, the window of its
last BEACON. -/
inductive GWin where
  | shut
  | window
  | listen
  | late
  deriving DecidableEq, Repr

/-- The sleep agreement (Table 17-7): running, its PREP sent a second time, COMMIT on the line, a WAKE_REQ having come
then (R582). -/
structure GSleep where
  again : Bool := false
  commit : Bool := false
  cut : Bool := false
  ok : List Nat := []
  deriving DecidableEq, Repr

/-- A Grove port behind its registers. `tx`, `rx`: SEQ counters by address, 63 for broadcast. `cur`: the command in
progress; `late`: commands timed out (HOP byte, TYPE). `wait`: a BEACON's return awaited. `missing`: expected Saplings not
checked in; `here`: those checked in; `drift`: missing at the end of the window. `steps`: enumeration steps left (port,
hop, address); `found`: addresses that answered. `due`: a session waits for the command in progress. `wakes`: WAKE entries
held for the end of a recovery. `unsol`, `reqs`: instants of unsolicited frames and of WAKE_REQs by address. `auto`: BYPASS
frames to send. `g`: the guard in force, in µs. `handed`: the frame last taken in; `sent`: frames sent by the last command
that sent one, oldest first; `toneOut`: that command sent a wake tone. `broke`: the reaches from GA and GB that the BEACON of the
enumeration in progress found on a broken ring. `since`: `uptime` at which the listen of R584 or the wake tone began. `auto1`: the
SESSION entry has been written, and AUTO has not yet begun the agreement of this session (R574). -/
structure GPort where
  tx : SMap Nat := []
  rx : SMap Nat := []
  cur : Option GCmd := none
  late : List (Nat × Nat) := []
  wait : Bool := false
  win : GWin := .shut
  missing : List Nat := []
  here : List Nat := []
  drift : List Nat := []
  sleep : GSleep := {}
  tone : Option GTone := none
  steps : List (Nat × Nat × Nat) := []
  found : List Nat := []
  due : Bool := false
  wakes : List (Nat × List Byte) := []
  unsol : SMap (List Nat) := []
  reqs : SMap (List Nat) := []
  auto : List GCmd := []
  g : Nat := 0
  handed : Option GFrame := none
  sent : List GFrame := []
  toneOut : Bool := false
  broke : Option (Nat × Nat) := none
  since : Nat := 0
  auto1 : Bool := false
  deriving DecidableEq, Repr

/-- What Root holds of the Grove: the schedule words of Table 17-6 and the ring position P of each address (R586). -/
structure GRoot where
  sched : SMap Word := []
  pos : SMap Nat := []
  deriving DecidableEq, Repr

/-- How a Sapling stands: awake, asleep, listening in a wake window, woken by a tone and waiting for WAKE_ALL. -/
inductive SapMode where
  | awake
  | asleep
  | listen
  | toned
  deriving DecidableEq, Repr

/-- A burst a Sapling is at: channel, rate code, samples left to take, samples taken and not yet sent with their CLIP
and SETTLE, next PART. -/
structure SapBurst where
  ch : Nat
  k : Nat
  left : Nat
  held : List (BitVec 24) := []
  part : Nat := 0
  deriving DecidableEq, Repr

/-- A Sapling (R548 to R591). Ports are 0 and 1. `hops`: hop distance for each port from a BEACON taken; `home`: port of
the last BEACON. `link`, `bypass`, `jam`, `jabber`: carrier seen, bypassed, relaying stopped, JABBER flag, as bits.
`down`, `bdown`, `up`: SEQ expected in addressed and broadcast frames, and its own counter. `answer`: the stored answer with
its port. `tBase`, `tAt`: its time, as a reading at an `uptime`. `beaconAt`, `session`: last BEACON. `ctrl`, `chCfg`,
`chWake`, `clip`, `sflt`: registers of Table 17-8. `wakeReq`: a WAKE_REQ outstanding. `results`, `endT`, `clipRep`,
`fresh`: last block (RMS, PEAK, ENV per channel), its end, CLIP since the last REPORT, completed since. `settle`: samples
still to mark SETTLE. `prep`: T_WAKE, GUARD_US and RETRY_S of the last SLEEP_PREP; `tryN`: the retry instant it sleeps for.
`slept`: its own time when it last fell asleep by itself. `commitAt`: COMMIT taken, `uptime`. `committed`: COMMIT taken with a WAKE_REQ outstanding. `sent`: frames sent by its last
command with their ports; `tones`: ports it sent a tone on then. -/
structure Sap where
  mode : SapMode := .awake
  addr : Nat := 0
  hops : List (Option Nat) := [none, none]
  home : Nat := 0
  link : Nat := 0
  bypass : Nat := 0
  jam : Nat := 0
  jabber : Nat := 0
  down : Nat := 0
  bdown : Nat := 0
  up : Nat := 0
  answer : Option (Nat × List GFrame) := none
  tBase : Nat := 0
  tAt : Nat := 0
  beaconAt : Nat := 0
  session : Nat := 0
  ctrl : Word := 0x3E8
  chCfg : List Word := List.replicate 8 0
  chWake : List Word := List.replicate 8 0
  clip : Nat := 0
  sflt : Nat := 0
  wakeReq : Option (Nat × Nat × Nat) := none
  results : List (Nat × Nat × Nat) := List.replicate 8 (0x7E00, 0x7E00, 0x7E00)
  endT : Nat := 0
  clipRep : Nat := 0
  fresh : Bool := false
  settle : List Nat := List.replicate 8 0
  burst : Option SapBurst := none
  prep : Option (Nat × Nat × Nat) := none
  tryN : Nat := 0
  slept : Nat := 0
  commitAt : Option Nat := none
  committed : Bool := false
  sent : List (Nat × GFrame) := []
  tones : Nat := 0
  deriving DecidableEq, Repr


/-! ### Motion (chapter 18) and drive stage (chapter 19) -/

/-- What a ramped stop leads to: STOPPED with the kept distance, IDLE at its position, a new line of the group, the mode in
force, the end of a homing phase. -/
inductive StopThen where
  | stopped
  | idle
  | newLine
  | newMode
  deriving DecidableEq, Repr

/-- A homing in progress (R605, R606): position at the start of the phase, braking at its end, where HOME went inactive in
phase 2, the latched position, HOME seen active in phase 3. -/
structure Homing where
  from_ : Int := 0
  brake : Bool := false
  clear : Option Int := none
  latch : Option Int := none
  seen : Bool := false
  deriving DecidableEq, Repr

/-- Gearing (R610 to R613): C0 and P0, the relative count and ratio last used, the commanded velocity (signed), whether a
slew runs, and GEAR_LAG in position units. -/
structure Gearing where
  c0 : Int := 0
  p0 : Int := 0
  m : Int := 0
  ratio : Int := 0
  vcmd : Int := 0
  slew : Bool := false
  lag : Int := 0
  deriving DecidableEq, Repr

/-- An axis behind its registers. `p`: position in units of 2^-8 × 10^-12 microstep; `v`: velocity in units of
2^-8 × 10^-6 microstep per s; `neg`: its direction. `ftgt`: target of FOLLOW. `e0`, `k0`: encoder reference. `trail`: position
after each of the last three ticks. `pulses`, `dirOut`: STEP_OUT pulses given since reset, level of DIR_OUT.
`devAt`: `uptime` since which the encoder deviation has exceeded its window (R621). -/
structure Axis where
  p : Int := 0
  v : Nat := 0
  neg : Bool := false
  next : StopThen := .stopped
  hom : Homing := {}
  ftgt : Int := 0
  gear : Gearing := {}
  e0 : Int := 0
  k0 : Int := 0
  trail : List Int := []
  pulses : Nat := 0
  dirOut : Bool := false
  devAt : Option Nat := none
  deriving DecidableEq, Repr

/-- A group move (R608): lead axis, members, and for each axis its start and its way. -/
structure GroupRun where
  lead : Nat
  members : List Nat
  start : List Int
  delta : List Int
  deriving DecidableEq, Repr

/-- The motion controller behind its registers. `kept`: the line of a group that was stopped (R603). `hist`: positions every
100 µs, newest first (R623). `owed`: events that a stop below Bark still has to raise. -/
structure Mot where
  ax : List Axis := List.replicate 4 {}
  grp : Option GroupRun := none
  kept : Option GroupRun := none
  hist : List (Nat × List Int) := []
  owed : List (Nat × Nat) := []
  deriving DecidableEq, Repr

/-- A coil: duty in 1/256 of 1/4,096 of the period, last error in mA, carry in ns and its count, sign of the target, and
the pulse of the last period in ns (R632 to R636). -/
structure Coil where
  d : Nat := 0
  e : Int := 0
  carry : Nat := 0
  n : Nat := 0
  neg : Bool := false
  pulse : Nat := 0
  deriving DecidableEq, Repr

/-- A drive axis: its coils, the table bank in use, parked when the trip came, the current I of LOAD in 10^-6 mA, `uptime`
of the last full step, full steps beyond LA_LIMIT in a row, and `uptime` of the last microstep (R641). -/
structure DrvAx where
  coils : List Coil := [{}, {}]
  bank : Nat := 0
  parked : Bool := false
  cur : Option Nat := none
  stepAt : Nat := 0
  ovr : Nat := 0
  moved : Nat := 0
  deriving DecidableEq, Repr

/-- The drive stage behind its registers: microstep tables (bank × 256 + entry; unlisted entries hold the sine table), axes
whose bank is to change, the TRIP_N land low, faults whose cause persists, `uptime` of the last die-link error. -/
structure Drv where
  ax : List DrvAx := List.replicate 4 {}
  tbl : SMap Nat := []
  tblPend : Nat := 0
  tripN : Bool := false
  otpHot : Bool := false
  clkLost : Bool := false
  linkAt : Option Nat := none
  deriving DecidableEq, Repr



/-! ### JTAG port (chapters 12 and 21) -/

/-- The test access port: the 5-bit instruction register, the boundary-scan register's update stage, what the last scan shifts
out, and the debug transport's status and last answer (R396, R683). -/
structure Jtag where
  ir : BitVec 5 := 0x1F
  bsr : List Bool := []
  tdo : List Bool := []
  dmistat : Nat := 0
  dmiData : Word := 0
  dmiAddr : Nat := 0
  deriving DecidableEq, Repr



/-- The whole state. `regs` holds every register at an address of Table 05-2 that is not at its reset word, `stg` the
staged words of RWS registers (R138), `snaps` the high words of 64-bit counters snapshotted by each tenant (R134),
`mem` the bytes of the capture store, Heartwood, L2 and the TCMs, `rmem` those of Root memory. `uptime` (ns) and `free`
(how many free values have been taken) are the model's own. -/
structure State where
  pending : List Instr := []
  regs : SMap Word := []
  stg : SMap (Option Word) := []
  snaps : SMap Word := []
  mem : SMap Byte := []
  rmem : SMap Byte := []
  uptime : Nat := 0
  free : Nat := 0
  rsp : Rsp := {}
  pwr : Pwr := {}
  sys : SysH := {}
  tim : Tim := {}
  brk : Brk := {}
  indSap : IndPort := {}
  indSched : IndPort := {}
  indConf : IndPort := {}
  indTbl : IndPort := {}
  afe : List AfeCh := List.replicate 32 {}
  watch : Watch := {}
  tch : List TchIn := List.replicate 8 {}
  cnp : Canopy := {}
  eng : RecEng := {}
  img : SecImg := {}
  /-- Reservation of each crew core: first byte and length of its granule (R312, R393). -/
  rsv : List (Option (Nat × Nat)) := List.replicate 4 none
  hwd : Hwd := {}
  crw : Crew := {}
  tk : List TkPort := [{}, {}]
  tks : Sched := {}
  th : TenH := {}
  crb : Crb := {}
  grv : List GPort := [{}, {}]
  groot : GRoot := {}
  saps : SMap Sap := []
  mot : Mot := {}
  drv : Drv := {}
  jtag : Jtag := {}
  deriving DecidableEq, Repr

/-- Nothing of this block ends in a fault: a refused access answers its requester with a status, and a fault of the
hardware is Bark's to handle (chapters 05 and 06). The type is empty; an outcome `fault` cannot be built. -/
inductive Fault where
  deriving DecidableEq, Repr

/-- Refusals of the model. -/
inductive Refusal where
  /-- The command has no meaning in this model yet; raised by its arm alone; safe. -/
  | notModelled (mnemonic : String)
  deriving DecidableEq, Repr


/-- The machine right after power-on reset: Root has just become powered and is cleared, the mode is OFF, VIN is not yet
valid, nothing is pending (R713). -/
def State.reset : State := {}

end Sys2Proof.Machine
end

