-- ==== Sys2Proof/Machine/Ops.lean ====
section
/-! DEFINITION. The named operations over registers, memory, counters, modes and the model's clock. Every unit reaches
its registers through these. -/

namespace Sys2Proof.Machine

/-! ### Registers -/

/-- The word held by the register at `a`. -/
def State.word (s : State) (a : Nat) : Word := SMap.get resetWord s.regs a

/-- Set the whole word of the register at `a`. -/
def State.setWord (s : State) (a : Nat) (w : Word) : State := { s with regs := SMap.set resetWord s.regs a w }

/-- The value of a register field. -/
def State.fld (s : State) (r : FRef) : Nat := wordField (s.word r.addr) r.lo r.wid

/-- A one-bit field as a Bool. -/
def State.bit (s : State) (r : FRef) : Bool := s.fld r == 1

/-- A register field as two's complement. -/
def State.sfld (s : State) (r : FRef) : Int := toSigned r.wid (s.fld r)

/-- Set a register field; the value is taken modulo its width. -/
def State.setFld (s : State) (r : FRef) (n : Nat) : State :=
  s.setWord r.addr (wordSet (s.word r.addr) r.lo r.wid n)

def State.setBit (s : State) (r : FRef) (b : Bool) : State := s.setFld r (b2n b)

/-- Count `k` events in a counter field, which does not wrap (R152). -/
def State.count (s : State) (r : FRef) (k : Nat := 1) : State := s.setFld r (satAdd r.wid (s.fld r) k)

/-- Bit `i` of a field that holds one bit per item. -/
def State.bitAt (s : State) (r : FRef) (i : Nat) : Bool := nbit (s.fld r) i

def State.setBitAt (s : State) (r : FRef) (i : Nat) (b : Bool) : State :=
  s.setFld r (if b then Machine.setBit (s.fld r) i else clrBit (s.fld r) i)

/-- A 64-bit counter register pair, low word at `lo`, high word 4 above it. -/
def State.wide (s : State) (lo : Nat) : Nat := (s.word lo).toNat + 2 ^ 32 * (s.word (lo + 4)).toNat

def State.setWide (s : State) (lo : Nat) (n : Nat) : State :=
  (s.setWord lo (BitVec.ofNat 32 n)).setWord (lo + 4) (BitVec.ofNat 32 (n / 2 ^ 32))

/-- Count `k` in a 64-bit counter, which does not wrap (R152). -/
def State.countWide (s : State) (lo k : Nat) : State := s.setWide lo (satAdd 64 (s.wide lo) k)

/-- Every register in `[lo, hi)` back at its reset word, nothing of it staged or snapshotted. -/
def State.resetRegs (s : State) (lo hi : Nat) : State :=
  { s with
    regs := s.regs.filterMap (fun p =>
      if lo ≤ p.1 ∧ p.1 < hi then
        let w := (p.2 &&& keepMask p.1) ||| (resetWord p.1 &&& ~~~ keepMask p.1)
        if w = resetWord p.1 then none else some (p.1, w)
      else some p)
    stg := s.stg.filter (fun p => !(lo ≤ p.1 && p.1 < hi))
    snaps := s.snaps.filter (fun p => !(lo ≤ p.1 / 8 && p.1 / 8 < hi)) }

/-! ### Memory -/

/-- The address ranges of Table 05-1 that hold memory: capture store, Heartwood window, L2 and TCMs. -/
def inMemory (a : Nat) : Bool :=
  a < 0x4000000 || (0x10000000 ≤ a && a < 0x11000000) || (0x20000000 ≤ a && a < 0x20100000) ||
    (0x21000000 ≤ a && a < 0x21080000)

/-- What a byte of memory that nothing has written reads as. DESIGN CHOICE, log entry 4. -/
def blankByte (_ : Nat) : Byte := 0

def State.byte (s : State) (a : Nat) : Byte := SMap.get blankByte s.mem a

def State.setByte (s : State) (a : Nat) (b : Byte) : State := { s with mem := SMap.set blankByte s.mem a b }

/-- `n` bytes from `a` on, in ascending address order. -/
def State.bytes (s : State) (a : Nat) : Nat → List Byte
  | 0 => []
  | n + 1 => s.byte a :: s.bytes (a + 1) n

/-- Write bytes from `a` on. -/
def State.setBytes (s : State) (a : Nat) : List Byte → State
  | [] => s
  | b :: bs => (s.setByte a b).setBytes (a + 1) bs

/-- A write by any agent: the bytes land, and every reservation whose granule they touch breaks (R312, R393). -/
def State.store (s : State) (a : Nat) (bs : List Byte) : State :=
  let s := s.setBytes a bs
  { s with rsv := s.rsv.map fun r =>
      match r with
      | some (lo, n) => if a < lo + n ∧ lo < a + bs.length then none else some (lo, n)
      | none => none }

/-- The little-endian word at `a` (R4). -/
def State.mword (s : State) (a : Nat) : Word := BitVec.ofNat 32 (leNat (s.bytes a 4))

def State.setMword (s : State) (a : Nat) (w : Word) : State := s.setBytes a (toLE 4 w.toNat)

/-- The word of Root memory at byte address `a` (R60). -/
def State.rword (s : State) (a : Nat) : Word :=
  BitVec.ofNat 32 (leNat ((List.range 4).map fun i => SMap.get blankByte s.rmem (a + i)))

def State.setRword (s : State) (a : Nat) (w : Word) : State :=
  { s with rmem := ((toLE 4 w.toNat).zipIdx).foldl (fun m (b, i) => SMap.set blankByte m (a + i) b) s.rmem }

/-! ### Free values -/

/-- Take the next free value: a number nothing constrains. -/
def State.fresh (s : State) : Nat × State := (Config.freeValue s.free, { s with free := s.free + 1 })

/-- `n` free values, each reduced modulo `m`. -/
def State.freshList (s : State) (n m : Nat) : List Nat × State :=
  ((List.range n).map (fun i => Config.freeValue (s.free + i) % m), { s with free := s.free + n })

/-! ### The model's clock -/

/-- Let mill time and the model's clock run on to the mill-time instant `t`; nothing happens where it is past. An event
command that the rules place at a mill-time instant happens at that instant. DESIGN CHOICE, log entry 2. -/
def State.advanceTo (s : State) (t : Nat) : State :=
  if s.tim.now < t then
    { s with uptime := s.uptime + (t - s.tim.now), tim := { s.tim with now := t, frac := 0 } }
  else s

/-- Let time run on to `uptime` `u`: a wait whose length a register or a rule's formula gives ends then, and its command comes no
earlier. -/
def State.runTo (s : State) (u : Nat) : State := s.advanceTo (s.tim.now + (u - s.uptime))

/-! ### Modes -/

/-- The codes of Table 03-1. -/
def Mode.code : Mode → Nat
  | .off => 0 | .root => 1 | .waking => 2 | .load => 3 | .watch => 4 | .run => 5 | .survey => 6 | .bridge => 7
  | .degraded => 8 | .safe => 9 | .holdup => 10 | .factory => 11

/-- SYS_MODE.SEQ codes of Table 03-28. -/
def Seq.code : Seq → Nat
  | .none => 0 | .cold => 1 | .warm => 2 | .pdown => 3 | .hold => 4 | .ret => 5

/-- The main rails are on: every mode but ROOT and OFF (R715). -/
def State.railsOn (s : State) : Bool := s.pwr.mode != .off && s.pwr.mode != .root

/-- The rails are on, the clocks run and RST_N does not hold the node in reset: units take accesses and events. -/
def State.running (s : State) : Bool :=
  s.railsOn && !s.pwr.rstHeld && s.pwr.phase != .rails && s.pwr.phase != .pll

/-- The mode whose work the node does: the base mode in DEGRADED (R51). -/
def State.work (s : State) : Mode := if s.pwr.mode = .degraded then s.pwr.base else s.pwr.mode

/-- A mode in which requests of R56 act at once. -/
def Mode.isRunning : Mode → Bool
  | .watch | .run | .survey | .bridge | .degraded => true
  | _ => false

/-! ### PLIC sources (Table 12-4) -/

def plicBARK : Nat := 1
def plicUPD15 : Nat := 2
def plicPOWER : Nat := 3
def plicMODE : Nat := 4
def plicTIM : Nat := 5
def plicREC : Nat := 13
def plicSEC : Nat := 15

/-- A unit's IRQ register and its enables have a common 1. -/
def irqLevel (s : State) (irq en : Nat) (wid : Nat) : Bool := ((s.word irq &&& s.word en).toNat % 2 ^ wid) != 0

/-- The condition of a level source of the PLIC (Table 12-4). -/
def plicLevel (s : State) (n : Nat) : Bool :=
  match n with
  | 6 | 7 => s.fld (AFE_SFLT_STICKY.CH (n - 6)) != 0
  | 8 => s.fld TCH_OVR_STICKY.OVR != 0
  | 9 | 10 | 11 | 12 => (List.range 16).any fun t => (s.word (CNP_T_STAT.addr (n - 9) t)).toNat % 8 != 0
  | 14 => 3 ≤ s.fld (HWD_TXN_STAT.STATE 7)
  | 16 | 17 => irqLevel s (TK_IRQ.addr (n - 16)) (TK_IRQ_EN.addr (n - 16)) 32
  | 18 => irqLevel s TKS_IRQ.addr TKS_IRQ_EN.addr 5
  | 19 => irqLevel s TEN_IRQ.addr TEN_IRQ_EN.addr 12
  | 20 => irqLevel s CRB_IRQ.addr CRB_IRQ_EN.addr 8
  | 21 | 22 => irqLevel s (GRV_IRQ.addr (n - 21)) (GRV_IRQ_EN.addr (n - 21)) 7
  | 23 => irqLevel s MOT_IRQ.addr MOT_IRQ_EN.addr 12
  | 24 => irqLevel s DRV_IRQ.addr DRV_IRQ_EN.addr 8
  | _ => false

/-- Sources held as edges (Table 12-4). -/
def plicEdge (n : Nat) : Bool := [1, 2, 3, 4, 5, 13, 15].contains n

/-- The bit of BRK_FENCE of the unit behind source `n`. -/
def plicUnit (n : Nat) : Option Nat :=
  if 6 ≤ n ∧ n ≤ 12 then some (n - 6)
  else match n with
    | 13 => some 8 | 14 => some 10 | 16 => some 15 | 17 => some 16 | 18 => some 17 | 20 => some 18
    | 21 => some 19 | 22 => some 20 | 23 => some 21 | 24 => some 22 | _ => none

/-- A fenced unit raises no source (R374). -/
def plicShut (s : State) (n : Nat) : Bool :=
  match plicUnit n with
  | some f => nbit (s.word BRK_FENCE.addr).toNat f
  | none => false

/-- Source `n` pends: an event held or its level, while it is not in service (R372). -/
def plicPending (s : State) (n : Nat) : Bool :=
  !nbit s.crw.plic.serv n && ((plicEdge n && nbit s.crw.plic.edge n) || (plicLevel s n && !plicShut s n))

/-- The pending, enabled source of context `c` with the highest priority, the lowest number among equals, and its
priority; priority 0 is none. -/
def plicBest (s : State) (c : Nat) : Nat × Nat :=
  (List.range 32).foldl (fun (best, pr) i =>
    let p := s.crw.plic.prio.getD i 0
    if i ≠ 0 ∧ nbit (s.crw.plic.enab.getD c 0) i ∧ pr < p ∧ plicPending s i then (i, p) else (best, pr)) (0, 0)

/-- The external interrupt of context `c` pends: masked while its core is fenced (R374). -/
def plicMeip (s : State) (c : Nat) : Bool :=
  s.crw.plic.thr.getD c 0 < (plicBest s c).2 && !nbit (s.word BRK_FENCE.addr).toNat (11 + c)

/-- MTIME in ticks of 40 ns (R375). -/
def mtime (s : State) : Nat := (s.crw.acl.val + (s.uptime - s.crw.acl.at_) / 40) % 2 ^ 64

/-- mip of core `c`: MSIP bit 3, MTIP bit 7, MEIP bit 11. -/
def mipOf (s : State) (c : Nat) : Nat :=
  b2n (s.crw.acl.msip.getD c false) * 8 + b2n (s.crw.acl.cmp.getD c 0 ≤ mtime s) * 128 + b2n (plicMeip s c) * 2048

/-- State of core `c` in CRW_STATUS: 0 HELD, 1 RUNNING, 2 WFI, 3 DEBUG, 4 FENCED. -/
def coreState (s : State) (c : Nat) : Nat := s.fld ⟨CRW_STATUS.addr, 3 * c, 3⟩

/-- The watchdog of core `c` counts: its core is RUNNING or in WFI (R371). -/
def wdogRuns (s : State) (c : Nat) : Bool := coreState s c == 1 || coreState s c == 2

/-- What the watchdog of core `c` has counted since its last reload, in ns. -/
def wdogSpent (s : State) (c : Nat) : Nat :=
  let k := s.crw.cores.getD c {}
  k.wdogUsed + if wdogRuns s c then s.uptime - k.wdogAt else 0

/-- Keep the watchdog's count at `used` from now on. -/
def wdogNote (s : State) (c used : Nat) : State :=
  { s with crw := { s.crw with cores := modAt s.crw.cores c fun k => { k with wdogAt := s.uptime, wdogUsed := used } } }

/-- Core `c` goes to another state; its watchdog pauses outside RUNNING and WFI. -/
def setCoreState (s : State) (c st : Nat) : State :=
  (wdogNote s c (wdogSpent s c)).setFld ⟨CRW_STATUS.addr, 3 * c, 3⟩ st

/-- Cores in WFI with an enabled interrupt pending go on (mie is CSR 0x304). -/
def wakeCores (s : State) : State :=
  (List.range 4).foldl (fun s c =>
    let mie := SMap.get (fun _ => (0 : Word)) (s.crw.cores.getD c {}).csr 0x304
    if coreState s c = 2 ∧ (mipOf s c &&& mie.toNat) ≠ 0 then setCoreState s c 1 else s) s

/-- A unit raises PLIC source `n`: an edge is held as one request (R372); cores that wait for it go on. -/
def plicRaise (s : State) (n : Nat) : State :=
  let s := if plicEdge n && !plicShut s n then
      { s with crw := { s.crw with plic := { s.crw.plic with edge := setBit s.crw.plic.edge n } } } else s
  wakeCores s

/-- Acquisition and reduction run (Table 03-1, R72): in RUN, SURVEY, FACTORY TEST, and in WATCH until its acquisition
time ends; not during a power-down or HOLDUP (R75, R80). -/
def State.acquiring (s : State) : Bool :=
  s.running && s.pwr.seq = .none &&
    (match s.work with
     | .run | .survey | .factory => true
     | .watch => s.pwr.watchAcq
     | _ => false)

/-! ### Fences and unit resets -/

/-- Bits of BRK_FENCE (Table 06-10). -/
def fenceTCH : Nat := 2
def fenceCNX : Nat := 7
def fenceREC : Nat := 8
def fenceBUF : Nat := 9
def fenceHWD : Nat := 10
def fenceCRW (n : Nat) : Nat := 11 + n
def fenceTK (x : Nat) : Nat := 15 + x
def fenceTKS : Nat := 17
def fenceCRB : Nat := 18
def fenceGRV (g : Nat) : Nat := 19 + g
def fenceMOT : Nat := 21
def fenceDRV : Nat := 22
def fenceCRC : Nat := 23
def fenceSVCP : Nat := 24
def fenceTEN (t : Nat) : Nat := 28 + t

/-- The target of bit `f` of BRK_FENCE is fenced. -/
def State.fenced (s : State) (f : Nat) : Bool := nbit (s.word BRK_FENCE.addr).toNat f

/-- Unit `u` of SYS_URST_STAT (Table 05-19) is in reset. -/
def State.inUnitReset (s : State) (u : Nat) : Bool := nbit (s.word SYS_URST_STAT.addr).toNat u

/-- The SYS_URST bit of a fence target; 24 to 26 stand for SVCP, GRV_A and GRV_B, which have none (R188). -/
def fenceToReset (f : Nat) : Nat :=
  if f ≤ 18 then f else if f = 19 then 25 else if f = 20 then 26 else if f = 21 then 20 else if f = 22 then 21
  else if f = 23 then 22 else f

/-- The reset that SYS_URST_STAT.GRV shows is of one controller, whose fence is being lifted (R188). -/
def State.grvResetsOne (s : State) : Bool := nbit s.sys.unfencing 19 || nbit s.sys.unfencing 20

/-- Fence target `f` works: the node runs, and the target is neither fenced nor in unit reset. -/
def State.up (s : State) (f : Nat) : Bool :=
  s.running && !s.fenced f &&
    !(if f = 19 ∨ f = 20 then s.inUnitReset 19 && (nbit s.sys.unfencing f || !s.grvResetsOne) else if f < 24 then s.inUnitReset (fenceToReset f) else false)

/-- The gates that an access to register offset `off` of block `b` meets (R130, R185): the fence bits of the unit. -/
def blockFence (b : Nat) : Option Nat :=
  match b with
  | 0x04 => some 0 | 0x05 => some 1 | 0x06 => some 2
  | 0x08 => some 3 | 0x09 => some 4 | 0x0A => some 5 | 0x0B => some 6
  | 0x0C => some 7 | 0x10 => some 8 | 0x11 => some 9 | 0x12 => some 10
  | 0x18 => some 15 | 0x19 => some 16 | 0x1A => some 17 | 0x1C => some 18
  | 0x20 => some 21 | 0x21 => some 22 | 0x22 => some 23
  | _ => none

/-- The permission entry of tenant `t` for block `b` (R135; TEN_t_PERM_j holds sixteen entries). -/
def State.perm (s : State) (t b : Nat) : Nat := (s.word (TEN_T_PERM.addr t (b / 16))).toNat / 4 ^ (b % 16) % 4

/-- A lane of port `x` is UP, state code 6 of Table 13-1. -/
def State.portHasLane (s : State) (x : Nat) : Bool :=
  s.fld (TK_LANE_STAT.STATE x 0) == 6 || s.fld (TK_LANE_STAT.STATE x 1) == 6

end Sys2Proof.Machine
end

