-- ==== Sys2Proof/Machine/Records.lean ====
section
/-! DEFINITION. Records, the capture store, its partition and buffers, subscriptions and captures (chapter 10), below
the operations that raise Bark sources or use the trunk. -/

namespace Sys2Proof.Machine

def State.modEng (s : State) (f : RecEng → RecEng) : State := { s with eng := f s.eng }

/-! ### The record format -/

/-- FLAGS bits of Table 10-2. -/
def flagGAP : Nat := 1
def flagTUNLK : Nat := 2
def flagSPLIT : Nat := 4
def flagFINAL : Nat := 8
def flagCLIP : Nat := 16
def flagSFLT : Nat := 32
def flagANG : Nat := 64
def flagEXTRAP : Nat := 128
def flagPOS : Nat := 256
def flagPCRC : Nat := 2048
def flagSHORT : Nat := 4096

/-- The header of Table 10-1. -/
def Rec.header (r : Rec) : List Byte :=
  toLE 1 r.ty ++ toLE 1 r.part ++ toLE 2 r.source ++ toLE 2 r.flags ++ toLE 2 r.excl ++ toLE 2 r.payload.length ++
    toLE 2 r.seq ++ toLE 4 r.pos ++ toLE 8 r.time ++ toLE 4 r.rev ++ toLE 4 r.angle

def Rec.payloadBytes (r : Rec) : List Byte := r.payload.flatMap fun w => toLE 4 w.toNat

/-- The bytes of the copy for a subscription; with PCRC, the CRC-32C of the payload follows and FLAGS.PCRC is set
(R326). -/
def Rec.copy (r : Rec) (pcrc : Bool) : List Byte :=
  if pcrc then { r with flags := r.flags ||| flagPCRC }.header ++ r.payloadBytes ++ toLE 4 (crc32c r.payloadBytes)
  else r.header ++ r.payloadBytes

/-- A record read back from its bytes; `none` when they hold no complete one. FLAGS.PCRC is the copy's, not the record's
(R326). -/
def recOfBytes (bs : List Byte) : Option Rec :=
  let n := leAt bs 8 2
  if bs.length < 32 ∨ 16384 < n ∨ bs.length < 32 + 4 * n then none
  else some { ty := leAt bs 0 1, part := leAt bs 1 1, source := leAt bs 2 2, flags := leAt bs 4 2 - leAt bs 4 2 / 2048 % 2 * 2048, excl := leAt bs 6 2,
              seq := leAt bs 10 2, pos := leAt bs 12 4, time := leAt bs 16 8, rev := leAt bs 24 4, angle := leAt bs 28 4,
              payload := (List.range n).map fun i => BitVec.ofNat 32 (leAt bs (32 + 4 * i) 4) }

/-- TYPE or SOURCE values that a PACK record or a post may not carry (R301). -/
def Rec.reservedType (r : Rec) : Bool := 0xE000 ≤ r.source || r.ty == 0xE0 || r.ty == 0xE1 || r.ty == 0xFF

/-- The next sequence number of a producer (R300): PACK contexts 0 to 63, alarm points 64 to 191, captures 192 to 223. -/
def takeSeq (s : State) (key : Nat) : Nat × State :=
  let n := SMap.get (fun _ => 0) s.eng.seqs key
  (n, s.modEng fun e => { e with seqs := SMap.set (fun _ => 0) e.seqs key ((n + 1) % 65536) })

/-- The time-unlocked flag (R115). -/
def unlockedFlag (s : State) : Nat := if s.fld TIM_STATUS.STATE = 2 then 0 else flagTUNLK

def Producer.isAlarm : Producer → Bool
  | .alarm _ => true
  | _ => false

/-- Insert behind the alarm events at the front, which wait behind nothing else (R496). -/
def behindAlarms (alarm : α → Bool) (x : α) : List α → List α
  | [] => [x]
  | y :: ys => if alarm y then y :: behindAlarms alarm x ys else x :: y :: ys

/-- A producer offers a record to the record engine. -/
def offerRecord (s : State) (p : Producer) (r : Rec) : State :=
  s.modEng fun e => { e with offered :=
    if p.isAlarm then behindAlarms (fun q => q.1.isAlarm) (p, r) e.offered else e.offered ++ [(p, r)] }

/-! ### Partition and buffers -/

/-- A partition is in force. -/
def parted (s : State) : Bool := s.bit BUF_STATUS.PARTED

/-- Buffers of a ring with this LOG, 12 to 15 acting as 11 (R303, Table 10-18). -/
def ringBuffers (log : Nat) : Nat := if log = 0 then 0 else 2 ^ (Nat.min log 11 - 1)

/-- Effective LOG of a channel's ring. -/
def ringLog (s : State) (n : Nat) : Nat := s.eng.logs.getD n 0

/-- First buffer of channel `n`'s ring. -/
def ringBase (s : State) (n : Nat) : Nat := ((List.range n).map fun i => ringBuffers (ringLog s i)).sum

/-- First buffer of the pool. -/
def poolBase (s : State) : Nat := ringBase s 32

/-- Owner tag + 16 × tenant charged + 256 where a pull descriptor lists the chain; FREE is 15. -/
def bufOwn (s : State) (u : Nat) : Nat := SMap.get (fun _ => 15) s.eng.own u

/-- Change owners; reservations on the buffers break (R312). -/
def setBufOwn (s : State) (us : List Nat) (v : Nat) : State :=
  let s := s.modEng fun e => { e with own := us.foldl (fun m u => SMap.set (fun _ => 15) m u v) e.own }
  { s with rsv := s.rsv.map fun r =>
      match r with
      | some (lo, n) => if us.any (fun u => lo == 4096 * u) then none else some (lo, n)
      | none => none }

/-- The tenant to whom an owner value counts under R307. -/
def heldBy (v : Nat) : Nat := if v % 16 = 8 then v / 16 % 16 else v % 16

/-- BUF_HELD_t. -/
def bufHeld (s : State) (t : Nat) : Nat := (s.eng.own.filter fun p => heldBy p.2 == t).length

/-- BUF_STATUS.FREE. -/
def bufFreeCount (s : State) : Nat := if parted s then 16384 - poolBase s - s.eng.own.length else 0

/-- What BUF_OWNER shows for buffer `u` (R306). -/
def ownerShown (s : State) (u : Nat) : Nat :=
  if parted s ∧ u < poolBase s then 9 else bufOwn s u % 256

/-- The lowest run of `n` free buffers: `c` is where the gap after the owners passed begins. -/
def findRun (n : Nat) : SMap Nat → Nat → Option Nat
  | [], c => if c + n ≤ 16384 then some c else none
  | (k, _) :: m, c => if c + n ≤ k then some c else findRun n m (Nat.max c (k + 1))

/-- The lowest `n` free buffers from `c` on, `fuel` bounding the search. -/
def lowFree (own : SMap Nat) : Nat → Nat → Nat → List Nat
  | 0, _, _ => []
  | fuel + 1, n, c =>
    if n = 0 ∨ 16384 ≤ c then []
    else if SMap.has own c then lowFree own fuel n (c + 1)
    else c :: lowFree own fuel (n - 1) (c + 1)

/-- The raw bytes a chain of buffers holds for these record bytes (Table 10-5). -/
def writeChain (s : State) (bs : List Byte) : List Nat → State
  | [] => s
  | u :: us =>
    let part := bs.take 4088
    let s := if part.isEmpty then s else s.store (4096 * u) part
    let s := s.store (4096 * u + 4088) (toLE 2 (us.headD 0xFFFF) ++ toLE 2 part.length ++ toLE 4 0)
    writeChain s (bs.drop 4088) us

/-- The buffers of a chain and the record bytes it holds, at most `fuel` buffers. -/
def readChain (s : State) : Nat → Nat → List Nat × List Byte
  | 0, _ => ([], [])
  | fuel + 1, u =>
    let tail := s.bytes (4096 * u + 4088) 4
    let part := s.bytes (4096 * u) (Nat.min 4088 (leAt tail 2 2))
    let next := leAt tail 0 2
    if 16384 ≤ next then ([u], part)
    else
      let (us, bs) := readChain s fuel next
      (u :: us, part ++ bs)

/-- Keep a tenant's BUF_RESULT (R308, R310). -/
def setBufResult (s : State) (t status ndone buf : Nat) : State :=
  let w : Word := BitVec.ofNat 32 (status + 16 * ndone + 65536 * (buf % 16384))
  s.modEng fun e => { e with bufRes := SMap.set (fun _ => 0) e.bufRes t w }

/-- ALLOC (R307, R308): the status and the state. -/
def bufAllocate (s : State) (t n : Nat) : Nat × State :=
  if !parted s then (5, setBufResult s t 5 0 0)
  else if s.fld (BUF_QUOTA.QUOTA t) < bufHeld s t + n then (4, setBufResult s t 4 0 0)
  else match findRun n s.eng.own (poolBase s) with
    | none => (5, setBufResult s t 5 0 0)
    | some u => (1, setBufResult (setBufOwn s ((List.range n).map (u + ·)) t) t 1 n u)

/-- Free one buffer (R310): 1 freed, 2 refused for its owner, 3 already free. -/
def freeBuffer (s : State) (t u : Nat) : Nat × State :=
  let v := bufOwn s u
  if (parted s ∧ u < poolBase s) ∨ 16384 ≤ u then (2, s.count BUF_CNT.FOREIGN)
  else if v = 15 then (3, s.count BUF_CNT.DOUBLE)
  else if v = t ∨ (v % 16 = 8 ∧ v / 16 % 16 = t ∧ 256 ≤ v) then (1, setBufOwn s [u] 15)
  else (2, s.count BUF_CNT.FOREIGN)

/-- Walk a chain freeing each buffer (R310): the last outcome, how many were freed, where the walk stopped. -/
def freeWalk (t : Nat) : Nat → State → Nat → Nat → Nat × Nat × Nat × State
  | 0, s, u, k => (1, k, u, s)
  | fuel + 1, s, u, k =>
    let next := leNat (s.bytes (4096 * u + 4088) 2)
    let (st, s) := freeBuffer s t u
    if st ≠ 1 then (st, k, u, s)
    else if next = 0xFFFF then (1, k + 1, 0, s)
    else freeWalk t fuel s next (k + 1)

/-- FREE and FREE_CHAIN (R310): the status and the state. A count of buffers freed that NDONE does not hold is a free value,
log entry 20. -/
def bufRelease (s : State) (t u : Nat) (chain : Bool) : Nat × State :=
  if chain then
    let (st, k, stop, s) := freeWalk t 16385 s u 0
    if k < 4096 then (st, setBufResult s t st k stop)
    else
      let (v, s) := s.fresh
      (st, setBufResult s t st (v % 4096) stop)
  else
    let (st, s) := freeBuffer s t u
    (st, setBufResult s t st (if st = 1 then 1 else 0) (if st = 1 then 0 else u))

/-- The rings of BUF_RING_0 to BUF_RING_31. -/
def ringSettings (s : State) : List Nat := (List.range 32).map fun n => s.fld (BUF_RING.LOG n)

/-- Put a partition into force; its rings hold nothing yet. -/
def setPartition (s : State) (logs : List Nat) (stat : Nat) : State :=
  let s := (s.setBit BUF_STATUS.PARTED true).setFld BUF_PART.STAT stat
  s.modEng fun e => { e with logs := logs, rings := [] }

/-- BUF_PART.APPLY (R303); `busy` says that an enclave image operation runs. -/
def partitionApply (s : State) (busy : Bool) : State :=
  let logs := ringSettings s
  if s.eng.own ≠ [] ∨ s.eng.caps ≠ [] ∨ busy ∨ 15872 < (logs.map ringBuffers).sum then s.setFld BUF_PART.STAT 2
  else setPartition s logs 1

/-- The partition at the end of every image apply (R304): with the buffers go the copies and the posts they held. -/
def partitionAtImage (s : State) : State :=
  let s := (s.modEng fun e => { e with caps := [], own := [], dlv := [],
                                       inq := e.inq.filter fun q => match q.1 with | .post _ => false | _ => true }).setFld
    REC_CAP_BUSY.BUSY 0
  let logs := ringSettings s
  if 15872 < (logs.map ringBuffers).sum then setPartition s (List.replicate 32 0) 2 else setPartition s logs 1

/-! ### Raw rings and captures -/

def ringOf (s : State) (ch : Nat) : Ring := SMap.get (fun _ => {}) s.eng.rings ch

/-- The sample interval of a channel in ns, unsigned 28.4: 1/204,800 s is 4,882.8125 ns (R207). -/
def sampleInterval (s : State) (ch : Nat) : Nat :=
  78125 * 2 ^ Nat.min 9 (s.fld (AFE_CH_CFG.RATE (ch / 16) (ch % 16)))

/-- A sample word enters its channel's raw ring, with its nominal instant and interval (R305, R329). -/
def rawRingWrite (s : State) (ch : Nat) (w : Word) (inst : Nat) : State :=
  let b := ringBuffers (ringLog s ch)
  if b = 0 then s
  else
    let r := ringOf s ch
    let s := s.store (4096 * ringBase s ch + 4 * (r.cnt % (1024 * b))) (toLE 4 w.toNat)
    let h := ((inst, sampleInterval s ch) :: r.hist).take (1024 * b)
    s.modEng fun e => { e with rings := SMap.set (fun _ => {}) e.rings ch ⟨r.cnt + 1, h⟩ }

def captureOf (s : State) (n : Nat) : Option Capture := SMap.get (fun _ => none) s.eng.caps n

def setCapture (s : State) (n : Nat) (c : Option Capture) : State :=
  (s.modEng fun e => { e with caps := SMap.set (fun _ => none) e.caps n c }).setBitAt REC_CAP_BUSY.BUSY n c.isSome

/-- Sample words of one part: 16,384, or what the ring holds where that is less (R329). -/
def partLen (s : State) (n : Nat) : Nat := Nat.min 16384 (1024 * ringBuffers (ringLog s n))

/-- A trigger of channel `n` (R328, R331). -/
def triggerCapture (s : State) (n : Nat) : State :=
  let b := ringBuffers (ringLog s n)
  if (captureOf s n).isSome ∨ b = 0 ∨ !s.bit (REC_CAP_CFG.EN n) then s.count REC_CAP_CNT.IGN
  else
    let at_ := (ringOf s n).cnt - 1
    let pre := 1024 * Nat.min (s.fld (REC_CAP_CFG.PRE_K n)) (b - 1)
    let oldest := (ringOf s n).cnt - 1024 * b
    let start := Nat.max oldest (at_ - pre)
    let stop := at_ + 1024 * (s.fld (REC_CAP_CFG.POST_K n) + 1)
    setCapture s n (some { next := start, stop := stop, multi := partLen s n < stop - start,
                           short := at_ < pre + oldest, cfg := s.word (AFE_CH_CFG.addr (n / 16) (n % 16)) })

/-- The word of ring sample `k` of channel `n`. -/
def ringSample (s : State) (n k : Nat) : Word :=
  s.mword (4096 * ringBase s n + 4 * (k % (1024 * ringBuffers (ringLog s n))))

/-- Nominal instant in ns, and interval in 1/16 ns, of ring sample `k` of channel `n` (R329); of a sample that the ring does
not hold yet, the newest one's instant and one interval more. -/
def ringInst (s : State) (n k : Nat) : Nat × Nat :=
  let r := ringOf s n
  if k < r.cnt then r.hist.getD (r.cnt - 1 - k) (0, 0)
  else
    let (t, ivl) := r.hist.headD (0, 0)
    ((16 * t + ivl + 8) / 16, ivl)

/-- Deliver `len` samples as one part: TIME and REV are the instant and the interval of its first sample; `flags` and `last`
as the caller says (R329). -/
def sendPart (s : State) (n : Nat) (c : Capture) (len flags : Nat) (last : Bool) : State :=
  let ws := (List.range len).map fun i => ringSample s n (c.next + i)
  let (t, ivl) := ringInst s n c.next
  let (q, s) := takeSeq s (192 + n)
  let fl := flags + (if c.multi then flagSPLIT else 0) + (if last then flagFINAL else 0) + unlockedFlag s +
    (if ws.any fun w => w.getLsbD 6 then flagCLIP else 0) + (if ws.any fun w => w.getLsbD 5 then flagSFLT else 0)
  offerRecord s (.capture n) { ty := 0xE1, part := if c.multi then c.part else 0, source := 0xE100 + n, flags := fl,
                               seq := q, time := t, rev := ivl, payload := ws }

/-- The next part of a capture, once its samples are in the ring (R329). -/
def doCapturePart (n : Nat) (s : State) : State :=
  match captureOf s n with
  | none => s
  | some c =>
    let len := Nat.min (partLen s n) (c.stop - c.next)
    if (ringOf s n).cnt < c.next + len then s
    else
      let last := c.stop ≤ c.next + len
      let s := sendPart s n c len (if c.short && c.part = 0 then flagSHORT else 0) last
      if last then
        let s := if c.short then s.count REC_CAP_CNT.SHORT else s
        setCapture s n none
      else setCapture s n (some { c with next := c.next + len, part := (c.part + 1) % 256 })

/-- A capture ends early (R330): its channel is disabled, its AFE fenced, or its RATE or FILTER changed. -/
def doCaptureShortEnd (n : Nat) (s : State) : State :=
  match captureOf s n with
  | none => s
  | some c =>
    let w := s.word (AFE_CH_CFG.addr (n / 16) (n % 16))
    if wordField w 0 1 = 1 ∧ !s.fenced (n / 16) ∧ wordField w 4 6 = wordField c.cfg 4 6 then s
    else
      let len := Nat.min (partLen s n) ((ringOf s n).cnt - c.next)
      let s := sendPart s n { c with multi := c.part != 0 } len (flagSHORT + flagGAP) true
      setCapture (s.count REC_CAP_CNT.SHORT) n none

/-! ### Accepting records -/

/-- Subscription `i` matches (R313). -/
def subMatches (s : State) (r : Rec) (i : Nat) : Bool :=
  s.bit (REC_SUB_CTL.EN i) &&
    (s.fld (REC_SUB_MATCH.SUBSRC i) == 0xFFFF || s.fld (REC_SUB_MATCH.SUBSRC i) == r.source) &&
    (r.ty &&& s.fld (REC_SUB_MATCH.RMASK i)) == (s.fld (REC_SUB_MATCH.RTYPE i) &&& s.fld (REC_SUB_MATCH.RMASK i))

/-- The subscription pushes to a tenant that has no push (R319). -/
def pushImpossible (s : State) (i : Nat) : Bool :=
  s.fld (REC_SUB_CTL.METHOD i) == 0 && 4 ≤ s.fld (REC_SUB_CTL.TENANT i)

/-- The engine takes no record: it or the buffer manager is fenced, nothing is partitioned, or 64 records wait (R304,
R314). -/
def engineRefuses (s : State) : Bool := !s.up fenceREC || !s.up fenceBUF || !parted s || 64 ≤ s.eng.inq.length

/-- Free the chain a post came in. -/
def freePosted (s : State) : Producer → State
  | .post chain => setBufOwn s chain 15
  | _ => s

/-- Put an accepted record in the input queue with the subscriptions it goes to (R313, R319); an alarm event is served ahead
of other records (R496). -/
def queueRecord (s : State) (p : Producer) (r : Rec) : State :=
  let ms := (List.range 256).filter (subMatches s r)
  let s := if 8 < ms.length then s.count REC_CNT2.FANOUT else s
  let s := if ms.isEmpty then s.count REC_CNT.UNSUB else s
  let s := ((ms.take 8).filter (pushImpossible s)).foldl (fun s i => s.count (REC_SUB_CNT.ERR i)) s
  let go := (ms.take 8).filter fun i => !pushImpossible s i
  if go.isEmpty then freePosted s p
  else s.modEng fun e => { e with inq :=
    if p.isAlarm then behindAlarms (fun q => q.1.isAlarm) (p, r, go) e.inq else e.inq ++ [(p, r, go)] }

/-- A refusal counts at the engine, and at the PACK tile that offered the record (R268, R314). -/
def refuseRecord (s : State) (p : Producer) : State :=
  let s := s.count REC_CNT.REFUSED
  match p with
  | .pack g => s.count (CNP_T_CNT.EVT (g / 16) 15)
  | _ => s

/-- RECORD_ACCEPT: the record offered first is taken, refused, or dropped for its type (R301, R314). -/
def doRecordAccept (s : State) : State :=
  match s.eng.offered with
  | [] => s
  | (p, r) :: rest =>
    let s := s.modEng fun e => { e with offered := rest }
    let packed := match p with | .pack _ => true | _ => false
    if packed && r.reservedType then s.count REC_CNT2.RSV
    else if engineRefuses s then refuseRecord s p
    else queueRecord s p r

/-- REC_POST (Table 10-10): ownership passes to the engine, or the post is refused. -/
def postRecord (s : State) (t u : Nat) : State :=
  let (us, bs) := readChain s 18 u
  match recOfBytes bs with
  | some r =>
    if t ≠ 7 ∨ 17 < us.length ∨ !us.all (fun v => poolBase s ≤ v && bufOwn s v == 7) then s.setFld REC_POST_RES.STATUS 2
    else if r.reservedType then (s.count REC_CNT2.RSV).setFld REC_POST_RES.STATUS 2
    else if engineRefuses s then (s.count REC_CNT.REFUSED).setFld REC_POST_RES.STATUS 2
    else queueRecord ((setBufOwn s us (8 + 16 * 7)).setFld REC_POST_RES.STATUS 1) (.post us) r
  | none => s.setFld REC_POST_RES.STATUS 2

/-- The copy of a record for subscription `i` (R315, R316). -/
def copyFor (s : State) (r : Rec) (i : Nat) : State :=
  let t := s.fld (REC_SUB_CTL.TENANT i)
  let bs := r.copy (s.bit (REC_SUB_CTL.PCRC i))
  let n := (bs.length + 4087) / 4088
  let us := lowFree s.eng.own 16384 n (poolBase s)
  if s.fld (BUF_QUOTA.QUOTA t) < bufHeld s t + n ∨ us.length < n then s.count (REC_SUB_CNT.QUOTA i)
  else
    let s := writeChain (setBufOwn s us (8 + 16 * t)) bs us
    s.modEng fun e => { e with dlv := e.dlv ++ [{ sub := i, tenant := t, chain := us, bytes := bs, r := r }] }

/-- The engine copies the record in hand for its next subscription; an uncorrectable error abandons it there (R315,
R327). -/
def copyNext (s : State) (bad : Bool) : State :=
  match s.eng.inq with
  | [] => s
  | (p, r, subs) :: rest =>
    let s := match subs with
      | [] => s
      | i :: _ => if bad then s.count (REC_SUB_CNT.ERR i) else if s.up fenceBUF then copyFor s r i
          else s.count (REC_SUB_CNT.QUOTA i)
    match subs with
    | _ :: j :: more => s.modEng fun e => { e with inq := (p, r, j :: more) :: rest }
    | _ => freePosted (s.modEng fun e => { e with inq := rest }) p

/-! ### Delivery -/

/-- The first copy of subscription `i` that has not been sent. -/
def nextDelivery (s : State) (i : Nat) : Option Delivery := s.eng.dlv.find? fun d => d.sub == i && !d.sent

/-- Take a copy off the list. -/
def dropDelivery (s : State) (d : Delivery) : State := s.modEng fun e => { e with dlv := e.dlv.erase d }

/-- Discard copies and free their buffers. -/
def discardDeliveries (s : State) (p : Delivery → Bool) : State :=
  let gone := s.eng.dlv.filter p
  let s := s.modEng fun e => { e with dlv := e.dlv.filter fun d => !p d }
  gone.foldl (fun s d => setBufOwn s d.chain 15) s

/-- LOG of a subscription's ring, outside values acting as the nearer limit. -/
def subLog (s : State) (i : Nat) : Nat := clampN 12 24 (s.fld (REC_SUB_RSIZE.LOG i))

/-- Free space of the ring (R320). -/
def subSpace (s : State) (i : Nat) : Nat :=
  let m := 2 ^ (subLog s i + 1)
  2 ^ subLog s i - (s.fld (REC_SUB_WPTR.OFF i) + m - s.fld (REC_SUB_RDPTR.OFF i) % m) % m

/-- Round up to a multiple of 8. -/
def round8 (n : Nat) : Nat := (n + 7) / 8 * 8

/-- Bytes in pieces of at most 256, each with its address. -/
def pieces : Nat → Nat → List Byte → List (Nat × List Byte)
  | 0, _, _ => []
  | fuel + 1, a, bs => if bs.isEmpty then [] else (a, bs.take 256) :: pieces fuel (a + 256) (bs.drop 256)

/-- RBASE of a subscription. -/
def subBase (s : State) (i : Nat) : Nat := s.fld (REC_SUB_RBASE_LO.ADDR i) + 2 ^ 32 * s.fld (REC_SUB_RBASE_HI.ADDR i)

/-- Padding that the record of `n` ring bytes needs before it (R320). -/
def padFor (s : State) (i n : Nat) : Nat :=
  let toEnd := 2 ^ subLog s i - s.fld (REC_SUB_WPTR.OFF i) % 2 ^ subLog s i
  if n ≤ toEnd then 0 else toEnd

/-- What fills `pad` bytes at the ring end (R320). -/
def padBytes (pad : Nat) : List Byte :=
  if pad = 0 then []
  else if 32 ≤ pad then toLE 2 0x00FF ++ toLE 2 0xFFFF ++ toLE 4 0 ++ toLE 2 ((pad - 32) / 4) ++ List.replicate 22 0
  else List.replicate pad 0

/-- The posted writes that deliver `d`, the WPTR they leave, or `none` where it does not fit (R320 to R322). -/
def pushWrites (s : State) (i : Nat) (d : Delivery) : Option (List (Nat × List Byte) × Nat) :=
  let n := round8 d.bytes.length
  let pad := padFor s i n
  if subSpace s i < pad + n then none
  else
    let size := 2 ^ subLog s i
    let w := s.fld (REC_SUB_WPTR.OFF i)
    let w' := (w + pad + n) % (2 * size)
    let pads := if pad = 0 then [] else [(subBase s i + w % size, padBytes pad)]
    let body := pieces 260 (subBase s i + (w + pad) % size) d.bytes
    some (pads ++ body ++ [(subBase s i + size, toLE 8 w')], w')

/-- The pull descriptor of Table 10-6. -/
def pullDescriptor (d : Delivery) : List Byte :=
  toLE 2 (d.chain.headD 0) ++ toLE 1 d.chain.length ++ toLE 1 0 ++ toLE 4 d.bytes.length ++ toLE 2 d.r.source ++
    toLE 2 d.r.seq ++ toLE 1 d.r.ty ++ toLE 3 0

/-- Every buffer of the descriptor ring is owned by the tenant (R324). -/
def pullRingOwned (s : State) (i t : Nat) : Bool :=
  let lo := s.fld (REC_SUB_RBASE_LO.ADDR i) % 2 ^ 26
  (List.range ((lo + 2 ^ subLog s i - 1) / 4096 + 1 - lo / 4096)).all fun k =>
    lo / 4096 + k < 16384 && poolBase s ≤ lo / 4096 + k && bufOwn s (lo / 4096 + k) == t

/-- The next record of a subscription whose METHOD is PULL. -/
def nextPull (s : State) (i : Nat) : Option Delivery := if s.bit (REC_SUB_CTL.METHOD i) then nextDelivery s i else none

/-- The next record of pull subscription `i` gets a descriptor, or is dropped (R324, R325); `bad` is an uncorrectable
error (R327). -/
def pullNext (s : State) (i : Nat) (bad : Bool) : State :=
  match nextPull s i with
  | none => s
  | some d =>
    let drop := fun (s : State) => setBufOwn (dropDelivery s d) d.chain 15
    if bad ∨ !pullRingOwned s i d.tenant then (drop s).count (REC_SUB_CNT.ERR i)
    else if subSpace s i < 16 then (drop s).count (REC_SUB_CNT.FULL i)
    else
      let w := s.fld (REC_SUB_WPTR.OFF i)
      let a := s.fld (REC_SUB_RBASE_LO.ADDR i) % 2 ^ 26 + w % 2 ^ subLog s i
      let s := (dropDelivery s d).store a (pullDescriptor d)
      let s := setBufOwn s d.chain (8 + 16 * d.tenant + 256)
      s.setFld (REC_SUB_WPTR.OFF i) ((w + 16) % 2 ^ (subLog s i + 1))

/-- The last write of the oldest sent record of `i` has left the port: its buffers are freed (R322). -/
def doPushBuffersFree (i : Nat) (s : State) : State :=
  match s.eng.dlv.find? fun d => d.sub == i && d.left with
  | none => s
  | some d => setBufOwn (dropDelivery s d) d.chain 15

/-- The last write of the record of `i` that is being sent leaves the port: WPTR advances (R322). -/
def pushLeft (s : State) (i w : Nat) : State :=
  (s.modEng fun e => { e with dlv := e.dlv.map fun d => if d.sub = i && d.sent then { d with left := true } else d }).setFld
    (REC_SUB_WPTR.OFF i) w

/-- Subscription `i` was disabled, or delivers elsewhere than before (R317). -/
def subRetargeted (old s : State) (i : Nat) : Bool :=
  old.bit (REC_SUB_CTL.EN i) &&
    (!s.bit (REC_SUB_CTL.EN i) || old.fld (REC_SUB_CTL.TENANT i) != s.fld (REC_SUB_CTL.TENANT i) ||
      old.fld (REC_SUB_CTL.METHOD i) != s.fld (REC_SUB_CTL.METHOD i) ||
      old.word (REC_SUB_RBASE_LO.addr i) != s.word (REC_SUB_RBASE_LO.addr i) ||
      old.word (REC_SUB_RBASE_HI.addr i) != s.word (REC_SUB_RBASE_HI.addr i) ||
      old.fld (REC_SUB_RSIZE.LOG i) != s.fld (REC_SUB_RSIZE.LOG i))

/-- Subscription `i` was disabled or retargeted by an apply (R317): its records not yet started are discarded. -/
def discardSub (s : State) (i : Nat) : State :=
  let waiting := (s.eng.inq.filter fun q => q.2.2.contains i).length + (s.eng.dlv.filter fun d => d.sub == i && !d.sent).length
  let empty := s.eng.inq.filter fun q => q.2.2 == [i]
  let s := empty.foldl (fun s q => freePosted s q.1) s
  let s := s.modEng fun e => { e with inq := (e.inq.map fun q => (q.1, q.2.1, q.2.2.filter (· != i))).filter fun q => !q.2.2.isEmpty }
  (discardDeliveries s fun d => d.sub == i && !d.sent).count (REC_SUB_CNT.QUOTA i) waiting

/-- What becomes of the records that wait when subscriptions change from what `old` has (R317). -/
def discardRetargeted (old s : State) : State :=
  (List.range 256).foldl (fun s i => if subRetargeted old s i then discardSub s i else s) s

/-- A fence of host tenant `t` (Table 10-7): its undelivered copies are discarded and freed. -/
def recordsFenceTenant (s : State) (t : Nat) : State := discardDeliveries s fun d => d.tenant == t

/-- Records still queued are discarded, with their copies (R72). -/
def discardRecords (s : State) : State :=
  let s := s.eng.inq.foldl (fun s q => freePosted s q.1) s
  (discardDeliveries s fun _ => true).modEng fun e => { e with offered := [], inq := [] }

/-- The unit reset of REC: nothing queued, and the buffers of undelivered copies and posts go free. -/
def resetRecords (s : State) : State :=
  let s := s.resetRegs REC_STATUS.addr (REC_STATUS.addr + 0x10000)
  let s := s.eng.inq.foldl (fun s q => freePosted s q.1) s
  let s := discardDeliveries s fun _ => true
  s.modEng fun e => { e with offered := [], inq := [], dlv := [], seqs := [], caps := [] }

/-- The unit reset of BUF: no partition, every owner forgotten. -/
def resetBuffers (s : State) : State :=
  let s := s.resetRegs BUF_STATUS.addr (BUF_STATUS.addr + 0x10000)
  { s with eng := { s.eng with logs := [], rings := [], own := [], bufRes := [], dlv := [] },
           rsv := s.rsv.map fun r =>
             match r with
             | some (lo, n) => if lo < 0x4000000 then none else some (lo, n)
             | none => none }

end Sys2Proof.Machine
end

