-- ==== Sys2Proof/Machine/Crew.lean ====
section
/-! DEFINITION. Crew cores (chapter 12): registers and CSRs, traps, memory protection, Xlkfe entry and return, starting
and holding, the PLIC and ACLINT registers; what needs the interconnect stands in CrewBus.lean. -/

namespace Sys2Proof.Machine

def coreOf (s : State) (n : Nat) : Core := s.crw.cores.getD n {}

def modCore (s : State) (n : Nat) (f : Core → Core) : State :=
  { s with crw := { s.crw with cores := modAt s.crw.cores n f } }

/-- A general register; x0 reads 0. -/
def xreg (s : State) (n r : Nat) : Word := if r = 0 then 0 else (coreOf s n).x.getD r 0

/-- Write a general register; writes of x0 are discarded. -/
def setX (s : State) (n r : Nat) (v : Word) : State :=
  if r = 0 then s else modCore s n fun c => { c with x := modAt c.x r fun _ => v }

/-! ### CSRs -/

def csrMstatus : Nat := 0x300
def csrMie : Nat := 0x304
def csrMtvec : Nat := 0x305
def csrMscratch : Nat := 0x340
def csrMepc : Nat := 0x341
def csrMcause : Nat := 0x342
def csrMtval : Nat := 0x343
def csrFecfg : Nat := 0x7C0
def csrFevt : Nat := 0x7C1
def csrFesfv : Nat := 0x7C2
def csrFesplim : Nat := 0x7C3
def csrFemsp : Nat := 0x7C4
def csrFestat : Nat := 0x7C5
def csrWdkick : Nat := 0x7C6
def csrMtLo : Nat := 0xFC0
def csrMtHi : Nat := 0xFC1

/-- A CSR held as a word; the others read 0 from here. -/
def csrRaw (s : State) (n c : Nat) : Word := SMap.get (fun _ => (0 : Word)) (coreOf s n).csr c

def setCsr (s : State) (n c : Nat) (v : Word) : State :=
  modCore s n fun k => { k with csr := SMap.set (fun _ => (0 : Word)) k.csr c v }

/-- A field of a CSR. -/
def csrFld (s : State) (n c lo wid : Nat) : Nat := wordField (csrRaw s n c) lo wid

def setCsrFld (s : State) (n c lo wid v : Nat) : State := setCsr s n c (wordSet (csrRaw s n c) lo wid v)

/-- Writable bits of the CSRs a core holds (R360, R361, R395, Table 12-13); `none` for numbers that name no CSR of the
core. mstatus: MIE, MPIE, MPP, MPRV, TW. mie: MSIE, MTIE, MEIE. -/
def csrMask (c : Nat) : Option Word :=
  if c = csrMstatus then some 0x00221888
  else if c = csrMie then some 0x888
  else if c = csrMtvec then some 0xFFFFFFFD
  else if c = csrMscratch then some 0xFFFFFFFF
  else if c = csrMepc then some 0xFFFFFFFE
  else if c = csrMcause ∨ c = csrMtval then some 0xFFFFFFFF
  else if c = 0x301 ∨ c = 0x344 then some 0
  else if c = 0x306 then some 7
  else if c = 0x320 then some 5
  else if 0x323 ≤ c ∧ c ≤ 0x33F then some 0
  else if 0x3A0 ≤ c ∧ c ≤ 0x3A3 then some 0x9F9F9F9F
  else if 0x3B0 ≤ c ∧ c ≤ 0x3BF then some 0xFFFFFFFF
  else if c = csrFecfg then some 0x771F
  else if c = csrFevt then some 0xFFFFFF00
  else if c = csrFesfv then some 0xFFFFFFFE
  else if c = csrFesplim then some 0xFFFFFFFF
  else if c = csrFemsp then some 0xFFFFFFF0
  else if c = csrFestat ∨ c = csrWdkick then some 0
  else if c = 0xB00 ∨ c = 0xB02 ∨ c = 0xB80 ∨ c = 0xB82 then some 0xFFFFFFFF
  else if (0xB03 ≤ c ∧ c ≤ 0xB1F) ∨ (0xB83 ≤ c ∧ c ≤ 0xB9F) then some 0
  else if (0xC00 ≤ c ∧ c ≤ 0xC1F) ∨ (0xC80 ≤ c ∧ c ≤ 0xC9F) then some 0
  else if (0xF11 ≤ c ∧ c ≤ 0xF15) ∨ c = 0x30A ∨ c = 0x310 ∨ c = 0x31A then some 0
  else if c = csrMtLo ∨ c = csrMtHi then some 0
  else if c = 0x7A0 then some 3
  else if c = 0x7A1 ∨ c = 0x7A2 then some 0xFFFFFFFF
  else none

/-- A PMP configuration byte is locked, or the entry above it is and uses TOR (R395). -/
def pmpCfg (s : State) (n i : Nat) : Nat := csrFld s n (0x3A0 + i / 4) (8 * (i % 4)) 8

def pmpLocked (s : State) (n i : Nat) : Bool := nbit (pmpCfg s n i) 7

/-- Where tdata1 of the trigger that tselect names is held; tdata2 follows it. -/
def trigCsr (s : State) (n : Nat) : Nat := 4096 + 2 * csrFld s n 0x7A0 0 2

/-- Writable bits of tdata1 of an mcontrol trigger (R396): dmode, select, action's low bit, m, u, execute, store, load. -/
def trigMask : Word := 0x0808104F

/-- A write of tdata1 or tdata2; a trigger of the debugger takes none from the core. -/
def trigWrite (s : State) (n c : Nat) (v : Word) (dbg : Bool) : State :=
  let k := trigCsr s n
  if (csrRaw s n k).getLsbD 27 && !dbg then s
  else if c = 0x7A2 then setCsr s n (k + 1) v
  else setCsr s n k (v &&& (if dbg then trigMask else 0x0008004F))

/-- A read of mlkmtlo: mill time, at most 24 ns behind, its upper word held for mlkmthi (R376). -/
def mtLoRead (s : State) (n : Nat) : Word × State :=
  let (late, s) := s.fresh
  let t := s.tim.now - late % 25
  (BitVec.ofNat 32 t, modCore s n fun c => { c with mtSnap := BitVec.ofNat 32 (t / 2 ^ 32) })

/-- A CSR as it reads; mlkmtlo is read by mtLoRead. -/
def csrRead (s : State) (n c : Nat) : Word :=
  if c = 0x301 then 0x40101105
  else if c = 0xF14 then BitVec.ofNat 32 n
  else if c = 0xF13 then BitVec.ofNat 32 (s.fld SYS_REV.DDIE)
  else if c = 0x344 then BitVec.ofNat 32 (mipOf s n)
  else if c = 0xC01 then BitVec.ofNat 32 (mtime s)
  else if c = 0xC81 then BitVec.ofNat 32 (mtime s / 2 ^ 32)
  else if c = 0xC00 ∨ c = 0xC02 ∨ c = 0xC80 ∨ c = 0xC82 then csrRaw s n (c - 0x100)
  else if c = csrFesplim then s.word (CRW_FE_SPLIM.addr n)
  else if c = csrMtHi then (coreOf s n).mtSnap
  else if c = csrFemsp then csrRaw s n c &&& 0xFFFFFFF0
  else if 0x3B0 ≤ c ∧ c ≤ 0x3BF then
    if pmpCfg s n (c - 0x3B0) / 8 % 4 = 3 then csrRaw s n c ||| 7 else csrRaw s n c &&& 0xFFFFFFF0
  else if c = 0x7A1 then csrRaw s n (trigCsr s n) ||| 0x20000000
  else if c = 0x7A2 then csrRaw s n (trigCsr s n + 1)
  else csrRaw s n c

/-- PMP words: bytes of locked entries, and addresses they use, do not change. -/
def pmpWrite (s : State) (n c : Nat) (v : Word) : State :=
  if c < 0x3B0 then
    (List.range 4).foldl (fun s j =>
      let i := 4 * (c - 0x3A0) + j
      if pmpLocked s n i then s else setCsrFld s n c (8 * j) 8 (wordField (v &&& 0x9F9F9F9F) (8 * j) 8)) s
  else
    let i := c - 0x3B0
    if pmpLocked s n i ∨ (pmpLocked s n (i + 1) ∧ pmpCfg s n (i + 1) / 8 % 4 = 1 ∧ i < 15) then s else setCsr s n c v

/-- A core stops counting cycles: mcycle holds what it came to, which the model does not time (Table 12-1). -/
def noteCycles (s : State) (n : Nat) : State :=
  if csrFld s n 0x320 0 1 = 1 ∨ ¬ (coreState s n = 1 ∨ coreState s n = 2) then s
  else
    let (lo, s) := s.fresh
    let (hi, s) := s.fresh
    setCsr (setCsr s n 0xB00 (BitVec.ofNat 32 lo)) n 0xB80 (BitVec.ofNat 32 hi)

/-- Write a CSR: bits the mask holds; mlkfesplim is CRW_FE_SPLIM_n, mlkfestat takes a 0 in SF, mlkwdkick reloads the
watchdog (Table 12-13). -/
def csrWrite (s : State) (n c : Nat) (v : Word) : State :=
  if c = csrFesplim then s.setWord (CRW_FE_SPLIM.addr n) v
  else if c = csrFestat then if v.getLsbD 1 then s else setCsrFld s n csrFestat 1 1 0
  else if c = csrWdkick then if v = 0x4B49 then wdogNote s n 0 else s
  else if 0x3A0 ≤ c ∧ c ≤ 0x3BF then pmpWrite s n c v
  else if c = 0x7A1 ∨ c = 0x7A2 then trigWrite s n c v false
  else match csrMask c with
    | some m =>
      let s := if c = 0x320 then noteCycles s n else s
      let v := if c = csrMstatus ∧ wordField v 11 2 ≠ 3 then v &&& 0xFFFFE7FF else v
      setCsr s n c ((csrRaw s n c &&& ~~~ m) ||| (v &&& m))
    | none => s

/-! ### Traps -/

/-- The core's reservation breaks (R393). -/
def dropRsv (s : State) (n : Nat) : State := { s with rsv := modAt s.rsv n fun _ => none }

/-- A trap entry breaks a reservation in L2 or a TCM; one in the capture store stays (R312, R393). -/
def trapRsv (s : State) (n : Nat) : State :=
  { s with rsv := modAt s.rsv n fun r => match r with | some (lo, k) => if lo < 0x4000000 then some (lo, k) else none
                                                      | none => none }

/-- What every entry saves: mepc, mcause, MPIE, MPP; MIE cleared, machine mode (R377). -/
def saveState (s : State) (n : Nat) (pc cause : Word) : State :=
  let s := setCsr (setCsr s n csrMepc pc) n csrMcause cause
  let s := setCsrFld s n csrMstatus 7 1 (csrFld s n csrMstatus 3 1)
  let s := setCsrFld s n csrMstatus 11 2 (if (coreOf s n).user then 0 else 3)
  let s := setCsrFld s n csrMstatus 3 1 0
  trapRsv (modCore s n fun c => { c with user := false }) n

/-- Execution of the program buffer ends, with `e` as cmderr unless one stands (R396). -/
def progEnd (s : State) (n e : Nat) : State :=
  match (coreOf s n).prog with
  | none => s
  | some (_, user) =>
    let s := modCore s n fun c => { c with prog := none, user := user }
    { s with crw := { s.crw with dm := { s.crw.dm with cmderr := if s.crw.dm.cmderr = 0 then e else s.crw.dm.cmderr } } }

/-- A trap through mtvec: vectored for interrupts with MODE = 1. -/
def vecTrap (s : State) (n : Nat) (pc : Word) (cause : Nat) (irq : Bool) (tval : Word) : State :=
  let w : Word := BitVec.ofNat 32 (cause + (if irq then 2 ^ 31 else 0))
  let s := setCsr (saveState s n pc w) n csrMtval tval
  let v := csrRaw s n csrMtvec
  let base := v &&& 0xFFFFFFFC
  modCore s n fun c => { c with pc := if irq && v.getLsbD 0 then base + BitVec.ofNat 32 (4 * cause) else base }

/-- An exception of the program buffer ends it with cmderr 3 and no other effect. -/
def takeTrap (s : State) (n : Nat) (pc : Word) (cause : Nat) (irq : Bool) (tval : Word) : State :=
  if (coreOf s n).prog.isSome then progEnd s n 3 else vecTrap s n pc cause irq tval

/-- A posted store of the core at `pc` ended in an error (R392). A core that no longer runs takes no fault. -/
def postedFault (s : State) (n : Nat) (pc : Word) (a : Nat) : State :=
  if coreState s n = 1 ∨ coreState s n = 2 then takeTrap (setCoreState s n 1) n pc 7 false (BitVec.ofNat 32 a) else s

/-- A synchronous exception at the current instruction. -/
def raiseExc (s : State) (n cause : Nat) (tval : Word) : State := takeTrap s n (coreOf s n).pc cause false tval

/-- minstret counts one instruction more, unless mcountinhibit or, in the program buffer, dcsr.stopcount holds it. -/
def countInstr (s : State) (n : Nat) (dbg : Bool) : State :=
  if csrFld s n 0x320 2 1 = 1 ∨ (dbg ∧ csrFld s n 0x7B0 10 1 = 1) then s
  else
    let k := ((csrRaw s n 0xB02).toNat + 2 ^ 32 * (csrRaw s n 0xB82).toNat + 1) % 2 ^ 64
    setCsr (setCsr s n 0xB02 (BitVec.ofNat 32 k)) n 0xB82 (BitVec.ofNat 32 (k / 2 ^ 32))

/-- CRW_PC shows `pc`; it stays where the program buffer executes. -/
def showPc (s : State) (n : Nat) (pc : Word) (dbg : Bool) : State := if dbg then s else s.setWord (CRW_PC.addr n) pc

/-- The instruction at pc has retired: minstret counts, CRW_PC shows it. -/
def noteRetired (s : State) (n : Nat) : State :=
  let dbg := (coreOf s n).prog.isSome
  countInstr (showPc s n (coreOf s n).pc dbg) n dbg

/-- The instruction at pc retires, and pc moves past its bytes. -/
def retire (s : State) (n : Nat) : State :=
  modCore (noteRetired s n) n fun c => { c with pc := c.pc + BitVec.ofNat 32 c.ilen }

/-! ### Memory protection (R395) -/

/-- Trailing ones of a number, at most `fuel`. -/
def trailingOnes : Nat → Nat → Nat
  | 0, _ => 0
  | fuel + 1, n => if n % 2 = 1 then trailingOnes fuel (n / 2) + 1 else 0

/-- First byte and length that PMP entry `i` matches; length 0 for OFF and NA4. -/
def pmpRange (s : State) (n i : Nat) : Nat × Nat :=
  let a := (csrRaw s n (0x3B0 + i)).toNat
  match pmpCfg s n i / 8 % 4 with
  | 1 =>
    let lo := if i = 0 then 0 else (csrRaw s n (0x3B0 + i - 1)).toNat / 16 * 64
    let hi := a / 16 * 64
    (lo, hi - lo)
  | 3 =>
    let k := trailingOnes 32 (a ||| 7)
    (a / 2 ^ k * 2 ^ k * 4, 2 ^ (k + 3))
  | _ => (0, 0)

/-- Access of `len` bytes at `a` with permission bit `p` (0 R, 1 W, 2 X) by core `n`: the first entry that matches any byte
decides and must match all. -/
def pmpAllows (s : State) (n a len p : Nat) (user : Bool) : Bool :=
  let hit := (List.range 16).find? fun i =>
    let r := pmpRange s n i
    r.2 != 0 && a < r.1 + r.2 && r.1 < a + len
  match hit with
  | none => !user
  | some i =>
    let r := pmpRange s n i
    let whole := r.1 ≤ a && a + len ≤ r.1 + r.2
    whole && ((!user && !pmpLocked s n i) || nbit (pmpCfg s n i) p)

/-! ### Debug triggers (R396) -/

/-- The action of the first trigger that matches: an execution (bit 2), store (1) or load (0) at `a`, with the data. None
fires in Debug Mode, nor one that would enter it while debug halts are not allowed. -/
def trigHit (s : State) (n bit a : Nat) (d : Option Nat) : Option Nat :=
  if (coreOf s n).prog.isSome then none else (List.range 4).findSome? fun i =>
    let t := csrRaw s n (4096 + 2 * i)
    let v := (csrRaw s n (4097 + 2 * i)).toNat
    let what := if t.getLsbD 19 then d else some a
    let act := wordField t 12 1
    if nbit t.toNat bit && t.getLsbD (if (coreOf s n).user then 3 else 6) && what == some v &&
        (act == 0 || s.bitAt CRW_DBG.EN n) then some act
    else none

/-! ### PLIC claims -/

/-- Claim source `i`: its held event is consumed and it is in service. -/
def plicClaim (s : State) (i : Nat) : State :=
  if i = 0 then s
  else { s with crw := { s.crw with plic :=
    { s.crw.plic with edge := clrBit s.crw.plic.edge i, serv := setBit s.crw.plic.serv i } } }

def plicComplete (s : State) (i : Nat) : State :=
  { s with crw := { s.crw with plic := { s.crw.plic with serv := clrBit s.crw.plic.serv i } } }

def setPlic (s : State) (f : Plic → Plic) : State := { s with crw := { s.crw with plic := f s.crw.plic } }

/-- Write the threshold of context `n`. -/
def setThr (s : State) (n v : Nat) : State := setPlic s fun p => { p with thr := modAt p.thr n fun _ => v % 8 }

/-- A read of PLIC offset `o` by core `n` at the offsets of the PLIC specification; a read of a claim register claims. -/
def plicRead (s : State) (o : Nat) : Word × State :=
  if o < 0x80 then (BitVec.ofNat 32 (s.crw.plic.prio.getD (o / 4) 0), s)
  else if o = 0x1000 then (BitVec.ofNat 32 (((List.range 32).map fun i => if plicPending s i then 2 ^ i else 0).sum), s)
  else if 0x2000 ≤ o ∧ o < 0x2200 ∧ o % 0x80 = 0 then (BitVec.ofNat 32 (s.crw.plic.enab.getD ((o - 0x2000) / 0x80) 0), s)
  else if 0x200000 ≤ o ∧ o < 0x204000 then
    let c := (o - 0x200000) / 0x1000
    if o % 0x1000 = 0 then (BitVec.ofNat 32 (s.crw.plic.thr.getD c 0), s)
    else if o % 0x1000 = 4 then
      let (i, p) := plicBest s c
      let i := if s.fenced (fenceCRW c) ∨ p = 0 then 0 else i
      (BitVec.ofNat 32 i, plicClaim s i)
    else (0, s)
  else (0, s)

/-- A write of PLIC offset `o`; a write of a claim register completes. -/
def plicWrite (s : State) (o : Nat) (v : Word) : State :=
  let n := v.toNat
  if o < 0x80 then setPlic s fun p => { p with prio := modAt p.prio (o / 4) fun _ => if o = 0 then 0 else n % 8 }
  else if 0x2000 ≤ o ∧ o < 0x2200 ∧ o % 0x80 = 0 then
    setPlic s fun p => { p with enab := modAt p.enab ((o - 0x2000) / 0x80) fun _ => n / 2 * 2 }
  else if 0x200000 ≤ o ∧ o < 0x204000 then
    let c := (o - 0x200000) / 0x1000
    if o % 0x1000 = 0 then setThr s c n
    else if o % 0x1000 = 4 ∧ nbit (s.crw.plic.enab.getD c 0) (n % 32) then plicComplete s (n % 32)
    else s
  else s

/-- Set MTIME. -/
def setMtime (s : State) (v : Nat) : State :=
  { s with crw := { s.crw with acl := { s.crw.acl with val := v % 2 ^ 64, at_ := s.uptime } } }

/-- Replace the low or high word of a 64-bit number. -/
def halfWord (old : Nat) (high : Bool) (v : Word) : Nat :=
  if high then old % 2 ^ 32 + 2 ^ 32 * v.toNat else old / 2 ^ 32 * 2 ^ 32 + v.toNat

def setCmp (s : State) (n v : Nat) : State :=
  { s with crw := { s.crw with acl := { s.crw.acl with cmp := modAt s.crw.acl.cmp n fun _ => v } } }

/-- Words of the ACLINT from core address 0xC400_0000 on. -/
def aclintRead (s : State) (o : Nat) : Word :=
  if o < 16 then BitVec.ofNat 32 (b2n (s.crw.acl.msip.getD (o / 4) false))
  else if 0x4000 ≤ o ∧ o < 0x4020 then
    BitVec.ofNat 32 (s.crw.acl.cmp.getD ((o - 0x4000) / 8) 0 / (if o % 8 = 4 then 2 ^ 32 else 1))
  else if o = 0xBFF8 then BitVec.ofNat 32 (mtime s)
  else if o = 0xBFFC then BitVec.ofNat 32 (mtime s / 2 ^ 32)
  else 0

def aclintWrite (s : State) (o : Nat) (v : Word) : State :=
  if o < 16 then
    wakeCores { s with crw := { s.crw with acl := { s.crw.acl with msip := modAt s.crw.acl.msip (o / 4) fun _ => v.getLsbD 0 } } }
  else if 0x4000 ≤ o ∧ o < 0x4020 then
    let n := (o - 0x4000) / 8
    wakeCores (setCmp s n (halfWord (s.crw.acl.cmp.getD n 0) (o % 8 == 4) v))
  else if o = 0xBFF8 then wakeCores (setMtime s (halfWord (mtime s) false v))
  else if o = 0xBFFC then wakeCores (setMtime s (halfWord (mtime s) true v))
  else s

/-! ### Xlkfe (R377 to R389) -/

/-- First bytes of the core's D-TCM and I-TCM. -/
def itcm (n : Nat) : Nat := 0x21000000 + 0x20000 * n
def dtcm (n : Nat) : Nat := itcm n + 0x10000

/-- The debugger steps the core (dcsr.step). -/
def stepping (s : State) (n : Nat) : Bool := (csrRaw s n 0x7B0).getLsbD 2 && s.bitAt CRW_DBG.EN n

/-- The core takes interrupts now; while it is stepped, only with dcsr.stepie. -/
def takesIrq (s : State) (n : Nat) : Bool :=
  (coreState s n == 1 || coreState s n == 2) && ((coreOf s n).user || csrFld s n csrMstatus 3 1 == 1) &&
    !(stepping s n && !(csrRaw s n 0x7B0).getLsbD 11)

/-- Events an Xlkfe entry may take: (priority, SRC, standard code), for kinds enabled in mie and mlkfecfg, priority above
`level`; external before software before timer among equals. -/
def feEvents (s : State) (n level : Nat) : List (Nat × Nat × Nat) :=
  let mie := (csrRaw s n csrMie).toNat
  let cfg := (csrRaw s n csrFecfg).toNat
  let mip := mipOf s n
  let ext := plicBest s n
  let l := (if nbit cfg 0 && nbit mie 11 && nbit mip 11 then [(ext.2, ext.1, 11)] else []) ++
    (if nbit cfg 2 && nbit mie 3 && nbit mip 3 then [(cfg / 4096 % 8, 32, 3)] else []) ++
    (if nbit cfg 1 && nbit mie 7 && nbit mip 7 then [(cfg / 256 % 8, 0, 7)] else [])
  l.filter fun e => 0 < e.1 && level < e.1

/-- The event of highest priority, the first among equals. -/
def feBest (l : List (Nat × Nat × Nat)) : Option (Nat × Nat × Nat) :=
  l.foldl (fun b e => match b with | some x => if x.1 < e.1 then some e else b | none => some e) none

def feFrame (s : State) (n : Nat) : Bool := csrFld s n csrFestat 0 1 == 1
def feSf (s : State) (n : Nat) : Bool := csrFld s n csrFestat 1 1 == 1
def feLevel (s : State) (n : Nat) : Nat := csrFld s n csrFestat 4 3

/-- The first check of R386 that fails for stack pointer `sp`: 0 ALIGN, 1 LIMIT, 2 RANGE, 3 PMP. -/
def spCheck (s : State) (n sp : Nat) : Option Nat :=
  let lo := sp - 48
  if sp % 16 ≠ 0 then some 0
  else if sp < 48 ∨ lo < s.fld (CRW_FE_SPLIM.LIMIT n) then some 1
  else if !((dtcm n ≤ lo ∧ lo + 48 ≤ dtcm n + 0xFFC0) ∨ (0x20000000 ≤ lo ∧ lo + 48 ≤ 0x20100000)) then some 2
  else if !((List.range 12).all fun i => pmpAllows s n (lo + 4 * i) 4 1 false) then some 3
  else none

/-- Registers of the frame in order: ra, t0 to t2, a0 to a5. -/
def frameRegs : List Nat := [1, 5, 6, 7, 10, 11, 12, 13, 14, 15]

/-- The twelve words of Table 12-5. `level` and `swapped` go into STATE with MPIE and MPP. -/
def frameBytes (s : State) (n level : Nat) (swapped : Bool) : List Byte :=
  let st := csrFld s n csrMstatus 7 1 * 128 + csrFld s n csrMstatus 11 2 * 2048 + level * 65536 + b2n swapped * 2 ^ 19
  (frameRegs.flatMap fun r => toLE 4 (xreg s n r).toNat) ++ toLE 4 (csrRaw s n csrMepc).toNat ++ toLE 4 st

/-- Exchange sp with mlkfemsp. -/
def swapSp (s : State) (n : Nat) : State :=
  let sp := xreg s n 2
  setCsr (setX s n 2 (csrRaw s n csrFemsp)) n csrFemsp sp

/-- The handler address of SRC: word SRC of the table at mlkfevt, bit 0 ignored (R379). -/
def feVector (s : State) (n src : Nat) : Word := s.mword ((csrRaw s n csrFevt).toNat + 4 * src) &&& 0xFFFFFFFE

/-- Take over the event: mlkfestat, claim, nesting, and the jump to its handler (R378, R379, R382). -/
def feTake (s : State) (n : Nat) (e : Nat × Nat × Nat) : State :=
  let s := setCsrFld (setCsrFld s n csrFestat 4 3 e.1) n csrFestat 8 6 e.2.1
  let s := if 0 < e.2.1 ∧ e.2.1 < 32 then plicClaim s e.2.1 else s
  let s := if csrFld s n csrFecfg 3 1 = 1 then setThr (setCsrFld s n csrMstatus 3 1 1) n e.1 else s
  let s := modCore s n fun c => { c with claims := e.2.1 :: c.claims }
  modCore s n fun c => { c with pc := feVector s n e.2.1 }

/-- Entry with good checks (R381). -/
def feEnter (s : State) (n : Nat) (e : Nat × Nat × Nat) (sp : Nat) (swapped : Bool) : State :=
  let was := feFrame s n
  let s := s.store (sp - 48) (frameBytes s n (feLevel s n) swapped)
  let s := setX s n 2 (BitVec.ofNat 32 (sp - 48))
  let s := setCsrFld (setCsrFld s n csrFestat 0 1 1) n csrFestat 1 1 0
  feTake (modCore s n fun c => { c with outer := was :: c.outer }) n e

/-- Entry on a failed check (R387): rescue area, cause 24, the stack-fault handler; the event stays pending. -/
def feStackFault (s : State) (n : Nat) (e : Nat × Nat × Nat) (sp chk : Nat) (swapped : Bool) : State :=
  let was := feFrame s n
  let bs := frameBytes s n (feLevel s n) swapped ++ toLE 4 sp ++ toLE 4 e.2.1 ++ toLE 4 chk ++ toLE 4 0
  let s := s.store (dtcm n + 0xFFC0) bs
  let s := setCsr (setCsr s n csrMcause 24) n csrMtval (BitVec.ofNat 32 sp)
  let s := setCsrFld (setCsrFld (setCsrFld s n csrFestat 1 1 1) n csrFestat 0 1 1) n csrFestat 16 2 chk
  let s := (setCsrFld s n csrMstatus 3 1 0).count (CRW_CNT.SFAULT n)
  modCore s n fun c => { c with outer := was :: c.outer, claims := 0 :: c.claims, pc := csrRaw s n csrFesfv }

/-- The event that core `n` takes now by an Xlkfe entry. -/
def feNext (s : State) (n : Nat) : Option (Nat × Nat × Nat) :=
  if takesIrq s n then feBest (feEvents s n (if feFrame s n then feLevel s n else 0)) else none

/-- Address of the vector table's word for SRC. -/
def feVecAddr (s : State) (n src : Nat) : Nat := (csrRaw s n csrFevt).toNat + 4 * src

/-- The stack pointer that an entry would use: the machine stack's when the core is in user mode (R380). -/
def feSp (s : State) (n : Nat) : Nat := (if (coreOf s n).user then csrRaw s n csrFemsp else xreg s n 2).toNat

/-- An Xlkfe entry of core `n`; the Bool says that it met a stack fault while SF = 1, and halts (R389). -/
def feEntry (s : State) (n : Nat) : State × Bool :=
    match feNext s n with
    | none => (s, false)
    | some e =>
      let user := (coreOf s n).user
      let s1 := setCoreState s n 1
      let s1 := if user then swapSp s1 n else s1
      let sp := (xreg s1 n 2).toNat
      match spCheck s1 n sp with
      | none => (feEnter (saveState s1 n (coreOf s n).pc (BitVec.ofNat 32 (2 ^ 31 + e.2.2))) n e sp user, false)
      | some chk =>
        if feSf s n then (s1, true)
        else (feStackFault (saveState s1 n (coreOf s n).pc 24) n e sp chk user, false)

/-- A standard MRET: mode, MIE, pc; reservations break (R393). -/
def plainMret (s : State) (n : Nat) : State :=
  let mpp := csrFld s n csrMstatus 11 2
  let s := setCsrFld s n csrMstatus 3 1 (csrFld s n csrMstatus 7 1)
  let s := setCsrFld (setCsrFld s n csrMstatus 7 1 1) n csrMstatus 11 2 0
  let s := if mpp = 3 then s else setCsrFld s n csrMstatus 17 1 0
  trapRsv (modCore s n fun c => { c with user := mpp != 3, pc := csrRaw s n csrMepc }) n

/-- The PLIC source that the level which ends has claimed is completed (R383); a stack fault has claimed none. -/
def feComplete (s : State) (n : Nat) : State :=
  let src := (coreOf s n).claims.headD 0
  let s := modCore s n fun c => { c with claims := c.claims.tail }
  if 0 < src ∧ src < 32 then plicComplete s src else s

/-- Where the frame lies that an MRET reloads: the rescue area after a stack fault (R388), else sp. -/
def feBase (s : State) (n : Nat) : Nat := if feSf s n then dtcm n + 0xFFC0 else (xreg s n 2).toNat

/-- The LEVEL that an MRET restores. -/
def feRestored (s : State) (n : Nat) : Nat := (s.mword (feBase s n + 44)).toNat / 65536 % 8

/-- The event that an MRET with TAIL = 1 enters at once: one above the restored LEVEL, which the threshold follows where
NEST = 1 (R382, R384). -/
def feTail (s : State) (n : Nat) : Option (Nat × Nat × Nat) :=
  if csrFld s n csrFecfg 4 1 = 1 ∧ !feSf s n then
    let level := feRestored s n
    let u := feComplete s n
    feBest (feEvents (if csrFld s n csrFecfg 3 1 = 1 then setThr u n level else u) n level)
  else none

/-- MRET with FRAME = 1 (R383, R384, R388). -/
def frameMret (s : State) (n : Nat) : State :=
  let sf := feSf s n
  let sp := (xreg s n 2).toNat
  let base := feBase s n
  let st := (s.mword (base + 44)).toNat
  let level := feRestored s n
  match feTail s n with
  | some e =>
    let s := trapRsv (feComplete s n) n
    let s := setCsr s n csrMcause (BitVec.ofNat 32 (2 ^ 31 + e.2.2))
    feTake (setCsrFld s n csrMstatus 3 1 0) n e
  | none =>
    let s := feComplete s n
    let s := frameRegs.zipIdx.foldl (fun s (r, i) => setX s n r (s.mword (base + 4 * i))) s
    let s := setCsr s n csrMepc (s.mword (base + 40) &&& 0xFFFFFFFE)
    let s := if sf then s else setX s n 2 (BitVec.ofNat 32 (sp + 48))
    let s := setCsrFld (setCsrFld s n csrMstatus 7 1 (st / 128)) n csrMstatus 11 2 (st / 2048)
    let s := setCsrFld s n csrFestat 4 3 level
    let s := if csrFld s n csrFecfg 3 1 = 1 then setThr s n level else s
    let s := if nbit st 19 then swapSp s n else s
    let s := setCsrFld s n csrFestat 0 1 (b2n ((coreOf s n).outer.headD false))
    plainMret (modCore s n fun c => { c with outer := c.outer.tail }) n

/-! ### Starting, holding, fencing (R368 to R371) -/

/-- Start a core in machine mode at its boot address; with resethaltreq, or a halt request that stands, it halts before its
first instruction. -/
def startCore (s : State) (n : Nat) : State :=
  let a := s.word (CRW_BOOT_ADDR.addr n)
  let old := coreOf s n
  let c : Core := { pc := a, csr := old.csr.filter fun p => 4096 ≤ p.1, wdogAt := s.uptime, wdogUsed := old.wdogUsed,
                    resetHalt := old.resetHalt, haveReset := true }
  let s := (setCsr (modCore s n fun _ => c) n csrMtvec a).setWord (CRW_FE_SPLIM.addr n) 0
  if (old.resetHalt || old.halt == some 3) && s.bitAt CRW_DBG.EN n then
    setCoreState (modCore s n fun c => { c with dpc := a, dcause := if old.resetHalt then 5 else 3 }) n 3
  else setCoreState s n 1

/-- Hold core `n` in reset; its debug triggers, kept from number 4096 on, stay (R397). -/
def holdCore (s : State) (n : Nat) : State :=
  let s := dropRsv s n
  setCoreState (modCore s n fun c => { resetHalt := c.resetHalt, haveReset := true, halt := c.halt.filter (· == 3),
                                        wdogAt := s.uptime, wdogUsed := wdogSpent s n,
                                        csr := c.csr.filter fun p => 4096 ≤ p.1 }) n 0

/-- Every core is held; a fenced one stays as it is until its fence lifts (R370). -/
def holdAllCores (s : State) : State :=
  (List.range 4).foldl (fun s n => if s.fenced (fenceCRW n) then s else holdCore s n) s

/-- Core `n` may start at this address (R281). -/
def bootAddrOk (n a : Nat) : Bool :=
  a % 2 == 0 && ((itcm n ≤ a && a < itcm n + 0x10000) || (0x20000000 ≤ a && a < 0x20100000))

/-- Image apply writes the boot addresses of its ENTRY section and releases the cores with START = 1 (R287, R368). -/
def crewImageStart (s : State) (entries : List (Nat × Bool)) (halt : Bool) : State :=
  let s := holdAllCores s
  entries.zipIdx.foldl (fun s (e, n) =>
    let s := s.setFld (CRW_BOOT_ADDR.ADDR n) (e.1 / 2 * 2)
    if e.2 && !halt && !s.fenced (fenceCRW n) then startCore s n else s) s

/-- Core `n` is fenced: halted, its posted stores discarded (R370); a program buffer that executes ends (DESIGN CHOICE, log
entry 42). -/
def fenceCore (s : State) (n : Nat) : State :=
  setCoreState (modCore (noteCycles (progEnd s n 4) n) n fun c => { c with sb := [] }) n 4

/-- CRW_DBG after a reset (R397): 0x1F with HALT_CREW and in FACTORY TEST, else 0. -/
def resetCrewDbg (s : State) : State :=
  s.setWord CRW_DBG.addr (if s.fld SYS_STRAP.BOOT_SEL = 4 ∨ s.pwr.mode = .factory then 0x1F else 0)

/-- The rails come up or a node reset: every core held, PLIC and ACLINT at reset, MTIME 0 (R369, R375). -/
def resetCrew (s : State) : State :=
  resetCrewDbg { s with crw := { acl := { at_ := s.uptime } }, rsv := s.rsv.map fun _ => none }

/-- The unit reset of core `n`: its registers at their reset values, held, its TCMs kept (R153, R367, R369). -/
def resetCore (s : State) (n : Nat) : State :=
  holdCore (s.resetRegs (CRW_CORE_CTL.addr n) (CRW_CORE_CTL.addr n + 0x40)) n

end Sys2Proof.Machine
end

