-- ==== Sys2Proof/Machine/Trunk.lean ====
section
/-! DEFINITION. The trunk below Bark: frames and their check, egress queues, token buckets and gates, messages to hosts,
ports going down, bindings ending (chapters 13 to 15). -/

namespace Sys2Proof.Machine

/-! ### Frames (Tables 13-2, 13-3) -/

/-- Size in bytes (R411). -/
def fsize (f : Frame) : Nat := 32 + f.payload.length

/-- LEN, in words of 8 bytes. -/
def fwords (f : Frame) : Nat := f.payload.length / 8

/-- The 24 header bytes, START included. -/
def frameHeader (f : Frame) : List Byte :=
  toLE 1 0x5C ++ toLE 1 (f.ty % 16 + 16 * (f.cls % 8)) ++ toLE 1 (fwords f % 64) ++ toLE 1 f.fbe ++ toLE 1 f.lbe ++
    toLE 1 (f.sub % 16 + 16 * (f.status % 16)) ++ toLE 2 f.src ++ toLE 2 (f.tag % 1024 + 1024 * (f.oid % 64)) ++
    toLE 2 f.ackSeq ++ toLE 6 f.addr ++ toLE 1 (b2n f.ackV) ++ toLE 1 0 ++ toLE 4 f.aux

/-- Header, payload and the four zero bytes of the trailer (R414). -/
def frameBody (f : Frame) : List Byte := frameHeader f ++ f.payload ++ toLE 4 0

/-- The fold block (Table 13-3). -/
def foldBlock (dst seq addr : Nat) : List Byte := toLE 2 dst ++ toLE 2 seq ++ toLE 4 (addr / 2 ^ 16)

/-- LINK and RESYNC are not sequenced (R418). -/
def unsequenced (ty : Nat) : Bool := ty == 8 || ty == 9

/-- The address that a frame of type `ty` folds: its own for requests and completions, 0 for the others. A completion
echoes the ADDR of its request. -/
def foldAddr (ty addr : Nat) : Nat := if ty ≤ 4 then addr else 0

/-- The bytes of a frame as it is sent (R411, R415). -/
def wireBytes (f : Frame) (dst seq : Nat) : List Byte :=
  frameBody f ++ toLE 4 (crc32c (foldBlock dst seq (foldAddr f.ty f.addr) ++ frameBody f))

/-- The header fields read from received bytes; LEN is judged apart. -/
def frameOfBytes (bs : List Byte) : Frame :=
  { ty := leAt bs 1 1 % 16, cls := leAt bs 1 1 / 16 % 8, fbe := leAt bs 3 1, lbe := leAt bs 4 1,
    sub := leAt bs 5 1 % 16, status := leAt bs 5 1 / 16, src := leAt bs 6 2, tag := leAt bs 8 2 % 1024,
    oid := leAt bs 8 2 / 1024, ackSeq := leAt bs 10 2, addr := leAt bs 12 6, ackV := nbit (leAt bs 18 1) 0,
    aux := leAt bs 20 4, payload := slice bs 24 (bs.length - 32) }

/-- The bytes have the length that LEN gives, at most 32 words (R417 step 1). -/
def lengthOk (bs : List Byte) : Bool := leAt bs 2 1 % 64 ≤ 32 && bs.length == 32 + 8 * (leAt bs 2 1 % 64)

/-- A reserved bit of the header or trailer is not 0 (Table 13-2, R414). -/
def reservedSet (bs : List Byte) : Bool :=
  nbit (leAt bs 1 1) 7 || 64 ≤ leAt bs 2 1 || 2 ≤ leAt bs 18 1 || leAt bs 19 1 != 0 || leAt bs (bs.length - 8) 4 != 0

/-- The CRC of received bytes with these folded values (R415). -/
def crcOk (bs : List Byte) (dst seq addr : Nat) : Bool :=
  leAt bs (bs.length - 4) 4 == crc32c (foldBlock dst seq addr ++ bs.take (bs.length - 4))

/-- The payload as a number of 64-bit words' bits. -/
def fpay (f : Frame) : Nat := leNat f.payload

/-- Bits of the payload word that the LINK and RESYNC forms use (Table 13-4). -/
def linkBits (ty sub : Nat) : Option Nat :=
  match ty, sub with
  | 8, 0 => some 22 | 8, 1 => some 0 | 8, 2 => some 2 | 9, 0 => some 32 | 9, 1 => some 48 | _, _ => none

/-- The header checks of R417 step 3 but for reserved bits, with R413, R424 and R426. -/
def headerBad (f : Frame) : Bool :=
  10 ≤ f.ty || 6 ≤ f.cls || f.addr % 8 != 0 ||
    (fwords f == 1 && f.lbe != 0) || (2 ≤ fwords f && (f.fbe == 0 || f.lbe == 0)) ||
    (fwords f == 0 && 2 ≤ f.ty && (f.fbe != 0 || f.lbe != 0)) ||
    (f.ty == 6 && (fwords f != 1 || f.addr != 0 || f.cls != 1 || 2 < f.sub || f.fbe != 0xFF)) ||
    (unsequenced f.ty && (fwords f != 1 || f.addr != 0 || f.cls != 0 || f.tag != 0 || f.oid != 0 ||
      (match linkBits f.ty f.sub with | none => true | some n => 2 ^ n ≤ fpay f)))

/-- A LINK or RESYNC frame (R424). FBE is 0xFF, one whole word. -/
def linkFrame (ty sub w : Nat) : Frame := { ty := ty, sub := sub, fbe := 0xFF, payload := toLE 8 w }

/-! ### Ports -/

def State.port (s : State) (x : Nat) : TkPort := s.tk.getD x {}

def State.modPort (s : State) (x : Nat) (f : TkPort → TkPort) : State := { s with tk := modAt s.tk x f }

def State.modTks (s : State) (f : Sched → Sched) : State := { s with tks := f s.tks }

def State.modTh (s : State) (f : TenH → TenH) : State := { s with th := f s.th }

def tenOf (s : State) (t : Nat) : Ten := s.th.ten.getD t {}

def State.modTen (s : State) (t : Nat) (f : Ten → Ten) : State := s.modTh fun h => { h with ten := modAt h.ten t f }

/-- PORT of TKx_STATUS: 0 DOWN, 1 ONE, 2 TWO (R403). -/
def portCode (s : State) (x : Nat) : Nat := s.fld (TK_STATUS.PORT x)

/-- Set a flag of TKx_IRQ. -/
def tkIrq (s : State) (x : Nat) (r : FRef) : State := plicRaise (s.setBit r true) (16 + x)

/-- Change PORT, with its flag. -/
def setPort (s : State) (x n : Nat) : State :=
  if portCode s x = n then s else tkIrq (s.setFld (TK_STATUS.PORT x) n) x (TK_IRQ.PORT_CHG x)

/-! ### Tenants -/

/-- Host tenant `t` is bound (R430). -/
def bound (s : State) (t : Nat) : Bool := s.bit (TEN_T_BIND.BOUND t)

/-- The host tenant bound to a node ID (R430, R431). -/
def tenantOf (s : State) (node : Nat) : Option Nat :=
  (List.range 4).find? fun t => bound s t && s.fld (TEN_T_BIND.NODE_ID t) == node

/-- Set flags of TEN_IRQ. -/
def tenIrq (s : State) (r : FRef) (i : Nat) : State := plicRaise (s.setBitAt r i true) 19

/-- The port TEN_t_CFG.PORT selects (R467). -/
def portFor (s : State) (t : Nat) : Nat :=
  match s.fld (TEN_T_CFG.PORT t) with
  | 0 => 0
  | 1 => 1
  | _ => if portCode s 0 ≠ 0 then 0 else 1

/-- The request of slot `q`, if still outstanding, has no slot any more: it ends by its completion or its timeout (R409). -/
def freeSlotTag (s : State) (q : Nat) : State :=
  { s with tk := s.tk.map fun p => { p with
      tags := p.tags.map fun k => (k.1, k.2.map fun g => if g.slot = some q then { g with slot := none } else g) } }

/-- Slot `q` ends with a RESULT of Table 14-5 (R468). -/
def endSlot (s : State) (q res : Nat) : State :=
  if s.bit (TEN_HRQ_STAT.BUSY q) then
    let s := freeSlotTag s q
    tenIrq ((s.setBit (TEN_HRQ_STAT.BUSY q) false).setFld (TEN_HRQ_STAT.RESULT q) res) TEN_IRQ.HRQ q
  else s

/-- The completion of a request has left or is discarded: its tag is free, and its NPH credit where it held one (R438, R439). -/
def freeCpl (s : State) (t tag : Nat) : State :=
  let h := tenOf s t
  if h.tags.contains tag then
    (s.modTen t fun h => { h with tags := h.tags.erase tag, busyTags := h.busyTags.erase tag }).setFld (TEN_T_CRED.NP t)
      (s.fld (TEN_T_CRED.NP t) - b2n (!h.busyTags.contains tag))
  else s

/-- The completion of trunk request `id` is discarded: a reset that waits for it waits no longer (log entry 25). -/
def carriedGone (s : State) (id : Nat) : State :=
  { s with sys := { s.sys with carry := s.sys.carry.map fun c => if c.port < 2 && c.id == id then { c with gone := true } else c } }

/-! ### Token buckets (R478 to R480) -/

/-- The tokens of a bucket now, in 1/80,000 byte: RATE is one of them each ns. -/
def bucketLevel (s : State) (b : Bucket) (rate burst : Nat) : Nat :=
  Nat.min (Nat.max 288 burst * 80000) (b.tok + rate * (s.uptime - b.at_))

/-- A shaper or policer: its RATE register, BURST register and bucket. -/
structure Shaper where
  en : Bool
  rate : Nat
  burst : Nat
  b : Bucket
  deriving DecidableEq, Repr

def freshBucket (_ : Nat) : Bucket := {}

def classShaper (s : State) (x c : Nat) : Shaper :=
  ⟨s.bit (TKS_CSH_RATE.EN x c), s.fld (TKS_CSH_RATE.RATE x c), s.fld (TKS_CSH_BURST.BYTES x c),
    SMap.get freshBucket s.tks.csh (8 * x + c)⟩

def queueShaper (s : State) (x u c : Nat) : Shaper :=
  ⟨s.bit (TKS_QSH_RATE.EN x u c), s.fld (TKS_QSH_RATE.RATE x u c), s.fld (TKS_QSH_BURST.BYTES x u c),
    SMap.get freshBucket s.tks.qsh (64 * x + 8 * u + c)⟩

def policer (s : State) (t c : Nat) : Shaper :=
  ⟨s.bit (TKS_POL_RATE.EN t c), s.fld (TKS_POL_RATE.RATE t c), s.fld (TKS_POL_BURST.BYTES t c),
    SMap.get freshBucket s.tks.pol (8 * t + c)⟩

/-- Disabled, or holding tokens for `n` bytes (R474, R491). -/
def shaperOk (s : State) (h : Shaper) (n : Nat) : Bool := !h.en || n * 80000 ≤ bucketLevel s h.b h.rate h.burst

/-- The bucket after `n` bytes have left it; a disabled shaper's count does not fall below 0. -/
def spend (s : State) (h : Shaper) (n : Nat) : Bucket :=
  { tok := bucketLevel s h.b h.rate h.burst - n * 80000, at_ := s.uptime }

/-- The bucket after an apply: the tokens that stood, clipped to the new BURST (R479). -/
def settled (s old : State) (ho hn : Shaper) : Bucket :=
  { tok := Nat.min (bucketLevel old ho.b ho.rate ho.burst) (Nat.max 288 hn.burst * 80000), at_ := s.uptime }

/-- An apply of group 9 or 10 settles the shapers of port `x`. -/
def settlePort (s old : State) (x : Nat) : State :=
  let csh := (List.range 6).foldl (fun m c =>
    SMap.set freshBucket m (8 * x + c) (settled s old (classShaper old x c) (classShaper s x c))) s.tks.csh
  let qsh := (List.range 24).foldl (fun m k => SMap.set freshBucket m (64 * x + 8 * (k / 6) + k % 6)
    (settled s old (queueShaper old x (k / 6) (k % 6)) (queueShaper s x (k / 6) (k % 6)))) s.tks.qsh
  s.modTks fun g => { g with csh := csh, qsh := qsh }

/-- An apply of group 13 settles the policers. -/
def settlePolicers (s old : State) : State :=
  s.modTks fun g => { g with pol := (List.range 24).foldl (fun m k => SMap.set freshBucket m (8 * (k / 6) + k % 6)
    (settled s old (policer old (k / 6) (k % 6)) (policer s (k / 6) (k % 6)))) g.pol }

/-! ### Gates (R481 to R489) -/

/-- No change ahead. -/
def gateForever : Nat := 2 ^ 64

/-- The entry at `pos` ns into a cycle: OPEN, its number, and the ns until it ends (R482). -/
def gateScan (cycle pos : Nat) : List (Nat × Nat) → Nat → Nat → Nat × Nat × Nat
  | [], _, i => (31, i, cycle - pos)
  | [(_, m)], _, i => (m, i, cycle - pos)
  | (d, m) :: rest, acc, i =>
    let e := Nat.min (acc + d) cycle
    if pos < e then (m, i, e - pos) else gateScan cycle pos rest e (i + 1)

/-- OPEN, entry and ns until the next entry of a list at mill time `m` (R481, R486). -/
def gateSeg (g : GateList) (m : Int) : Nat × Nat × Nat :=
  if g.en then gateScan g.cycle ((m - g.base) % g.cycle).toNat g.ents 0 0 else (31, 0, gateForever)

/-- The first cycle start at or after `m` (R481). -/
def firstStart (g : GateList) (m : Int) : Int := g.base - (g.base - m) / g.cycle * g.cycle

/-- The gates at mill time `m`, by the list in force, the waiting list (R488) and a hold (R489). -/
def gateView (g : Gates) (m : Int) : Nat × Nat × Nat :=
  let now := match g.hold with
    | some h =>
      if m < h.endm then
        let v := gateSeg g.cur (m - h.off)
        (v.1, v.2.1, Nat.min v.2.2 (h.endm - m).toNat)
      else if m < h.restart then (h.mask, h.entry, (h.restart - m).toNat)
      else gateSeg g.cur m
    | none => gateSeg g.cur m
  match g.wait with
  | some (l, t) => if (t : Int) ≤ m then gateSeg l m else (now.1, now.2.1, Nat.min now.2.2 ((t : Int) - m).toNat)
  | none => now

/-- ns until the gate of class `c` closes, where that is within `lim`. -/
def nextClose (g : Gates) (c lim : Nat) : Nat → Int → Nat → Option Nat
  | 0, _, _ => none
  | fuel + 1, m, acc =>
    let v := gateView g m
    if !nbit v.1 (c - 1) then some acc
    else if lim < acc + v.2.2 then none else nextClose g c lim fuel (m + v.2.2) (acc + v.2.2)

/-- The entries of the gate registers of port `x` in ns, up to the first with DUR = 0 (R482); where entry 0 has none it
holds for the cycle. -/
def gateEntries (s : State) (x : Nat) : List (Nat × Nat) :=
  let es := ((List.range 64).takeWhile fun e => s.fld (TKS_GATE.DUR x e) != 0).map fun e =>
    (8 * s.fld (TKS_GATE.DUR x e), s.fld (TKS_GATE.OPEN x e))
  if es.isEmpty then [(0, s.fld (TKS_GATE.OPEN x 0))] else es

/-- The list that the registers of port `x` hold. -/
def gateList (s : State) (x : Nat) : GateList :=
  { en := s.bit (TKS_CTRL.GATE_EN x), cycle := 8 * clampN 1250 12500000 (s.fld (TKS_CYCLE.STEPS x)),
    base := s.fld (TKS_BASE_LO.NS x) + 2 ^ 32 * s.fld (TKS_BASE_HI.NS x), ents := gateEntries s x }

def gatesOf (s : State) (x : Nat) : Gates := s.tks.gates.getD x {}

def setGates (s : State) (x : Nat) (g : Gates) : State := s.modTks fun k => { k with gates := modAt k.gates x fun _ => g }

/-- Set a flag of TKS_IRQ. -/
def tksIrq (s : State) (r : FRef) : State := plicRaise (s.setBit r true) 18

/-- Show the gates of port `x` (Table 15-5, TKS_STATUS). -/
def showGates (s : State) (x : Nat) : State :=
  let g := gatesOf s x
  let v := gateView g s.tim.now
  let s := (s.setFld (TKS_GSTAT.ENTRY x) v.2.1).setFld (TKS_GSTAT.OPEN x) v.1
  let pend := match g.wait with | some (_, t) => decide (s.tim.now < t) | none => false
  let hold := (g.wait.isNone || pend) && (match g.hold with | some h => decide (s.tim.now < h.restart) | none => false)
  let s := (s.setBit (TKS_GSTAT.PEND x) pend).setBit (TKS_GSTAT.HOLD x) hold
  (s.setBitAt TKS_STATUS.PEND x pend).setBitAt TKS_STATUS.HOLD x hold

/-- Bring the gates of port `x` up to mill time: a waiting list starts (R488), a hold ends (R489). -/
def refreshGates (s : State) (x : Nat) : State :=
  let g := gatesOf s x
  let s := match g.wait with
    | some (l, t) =>
      if t ≤ s.tim.now then
        tksIrq (setGates s x { cur := l }) (if x = 0 then TKS_IRQ.CYC_A else TKS_IRQ.CYC_B)
      else s
    | none => s
  let g := gatesOf s x
  let s := match g.hold with
    | some h => if h.restart ≤ s.tim.now then setGates s x { g with hold := none } else s
    | none => s
  showGates s x

/-- An apply of group 9 or 10 (R479, R488): shapers settle; a changed gate list waits for the first cycle start of its own
that is at least 1 µs away, or 1 µs where it has no cycles. -/
def portApplied (s old : State) (x : Nat) : State :=
  let s := settlePort s old x
  if gateList s x = gateList old x then s
  else
    let g := gateList s x
    let m : Int := s.tim.now + 1000
    let t := if g.en then (firstStart g m).toNat else m.toNat
    showGates (setGates s x { gatesOf s x with wait := some (g, t) }) x

/-- A step of mill time by `d` ns, already taken (R489). -/
def gateStep1 (d : Int) (s : State) (x : Nat) : State :=
  let g := gatesOf s x
  if g.cur.en then
    let h : GateHold := match g.hold with
      | some h => { h with off := h.off + d, endm := h.endm + d, restart := firstStart g.cur (h.endm + d) }
      | none =>
        let mb : Int := s.tim.now - d
        let cs := mb - (mb - g.cur.base) % g.cur.cycle
        let v := gateSeg g.cur (cs + g.cur.cycle - 1)
        let e := cs + g.cur.cycle + d
        ⟨d, e, firstStart g.cur e, v.1, v.2.1⟩
    showGates (setGates s x { g with hold := some h }) x
  else s

def gatesStep (s : State) (d : Int) : State := gateStep1 d (gateStep1 d s 0) 1

/-! ### Egress queues (R470 to R472) -/

def qkey (x u c : Nat) : Nat := 64 * x + 8 * u + c

def egQueue (s : State) (k : Nat) : List EgFrame := SMap.get (fun _ => []) s.tks.q k

def setEgQueue (s : State) (k : Nat) (l : List EgFrame) : State :=
  s.modTks fun g => { g with q := SMap.set (fun _ => []) g.q k l }

/-- TIME and CREDIT frames waiting on port `x`, oldest first (R476). -/
def tcQueue (s : State) (x : Nat) : List EgFrame := s.tks.tc.getD x []

def setTc (s : State) (x : Nat) (l : List EgFrame) : State :=
  s.modTks fun g => { g with tc := modAt g.tc x fun _ => l }

/-- A push record of subscription `i` loses a frame: abandoned there, WPTR not advanced (R327, R497). -/
def abandonPush (s : State) (i : Nat) : State :=
  match s.eng.dlv.find? fun d => d.sub == i && d.sent with
  | some d => setBufOwn ((dropDelivery s d).count (REC_SUB_CNT.ERR i)) d.chain 15
  | none => s

/-- A queued frame is discarded without a count of its own; a slot ends with `res`. -/
def discardFrame (s : State) (e : EgFrame) (res : Nat) : State :=
  match e.use with
  | .plain => s
  | .cpl t tag id => carriedGone (freeCpl s t tag) id
  | .push i _ => abandonPush s i
  | .slot q => endSlot s q res

/-- A frame queued on a port that is DOWN is discarded (R497): completions count under R445, others in QDROP. -/
def loseFrame (s : State) (x : Nat) (e : EgFrame) : State :=
  let s := match e.use with
    | .cpl t _ _ => s.count (TEN_T_CNT2.CPLDROP t)
    | _ => if e.f.ty = 1 ∨ e.f.ty = 4 then s else s.count (TKS_CNT.QDROP x)
  discardFrame s e 5

/-- BARK, POWER_FAIL, RACK_IRQ and MODE messages are dropped where their queue is full (R472). -/
def droppable (f : Frame) : Bool := f.ty == 5 && f.sub ≤ 3

/-- Put a frame in the queue of subscriber `u` (4 unbound) and its class on port `x`. -/
def enqueue (s : State) (x u : Nat) (e : EgFrame) : State :=
  if portCode s x = 0 then loseFrame s x e
  else if e.f.ty = 6 ∨ e.f.ty = 7 then setTc s x (tcQueue s x ++ [e])
  else
    let k := qkey x u e.f.cls
    if 64 ≤ (egQueue s k).length ∧ droppable e.f then
      tksIrq (s.count (TKS_CNT.QDROP x)) (if x = 0 then TKS_IRQ.QDROP_A else TKS_IRQ.QDROP_B)
    else setEgQueue s k (egQueue s k ++ [e])

/-- Send a frame to bound tenant `t` on the port chosen for it. -/
def toHost (s : State) (t : Nat) (f : Frame) (use : FrameUse) : State :=
  enqueue s (portFor s t) t { f := f, dst := s.fld (TEN_T_BIND.NODE_ID t), use := use }

/-- Every frame that `p` picks leaves the queues of port `x`; `f` disposes of each. -/
def emptyQueues (s : State) (x : Nat) (p : Nat → EgFrame → Bool) (f : State → EgFrame → State) : State :=
  let s := (List.range 40).foldl (fun s k =>
    let key := 64 * x + k
    let l := egQueue s key
    (l.filter (p (k / 8))).foldl f (setEgQueue s key (l.filter fun e => !p (k / 8) e))) s
  let l := tcQueue s x
  (l.filter (p 5)).foldl f (setTc s x (l.filter fun e => !p 5 e))

/-! ### Messages (R464, Table 14-4) -/

/-- A MSG frame of whole words. -/
def msgFrame (sub cls : Nat) (payload : List Byte) (aux : Nat := 0) : Frame :=
  { ty := 5, cls := cls, sub := sub, aux := aux, payload := payload,
    fbe := if payload.isEmpty then 0 else 0xFF, lbe := if 16 ≤ payload.length then 0xFF else 0 }

/-- Send a message to each bound tenant that `route` selects. -/
def routeMsg (s : State) (route : Nat → Bool) (f : Frame) : State :=
  (List.range 4).foldl (fun s t => if route t && bound s t then toHost s t f .plain else s) s

/-- The BARK message of a reaction (R173, R174). -/
def sendBarkMsg (s : State) (src cls : Nat) (tenant : Option Nat) : State :=
  let w := src + 256 * cls + (match tenant with | some t => 1024 * t + 8192 | none => 0)
  routeMsg s (fun t => s.bit (TEN_T_CFG.BARK t))
    (msgFrame 0 (if 2 ≤ cls then 0 else 1) (toLE 8 w ++ toLE 8 s.tim.now))

/-- The MODE message of a change from `old` to `new`. -/
def sendModeMsg (s : State) (new old : Mode) : State :=
  let w := new.code + 16 * old.code + 256 * (if new = .degraded then s.pwr.base.code else new.code)
  routeMsg s (fun t => s.bit (TEN_T_CFG.MODE t)) (msgFrame 3 5 (toLE 8 w ++ toLE 8 s.tim.now))

/-- POWER_FAIL in class ALARM to each host tenant enabled in PWR_HOLD_CFG.MSG_EN (Table 03-7); for one not bound it is
dropped and counted (R464). -/
def sendPowerFail (s : State) : State :=
  let left := if s.pwr.mode = .holdup then s.fld PWR_HOLD_STAT.FROM else s.pwr.mode.code
  let f := msgFrame 1 0 (toLE 8 left ++ toLE 8 s.tim.now)
  (List.range 4).foldl (fun s t =>
    if s.bitAt PWR_HOLD_CFG.MSG_EN t then
      if bound s t then toHost s t f .plain else s.count (TEN_T_CNT.MSGDROP t)
    else s) s

/-- Enter a mode; in every mode but DEGRADED, whose base is the mode left, the base is the mode itself (R51). A change of
mode sets SYS_SVC_IRQ.MODE_CHG (Table 05-21), raises the PLIC source MODE (Table 12-4) and sends MODE messages (Table 14-4)
while the rails are on. -/
def State.enter (s : State) (m : Mode) (q : Seq) : State :=
  let b := if m = .degraded then s.pwr.mode else m
  let s1 := if m != s.pwr.mode && m != .off && m != .root then
      let s := plicRaise (s.setBit SYS_SVC_IRQ.MODE_CHG true) plicMODE
      sendModeMsg { s with pwr := { s.pwr with base := b } } m s.pwr.mode
    else s
  { s1 with pwr := { s1.pwr with mode := m, base := b, seq := q } }

/-! ### Ports and bindings ending -/

/-- The slot whose request has tag `g`. -/
def OwnTag.busySlot (g : OwnTag) : Option Nat := if g.out then g.slot else none

/-- A port goes DOWN (R409, R497): held frames are lost and its queues are discarded. The slots of its requests end (Table
14-5); the requests themselves stay outstanding until their completion timeout. -/
def portDown (s : State) (x : Nat) : State :=
  if portCode s x = 0 then s
  else
    let p := s.port x
    let s := s.count (TK_CNT2.LOST x) p.held.length
    let s := setPort s x 0
    let s := ((s.setFld (TK_STATUS.TXMASK x) 0).setFld (TK_STATUS.RXMASK x) 0).setBit (TK_STATUS.RESYNC x) false
    let s := (s.setBit (TK_STATUS.SKEW_ERR x) false).setFld (TK_REPLAY.HELD x) 0
    let s := s.modPort x fun p => { p with held := [], pos := 0, linkq := [], defer := false, ackDue := false,
                                           maskWait := false, markPend := none, peerRx := 0, peerStripe := 0, part := [] }
    let lost := p.tags.filterMap fun q => q.2.bind OwnTag.busySlot
    let s := lost.foldl (fun s q => endSlot s q 5) s
    emptyQueues s x (fun _ _ => true) (fun s e => loseFrame s x e)

def State.modTim (s : State) (f : Tim → Tim) : State := { s with tim := f s.tim }

/-- The port on which the node takes the master's TIME frames (R107). -/
def masterPort (s : State) : Nat :=
  match s.fld TIM_MASTER.PORT with
  | 0 => 0
  | 1 => 1
  | _ => if s.portHasLane 0 then 0 else 1

/-- Forget the filter history: the accumulator, the record of the smallest delay, the counts of exchanges in a row
(R717). -/
def clearTimHistory (s : State) : State :=
  s.modTim fun t => { t with acc := 0, dHist := [], lockCnt := 0, unlockCnt := 0, stepCnt := 0 }

/-- The port of the master in use is TIM_STATUS.SRC_PORT; a change of port clears the filter history (Table 04-6). -/
def timPort (s : State) : State :=
  if s.bit TIM_MASTER.VALID && s.fld TIM_STATUS.SRC_PORT != masterPort s then
    (clearTimHistory s).setFld TIM_STATUS.SRC_PORT (masterPort s)
  else s

/-- A lane changes its state: the status bits follow, and a departure from UP counts (R401). The port of the time master
follows the lanes (R107). -/
def setLane (s : State) (x l st : Nat) : State :=
  let old := s.fld (TK_LANE_STAT.STATE x l)
  let s := s.setFld (TK_LANE_STAT.STATE x l) st
  let s := s.setBit (TK_LANE_STAT.BLOCK_LOCK x l) (decide (3 < st))
  let s := s.setBit (TK_LANE_STAT.FEC_LOCK x l) (decide (4 < st) && s.bit (TK_LANE_CFG.FEC x l))
  let s := if st < 6 then s.setBit (TK_LANE_STAT.MISMATCH x l) false else s
  let s := if st < 6 then s.modPort x fun p => { p with lanes := modAt p.lanes l fun _ => {} } else s
  let s := if old = 6 ∧ st ≠ 6 then s.count (TK_LANE_CNT.LOCK_LOSS x l) else s
  if old ≠ st ∧ (old = 6 ∨ st = 6) then timPort (tkIrq s x (TK_IRQ.LANE_CHG x)) else s

/-- The first state of a lane (Table 13-1): OFF unless it and the port are enabled and the port works. -/
def firstState (s : State) (x l : Nat) : Nat :=
  if !s.bit (TK_LANE_CFG.EN x l) || !s.bit (TK_CTRL.EN x) || (s.port x).idle || s.fenced (fenceTK x) then 0
  else if s.bit (TK_LANE_CFG.PMD x l) then 1 else 2

/-- Both lanes of a port to their first state, the port DOWN. -/
def restartPort (s : State) (x : Nat) : State :=
  let s := setLane (setLane s x 0 0) x 1 0
  let s := portDown s x
  setLane (setLane s x 0 (firstState s x 0)) x 1 (firstState s x 1)

/-- The lanes of both ports start their bring-up (R401). -/
def trunkRestart (s : State) : State := restartPort (restartPort s 0) 1

/-- A port is retrained (R420): 1 ms of electrical idle, then each lane starts again. -/
def retrain (s : State) (x : Nat) : State :=
  restartPort ((s.count (TK_CNT.RETRAIN x)).modPort x fun p => { p with idle := true }) x

/-- Remove a binding (R459): the registers follow, frames queued for the tenant go, but for its completions unless the end
is a fence, its waiting slots end, and its undelivered copies are freed. -/
def endBinding (s : State) (t : Nat) (fenced : Bool) : State :=
  let s := if fenced then
      let s := s.modTh fun h => { h with reqs := h.reqs.filter fun r => r.t != t || r.started }
      (s.modTen t fun h => { h with exch := none }).setBitAt TEN_STATUS.EXCH t false
    else s
  if !bound s t then s
  else
    let node := s.fld (TEN_T_BIND.NODE_ID t)
    let s := (s.setWord (TEN_T_BIND.addr t) 0).setBitAt TEN_STATUS.BOUND t false
    let pick := fun (u : Nat) (e : EgFrame) =>
      (u == t && (fenced || !(e.f.ty == 1 || e.f.ty == 4))) || (u == 5 && e.dst == node)
    let s := emptyQueues (emptyQueues s 0 pick fun s e => discardFrame s e 4) 1 pick fun s e => discardFrame s e 4
    let s := (List.range 4).foldl (fun s q =>
      if s.bit (TEN_HRQ_STAT.BUSY q) && (s.th.slots.getD q (0, 0)).1 == t then endSlot s q 4 else s) s
    tenIrq (recordsFenceTenant s t) TEN_IRQ.BIND t

def unbindTenant (s : State) (t : Nat) : State := endBinding s t false

/-- A fence of host tenant `t` (R183, Table 14-7, R498). -/
def fenceTenant (s : State) (t : Nat) : State := endBinding s t true

/-- The commit point of HOLDUP and of a power-down to ROOT: bindings end (Table 14-7), queues empty (R500), the lanes go
idle and the ports DOWN (Table 13-7). -/
def trunkIdle (s : State) : State :=
  let s := (List.range 4).foldl (fun s t => unbindTenant s t) s
  (List.range 2).foldl (fun s x => portDown (setLane (setLane s x 0 0) x 1 0) x) s

/-- A fence of port `x` (Table 06-4): lanes to electrical idle, the replay discarded. -/
def fencePort (s : State) (x : Nat) : State := portDown (setLane (setLane s x 0 0) x 1 0) x

/-- The unit reset of a port: its registers at their reset values, the port retrained, SEQ from 0 (Table 13-7). The ADDR of
each tag issued since node reset stays (R416). -/
def resetPort (s : State) (x : Nat) : State :=
  let s := fencePort s x
  let s := s.resetRegs (TK_STATUS.addr x) (TK_STATUS.addr x + 0x10000)
  let s := s.modPort x fun p => { idle := true, tags := p.tags, nextTag := p.nextTag }
  s.count (TK_CNT.RETRAIN x)

/-- The unit reset of TKS (R479, R499): registers, token counts and gates at their reset values; frames stay queued. -/
def resetTks (s : State) : State :=
  (s.resetRegs TKS_STATUS.addr (TKS_STATUS.addr + 0x10000)).modTks fun g => { q := g.q, tc := g.tc }

/-- Node IDs follow the fuses at a reset (Table 13-9). -/
def nodeIdOfUid (s : State) : Nat :=
  let u := (s.word SYS_UID_LO.addr).toNat % 65536
  if u = 0 ∨ u = 65535 then 1 else u

/-- What rails off and node reset clear of the trunk: a running key commit is gone, its block as it was (R454); what is
behind the registers is fresh; TKx_ID reads the fuses. -/
def clearTrunk (s : State) : State :=
  let s := { s with tk := [{}, {}], tks := {}, th := {} }
  (List.range 2).foldl (fun s x => s.setFld (TK_ID.NODE_ID x) (nodeIdOfUid s)) s

/-! ### Sending -/

/-- The port sends a stream: it serves, and a lane is in its transmit stripe set (R716). -/
def streaming (s : State) (x : Nat) : Bool := portCode s x != 0 && s.fld (TK_STATUS.TXMASK x) != 0

/-- The port sends, no recovery of the partner has frames to send again, and the replay buffer has room (R419, R421). -/
def mayTransmit (s : State) (x : Nat) : Bool :=
  streaming s x && (s.port x).pos == (s.port x).held.length && (s.port x).held.length < 128

/-- A frame as it leaves port `x`: own node ID, and ACK_SEQ with ACKV = 1 (R419). -/
def stamped (s : State) (x : Nat) (f : Frame) : Frame :=
  { f with src := (s.port x).effId, ackSeq := s.fld (TK_SEQ.RX x), ackV := true }

/-- Blocks leave on the lanes of `mask` from lane `next` in TWO. How many idle blocks have passed on each lane before them is
open, and with it the state of its scrambler (R398). -/
def putBlks (s : State) (x mask next : Nat) (bs : List PcsBlk) : State :=
  let s0 := s.fresh
  let s1 := s0.2.fresh
  let ws := stripe mask next (BitVec.ofNat 58 s0.1) (BitVec.ofNat 58 s1.1) bs
  s1.2.modPort x fun p => { p with
    line := p.line ++ ws
    blk := (List.range 2).map fun l => p.blk.getD l 0 + (ws.filter fun w => w.1 == l).length }

/-- A frame leaves on the stream (R404, R412). In TWO a TIME frame starts on lane 0, with an idle block on lane 1 before it
where that lane is next (R428). Which lane is next after idle blocks is open. -/
def putFrame (s : State) (x : Nat) (f : Frame) (dst seq : Nat) : State :=
  let bs := frameBlks (wireBytes f dst seq)
  let n := s.fresh
  let next := n.1 % 2
  let mask := s.fld (TK_STATUS.TXMASK x)
  if mask = 3 ∧ f.ty = 6 ∧ next = 1 then putBlks n.2 x mask 1 (idleBlk :: bs) else putBlks n.2 x mask next bs

/-- A frame has left port `x`: counted, and what it acknowledged is no longer due. -/
def frameSent (s : State) (x : Nat) (e : EgFrame) : State :=
  (s.countWide (TK_TXFRM_LO.addr x) 1).modPort x fun p => { p with tx := some e, ackDue := false }

/-- The frames that take host credit (R443): WR_POST and MSG but for binding messages. -/
def usesHostCredit (f : Frame) : Bool := f.ty == 2 || (f.ty == 5 && f.sub < 11)

/-- A frame for the host of tenant `t` is within the PH and PD limits received (R443). -/
def hostCreditOk (s : State) (t : Nat) (f : Frame) : Bool :=
  match (tenOf s t).hostLim with
  | some (ph, pd) =>
    !usesHostCredit f || ((ph + 131072 - (tenOf s t).hostUse.1 % 65536 - 1) % 65536 < 32768 &&
      (pd + 131072 - (tenOf s t).hostUse.2 % 65536 - fwords f) % 65536 < 32768)
  | none => true

/-- The head of subscriber `u`'s queue of class `c`. -/
def headOf (s : State) (x u c : Nat) : Option EgFrame := (egQueue s (qkey x u c)).head?

/-- A head frame has the host credit it needs (R443). -/
def headCredited (s : State) (x u c : Nat) : Bool :=
  match headOf s x u c with
  | none => false
  | some e => u == 4 || hostCreditOk s u e.f

/-- The head passes shapers and host credit (R474). -/
def headReady (s : State) (x u c : Nat) : Bool :=
  match headOf s x u c with
  | none => false
  | some e =>
    (u == 4 || shaperOk s (queueShaper s x u c) (fsize e.f)) && shaperOk s (classShaper s x c) (fsize e.f) &&
      headCredited s x u c

/-- An ALARM frame of port `x` may be sent: it goes ahead of the TIME and CREDIT frames (R476). The class has no gate (R25);
while TKS is fenced the bypass asks for host credit only (Table 06-4). -/
def alarmWaits (s : State) (x : Nat) : Bool :=
  (List.range 5).any fun u => if s.fenced fenceTKS then headCredited s x u 0 else headReady s x u 0

/-- What follows when a frame leaves (R438, R439, R440, R443, R322, R468). -/
def departed (s : State) (e : EgFrame) : State :=
  let s := match e.use with
    | .plain => s
    | .cpl t tag _ => freeCpl s t tag
    | .push i (some w) => pushLeft s i w
    | .push _ none => s
    | .slot q => if e.f.ty = 2 ∨ e.f.ty = 5 then endSlot s q 1 else s
  match tenantOf s e.dst with
  | some t =>
    let s := if usesHostCredit e.f then
        s.modTen t fun h => { h with hostUse := (h.hostUse.1 + 1, h.hostUse.2 + fwords e.f) } else s
    if e.f.ty = 7 then
      s.modTen t fun h => { h with sent := (leAt e.f.payload 4 2, leAt e.f.payload 0 2, leAt e.f.payload 2 2) }
    else s
  | none => s

/-- Port `x` sends a new sequenced frame (R418, R419): it takes the next SEQ and is held for replay. -/
def transmit (s : State) (x : Nat) (e : EgFrame) : State :=
  let seq := s.fld (TK_SEQ.TX x)
  let g : EgFrame := { e with f := stamped s x e.f }
  let h : EgFrame := { g with use := .plain }
  let s := s.modPort x fun p => { p with held := p.held ++ [(seq, h)], pos := p.pos + 1 }
  let n := (s.port x).held.length
  let s := (s.setFld (TK_SEQ.TX x) (seq + 1)).setFld (TK_REPLAY.HELD x) n
  let s := s.setFld (TK_REPLAY.PEAK x) (Nat.max n (s.fld (TK_REPLAY.PEAK x)))
  departed (frameSent (putFrame s x g.f g.dst seq) x g) e

/-- DELAY_REQ leaves for the master in class CONTROL, with the TAG of the SYNC answered (R108, R426). -/
def sendDelayReq (s : State) (p tag : Nat) : State :=
  let f : Frame := { ty := 6, cls := 1, sub := 1, fbe := 0xFF, tag := tag, payload := toLE 8 0 }
  transmit (s.countWide (TKS_TXB_LO.addr p 1) (fsize f)) p
    { f := f, dst := s.fld (TEN_T_BIND.NODE_ID (s.fld TIM_MASTER.TENANT)) }

/-! ### Requests completing (R436 to R450) -/

/-- The completion of a request (Table 14-1): RD_CPL with data when OK, or WR_ACK. -/
def cplFrame (f : Frame) (status : Nat) (data : List Byte) (aux : Nat) : Frame :=
  let rd := f.ty == 0
  { ty := if rd then 1 else 4, cls := 2, status := status, tag := f.tag, oid := f.oid, addr := f.addr, aux := aux,
    fbe := if rd then f.fbe else 0, lbe := if rd then f.lbe else 0, payload := if rd && status == 0 then data else [] }

/-- RD_REQ and WR_NP are answered. -/
def Req.np (r : Req) : Bool := r.kind == 0 || r.kind == 2

/-- One order of requests: tenant, port and ordering ID (R447). -/
def Req.sameOrder (r q : Req) : Bool := r.t == q.t && r.x == q.x && r.f.oid == q.f.oid

/-- No tag: a request of an earlier binding holds none. -/
def noTag : Nat := 1024

/-- A completion leaves for the egress queue of its port; on a port that is DOWN it is discarded (R445), and so it is where
its tenant is fenced (Table 14-7). -/
def emitCpl (s : State) (r : Req) : State :=
  match r.ans with
  | none => s
  | some (st, bs, aux) =>
    let tag := if r.cred then r.f.tag else noTag
    if s.fenced (fenceTEN r.t) then carriedGone (freeCpl s r.t tag) r.id
    else
      let u := if tenantOf s r.f.src = some r.t then r.t else 4
      enqueue s r.x u { f := cplFrame r.f st bs aux, dst := r.f.src, use := .cpl r.t tag r.id }

/-- The completions of one order that may leave now: in issue order, none past one that is not complete (R450). Answers
those to send and those that stay. -/
def readyCpls : List Req → Bool → List Req × List Req
  | [], _ => ([], [])
  | r :: rs, held =>
    if !r.np then
      let (a, b) := readyCpls rs held
      if r.ans.isSome then (a, b) else (a, r :: b)
    else if r.ans.isSome && !held then
      let (a, b) := readyCpls rs false
      (r :: a, b)
    else
      let (a, b) := readyCpls rs true
      (a, r :: b)

/-- Send what the order of `r` allows. -/
def flushCpls (s : State) (r : Req) : State :=
  let (go, stay) := readyCpls (s.th.reqs.filter r.sameOrder) false
  let s := s.modTh fun h => { h with reqs := h.reqs.filter fun q => !r.sameOrder q || stay.contains q }
  go.foldl emitCpl s

/-- Posted credits are free again (R439). -/
def freePostedCredit (s : State) (t words : Nat) : State :=
  (s.setFld (TEN_T_CRED.PH t) (s.fld (TEN_T_CRED.PH t) - 1)).setFld (TEN_T_CRED.PD t) (s.fld (TEN_T_CRED.PD t) - words)

/-- Request `id` is complete with a status, read data and AUX: a posted one frees its credits and counts a failure (R437,
R439), a non-posted one is answered in its turn. -/
def finishReq (s : State) (id st : Nat) (bs : List Byte) (aux : Nat) : State :=
  match s.th.reqs.find? fun r => r.id == id with
  | none => s
  | some r =>
    let s := s.modTh fun h => { h with reqs := h.reqs.map fun q =>
      if q.id = id then { q with started := true, ans := some (st, bs, aux) } else q }
    let s := if r.np then s
      else
        let s := if st ≠ 0 then s.count (TEN_T_CNT.PWFAIL r.t) else s
        if bound s r.t && r.cred then freePostedCredit s r.t (fwords r.f) else s
    flushCpls s r

end Sys2Proof.Machine
end

