-- ==== Sys2Proof/Machine/Crb.lean ====
section
/-! DEFINITION. The rack bridge below Bark: windows, outbound requests and their ends, the bridge stopping (chapter 16). -/

namespace Sys2Proof.Machine

def State.modCrb (s : State) (f : Crb → Crb) : State := { s with crb := f s.crb }

/-- The sampled CRB_ROLE: 0 NONE, 1 SLAVE, 2 MASTER, 3 BOTH. -/
def crbRole (s : State) : Nat := s.fld SYS_STRAP.CRB_ROLE

/-- The bridge is active (R502), and not fenced or in unit reset. -/
def crbActive (s : State) : Bool :=
  crbRole s != 0 && s.up fenceCRB && s.pwr.seq = .none &&
    (match s.work with | .run | .survey | .bridge => true | _ => false)

/-- Roles of R505. -/
def crbMaster (s : State) : Bool := 2 ≤ crbRole s
def crbSlave (s : State) : Bool := crbRole s % 2 == 1

/-- Set a flag of CRB_IRQ. -/
def crbIrq (s : State) (r : FRef) : State := plicRaise (s.setBit r true) 20

/-! ### Windows (R518 to R522, Table 16-11) -/

/-- SIZE as it acts. -/
def winSize (n : Nat) : Nat := Nat.min 8 n

/-- A base field with the bits below the size taken as 0, in bytes. -/
def winBase (b size : Nat) : Nat := b / 2 ^ size * 2 ^ size * 65536

/-- The swap value of R520. -/
def swapXor (sw : Nat) : Nat := match sw with | 1 => 1 | 2 => 3 | _ => 0

/-- The `n` bytes from offset `o` lie inside outbound window `w`. -/
def owCovers (s : State) (w o n : Nat) : Bool :=
  let sz := winSize (s.fld (CRB_OW_CFG.SIZE w))
  let lo := winBase (s.fld (CRB_OW_LBASE.LBASE w)) sz
  s.bit (CRB_OW_CFG.EN w) && lo ≤ o && o + n ≤ lo + 65536 * 2 ^ sz

/-- The rack byte address of offset `o` in window `w` (R520). -/
def owRack (s : State) (w o : Nat) : Nat :=
  let sz := winSize (s.fld (CRB_OW_CFG.SIZE w))
  (winBase (s.fld (CRB_OW_RBASE.RBASE w)) sz + (o - winBase (s.fld (CRB_OW_LBASE.LBASE w)) sz)) ^^^
    swapXor (s.fld (CRB_OW_CFG.SWAP w))

/-- The window that decides an outbound request of tenant `t`, or the status that refuses it (R518, R519, Table 16-2). -/
def owFind (s : State) (t o n : Nat) : Except Nat Nat :=
  match (List.range 8).find? fun w => owCovers s w o n with
  | none => .error 1
  | some w =>
    let own := s.fld (CRB_OW_CFG.OWNER w)
    if own = 4 ∨ own = 5 ∨ (List.range n).any (fun i => 0xFFFFF0 ≤ owRack s w (o + i)) then .error 1
    else if own ≠ t then .error 2 else .ok w

/-- The rack words of a request (R521): ascending, each with at least one enabled byte. `en` says which bytes count. -/
def rackWords (s : State) (w o : Nat) (en : List Bool) : List CrbWord :=
  let rs := (List.range en.length).filterMap fun i => if en.getD i false then some (owRack s w (o + i), i) else none
  let at_ := fun a => (rs.find? fun p => p.1 == a).map (·.2)
  let lo := rs.foldl (fun m p => Nat.min m (p.1 / 2)) (2 ^ 24)
  ((List.range (en.length / 2 + 3)).map fun k => (⟨2 * (lo + k), at_ (2 * (lo + k)), at_ (2 * (lo + k) + 1)⟩ : CrbWord)).filter
    fun c => c.ub.isSome || c.lb.isSome

/-! ### Ends of outbound requests (R523, R532) -/

/-- A core's load from the rack ends: the register is written, or the load faults (R392, R436). A trigger on the data comes
first. -/
def crbLoadEnd (s : State) (n rd k : Nat) (uns : Bool) (a st : Nat) (bs : List Byte) : State :=
  if coreState s n = 4 ∨ coreState s n = 0 then s
  else if st ≠ 0 then raiseExc s n 5 (BitVec.ofNat 32 a)
  else
    let v := leNat (bs.take (2 ^ k))
    match trigHit s n 0 a (some v) with
    | some 0 => raiseExc s n 3 (BitVec.ofNat 32 a)
    | some _ => modCore s n fun c => { c with halt := some 2 }
    | none => retire (setX s n rd (BitVec.ofNat 32 (if uns then v else ofSigned 32 (toSigned (8 * 2 ^ k) v)))) n

/-- A frame of the service port ends with its status byte (R159, R160): the words of a READ from the failing one on are 0,
and a write of SYS_NODE_RST in it takes effect now (R156). -/
def svcFinish (s : State) (wr : Bool) (data : List Word) (rest st : Nat) : State :=
  let d := if wr then [] else data ++ List.replicate rest 0
  let c := s.sys.carry.map fun c => if c.port = 2 then { c with gone := true } else c
  let s := { s with rsp := { tenant := 6, status := st, data := d }, sys := { s.sys with svc := none, carry := c } }
  s.count SYS_SVC_CNT.FRAMES

/-- The word of frame `no` at the rack bridge ends: the frame ends with the last word or a failing one, and goes on with
its next word otherwise (R132, R160). -/
def crbSvcEnd (s : State) (no st : Nat) (bs : List Byte) : State :=
  match s.sys.svc with
  | some f =>
    if s.sys.svcNo ≠ no then s
    else if st ≠ 0 then svcFinish s f.wr f.data (f.left.length + 1) st
    else
      let d := f.data ++ [BitVec.ofNat 32 (leNat bs)]
      if f.left.isEmpty then svcFinish s f.wr d 0 0
      else { s with sys := { s.sys with svc := some { f with data := d } } }
  | none => s

/-- A system bus access of the debug module ends (R397). -/
def crbDbgEnd (s : State) (wr : Bool) (st : Nat) (bs : List Byte) : State :=
  let f := fun (d : Dm) => if st = 1 then { d with sberror := 2 } else if st ≠ 0 then { d with sberror := 7 }
    else if wr then d else { d with sbdata := BitVec.ofNat 32 (leNat bs) }
  { s with crw := { s.crw with dm := f s.crw.dm } }

/-- Request `r` ends with a status of Table 14-2 (R532). -/
def crbEnd (s : State) (r : CrbOut) (st : Nat) : State :=
  let fail := match r.words with | c :: _ => (c.ub.getD (c.lb.getD 0)) / 8 | [] => 0
  if r.performed then (if st ≠ 0 then s.count (TEN_T_CNT.PWFAIL r.t) else s)
  else
    match r.src with
    | .req id => finishReq s id st r.data (if st = 0 then 0 else fail)
    | .load n rd k uns a => crbLoadEnd s n rd k uns a st r.data
    | .store n pc a => if st ≠ 0 then postedFault s n pc a else s
    | .dbg => crbDbgEnd s r.wr st r.data
    | .svc no => crbSvcEnd s no st r.data

/-- Give up mastership (R512). -/
def crbRelease (s : State) : State :=
  (s.setBit CRB_STATUS.MASTER false).modCrb fun c =>
    { c with breq := false, served := 0, lost := false, stopping := false,
             relAt := if c.breq then some s.uptime else c.relAt }

/-- The queue has 32 places (R523): a write to a POSTED window that now has one counts as performed. -/
def crbAdmit (s : State) : State :=
  match s.crb.q[31]? with
  | some r =>
    if r.post && !r.performed then
      crbEnd (s.modCrb fun c => { c with q := modAt c.q 31 fun r => { r with performed := true } }) r 0
    else s
  | none => s

/-- The head request ends; mastership goes after HOLD requests, or with no request left. -/
def crbEndHead (s : State) (st : Nat) : State :=
  match s.crb.q with
  | [] => s
  | r :: rest =>
    let s := s.modCrb fun c => { c with q := rest, cyc := .idle, served := c.served + 1 }
    let s := crbAdmit (crbEnd s r st)
    if s.bit CRB_STATUS.MASTER && (s.crb.q.isEmpty || s.fld CRB_CFG.HOLD < s.crb.served) then crbRelease s else s

/-- Every queued request ends. -/
def crbEndAll (s : State) (st : Nat) : State :=
  let q := s.crb.q
  q.foldl (fun s r => crbEnd s r st) (s.modCrb fun c => { c with q := [], cyc := .idle })

/-- The bridge lets go of the rack at once: fenced (Table 06-4) or in reset, it ends every queued request, releases its lines
and clears the mailbox staging areas. -/
def crbCut (s : State) : State :=
  let s := crbRelease (crbEndAll s 3)
  (s.setFld CRB_STATUS.OUT 0).modCrb fun c => { c with stag := List.replicate 8 (List.replicate 44 0), ahead := none }

/-- A strobe of the node's own is in progress. -/
def crbStrobing (s : State) : Bool :=
  match s.crb.cyc with
  | .data | .iack _ => true
  | _ => false

/-- The bridge stops being active (R541): as cut off, but the rack cycle in progress is completed first. The request whose
strobe it is stays until then; its further words end with UNIT_ERR. -/
def crbStop (s : State) : State :=
  if !crbStrobing s then crbCut s
  else
    let keep := if s.crb.cyc = .data then s.crb.q.take 1 else []
    let out := if s.crb.cyc = .data then s.crb.q.drop 1 else s.crb.q
    let s := out.foldl (fun s r => crbEnd s r 3) (s.modCrb fun c => { c with q := keep, stopping := true })
    (s.setFld CRB_STATUS.OUT 0).modCrb fun c => { c with stag := List.replicate 8 (List.replicate 44 0), ahead := none }

/-- Mastership goes with the strobe in progress, and the status with which the words after it end: the grant is gone (R514),
or the bridge has stopped being active (R541). -/
def crbEnding (s : State) : Bool := s.crb.lost || s.crb.stopping
def crbEndingStatus (s : State) : Nat := if s.crb.stopping then 3 else 7

/-- The unit reset of CRB: cycles unanswered, lines released, queued requests ended. -/
def resetCrb (s : State) : State :=
  let s := crbCut s
  let s := s.resetRegs CRB_STATUS.addr (CRB_STATUS.addr + 0x10000)
  { s with crb := {} }

/-- What an outbound request meets at the bridge: refused with a status, waiting, or counted as performed. -/
inductive CrbAns where
  | refused (st : Nat)
  | waits
  | performed
  deriving DecidableEq, Repr

/-- What the outbound windows make of a request of tenant `t` for the bytes at offset `o`: the request, or the status that
refuses it (R518 to R522). `ins` holds the bytes of a write. -/
def crbJudge (s : State) (src : CrbFrom) (t o : Nat) (np : Bool) (en : List Bool) (ins : Option (List Byte)) : Except Nat CrbOut :=
  match owFind s t o en.length with
  | .error st => .error st
  | .ok w =>
    let posted := ins.isSome && !s.bit (CRB_OW_CFG.ORD w)
    .ok { src := src, t := t, np := np && !posted, post := posted, wr := ins.isSome, blk := s.bit (CRB_OW_CFG.BLK w),
          words := rackWords s w o en, data := ins.getD (List.replicate en.length 0) }

/-- A request that the windows have judged comes to the queue of 32 (R502, R517, R523): a write to a POSTED window counts as
performed when it enters; one for which there is no room waits before the queue. -/
def crbTake (s : State) (j : Except Nat CrbOut) : State × CrbAns :=
  if !crbActive s || !crbMaster s then (s, .refused 3)
  else
    match j with
    | .error st => (s, .refused st)
    | .ok r =>
      if s.bit CRB_STATUS.HUNG then (s, .refused 7)
      else if r.words.isEmpty then (crbEnd s r 0, .waits)
      else
        let now := r.post && decide (s.crb.q.length < 32)
        (s.modCrb fun c => { c with q := c.q ++ [{ r with performed := now }] }, if now then .performed else .waits)

/-- An outbound request of tenant `t` for the bytes at offset `o`, judged as it comes (R518 to R523). -/
def crbSubmit (s : State) (src : CrbFrom) (t o : Nat) (np : Bool) (en : List Bool) (ins : Option (List Byte)) : State × CrbAns :=
  crbTake s (crbJudge s src t o np en ins)

end Sys2Proof.Machine
end

