-- ==== Sys2Proof/Machine/Indirect.lean ====
section
/-! DEFINITION. The four indirect ports (R147 to R149): GRV_SAP 0, GRV_SCHED 1, HWD_CONF 2, DRV_TBL 3. -/

namespace Sys2Proof.Machine

/-- Address of the port's IADDR; IDATA and ISTAT follow it. -/
def indBase (p : Nat) : Nat := [GRV_SAP_IADDR.addr, GRV_SCHED_IADDR.addr, HWD_CONF_IADDR.addr].getD p DRV_TBL_IADDR.addr

def indWaddr (p : Nat) : FRef := ⟨indBase p, 0, 24⟩
def indAuto (p : Nat) : FRef := ⟨indBase p, 30, 1⟩
def indReady (p : Nat) : FRef := ⟨indBase p + 8, 0, 1⟩
def indBusy (p : Nat) : FRef := ⟨indBase p + 8, 1, 1⟩
def indErr (p : Nat) : FRef := ⟨indBase p + 8, 2, 1⟩
def indUnderrun (p : Nat) : FRef := ⟨indBase p + 8, 3, 1⟩
def indOverflow (p : Nat) : FRef := ⟨indBase p + 8, 4, 1⟩
def indOwner (p : Nat) : FRef := ⟨indBase p + 8, 8, 3⟩
def indOwned (p : Nat) : FRef := ⟨indBase p + 8, 11, 1⟩

def State.ind (s : State) (p : Nat) : IndPort :=
  match p with | 0 => s.indSap | 1 => s.indSched | 2 => s.indConf | _ => s.indTbl

def State.modInd (s : State) (p : Nat) (f : IndPort → IndPort) : State :=
  match p with
  | 0 => { s with indSap := f s.indSap }
  | 1 => { s with indSched := f s.indSched }
  | 2 => { s with indConf := f s.indConf }
  | _ => { s with indTbl := f s.indTbl }

/-- Words of the target's address space. -/
def indSpace (p : Nat) : Nat := [16384, 512, 65536].getD p 512

/-- Advance the address by one word with AUTOINC = 1, wrapping at the end of the space. -/
def indAdvance (s : State) (p : Nat) : State :=
  if s.bit (indAuto p) then s.setFld (indWaddr p) ((s.fld (indWaddr p) + 1) % indSpace p) else s

/-- A Sapling can be reached through GRV_SAP: its port AWAKE, the Sapling PRESENT (chapter 17, "Registers"). -/
def sapReach (s : State) (wa : Nat) : Bool :=
  let a := wa / 256 % 64
  a != 0 && a != 63 && s.bit (GRV_SAP_INFO.PRESENT (a - 1)) &&
    s.fld (GRV_STAT.STATE (s.fld (GRV_SAP_INFO.ROUTE (a - 1)))) == 2

/-- Drop the held word. -/
def indDrop (s : State) (p : Nat) : State :=
  (s.modInd p fun i => { i with held := none, fetching := false }).setBit (indReady p) false

/-- Start a fetch at WADDR; where the target cannot be reached it fails at once. -/
def indFetch (s : State) (p : Nat) : State :=
  let s := indDrop s p
  if p = 0 ∧ !sapReach s (s.fld (indWaddr p)) then s.setBit (indErr p) true
  else s.modInd p fun i => { i with fetching := true, no := i.no + 1 }

/-- A fetch ends with a word, or fails at the target. -/
def indFetched (s : State) (p : Nat) (w : Option Word) : State :=
  if !(s.ind p).fetching then s
  else
    match w with
    | some v => (s.modInd p fun i => { i with held := some v, fetching := false }).setBit (indReady p) true
    | none => (s.modInd p fun i => { i with fetching := false }).setBit (indErr p) true

/-- The queue of a port has come to its next write: one whose target cannot be reached fails, and the rest of the queue
goes (R148). Once the queue is empty a fetch starts. -/
def indNext (s : State) (p : Nat) : State :=
  match (s.ind p).wq with
  | [] => indFetch (s.setBit (indBusy p) false) p
  | (wa, _, _) :: _ =>
    if p = 0 ∧ !sapReach s wa then
      indFetch (((s.modInd p fun i => { i with wq := [] }).setBit (indErr p) true).setBit (indBusy p) false) p
    else s

/-- The oldest queued write ends; where it failed the rest of the queue goes. -/
def indWritten (s : State) (p : Nat) (ok : Bool) : State :=
  match (s.ind p).wq with
  | [] => s
  | _ :: rest =>
    let s := s.modInd p fun i => { i with wq := if ok then rest else [] }
    indNext (if ok then s else s.setBit (indErr p) true) p

/-- Another tenant owns the port. -/
def indForeign (s : State) (p t : Nat) : Bool := s.bit (indOwned p) && s.fld (indOwner p) != t

def indClaim (s : State) (p t : Nat) : State := (s.setFld (indOwner p) t).setBit (indOwned p) true

/-- The port is released (R149): a held word is dropped, and a fetch in progress with it (DEDUCED, log entry 25). -/
def indReleasePort (s : State) (p : Nat) : State :=
  indDrop ((s.setFld (indOwner p) 0).setBit (indOwned p) false) p

/-- A write of IADDR by tenant `t`, with its status. -/
def indAddrWrite (s : State) (p t : Nat) (v : Word) : State × Nat :=
  if indForeign s p t then (s, 4)
  else if wordField v 31 1 = 1 then
    (indReleasePort (s.setWord (indBase p) (wordSet (s.word (indBase p)) 24 6 (wordField v 24 6))) p, 0)
  else
    let s := indClaim s p t
    (indFetch (s.setWord (indBase p) (v &&& 0x7FFFFFFF)) p, 0)

/-- A read of IDATA by tenant `t`: the word and the status. -/
def indDataRead (s : State) (p t : Nat) : State × Word × Nat :=
  if indForeign s p t then (s, 0, 4)
  else
    match (s.ind p).held with
    | none => (s.setBit (indUnderrun p) true, 0, 0)
    | some w => if s.bit (indAuto p) then (indFetch (indAdvance s p) p, w, 0) else (s, w, 0)

/-- A write of IDATA by tenant `t`, with its status; the queue holds 16 words. -/
def indDataWrite (s : State) (p t : Nat) (v : Word) : State × Nat :=
  if indForeign s p t then (s, 4)
  else
    let s := indDrop s p
    if 16 ≤ (s.ind p).wq.length then (s.setBit (indOverflow p) true, 0)
    else
      let first := (s.ind p).wq.isEmpty
      let s := (s.modInd p fun i => { i with wq := i.wq ++ [(s.fld (indWaddr p), v, t)] }).setBit (indBusy p) true
      let s := indAdvance s p
      (if first then indNext s p else s, 0)

/-- 100 ms without an access by the owner (R149). -/
def indClaimTimeout (s : State) (p : Nat) : State := if s.bit (indOwned p) then indReleasePort s p else s

end Sys2Proof.Machine
end

