-- ==== Sys2Proof/Machine/Grove.lean ====
section
/-! DEFINITION. The Grove controllers below Bark: frames and their fold, rings, the schedule in Root, routes, sessions, the
sleep agreement, wake tones, ports going idle (chapter 17). -/

namespace Sys2Proof.Machine

/-! ### Frames (R550 to R553) -/

/-- MODE and VALUE of a HOP byte (Table 17-2). -/
def hopMode (h : Nat) : Nat := h / 64 % 4
def hopVal (h : Nat) : Nat := h % 64

/-- The CRC-16 of a frame (R552). -/
def grvCrc (origHop seq ty : Nat) (payload : List Byte) : Nat :=
  crc16 (toLE 1 origHop ++ toLE 1 seq ++ toLE 1 (ty % 128) ++ toLE 1 payload.length ++ payload)

/-- The bytes of a frame from TYPE to CRC, as its sender sends it. -/
def grvBytes (f : GFrame) (seq : Nat) : List Byte :=
  toLE 1 f.ty ++ toLE 1 f.hop ++ toLE 1 f.payload.length ++ f.payload ++ toBE 2 (grvCrc f.hop seq f.ty f.payload)

/-- Manchester levels of bytes, least significant bit first: a 1 rises at mid-bit, a 0 falls (R545, R550). -/
def manchester (bs : List Byte) : List Bool :=
  bs.flatMap fun b => (List.range 8).flatMap fun i => if nbit b.toNat i then [false, true] else [true, false]

/-- The bytes that levels spell; none where a bit has no transition at its middle, or a byte is cut short (R552). -/
def unManchester : List Bool → Option (List Byte)
  | [] => some []
  | a0 :: a1 :: b0 :: b1 :: c0 :: c1 :: d0 :: d1 :: e0 :: e1 :: f0 :: f1 :: g0 :: g1 :: h0 :: h1 :: rest =>
    if a0 = a1 ∨ b0 = b1 ∨ c0 = c1 ∨ d0 = d1 ∨ e0 = e1 ∨ f0 = f1 ∨ g0 = g1 ∨ h0 = h1 then none
    else (unManchester rest).map (BitVec.ofNat 8 (b2n a1 + 2 * b2n b1 + 4 * b2n c1 + 8 * b2n d1 + 16 * b2n e1 + 32 * b2n f1 +
      64 * b2n g1 + 128 * b2n h1) :: ·)
  | _ => none

/-- Downstream types that fold SEQ 0 as a broadcast: BEACON, TIME_SET, SLEEP_ABORT, WAKE_ALL and RESET (R553). -/
def foldsZero (ty : Nat) : Bool := [1, 8, 11, 12, 15].contains ty

/-- LEN that an upstream type takes (Table 17-3). -/
def upLenOk (ty n : Nat) : Bool :=
  match ty with
  | 0x41 => n == 4
  | 0x42 => n == 16
  | 0x43 => n ≤ 64
  | 0x44 => 8 ≤ n && n ≤ 56 && (n - 8) % 6 == 0
  | 0x45 => 7 ≤ n && n ≤ 64 && (n - 4) % 3 == 0
  | 0x46 => 4 ≤ n && n ≤ 64 && n % 4 == 0
  | 0x47 => n == 1
  | 0x48 => n == 4
  | 0x49 => n == 0
  | 0x4A => n == 2
  | _ => false

/-! ### Ports -/

def State.gport (s : State) (x : Nat) : GPort := s.grv.getD x {}

def State.modGrv (s : State) (x : Nat) (f : GPort → GPort) : State := { s with grv := modAt s.grv x f }

/-- GROVE_MODE is RING (R547). -/
def grvRing (s : State) : Bool := !s.bit SYS_STRAP.GROVE_MODE

/-- The port whose session, schedule, flags and rings serve port `x`: GA in RING. -/
def grvSess (s : State) (x : Nat) : Nat := if grvRing s then 0 else x

def grvState (s : State) (x : Nat) : Nat := s.fld (GRV_STAT.STATE x)

/-- The ports of a session: both in RING. -/
def grvPorts (s : State) (x : Nat) : List Nat := if grvRing s then [0, 1] else [x]

def setGrvState (s : State) (x st : Nat) : State :=
  (grvPorts s x).foldl (fun s y => if s.up (fenceGRV y) then s.setFld (GRV_STAT.STATE y) st else s) s

/-- Set a flag of GRV_x_IRQ. -/
def grvIrq (s : State) (x : Nat) (r : FRef) : State := plicRaise (s.setBit r true) (21 + x)

/-- The ports that reach every Sapling: both while the ring is broken. -/
def grvReachPorts (s : State) (x : Nat) : List Nat :=
  if grvRing s then (if 2 ≤ s.fld GRV_STATUS.RING then [0, 1] else [0]) else [x]

/-- A port takes commands and frames: enabled, neither fenced nor in unit reset, not idle. -/
def grvUp (s : State) (x : Nat) : Bool := s.up (fenceGRV x) && s.bit (GRV_CFG.EN x)

/-- Sessions may run (R577). -/
def grvCan (s : State) (x : Nat) : Bool :=
  grvUp s x && s.pwr.seq = .none && (match s.work with | .run | .survey | .watch => true | _ => false)

/-- Saplings enumerated, by address less 1. -/
def grvPresent (s : State) : List Nat := (List.range 62).filter fun i => s.bit (GRV_SAP_INFO.PRESENT i)

/-- Addresses that port `x` enumerates (R562). -/
def grvRange (s : State) (x : Nat) : List Nat :=
  if grvRing s then List.range 62 else if x = 0 then List.range 31 else (List.range 31).map (· + 31)

/-- Saplings that a session of port `x` expects (R567). -/
def grvExpected (s : State) (x : Nat) : List Nat :=
  (grvPresent s).filter fun i =>
    (grvRing s || s.fld (GRV_SAP_INFO.ROUTE i) == x) && !s.bit (GRV_SAP_INFO.BYPASSED i) && !s.bit (GRV_SAP_INFO.UNREACH i)

/-- The largest hop in use on port `x`. -/
def grvMaxHop (s : State) (x : Nat) : Nat :=
  (grvPresent s).foldl (fun m i =>
    if s.fld (GRV_SAP_INFO.ROUTE i) = x then Nat.max m (s.fld (GRV_SAP_INFO.HOP i)) else m) 0

/-! ### The schedule (Table 17-6) -/

def schedWord (s : State) (w : Nat) : Word := SMap.get (fun _ => 0) s.groot.sched w

/-- Bits of a schedule word that hold a value; unlisted words and bits read 0 and discard writes (R573). -/
def schedMask (w : Nat) : Word :=
  match w with
  | 0 | 1 | 4 | 5 | 9 | 10 => 0xFFFFFFFF
  | 2 | 6 => 0x7FFFFFF
  | 3 | 7 => 0x3FFFF
  | 8 => 0xFFFF
  | w => if 16 ≤ w ∧ w < 264 then 0xFFFFFFFF else 0

def setSched (s : State) (w : Nat) (v : Word) : State :=
  { s with groot := { s.groot with sched := SMap.set (fun _ => 0) s.groot.sched w (v &&& schedMask w) } }

def grvNext (s : State) (x : Nat) : Nat := (schedWord s (4 * x)).toNat + 2 ^ 32 * (schedWord s (4 * x + 1)).toNat

def setGrvNext (s : State) (x t : Nat) : State :=
  setSched (setSched s (4 * x) (BitVec.ofNat 32 t)) (4 * x + 1) (BitVec.ofNat 32 (t / 2 ^ 32))

/-- PERIOD in ns, within its limits. -/
def grvPeriod (s : State) (x : Nat) : Nat := clampN 10 86400000 (wordField (schedWord s (4 * x + 2)) 0 27) * 1000000

def grvRetryS (s : State) (x : Nat) : Nat := wordField (schedWord s (4 * x + 3)) 0 16
def grvAuto (s : State) (x : Nat) : Bool := wordField (schedWord s (4 * x + 3)) 16 1 == 1
def grvWakePend (s : State) (x : Nat) : Bool := wordField (schedWord s (4 * x + 3)) 17 1 == 1

def setWakePend (s : State) (x : Nat) (b : Bool) : State :=
  setSched s (4 * x + 3) (wordSet (schedWord s (4 * x + 3)) 17 1 (b2n b))

/-- The instant of the next session of a port that is not AWAKE, at or after `now` (R565, R576). -/
def grvInstant (s : State) (x now : Nat) : Nat :=
  let t := grvNext s x
  let r := grvRetryS s x * 1000000000
  if now ≤ t then t else if r = 0 then now else t + (now - t + r - 1) / r * r

/-- NEXT advanced by the period past `now` + 20 ms (R574). -/
def grvAdvanceNext (s : State) (x : Nat) : State :=
  let t := grvNext s x
  let lim := s.tim.now + 20000000
  let p := grvPeriod s x
  if lim < t then s else setGrvNext s x (t + ((lim - t) / p + 1) * p)

/-- The guard G in µs for a sleep until `t` (R574). -/
def grvGuard (s : State) (x t : Nat) : Nat :=
  let us := clampN 10000 86400000000 ((t - s.tim.now) / 1000)
  let drifty := (grvPresent s).any fun i =>
    (grvRing s || s.fld (GRV_SAP_INFO.ROUTE i) == x) && s.bit (GRV_SAP_INFO.DRIFTY i)
  let add := wordField (schedWord s 8) 0 16
  us / (if drifty then 2500 else 5000) + (if add = 0 then 500 else add)

/-! ### Rings in L2 (Table 17-4) -/

/-- LOG as it acts. -/
def grvLog (n : Nat) : Nat := clampN 1 10 n

/-- L2 address of entry `i` of a ring at OFF. -/
def grvEntryAt (off i : Nat) : Nat := 0x20000000 + (off + i) % 8192 * 128

/-- A receive entry of port `x` (R569). -/
def grvEntry (s : State) (x : Nat) (ty hop status tag : Nat) (payload : List Byte) (addr hops tries : Nat) : State :=
  let log := grvLog (s.fld (GRV_RXQ_BASE.LOG x))
  let w := s.fld (GRV_RXQ_WPTR.PTR x) % 2 ^ (log + 1)
  let r := s.fld (GRV_RXQ_RPTR.PTR x) % 2 ^ (log + 1)
  if 2 ^ log ≤ (w + 2 ^ (log + 1) - r) % 2 ^ (log + 1) then s.count (GRV_CNT2.RXDROP x)
  else
    let pad := payload ++ List.replicate (64 - payload.length) 0
    let bs := toLE 1 ty ++ toLE 1 hop ++ toLE 1 payload.length ++ toLE 1 status ++ toLE 4 tag ++ toLE 8 s.tim.now ++ pad ++
      toLE 1 addr ++ toLE 1 x ++ toLE 1 hops ++ toLE 1 tries ++ List.replicate 44 0
    let s := s.store (grvEntryAt (s.fld (GRV_RXQ_BASE.OFF x)) (w % 2 ^ log)) bs
    grvIrq (s.setFld (GRV_RXQ_WPTR.PTR x) ((w + 1) % 2 ^ (log + 1))) x (GRV_IRQ.RX x)

/-- The transmit ring of port `x` holds an entry. -/
def grvTxWaiting (s : State) (x : Nat) : Bool :=
  let m := 2 ^ (grvLog (s.fld (GRV_TXQ_BASE.LOG x)) + 1)
  s.fld (GRV_TXQ_WPTR.PTR x) % m != s.fld (GRV_TXQ_RPTR.PTR x) % m

/-! ### Sending -/

/-- SEQ that a downstream frame folds, and whether a counter gives it (R553). -/
def grvSeqOf (s : State) (x : Nat) (f : GFrame) : Nat × Bool :=
  if hopMode f.hop ≠ 0 ∨ (hopVal f.hop = 63 ∧ foldsZero f.ty) then (0, false)
  else (SMap.get (fun _ => 0) (s.gport x).tx (hopVal f.hop), true)

/-- Send a new frame on port `x`: its counter goes on. Answers the SEQ it folded. A port that is not up sends nothing. -/
def grvSend (s : State) (x : Nat) (f : GFrame) : Nat × State :=
  let (q, counted) := grvSeqOf s x f
  if !grvUp s x then (q, s)
  else (q, s.modGrv x fun g => { g with
    sent := g.sent ++ [f],
    tx := if counted then SMap.set (fun _ => 0) g.tx (hopVal f.hop) ((q + 1) % 256) else g.tx })

/-- No carrier on the receive pairs now: GRV_x_STAT.CARRIER. -/
def grvCarrierOff (s : State) : State :=
  (List.range 2).foldl (fun s y => s.setBit (GRV_STAT.CARRIER y) false) s

/-- Frames sent from here on are a command's own; carrier that an earlier command saw has ended. -/
def grvClearSent (s : State) : State :=
  grvCarrierOff { s with grv := s.grv.map fun g => { g with sent := [], toneOut := false } }

/-- A broadcast to every Sapling of the session of port `x`. -/
def grvBroadcast (s : State) (x ty : Nat) (payload : List Byte) : State :=
  (grvReachPorts s x).foldl (fun s y => (grvSend s y ⟨ty, 63, payload⟩).2) s

/-- A BEACON on port `y` (R565): counters of the port go to 0, LEN and TURNED tell of it alone, its return is awaited. -/
def grvBeaconOn (s : State) (x y : Nat) : State :=
  let pl := toLE 8 s.tim.now ++ toLE 4 (schedWord s (9 + x)).toNat ++ toLE 1 (b2n (grvRing s)) ++ toLE 3 0
  let s := s.modGrv y fun g => { g with tx := [], rx := [], late := [], wait := true }
  let s := (s.setFld (GRV_STAT.LEN y) 0).setBit (GRV_STAT.TURNED y) false
  (grvSend s y ⟨1, 0x80, pl⟩).2

/-- The BEACON of a session of port `x`: on GA in RING. -/
def grvBeaconSend (s : State) (x : Nat) : State :=
  grvBeaconOn ((grvPorts s x).foldl (fun s y => s.modGrv y fun g => { g with wait := false }) s) x x

/-- Start a session of port `x` (R565): SESSION one above the last, BEACON, check-in window open. -/
def grvStartSession (s : State) (x : Nat) : State :=
  let n := BitVec.ofNat 32 ((schedWord s (9 + x)).toNat + 1)
  let s := (setSched s (9 + x) n).setWord (GRV_SESSION.addr x) n
  let s := setGrvState (setWakePend s x false) x 2
  let s := s.modGrv x fun g => { g with win := .window, missing := grvExpected s x, here := [], drift := [], due := false,
                                        sleep := {}, tone := none, auto1 := false }
  grvBeaconSend s x

/-- Send a wake tone, on both ports in RING (R579). -/
def grvTone (s : State) (x : Nat) (why : GTone) : State :=
  let s := (grvPorts s x).foldl (fun s y => s.modGrv y fun g => { g with toneOut := true }) s
  let s := s.modGrv x fun g => { g with tone := some why, since := s.uptime }
  setGrvState s x (if why = .recover then 6 else 5)

/-- Begin the sleep agreement (R574, Table 17-7). -/
def grvSleepStart (s : State) (x : Nat) : State :=
  let s := grvAdvanceNext s x
  let t := grvNext s x
  let g := grvGuard s x t
  let s := setGrvState s x 3
  let s := s.modGrv x fun p => { p with sleep := {}, g := g, auto1 := false }
  grvBroadcast s x 9 (toLE 8 t ++ toLE 4 g ++ toLE 2 (grvRetryS s x) ++ toLE 2 0)

/-! ### Stopping -/

/-- Controller `x` alone goes idle: its STATE, its session, its commands. -/
def grvOff (s : State) (x : Nat) : State := (s.setFld (GRV_STAT.STATE x) 0).modGrv x fun _ => {}

/-- Port `x` goes idle at once (R577): Saplings fall back by themselves. In RING the session is GA's: with it ended GB is
OFF too and awaits nothing, and keeps its counters. -/
def grvIdle (s : State) (x : Nat) : State :=
  let s := grvOff s x
  if grvRing s && x == 0 then
    (s.setFld (GRV_STAT.STATE 1) 0).modGrv 1 fun g => { g with cur := none, wait := false, auto := [] }
  else s

/-- Both controllers idle: HOLDUP, SAFE, rails. -/
def groveStop (s : State) : State :=
  (List.range 2).foldl grvOff s

/-- A power-down to ROOT or an accepted BRIDGE request: AWAKE ports run the agreement (R577). -/
def groveShutdown (s : State) : State :=
  ((if grvRing s then [0] else [0, 1])).foldl (fun s x => if grvState s x = 2 then grvSleepStart (grvClearSent s) x else s) s

/-- The unit reset of the Grove (GRV bit of SYS_URST): global registers, both ports. Root keeps the schedule and the
INFO registers. -/
def resetGrove (s : State) : State :=
  let s := groveStop s
  let s := s.resetRegs GRV_STATUS.addr (GRV_STATUS.addr + 0x20)
  let s := s.resetRegs (GRV_STAT.addr 0) (GRV_STAT.addr 0 + 0x2000)
  { s with indSap := {}, grv := [{}, {}] }

/-- The reset of one port after its fence (R188): the other controller is kept. -/
def resetGrovePort (s : State) (x : Nat) : State :=
  (grvOff s x).resetRegs (GRV_STAT.addr x) (GRV_STAT.addr x + 0x1000)

end Sys2Proof.Machine
end

