-- ==== Sys2Proof/Machine/Heartwood.lean ====
section
/-! DEFINITION. Heartwood: regions, transactions, the trend ring, the event log, key locks, shutting down and the restore
at boot (chapter 11), below the operations that raise Bark sources. -/

namespace Sys2Proof.Machine

def State.modHwd (s : State) (f : Hwd → Hwd) : State := { s with hwd := f s.hwd }

/-! ### Regions (Table 11-1) -/

def hwdBase : Nat := 0x10000000
def confOff : Nat := 0x400000
def keysOff : Nat := 0x440000
def eventOff : Nat := 0x450000
def journalOff : Nat := 0x550000
def trendOff : Nat := 0x650000
def trendSize : Nat := 10158080

/-- CONF, KEYS and JOURNAL are not read through the window (R338). -/
def hwdHidden (o : Nat) : Bool := (confOff ≤ o && o < eventOff) || (journalOff ≤ o && o < trendOff)

/-- A window read of `n` bytes at offset `o` meets a hidden region. -/
def hwdReadDenied (o n : Nat) : Bool :=
  (List.range (n + 1)).any fun i => i < n && hwdHidden (o + i)

/-- Heartwood takes no transaction: SAFE, fenced or in reset, or the journal closed (R357, R359). -/
def hwdReadonly (s : State) : Bool := s.pwr.mode == .safe || !s.up fenceHWD || s.hwd.closed

/-! ### Event log (R352 to R354) -/

/-- The bytes of an event entry with its ESEQ (Table 11-4). -/
def Ev.bytes (e : Ev) (eseq : Nat) : List Byte :=
  let b := toLE 8 e.time ++ toLE 4 eseq ++ toLE 1 e.kind ++ toLE 1 e.source ++ toLE 1 e.cls ++ toLE 1 e.ctx ++
    toLE 8 e.detail ++ toLE 4 0
  b ++ toLE 4 (crc32c b)

/-- An event waits for its commit: dropped and counted when 512 wait; while Heartwood is fenced or read-only the loss
counts in BRK_STATUS.LOG_LOST (R175, R353). -/
def addEvent (s : State) (e : Ev) : State :=
  if hwdReadonly s then s.count BRK_STATUS.LOG_LOST
  else if 512 ≤ s.hwd.events.length then s.count HWD_EVT_CNT.DROP
  else s.modHwd fun h => { h with events := h.events ++ [e] }

/-- The entry of a reaction (R174, R352). -/
def logEvent (s : State) (src cls : Nat) (tenant : Option Nat) : State :=
  addEvent s { time := s.tim.now, kind := 1, source := src, cls := cls,
               ctx := (match tenant with | some t => t % 8 + 8 | none => 0) + 16 * s.pwr.mode.code,
               detail := b2n (s.bitAt (BRK_ESC.ESC (src / 32)) (src % 32)) }

/-- The entry of another kind: 2 BOOT, 3 HOLDUP, 4 IMAGE, 5 KEYLOCK. -/
def logOther (s : State) (kind detail : Nat) : State :=
  addEvent s { time := s.tim.now, kind := kind, ctx := 16 * s.pwr.mode.code, detail := detail }

/-- The entry of a boot, one for each: where its target is entered, or where it ends before (DEDUCED, log entry 41). -/
def logBoot (s : State) : State :=
  if s.pwr.bootLogged then s
  else logOther { s with pwr := { s.pwr with bootLogged := true } } 2
    ((s.word SYS_BOOT_STAT.addr).toNat + 2 ^ 32 * (s.word SYS_BOOT_TIME.addr).toNat)

def logHoldup (s : State) : State := logOther s 3 (s.word PWR_HOLD_STAT.addr).toNat

/-- Write one event entry into the EVENT ring. -/
def commitEvent (s : State) (e : Ev) : State :=
  let n := (s.fld HWD_EVT_SEQ.ESEQ + 1) % 2 ^ 32
  let h := s.fld HWD_EVT_HEAD.ENTRY
  let s := s.store (hwdBase + eventOff + 32 * h) (e.bytes n)
  (s.setFld HWD_EVT_SEQ.ESEQ n).setFld HWD_EVT_HEAD.ENTRY ((h + 1) % 32768)

/-- New commits may be made: Heartwood is in service and no apply of before the boot runs (R358); nothing more is written
after a GRAVE fault in Heartwood (R86). -/
def hwdCommits (s : State) : Bool :=
  s.bit HWD_STATUS.READY && !s.bit HWD_STATUS.REPLAY && s.up fenceHWD && !s.pwr.noJournal && !s.hwd.closed

/-- Commit the pending event entries (R353). -/
def commitEvents (s : State) : State :=
  if !hwdCommits s then s
  else s.hwd.events.foldl commitEvent (s.modHwd fun h => { h with events := [] })

/-! ### Transactions (R341 to R346) -/

/-- STATE codes of Table 11-12 and RESULT codes of Table 11-2. -/
def txIDLE : Nat := 0
def txOPEN : Nat := 1
def txCOMMITTING : Nat := 2
def txDONE : Nat := 3
def txFAILED : Nat := 4

def txState (s : State) (t : Nat) : Nat := s.fld (HWD_TXN_STAT.STATE t)

def setTx (s : State) (t st res : Nat) : State :=
  (s.setFld (HWD_TXN_STAT.STATE t) st).setFld (HWD_TXN_STAT.RESULT t) res

def entriesOf (s : State) (t : Nat) : List JEntry := s.hwd.txns.getD t []

/-- Journal cost of an entry (Table 11-3). -/
def JEntry.cost (e : JEntry) : Nat := (e.len + (if e.trend then 4 else 0) + 31) / 32 * 32 + 32

/-- Set a transaction's entries, with NENT, PEND and the cost that show them. -/
def setEntries (s : State) (t : Nat) (es : List JEntry) : State :=
  let s := s.modHwd fun h => { h with txns := modAt h.txns t fun _ => es }
  let s := s.setFld (HWD_TXN_STAT.NENT t) es.length
  let s := s.setFld (HWD_TXN_STAT.PEND t) (es.filter fun e => !e.staged).length
  s.setFld (HWD_TXN_COST.BYTES t) (es.map JEntry.cost).sum

/-- Journal cost of all open and committing transactions. -/
def journalUsed (s : State) : Nat :=
  ((List.range 8).map fun t =>
    if txState s t = txOPEN ∨ txState s t = txCOMMITTING then s.fld (HWD_TXN_COST.BYTES t) else 0).sum

/-- Source bytes of entries not yet staged are write-locked (R343). -/
def entryLocks (s : State) (a n : Nat) : Bool :=
  s.hwd.txns.any fun es => es.any fun e =>
    !e.staged && (match e.src with | some x => a < x + e.len && x < a + n | none => false)

def doTxnOpen (s : State) (t : Nat) : State :=
  if hwdReadonly s ∨ s.hwd.fwOver then s.setFld (HWD_TXN_STAT.RESULT t) 8
  else if txState s t = txOPEN ∨ txState s t = txCOMMITTING then s.setFld (HWD_TXN_STAT.RESULT t) 2
  else setTx (setEntries s t []) t txOPEN 0

def doTxnCommit (s : State) (t : Nat) : State :=
  if txState s t = txOPEN then
    (setTx s t txCOMMITTING 0).modHwd fun h => { h with queue := h.queue ++ [t] }
  else if txState s t = txIDLE ∨ txState s t = txDONE then s.setFld (HWD_TXN_STAT.RESULT t) 3
  else s

/-- Discard a transaction: IDLE with RESULT ABORTED (R346). -/
def abortTxn (s : State) (t : Nat) : State := setTx (setEntries s t []) t txIDLE 8

def doTxnAbort (s : State) (t : Nat) : State :=
  if txState s t = txOPEN ∨ txState s t = txFAILED then abortTxn s t else s

/-- The tenant may submit entries of this kind (HWD_WPERM). -/
def mayEnter (s : State) (t : Nat) (trend : Bool) : Bool :=
  if trend then s.bitAt HWD_WPERM.TREND t else s.bitAt HWD_WPERM.CONF t

/-- The source lies inside the capture store, in pool buffers that the tenant may use (Table 11-3). -/
def sourceOk (s : State) (t a n : Nat) : Bool :=
  a % 4 == 0 && a + n ≤ 0x4000000 && parted s &&
    (List.range (if n = 0 then 0 else (a + n - 1) / 4096 + 1 - a / 4096)).all fun i =>
      let u := a / 4096 + i
      poolBase s ≤ u && (6 ≤ t || bufOwn s u == t)

/-- An entry keeps the conditions of Table 11-3. -/
def entryOk (s : State) (t : Nat) (e : JEntry) : Bool :=
  (match e.src with | some a => sourceOk s t a e.len | none => true) &&
    (if e.trend then
      let h := s.bytes (e.src.getD 0) 32
      32 ≤ e.len && e.len == 32 + 4 * leAt h 8 2 && leAt h 8 2 ≤ 16384 && leAt h 0 1 != 0xFF
    else e.off % 4 == 0 && e.len % 4 == 0 && 4 ≤ e.len && e.len ≤ 65536 && e.off + e.len ≤ 262144)

/-- Submit an entry (R342): 0 where it is taken, else the RESULT it fails with. A transaction that is COMMITTING fails like
any other that is not OPEN; what its commit record already holds stands (R347). -/
def submitEntry (s : State) (t : Nat) (e : JEntry) : Nat × State :=
  if hwdReadonly s ∨ s.hwd.fwOver then (8, s.setFld (HWD_TXN_STAT.RESULT t) 8)
  else
    let why :=
      if txState s t ≠ txOPEN then 3
      else if !mayEnter s t e.trend then 4
      else if !entryOk s t e then 5
      else if 256 ≤ (entriesOf s t).length ∨ 524288 < s.fld (HWD_TXN_COST.BYTES t) + e.cost ∨
          983040 < journalUsed s + e.cost then 6
      else 0
    if why = 0 then (0, setEntries s t (entriesOf s t ++ [e]))
    else (why, (setTx s t txFAILED why).modHwd fun h => { h with queue := h.queue.filter (· != t) })

/-- The entry that HWD_JE_SRC, DST and LEN describe. -/
def entryOfRegs (s : State) (t : Nat) : JEntry :=
  { trend := s.bit (HWD_JE_DST.KIND t), off := s.fld (HWD_JE_DST.OFF t), src := some (s.fld (HWD_JE_SRC.ADDR t)),
    len := s.fld (HWD_JE_LEN.BYTES t) }

def doEntrySubmit (s : State) (t : Nat) : State := (submitEntry s t (entryOfRegs s t)).2

/-- The bytes an entry stages: for TREND the record with FLAGS.PCRC set and its CRC word (R343). -/
def stagedBytes (s : State) (e : JEntry) : List Byte :=
  match e.src with
  | none => e.data
  | some a =>
    let bs := s.bytes a e.len
    if e.trend then
      bs.take 4 ++ toLE 2 (leAt bs 4 2 ||| flagPCRC) ++ bs.drop 6 ++ toLE 4 (crc32c (bs.drop 32))
    else bs

/-- Stage the first entry that is not. -/
def stageFirst (s : State) : List JEntry → List JEntry
  | [] => []
  | e :: es => if e.staged then e :: stageFirst s es else { e with data := stagedBytes s e, staged := true } :: es

/-- The oldest unstaged entry of tenant `t` is copied into JOURNAL; an uncorrectable source word fails the transaction. -/
def doEntryStaged (t : Nat) (bad : Bool) (s : State) : State :=
  if !s.up fenceHWD ∨ s.fld (HWD_TXN_STAT.PEND t) = 0 then s
  else if txState s t ≠ txOPEN ∧ txState s t ≠ txCOMMITTING then s
  else if bad then
    (setTx s t txFAILED 7).modHwd fun h => { h with queue := h.queue.filter (· != t) }
  else setEntries s t (stageFirst s (entriesOf s t))

/-! ### The trend ring (R350, R351) -/

/-- Ring bytes of a staged TREND entry. -/
def trendBytes (e : JEntry) : Nat := (e.len + 4 + 31) / 32 * 32

/-- Bytes a record at ring offset `o` takes; a padding record runs to the region end. -/
def trendRecSize (s : State) (o : Nat) : Nat :=
  let h := s.bytes (hwdBase + trendOff + o) 12
  if leAt h 0 1 = 0xFF then trendSize - o else (36 + 4 * leAt h 8 2 + 31) / 32 * 32

/-- Padding before a record of `n` bytes at head `h`. -/
def trendPad (h n : Nat) : Nat := if h + n ≤ trendSize then 0 else trendSize - h

/-- Bytes that the TREND entries need from head `h` on. -/
def trendNeed : Nat → List JEntry → Nat
  | _, [] => 0
  | h, e :: es =>
    if e.trend then
      let n := trendBytes e
      let p := trendPad h n
      p + n + trendNeed ((h + p + n) % trendSize) es
    else trendNeed h es

/-- Free at least `n` bytes by moving the tail past whole records, each counted (R351). -/
def trendFree : Nat → State → Nat → State
  | 0, s, _ => s
  | fuel + 1, s, n =>
    if s.hwd.trendUsed + n ≤ trendSize then s
    else
      let o := s.fld HWD_TR_TAIL.OFF
      let k := trendRecSize s o
      let s := s.count HWD_TR_CNT.OVER
      let s := s.setFld HWD_TR_TAIL.OFF ((o + k) % trendSize)
      trendFree fuel (s.modHwd fun h => { h with trendUsed := h.trendUsed - k }) n

/-- The padding record that fills `n` bytes. -/
def trendPadRecord (n : Nat) : List Byte :=
  toLE 2 0x00FF ++ toLE 2 0xFFFF ++ toLE 4 0 ++ toLE 2 ((n - 32) / 4) ++ List.replicate 22 0

/-- Bytes written for entry `e`, with what they replaced. -/
def hwdWrite (s : State) (log : List HwdPut) (e : Option Nat) (a : Nat) (bs : List Byte) : State × List HwdPut :=
  (s.store a bs, log ++ [{ ent := e, off := a, old := s.bytes a bs.length, new := bs }])

/-- Append TREND entry `e`, number `k` of its commit (R350, R351). -/
def appendTrend (s : State) (log : List HwdPut) (k : Nat) (e : JEntry) : State × List HwdPut :=
  let n := trendBytes e
  let h := s.fld HWD_TR_HEAD.OFF
  let p := trendPad h n
  let s := trendFree 400000 s (p + n)
  let (s, log) := if p = 0 then (s, log) else hwdWrite s log none (hwdBase + trendOff + h) (trendPadRecord p)
  let h := (h + p) % trendSize
  let (s, log) := hwdWrite s log (some k) (hwdBase + trendOff + h) e.data
  let s := s.setFld HWD_TR_HEAD.OFF ((h + n) % trendSize)
  (s.modHwd fun x => { x with trendUsed := x.trendUsed + p + n }, log)

/-! ### Commits (R345 to R349) -/

/-- Bring the entries to their home locations. -/
def applyEntries (s : State) (es : List JEntry) : State × List HwdPut :=
  es.zipIdx.foldl (fun (s, log) (e, k) =>
    if e.trend then appendTrend s log k e else hwdWrite s log (some k) (hwdBase + confOff + e.off) e.data) (s, [])

/-- The commit record of the first COMMITTING transaction is written, once its entries are staged and no other commit is
applying: from this instant reads give the new bytes (R345, R348). Under NOWRAP an append that does not fit fails the whole
commit (R351). -/
def commitRecord (s : State) : State :=
  match s.hwd.queue with
  | [] => s
  | t :: rest =>
    if s.hwd.applying.isSome ∨ s.fld (HWD_TXN_STAT.PEND t) ≠ 0 ∨ !s.bit HWD_STATUS.READY ∨ s.bit HWD_STATUS.REPLAY then s
    else
      let es := entriesOf s t
      let s := s.modHwd fun h => { h with queue := rest }
      if s.bit HWD_TR_CFG.NOWRAP ∧ trendSize < s.hwd.trendUsed + trendNeed (s.fld HWD_TR_HEAD.OFF) es then
        setTx (s.count HWD_TR_CNT.REFUSED) t txFAILED 9
      else
        let (s, log) := applyEntries s es
        s.modHwd fun h => { h with applying := some (t, log) }

/-- The entries of a commit are applied: DONE with OK, where no entry has failed the transaction since. -/
def commitDone (s : State) : State :=
  match s.hwd.applying with
  | none => s
  | some (t, _) =>
    if s.bit HWD_STATUS.REPLAY then s
    else
      let was := txState s t
      let s := setEntries (s.modHwd fun h => { h with applying := none }) t []
      if was = txCOMMITTING then setTx s t txDONE 1 else s

def doCommitRecord (s : State) : State := if s.up fenceHWD && !s.pwr.noJournal then commitRecord s else s

def doCommitDone (s : State) : State := if s.railsOn && !s.pwr.noJournal then commitDone s else s

/-- Lock the key blocks `ks` for good; the lock is an event (R352, R355). -/
def takeLocks (s : State) (ks : Nat) : State :=
  if ks = 0 then s
  else logOther (s.setFld HWD_KEYS_LOCK.LOCKED (s.fld HWD_KEYS_LOCK.LOCKED ||| ks)) 5 ks

/-- The replay ends; the home bytes of entries that hold an uncorrectable word are as they were before, but for what other
entries write there (R358). Key locks that waited for it are committed. -/
def replayDone (bad : List Nat) (s : State) : State :=
  match s.hwd.applying with
  | none => s
  | some (_, log) =>
    if !s.bit HWD_STATUS.REPLAY then s
    else
      let s := log.foldr (fun x s => s.store x.off x.old) s
      let s := (log.filter fun x => !x.ent.any bad.contains).foldl (fun s x => s.store x.off x.new) s
      let ks := s.hwd.lockPend
      takeLocks ((s.modHwd fun h => { h with applying := none, lockPend := 0 }).setBit HWD_STATUS.REPLAY false) ks

/-- Carry every COMMITTING transaction to completion, a replay that runs before them. -/
def finishCommits (s : State) : State :=
  let s := commitDone (replayDone [] s)
  s.hwd.queue.foldl (fun s t => commitDone (commitRecord (setEntries s t
    ((entriesOf s t).map fun e => if e.staged then e else { e with data := stagedBytes s e, staged := true })))) s

/-- Abort every transaction OPEN (and FAILED, where `failed`). -/
def abortOpen (s : State) (failed : Bool) : State :=
  (List.range 8).foldl (fun s t =>
    if txState s t = txOPEN ∨ (failed ∧ txState s t = txFAILED) then abortTxn s t else s) s

/-! ### Shutting down and restoring (R356 to R359) -/

/-- The firmware window ends: transactions still OPEN or FAILED are aborted, pending event entries committed. -/
def closeFwWindow (s : State) : State :=
  let s := commitEvents (abortOpen s true)
  let s := s.modHwd fun h => { h with fwOver := true }
  { s with pwr := { s.pwr with fwWindow := false } }

/-- The journal closes: no staged byte uncommitted, every commit applied (R357). After a GRAVE fault in Heartwood during
HOLDUP nothing more is written (R86). -/
def closeJournal (s : State) : State :=
  let s := if s.pwr.noJournal || !s.up fenceHWD then s else commitEvents (abortOpen (finishCommits s) true)
  s.modHwd fun h => { h with closed := true }

/-- The rails go off, or a node reset: staged bytes without a record are lost (R347, R357). -/
def hwdVolatileLost (s : State) : State :=
  s.modHwd fun h => { h with txns := List.replicate 8 [], queue := [], events := [],
                             lockPend := 0, lostCommit := h.lostCommit || !h.queue.isEmpty }

/-- The M-die-ready step (R358): READY, the replay of a commit whose apply had not finished, and whether a COMMIT was cut
off before its record. -/
def hwdBootRestore (s : State) : State × Bool :=
  let lost := s.hwd.lostCommit
  let s := (s.setBit HWD_STATUS.READY true).setBit HWD_STATUS.REPLAY s.hwd.applying.isSome
  (s.modHwd fun h => { h with lostCommit := false, closed := false, fwOver := false }, lost)

/-- HWD is fenced: every OPEN transaction is aborted (R359). The last journal commit stands and writes are refused (Table
06-4): a commit whose record is not written is aborted, one whose record is written is still applied. -/
def hwdFenced (s : State) : State :=
  s.hwd.queue.foldl abortTxn ((abortOpen s false).modHwd fun h => { h with queue := [] })

/-- A tenant is fenced: its transaction is aborted (R359). -/
def hwdFenceTenant (s : State) (t : Nat) : State := doTxnAbort s t

/-- The transactions that a reset aborts, or that were aborted before it (Table 11-2). -/
def abortedByReset (s : State) : List Nat :=
  (List.range 8).filter fun t => txState s t == txOPEN || s.fld (HWD_TXN_STAT.RESULT t) == 8

/-- RESULT reads ABORTED for the transactions `ts` (R359). -/
def showAborted (s : State) (ts : List Nat) : State := ts.foldl (fun s t => s.setFld (HWD_TXN_STAT.RESULT t) 8) s

/-- The unit reset of HWD comes after the commit in progress closes (R154); open transactions are aborted (R359), event
entries that wait are kept. -/
def resetHeartwood (s : State) : State :=
  let s := finishCommits s
  let lock := s.bit HWD_CTRL.LOCK
  let gone := abortedByReset s
  let s := (s.resetRegs HWD_STATUS.addr (HWD_STATUS.addr + 0x10000)).setBit HWD_CTRL.LOCK lock
  let s := (s.setBit HWD_STATUS.READY true).modHwd fun h => { h with txns := List.replicate 8 [], queue := [] }
  showAborted s gone

/-- HWD_KEYS_LOCK_SET (R355): locks blocks 1 to 15 named. It takes a commit: while a replay runs it waits (R358), and once
the journal has closed there is none (R357). -/
def lockKeys (s : State) (v : Word) : State :=
  if wordField v 16 16 ≠ 0x4C4B ∨ s.hwd.closed then s
  else
    let ks := wordField v 1 15 * 2
    if s.bit HWD_STATUS.REPLAY then s.modHwd fun h => { h with lockPend := h.lockPend ||| ks } else takeLocks s ks

/-- An OPEN or an entry write of tenant `t` that SAFE or a fence of HWD refuses: RESULT reads ABORTED (R359). -/
def refusedTxn (s : State) (t a : Nat) (v : Word) : State :=
  if (s.pwr.mode = .safe ∨ s.fenced fenceHWD) ∧
      ((a = HWD_TXN_CTRL.addr t ∧ wordField v 0 2 = 1) ∨ (a = HWD_JE_GO.addr t ∧ nbit v.toNat 0)) then
    s.setFld (HWD_TXN_STAT.RESULT t) 8
  else s

end Sys2Proof.Machine
end

