-- ==== Sys2Proof/Machine/Float.lean ====
section
/-! DEFINITION. binary32 (IEEE 754-2019) values as rationals, and rounding to binary32, nearest with ties to even. -/

namespace Sys2Proof.Machine

/-- The value of a finite binary32 word; `none` for infinities and NaN. -/
def f32ToRat (w : Word) : Option Rat :=
  let m := wordField w 0 23
  let e := wordField w 23 8
  if e = 255 then none
  else
    let v : Rat := if e = 0 then (m : Rat) / 2 ^ 149
      else if 150 ≤ e then ((2 ^ 23 + m : Nat) : Rat) * 2 ^ (e - 150) else ((2 ^ 23 + m : Nat) : Rat) / 2 ^ (150 - e)
    some (if wordField w 31 1 = 1 then -v else v)

/-- A word is a NaN. -/
def f32IsNaN (w : Word) : Bool := wordField w 23 8 == 255 && wordField w 0 23 != 0

/-- The quiet NaN that the model writes where a rule asks for one. -/
def f32QNaN : Word := 0x7FC00000

/-- The integer square root, over the `k` low bits of the result. -/
def isqrtAux (n : Nat) : Nat → Nat → Nat
  | 0, r => r
  | k + 1, r => let r' := r + 2 ^ k
                isqrtAux n k (if r' * r' ≤ n then r' else r)

def isqrt (n : Nat) : Nat := isqrtAux n (n.log2 / 2 + 1) 0

/-- Round to binary32 the positive number that lies at `m`, or between `m` and `m` + 1 where `sticky`, in units of
2^(−`k`). -/
def f32Pack (m k : Int) (sticky : Bool) : Nat :=
  let m := m.toNat
  if m = 0 then 0
  else
    let top : Int := (m.log2 : Int) - k
    let drop : Int := if top < -126 then (m.log2 : Int) - 23 + (-126 - top) else (m.log2 : Int) - 23
    let d := drop.toNat
    let m := if drop < 0 then m * 2 ^ (-drop).toNat else m
    let q := m / 2 ^ d
    let r := m % 2 ^ d
    let half := 2 ^ d
    let q := if 2 * r > half ∨ (2 * r = half ∧ (sticky ∨ q % 2 = 1) ∧ d ≠ 0) then q + 1 else q
    let ebase : Int := if top < -126 then 0 else top + 126
    let bits := (ebase.toNat * 2 ^ 23 + q)
    if bits < 0x7F800000 then bits else 0x7F800000

/-- As `f32Pack`, to binary16. -/
def f16Pack (m k : Int) (sticky : Bool) : Nat :=
  let m := m.toNat
  if m = 0 then 0
  else
    let top : Int := (m.log2 : Int) - k
    let drop : Int := if top < -14 then (m.log2 : Int) - 10 + (-14 - top) else (m.log2 : Int) - 10
    let d := drop.toNat
    let m := if drop < 0 then m * 2 ^ (-drop).toNat else m
    let q := m / 2 ^ d
    let r := m % 2 ^ d
    let q := if 2 * r > 2 ^ d ∨ (2 * r = 2 ^ d ∧ (sticky ∨ q % 2 = 1) ∧ d ≠ 0) then q + 1 else q
    let ebase : Int := if top < -14 then 0 else top + 14
    Nat.min 0x7C00 (ebase.toNat * 2 ^ 10 + q)

/-- √(n ÷ d) in binary16. -/
def f16OfSqrt (n d : Nat) : Nat :=
  let q := n * 4 ^ 40 / d
  let r := isqrt q
  f16Pack r 40 (r * r != q || n * 4 ^ 40 % d != 0)

/-- Round a rational to 53 significant bits, as binary64 does, nearest with ties to even. No sum of R259 leaves binary64's
exponent range. -/
def f64Round (x : Rat) : Rat :=
  let n := x.num.natAbs
  if n = 0 then 0
  else
    let k0 : Int := 53 + (x.den.log2 : Int) - (n.log2 : Int)
    let at_ := fun (k : Int) => if 0 ≤ k then (n * 2 ^ k.toNat, x.den) else (n, x.den * 2 ^ (-k).toNat)
    let (a0, d0) := at_ k0
    let k := if 2 ^ 53 ≤ a0 / d0 then k0 - 1 else k0
    let (a, d) := at_ k
    let q := a / d
    let r := a % d
    let q := if d < 2 * r ∨ (2 * r = d ∧ q % 2 = 1) then q + 1 else q
    let v : Rat := if 0 ≤ k then (q : Rat) / 2 ^ k.toNat else (q : Rat) * 2 ^ (-k).toNat
    if x < 0 then -v else v

/-- Round a rational to binary32. -/
def f32OfRat (x : Rat) : Word :=
  let n := x.num.natAbs
  let d := x.den
  let k : Int := 40 + (d.log2 : Int) - (n.log2 : Int)
  let num := if 0 ≤ k then n * 2 ^ k.toNat else n
  let den := if 0 ≤ k then d else d * 2 ^ (-k).toNat
  let v := f32Pack (num / den : Nat) k (num % den != 0)
  BitVec.ofNat 32 (if x < 0 then 2 ^ 31 + v else v)

/-- Round the square root of a rational, not negative, to binary32. -/
def f32OfSqrt (x : Rat) : Word :=
  let n := x.num.natAbs
  let d := x.den
  let k : Int := 40 + ((d.log2 : Int) - (n.log2 : Int)) / 2
  let num := if 0 ≤ k then n * 4 ^ k.toNat else n
  let den := if 0 ≤ k then d else d * 4 ^ (-k).toNat
  let q := num / den
  let r := isqrt q
  BitVec.ofNat 32 (f32Pack r k (r * r != q || num % den != 0))

end Sys2Proof.Machine
end

