-- ==== Sys2Proof/Machine/Canopy.lean ====
section
/-! DEFINITION. Canopy (chapter 08): stream words, ingest, the lanes, and the tiles FILT, ENV, RSMP and FFT. -/

namespace Sys2Proof.Machine

/-! ### Contexts, tiles and their words -/

def ctxKey (b t k : Nat) : Nat := 512 * b + 32 * t + k

def ctxOf (s : State) (key : Nat) : Ctx := SMap.get (fun _ => ({} : Ctx)) s.cnp.ctx key

def State.modCnp (s : State) (f : Canopy → Canopy) : State := { s with cnp := f s.cnp }

def setCtx (s : State) (key : Nat) (c : Ctx) : State :=
  s.modCnp fun x => { x with ctx := SMap.set (fun _ => ({} : Ctx)) x.ctx key c }

/-- A bit field of parameter word P`r` of tile `t` of bough `b`. -/
def tileP (s : State) (b t r lo wid : Nat) : Nat := wordField (s.word (CNP_T_P.addr b t r)) lo wid

/-- Word `w` of a tile's table area. -/
def tileTab (s : State) (b t w : Nat) : Word := s.word (CNP_T_TAB.addr b t w)

/-- Context descriptor (Table 09-6) of a context; 0 where it has none. -/
def descOf (s : State) (key : Nat) : Nat := SMap.get (fun _ => 0) s.cnp.desc key

/-- Origin tag of a context's input. -/
def srcOf (s : State) (key : Nat) : Nat := descOf s key / 65536 % 128

/-- Tiles accept CTRL words and the types of Table 08-1. -/
def tileAccepts (t ty : Nat) : Bool :=
  ty == 3 || ty == 0 ||
    (match tileTypeOf t with
     | 3 => ty == 2
     | 4 | 5 => ty == 1
     | 6 => true
     | _ => false)

/-- A CTRL word of kind `ck` (Table 08-3). -/
def ctrlWord (ck : Nat) (w src : Nat) : SWord := { w := BitVec.ofNat 32 w, ty := 3, ck := ck, src := src }

/-- A TIME pair for instant `t` (R239). -/
def timePair (t src : Nat) : List SWord := [ctrlWord 0 t src, ctrlWord 1 (t / 2 ^ 32) src]

def gapNotice (src : Nat) : SWord := ctrlWord 5 0 src

/-- A word that says that words were lost before it (Table 08-2, Table 08-3). -/
def SWord.isGap (w : SWord) : Bool := w.gap || (w.ty == 3 && w.ck == 5)

/-- The DATA field of a sample word as an integer. -/
def dataOf (w : Word) : Int := toSigned 24 (w.toNat / 256)

/-- Time words move a context's place in time (R239). -/
def trackTime (c : Ctx) (w : SWord) : Ctx :=
  if w.ty ≠ 3 then c
  else match w.ck with
    | 0 => { c with tlo := w.w.toNat }
    | 1 => { c with t16 := 16 * (c.tlo + 2 ^ 32 * w.w.toNat) }
    | 2 => { c with ivl := w.w.toNat }
    | _ => c

/-- The value a SAMPLE or FLOAT word carries, at the context's place in time. -/
def smpOf (c : Ctx) (w : SWord) : Smp :=
  { w := w.w, isFloat := w.ty == 1, t16 := c.t16, settle := w.settle || (w.ty == 0 && w.w.getLsbD 7),
    clip := w.ty == 0 && w.w.getLsbD 6, sflt := w.ty == 0 && w.w.getLsbD 5,
    mark := w.mark || (w.ty == 0 && w.w.getLsbD 4) }

/-- After a sample the place in time moves by one interval. -/
def stepTime16 (c : Ctx) (w : SWord) : Ctx := if w.ty = 0 then { c with t16 := c.t16 + c.ivl } else c

/-- An instant in 1/16 ns to the nearest ns, a half rounded up (R117). -/
def toNs (t16 : Nat) : Nat := (t16 + 8) / 16

/-- Mark a list of words FIRST and LAST (R257). -/
def asSet (ws : List SWord) : List SWord :=
  ws.zipIdx.map fun (w, i) => { w with first := i == 0, last := i + 1 == ws.length }

/-! ### FILT and ENV (R247, R248) -/

/-- A coefficient, signed 2.30. -/
def coef (s : State) (b t w : Nat) : Int := toSigned 32 (tileTab s b t w).toNat

/-- An accumulated sum to a value: rounded to nearest, halves away from zero. The rules give no result for a sum outside
the 56-bit accumulator: a free value, log entry 6. -/
def accResult (s : State) (acc : Int) : Int × State :=
  if -(2 ^ 55) ≤ acc ∧ acc < 2 ^ 55 then (roundDivI acc (2 ^ 30), s)
  else
    let (v, s) := s.fresh
    (toSigned 26 v, s)

/-- One biquad: coefficients from table word `5 q` on. -/
def biquadStep (s : State) (b t q : Nat) (h : Biquad) (x : Int) : Int × Biquad × State :=
  let c := fun i => coef s b t (5 * q + i)
  let (y, s) := accResult s (c 0 * x + c 1 * h.x1 + c 2 * h.x2 - c 3 * h.y1 - c 4 * h.y2)
  (y, { x1 := x, x2 := h.x1, y1 := y, y2 := h.y1 }, s)

/-- A cascade of `n` biquads from number `q` on. -/
def cascade (s : State) (b t : Nat) (bqs : List Biquad) (x : Int) (qs : List Nat) : Int × List Biquad × State :=
  qs.foldl (fun (x, bqs, s) q =>
    let (y, h, s) := biquadStep s b t q (bqs.getD q {}) x
    (y, (List.range (Nat.max bqs.length (q + 1))).map (fun i => if i = q then h else bqs.getD i {}), s)) (x, bqs, s)

def filtIsIir (s : State) (b t : Nat) : Bool := tileP s b t 0 0 1 == 1

def filtTaps (s : State) (b t : Nat) : Nat := tileP s b t 0 7 6 + 1

/-- Decimation of a FILT or ENV tile. -/
def decOf (s : State) (b t : Nat) : Nat := (if tileTypeOf t = 0 then tileP s b t 0 1 6 else tileP s b t 0 1 8) + 1

/-- SETTLE extension in outputs after a gap or tuning: TAPS for FIR, HOLD otherwise (Table 08-4). -/
def holdOf (s : State) (b t : Nat) : Nat :=
  if tileTypeOf t = 2 then tileP s b t 0 16 16
  else if filtIsIir s b t then tileP s b t 1 0 16 else filtTaps s b t

/-- Group delay in 1/16 of an input interval. -/
def dlyOf (s : State) (b t : Nat) : Nat :=
  if tileTypeOf t = 2 then tileP s b t 1 0 16 else tileP s b t 1 16 16

/-- The result of a FILT or ENV tile for the newest input, which heads `c.hist`. -/
def filtResult (s : State) (b t : Nat) (c : Ctx) : Int × List Biquad × State :=
  let x := dataOf ((c.hist.headD {}).w)
  if tileTypeOf t = 2 then
    let (y, bqs, s) := cascade s b t c.bqs x [0, 1, 2, 3]
    let z : Int := if tileP s b t 0 0 1 = 0 then (if y < 0 then -y else y) else roundDivI (y * y) (2 ^ 23)
    cascade s b t bqs z [4, 5]
  else if filtIsIir s b t then cascade s b t c.bqs x (List.range (tileP s b t 0 13 3 + 1))
  else
    let acc := ((c.hist.take (filtTaps s b t)).zipIdx.map fun (x, j) => coef s b t j * dataOf x.w).sum
    let (y, s) := accResult s acc
    (y, c.bqs, s)

/-- Whether a FILT or ENV output carries SETTLE, and the outputs that still must (Table 08-4). -/
def filtSettle (s : State) (b t : Nat) (c : Ctx) (window : List Smp) : Bool × Nat :=
  let flagged := window.any (·.settle)
  if tileTypeOf t = 0 ∧ !filtIsIir s b t then (flagged || 0 < c.hold, c.hold - 1)
  else if flagged then (true, holdOf s b t) else (0 < c.hold, c.hold - 1)

/-- The output of a FILT or ENV context for the inputs it holds. -/
def filtOutput (s : State) (b t src : Nat) (c : Ctx) (y : Int) : SWord × Ctx × State :=
  let fir := tileTypeOf t = 0 ∧ !filtIsIir s b t
  let fresh := c.hist.take (decOf s b t)
  let window := if fir then c.hist.take (filtTaps s b t) else fresh
  let (settle, hold) := filtSettle s b t c window
  let sat := y < -(2 ^ 23) || 2 ^ 23 ≤ y
  let yc := clampI (-(2 ^ 23)) (2 ^ 23 - 1) y
  let mark := fresh.any (·.mark)
  let newest := c.hist.headD {}
  let w : Nat := ofSigned 24 yc * 256 + b2n settle * 128 + b2n (sat || window.any (·.clip)) * 64 + b2n newest.sflt * 32 +
    b2n mark * 16 + c.seq
  let s := if settle && !newest.settle then s.count (CNP_SETTLE_CNT.COUNT b) else s
  ({ w := BitVec.ofNat 32 w, settle := settle, gap := c.outGap, mark := mark, src := src },
   { c with dec := 0, hold := hold, seq := (c.seq + 1) % 16, outGap := false, hist := if fir then c.hist else [] }, s)

/-- The TIME pair and IVL that a FILT or ENV context sends on those of its input (R248). -/
def filtTimes (s : State) (b t src : Nat) (c : Ctx) : List SWord :=
  let ahead := c.t16 + (decOf s b t - c.dec - 1) * c.ivl
  timePair (toNs (ahead - dlyOf s b t * c.ivl / 16)) src ++ [ctrlWord 2 (c.ivl * decOf s b t) src]

/-- A gap at a FILT or ENV context: its state is cleared (Table 08-4). -/
def filtGap (s : State) (b t : Nat) (c : Ctx) : Ctx :=
  { c with hist := [], bqs := [], dec := 0, hold := holdOf s b t, outGap := true }

/-- One input word of a FILT or ENV context: what it sends. -/
def filtTake (s : State) (b t k : Nat) (w : SWord) : List SWord × State :=
  let key := ctxKey b t k
  let src := srcOf s key
  let c := ctxOf s key
  let c := if w.isGap then filtGap s b t c else c
  if w.ty = 3 then
    let c := trackTime c w
    (if w.ck = 2 then filtTimes s b t src c else [], setCtx s key c)
  else
    let keep := Nat.max (filtTaps s b t) (decOf s b t)
    let c := stepTime16 { c with hist := (smpOf c w :: c.hist).take keep } w
    let (y, bqs, s) := filtResult s b t c
    let c := { c with bqs := bqs, dec := c.dec + 1 }
    if c.dec < decOf s b t then ([], setCtx s key c)
    else
      let (o, c, s) := filtOutput s b t src c y
      ([o], setCtx s key c)

/-! ### RSMP (R249 to R253) -/

def rsmpOf (s : State) (b : Nat) : Rsmp := SMap.get (fun _ => ({} : Rsmp)) s.cnp.rsmp b

def setRsmp (s : State) (b : Nat) (r : Rsmp) : State :=
  s.modCnp fun x => { x with rsmp := SMap.set (fun _ => ({} : Rsmp)) x.rsmp b r }

def rsmpEdge (s : State) (b : Nat) : Bool := tileP s b 10 0 3 1 == 1

/-- Samples per revolution. -/
def rsmpSpr (s : State) (b : Nat) : Nat := 2 ^ clampN 6 12 (tileP s b 10 0 4 4)

def rsmpLines (s : State) (b : Nat) : Nat := tileP s b 10 1 0 16 + 1

/-- Angle intervals in a revolution: one from index to index, or LINES with REF_KIND = EDGE. -/
def rsmpSteps (s : State) (b : Nat) : Nat := if rsmpEdge s b then rsmpLines s b else 1

/-- The interval of revolution `r` in which output `k` lies, and its instant in 1/16 ns (R249). -/
def rsmpInstant (s : State) (b : Nat) (r : Rev) (k : Nat) : Nat × Nat :=
  let n := rsmpSteps s b
  let spr := rsmpSpr s b
  let j := Nat.min (k * n / spr) (r.evs.length - 2)
  let a := r.evs.getD j 0
  let e := r.evs.getD (j + 1) a
  (j, 16 * a + 16 * (e - a) * (k * n - j * spr) / spr)

/-- The 32 input samples around an instant (R250): 16 up to it and 16 after it, as far as there are. -/
def rsmpWindow (buf : List Smp) (t16 : Nat) : List Smp :=
  let p := (buf.filter fun x => x.t16 ≤ t16).length
  slice buf (p - 16) (Nat.min p 16 + 16)

/-- The interpolated value at an instant before it is saturated (R250): the 32 taps at the two sub-phases beside the
instant, of 256 in a sample interval, taken linear between them. The coefficients are not given, nor the result where
samples of the window are missing: free values, log entry 7. -/
def rsmpValue (s : State) (win : List Smp) (t16 : Nat) : Int × State :=
  let t0 := (win.getD 15 {}).t16
  let d := (win.getD 16 {}).t16 - t0
  if win.length = 32 ∧ t0 ≤ t16 ∧ 0 < d then
    let v := (t16 - t0) * 256
    let i := v / d
    let r := v % d
    let sum : Int := (win.zipIdx.map fun (x, j) =>
      (Config.sincTap i j * ((d : Int) - r) + Config.sincTap (i + 1) j * r) * dataOf x.w).sum
    (roundDivI sum ((d : Int) * 2 ^ 30), s)
  else
    let (v, s) := s.fresh
    (toSigned 24 (v % 2 ^ 24), s)

/-- Output `k` of a revolution. -/
def rsmpSample (s : State) (b src : Nat) (c : Ctx) (r : Rev) (prev k : Nat) : SWord × State :=
  let (j, t16) := rsmpInstant s b r k
  let win := rsmpWindow c.buf t16
  let mine := win.any (·.settle)
  let settle := mine || r.allBad || r.bad.getD j false
  let newest := win.getD (win.length - 1) {}
  let mark := c.buf.any fun x => x.mark && prev < x.t16 && x.t16 ≤ t16
  let (y, s) := rsmpValue s win t16
  let sat := y < -(2 ^ 23) || 2 ^ 23 ≤ y
  let yc := clampI (-(2 ^ 23)) (2 ^ 23 - 1) y
  let w := ofSigned 24 yc * 256 + b2n settle * 128 + b2n (sat || win.any (·.clip)) * 64 + b2n newest.sflt * 32 + b2n mark * 16 + k % 16
  let s := if settle && !newest.settle then s.count (CNP_SETTLE_CNT.COUNT b) else s
  ({ w := BitVec.ofNat 32 w, settle := settle, mark := mark, src := src, first := k == 0, last := k + 1 == rsmpSpr s b }, s)

/-- The set of one revolution (R251). -/
def rsmpRevolution (s : State) (b src : Nat) (c : Ctx) (r : Rev) : List SWord × State :=
  let t := r.evs.headD 0
  let head := timePair t src ++ [ctrlWord 2 0 src, ctrlWord 6 (ofSigned 32 r.rev) src]
  let head := if r.gap || c.outGap then head.zipIdx.map fun (w, i) => { w with gap := i == 0 } else head
  let (ws, _, s) := (List.range (rsmpSpr s b)).foldl (fun (ws, prev, s) k =>
    let (w, s) := rsmpSample s b src c r prev k
    (ws ++ [w], (rsmpInstant s b r k).2, s)) (([] : List SWord), 16 * t - 1, s)
  (head ++ ws, s)

/-- The revolution can leave: 16 input samples past its last angle instant have arrived (R251). -/
def rsmpReady (s : State) (b : Nat) (c : Ctx) (r : Rev) : Bool :=
  let last := (rsmpInstant s b r (rsmpSpr s b - 1)).2
  16 ≤ (c.buf.filter fun x => last < x.t16).length

/-- Send the revolutions of a context that can leave, at most `fuel`. -/
def rsmpSend (s : State) (b k : Nat) : Nat → List SWord × State
  | 0 => ([], s)
  | fuel + 1 =>
    let key := ctxKey b 10 k
    let c := ctxOf s key
    match c.pend with
    | [] => ([], s)
    | r :: rest =>
      if !rsmpReady s b c r then ([], s)
      else
        let (ws, s) := rsmpRevolution s b (srcOf s key) c r
        let close := 16 * r.evs.getD (r.evs.length - 1) 0
        let old := (c.buf.filter fun x => x.t16 ≤ close).length - 40
        let s := setCtx s key { c with pend := rest, buf := c.buf.drop old, outGap := false }
        let (ws', s) := rsmpSend s b k fuel
        (ws ++ ws', s)

/-- An input word of an RSMP context (Table 08-4). Stamps reach the tile by the reference path. -/
def rsmpTake (s : State) (b k : Nat) (w : SWord) : List SWord × State :=
  let key := ctxKey b 10 k
  let c := ctxOf s key
  let c := if w.isGap then { c with pend := [], buf := [], outGap := true, skip := !(rsmpOf s b).evs.isEmpty } else c
  let c := trackTime c w
  if w.ty = 0 then
    let c := stepTime16 { c with buf := c.buf ++ [smpOf c w] } w
    let s := setCtx s key c
    rsmpSend s b k c.pend.length
  else ([], setCtx s key c)

/-- The contexts of a tile that have an input. -/
def ctxsOf (s : State) (b t : Nat) : List Nat :=
  (s.cnp.desc.filter fun p => p.1 / 32 == 16 * b + t && p.2 % 8 != 0).map fun p => p.1 % 32

/-- Abandon the revolution in progress and send GAPN on each context (R253). -/
def rsmpAbandon (s : State) (b : Nat) : List SWord × State :=
  let ks := ctxsOf s b 10
  let s := setRsmp s b { (rsmpOf s b) with evs := [], bad := [], prevIv := none, gap := true }
  let s := s.setBit (CNP_T_STAT.GAP b 10) true
  let s := ks.foldl (fun s k => setCtx s (ctxKey b 10 k) { ctxOf s (ctxKey b 10 k) with pend := [], skip := false }) s
  (ks.map fun k => gapNotice (srcOf s (ctxKey b 10 k)), s)

/-- The interval fails the speed check (R252). -/
def speedBad (s : State) (b iv : Nat) (prev : Option Nat) : Bool :=
  let dev := tileP s b 10 0 8 8
  match prev with
  | some p => dev != 0 && dev * p < 256 * (if iv < p then p - iv else iv - p)
  | none => false

/-- A closed revolution goes to each context that has its samples. -/
def rsmpClose (s : State) (b : Nat) (rv : Rev) : List SWord × State :=
  let s := if rv.allBad || rv.bad.any id then s.count (CNP_T_CNT.EVT b 10) else s
  (ctxsOf s b 10).foldl (fun (ws, s) k =>
    let key := ctxKey b 10 k
    let c := ctxOf s key
    if c.skip then (ws, setCtx s key { c with skip := false })
    else
      let s := setCtx s key { c with pend := c.pend ++ [rv] }
      let (ws', s) := rsmpSend s b k (c.pend.length + 1)
      (ws ++ ws', s)) (([] : List SWord), s)

/-- The next reference event at the RSMP tile of bough `b` (R249, R252, R253): what the tile sends. -/
def rsmpEvent (s : State) (b : Nat) : List SWord × State :=
  let r := rsmpOf s b
  match r.evq with
  | [] => ([], s)
  | e :: rest =>
    let r := { r with evq := rest }
    let s := setRsmp s b r
    if e.bad then rsmpAbandon s b
    else match r.evs.getLast? with
      | none => if e.idx then ([], setRsmp s b { r with evs := [e.t], rev := e.rev, bad := [] }) else ([], s)
      | some l =>
        let bad := r.bad ++ [speedBad s b (e.t - l) r.prevIv]
        if e.idx then
          let rv : Rev := { evs := r.evs ++ [e.t], rev := r.rev, bad := bad,
                            allBad := rsmpEdge s b && r.evs.length != rsmpLines s b, gap := r.gap }
          let s := setRsmp s b { r with evs := [e.t], rev := e.rev, bad := [], prevIv := some (e.t - l), gap := false }
          rsmpClose s b rv
        else if rsmpEdge s b then ([], setRsmp s b { r with evs := r.evs ++ [e.t], bad := bad, prevIv := some (e.t - l) })
        else ([], s)

/-! ### FFT (R254 to R258) -/

def fftN (s : State) (b t : Nat) : Nat := 2 ^ clampN 6 16 (tileP s b t 0 0 5)

def fftHop (s : State) (b t : Nat) : Nat := fftN s b t * (16 - tileP s b t 0 8 4) / 16

/-- OUT, 3 acting as MAG: 0 MAG, 1 PWR, 2 CPLX. -/
def fftOut (s : State) (b t : Nat) : Nat := tileP s b t 0 12 2 % 3

/-- AVG; PEAK with CPLX acts as NONE (R256). -/
def fftAvg (s : State) (b t : Nat) : Nat :=
  let a := tileP s b t 0 14 2
  if a = 3 ∧ fftOut s b t = 2 then 0 else a

/-- The unit of the transform's numbers: 2^-96. The rules give the exact sums; the width they are kept in is the model's,
log entry 8. -/
def fx : Int := 2 ^ 96

def piFx : Int := 248902613312231085230521944622

/-- Σ of the cosine series, `n` terms from `term` on. -/
def cosLoop (x2 : Int) : Nat → Nat → Int → Int
  | 0, _, _ => 0
  | n + 1, i, term => term + cosLoop x2 n (i + 1) (-(term * x2 / fx) / ((2 * i + 1) * (2 * i + 2)))

/-- cos (2π j / n). -/
def cosFx (j n : Nat) : Int :=
  let x := 2 * piFx * (j % n) / n
  cosLoop (x * x / fx) 48 0 fx

/-- Terms of the listed windows in units of 10^-9 (Table 08-5); codes 5 to 7 act as HANN. -/
def windowTerms (win : Nat) : List Int :=
  match win with
  | 1 => [540000000, 460000000]
  | 2 => [215578950, 416631580, 277263158, 83578947, 6947368]
  | 3 => [358750000, 488290000, 141280000, 11680000]
  | _ => [500000000, 500000000]

/-- The USER window's table in units of 2^-96; `none` when an entry is no finite number. -/
def userTable (s : State) (b t : Nat) : Option (List Int) :=
  (List.range 1024).mapM fun i => (f32ToRat (s.word (CNP_USERWIN.addr b (t - 6) i))).map fun (q : Rat) => (q * (2 : Rat) ^ 96).floor

/-- w[n] for USER (R254). -/
def userWindow (tab : List Int) (n len : Nat) : Int :=
  let v := Nat.min n (len - n) * 2048
  let i := v / len
  let t0 := tab.getD (Nat.min i 1023) 0
  let t1 := tab.getD (Nat.min (i + 1) 1023) 0
  t0 + (t1 - t0) * (v % len) / len

/-- The window over `len` points and its coherent gain (R254). -/
def windowOf (s : State) (b t len : Nat) : Option (List Int × Int) :=
  let win := tileP s b t 0 5 3
  if win = 4 then
    (userTable s b t).map fun tab =>
      let ws := (List.range len).map fun n => userWindow tab n len
      (ws, ws.sum / len)
  else
    let a := windowTerms win
    let ws := (List.range len).map fun n =>
      (a.zipIdx.map fun (c, m) => (if m % 2 = 0 then c else -c) * cosFx (m * n) len / 1000000000).sum
    some (ws, a.headD 0 * fx / 1000000000)

/-- The bins of a frame (R254, R255), k = 0 to N ÷ 2: real and imaginary part scaled as MAG, in units of 2^-96. `none`
where the window has no such number or no gain: the rules state no result there. -/
def fftBins (s : State) (b t : Nat) (smps : List Smp) : Option (List (Int × Int)) :=
  let n := smps.length
  match windowOf s b t n with
  | none => none
  | some (ws, cg) =>
    if cg = 0 then none
    else
      let xs := (smps.zip ws).map fun (x, w) => if x.settle then 0 else dataOf x.w * w / 2 ^ 23
      let tab := (Array.range n).map fun j => cosFx j n
      let at_ := fun j => tab.getD (j % n) 0
      some ((List.range (n / 2 + 1)).map fun k =>
        let re := (xs.zipIdx.map fun (x, i) => x * at_ (k * i) / fx).sum
        let im := (xs.zipIdx.map fun (x, i) => -(x * at_ (k * i + n - n / 4)) / fx).sum
        let g : Int := if k = 0 ∨ k = n / 2 then 1 else 2
        (g * re * fx / (n * cg), g * im * fx / (n * cg)))

/-- What averaging works on: power per bin for MAG and PWR, the two parts for CPLX (R256). -/
def fftValues (cplx : Bool) (bins : List (Int × Int)) : List Int :=
  if cplx then bins.flatMap fun (re, im) => [re, im]
  else bins.zipIdx.map fun ((re, im), k) =>
    let m2 := (re * re + im * im) / fx
    if k = 0 ∨ k + 1 = bins.length then m2 else m2 / 2

/-- The words of the bins. `avg`: they are averages by LIN or EXP, whose MAG is √(2 × averaged PWR) in every bin (R256). -/
def fftWords (out : Nat) (avg : Bool) (vs : List Int) : List Word :=
  vs.zipIdx.map fun (v, k) =>
    let q : Rat := mkRat v (2 ^ 96)
    if out = 0 then
      f32OfSqrt (if !avg && (k == 0 || k + 1 == vs.length) then q else 2 * q)
    else f32OfRat q

/-- Bring a frame into the average (R256): the new average, and whether it is output. -/
def fftAverage (s : State) (b t : Nat) (c : Ctx) (vs : List Int) : List Int × Bool :=
  match fftAvg s b t with
  | 1 =>
    let sum := if c.avg.isEmpty then vs else List.zipWith (· + ·) c.avg vs
    (sum, tileP s b t 1 0 16 + 1 ≤ c.nfrm + 1)
  | 2 =>
    let old := if c.avg.isEmpty then vs.map fun _ => 0 else c.avg
    (List.zipWith (fun a v => a + (v - a) / 2 ^ tileP s b t 1 16 4) old vs, tileP s b t 1 20 8 + 1 ≤ c.every + 1)
  | 3 => (if c.avg.isEmpty then vs else List.zipWith max c.avg vs, tileP s b t 1 20 8 + 1 ≤ c.every + 1)
  | _ => (vs, true)

/-- The values an output reports: the mean of the frames for LIN. -/
def fftReported (s : State) (b t : Nat) (avg : List Int) (n : Nat) : List Int :=
  if fftAvg s b t = 1 then avg.map fun v => v / n else avg

/-- INFO (Table 08-3). -/
def infoWord (excl : Nat) (clip sflt gap invalid skip : Bool) : Nat :=
  Nat.min excl (2 ^ 24 - 1) + b2n clip * 2 ^ 24 + b2n sflt * 2 ^ 25 + b2n gap * 2 ^ 26 + b2n invalid * 2 ^ 27 + b2n skip * 2 ^ 28

/-- The bins of a frame as words or, where the rules state no result, as free values (log entry 9). -/
def fftBinWords (s : State) (b t : Nat) (n : Nat) (vs : Option (List Int)) : List Word × State :=
  match vs with
  | some vs => (fftWords (fftOut s b t) (fftAvg s b t == 1 || fftAvg s b t == 2) vs, s)
  | none =>
    let (l, s) := s.freshList ((n / 2 + 1) * (if fftOut s b t = 2 then 2 else 1)) (2 ^ 32)
    (l.map (BitVec.ofNat 32), s)

/-- The transform of a frame of context `k` completes (R256, R257): what the tile sends. -/
def fftTransform (s : State) (b t k : Nat) (f : Blk) : List SWord × State :=
  let key := ctxKey b t k
  let src := srcOf s key
  let c := ctxOf s key
  let averaging := fftAvg s b t != 0
  if averaging && tileP s b t 2 0 16 < f.excl then
    ([], (setCtx s key { c with skip := true, gap := c.gap || f.gap }).count (CNP_T_CNT.EVT b t))
  else
    let bins := fftBins s b t f.smps
    let vs := bins.map (fftValues (fftOut s b t == 2))
    let lost := vs.isNone || (averaging && c.inval)
    let (avg, out) := fftAverage s b t c (vs.getD [])
    let c := { c with nfrm := c.nfrm + 1, every := c.every + 1, excl := c.excl + f.excl, clip := c.clip || f.clip,
                      sflt := c.sflt || f.sflt, mark := c.mark || f.mark, gap := c.gap || f.gap, avg := avg, inval := lost }
    if !out then ([], setCtx s key c)
    else
      let (ws, s) := fftBinWords s b t f.smps.length (if lost then none else some (fftReported s b t avg c.nfrm))
      let info := infoWord c.excl c.clip c.sflt c.gap false c.skip
      let head := timePair (toNs f.t) src ++ [ctrlWord 2 f.ivl src, ctrlWord 3 info src, ctrlWord 4 c.nfrm src]
      let restart := fftAvg s b t < 2
      let marked := c.mark
      let c := if restart then { c with nfrm := 0, excl := 0, clip := false, sflt := false, mark := false, avg := [], inval := false } else c
      (asSet (head ++ ws.map fun w => { w := w, ty := 1, mark := marked, src := src }),
        setCtx s key { c with every := 0, gap := false, skip := false })

/-- An input word of an FFT context: frames collect in it (R254, Table 08-4). -/
def fftTake (s : State) (b t k : Nat) (w : SWord) : State :=
  let key := ctxKey b t k
  let c := ctxOf s key
  let c := if w.isGap then { c with buf := [], outGap := true } else c
  let c := trackTime c w
  if w.ty ≠ 0 then setCtx s key c
  else
    let c := stepTime16 { c with buf := c.buf ++ [smpOf c w] } w
    let n := fftN s b t
    if c.buf.length < n then setCtx s key c
    else
      let f : Blk := { smps := c.buf.take n, t := (c.buf.headD {}).t16, ivl := c.ivl,
                       excl := ((c.buf.take n).filter (·.settle)).length, clip := (c.buf.take n).any (·.clip),
                       sflt := (c.buf.take n).any (·.sflt), mark := (c.buf.take n).any (·.mark), gap := c.outGap }
      setCtx s key { c with done := c.done ++ [f], buf := c.buf.drop (fftHop s b t), outGap := false }

end Sys2Proof.Machine
end

