-- ==== Sys2Proof/Machine/Drive.lean ====
section
/-! DEFINITION. The drive stage below Bark (chapter 19): microstep tables, currents, the regulator and the minimum pulse,
when an axis is driven, the trip path. -/

namespace Sys2Proof.Machine

def State.modDrv (s : State) (f : Drv → Drv) : State := { s with drv := f s.drv }

def drvAx (s : State) (n : Nat) : DrvAx := s.drv.ax.getD n {}

def modDrvAx (s : State) (n : Nat) (f : DrvAx → DrvAx) : State := s.modDrv fun d => { d with ax := modAt d.ax n f }

/-- Set a flag of DRV_IRQ. -/
def drvIrq (s : State) (r : FRef) : State := plicRaise (s.setBit r true) 24

/-! ### Microstep tables (R630, R638) -/

/-- round(1,023 × sin(90° × (k + 0.5) ÷ 256)). -/
def sineTable : List Nat :=
  [3, 9, 16, 22, 28, 35, 41, 47, 53, 60, 66, 72, 78, 85, 91, 97] ++
  [103, 110, 116, 122, 128, 135, 141, 147, 153, 159, 166, 172, 178, 184, 190, 196] ++
  [203, 209, 215, 221, 227, 233, 239, 246, 252, 258, 264, 270, 276, 282, 288, 294] ++
  [300, 306, 312, 318, 324, 330, 336, 342, 348, 353, 359, 365, 371, 377, 383, 389] ++
  [394, 400, 406, 412, 417, 423, 429, 435, 440, 446, 452, 457, 463, 468, 474, 479] ++
  [485, 491, 496, 502, 507, 512, 518, 523, 529, 534, 539, 545, 550, 555, 560, 566] ++
  [571, 576, 581, 586, 592, 597, 602, 607, 612, 617, 622, 627, 632, 637, 642, 647] ++
  [651, 656, 661, 666, 671, 675, 680, 685, 689, 694, 699, 703, 708, 712, 717, 721] ++
  [726, 730, 734, 739, 743, 747, 752, 756, 760, 764, 768, 773, 777, 781, 785, 789] ++
  [793, 797, 801, 805, 808, 812, 816, 820, 824, 827, 831, 835, 838, 842, 845, 849] ++
  [852, 856, 859, 863, 866, 869, 873, 876, 879, 882, 885, 889, 892, 895, 898, 901] ++
  [904, 907, 909, 912, 915, 918, 921, 923, 926, 929, 931, 934, 937, 939, 941, 944] ++
  [946, 949, 951, 953, 956, 958, 960, 962, 964, 966, 968, 970, 972, 974, 976, 978] ++
  [980, 982, 983, 985, 987, 988, 990, 992, 993, 995, 996, 997, 999, 1000, 1001, 1003] ++
  [1004, 1005, 1006, 1007, 1008, 1010, 1011, 1011, 1012, 1013, 1014, 1015, 1016, 1016, 1017, 1018] ++
  [1018, 1019, 1019, 1020, 1020, 1021, 1021, 1022, 1022, 1022, 1022, 1023, 1023, 1023, 1023, 1023]

/-- Entry `k` of bank `b`. -/
def tblEntry (s : State) (b k : Nat) : Nat := SMap.get (fun a => sineTable.getD (a % 256) 0) s.drv.tbl (256 * b + k)

def setTblEntry (s : State) (b k v : Nat) : State :=
  s.modDrv fun d => { d with tbl := SMap.set (fun a => sineTable.getD (a % 256) 0) d.tbl (256 * b + k) (v % 1024) }

/-- The signed wave w(j): its size, and whether it is negative. -/
def wave (s : State) (b j : Nat) : Nat × Bool :=
  if j < 256 then (tblEntry s b j, false)
  else if j < 512 then (tblEntry s b (511 - j), false)
  else if j < 768 then (tblEntry s b (j - 512), true)
  else (tblEntry s b (1023 - j), true)

/-! ### Configuration -/

/-- IRUN as it acts, in mA rms. -/
def drvIrun (s : State) (n : Nat) : Nat := Nat.min 2000 (s.fld (DRV_AX_CUR.IRUN n))

/-- IMIN as it acts (R646). -/
def drvImin (s : State) (n : Nat) : Nat := Nat.min (drvIrun s n) (s.fld (DRV_AX_CUR.IMIN n))

def drvLoad (s : State) (n : Nat) : Bool := s.fld (DRV_AX_CFG.STALL n) == 2

/-- The axis's speed is at or above LOAD_VMIN full steps per s. -/
def loadFast (s : State) (n : Nat) : Bool :=
  s.fld (DRV_AX_LOAD_CFG2.LOAD_VMIN n) * 256 * 256000000 ≤ (s.mot.ax.getD n {}).v

/-- The axis current I in mA rms: IRUN, or what LOAD has lowered it to at or above LOAD_VMIN (R630, R645). -/
def drvCurrent (s : State) (n : Nat) : Nat :=
  match (drvAx s n).cur with
  | some i => if drvLoad s n && loadFast s n then clampN (drvImin s n) (drvIrun s n) (i / 1000000) else drvIrun s n
  | none => drvIrun s n

/-- Target current of coil `c` in mA, I × √2 × w ÷ 1,023 to the nearest mA (DESIGN CHOICE, log entry 14), with its sign. -/
def coilTarget (s : State) (n c : Nat) : Nat × Bool :=
  let (w, neg) := wave s (drvAx s n).bank ((s.fld (DRV_AX_EIDX.EIDX n) + 256 * c) % 1024)
  let iw := drvCurrent s n * w
  ((isqrt (8 * iw * iw / (1023 * 1023)) + 1) / 2, neg)

/-- PERIOD in ns, at 40 MHz (R631). -/
def chopNs (s : State) : Nat := 25 * clampN 400 2000 (s.fld DRV_CHOP.PERIOD)

/-- Dead time in ns (R635). -/
def deadNs (s : State) : Nat := 100 + 25 * Nat.min 27 (s.fld DRV_CHOP.DT)

/-- Minimum pulse in ns (R636). -/
def minNs (s : State) : Nat := 200 + 25 * Nat.min 32 (s.fld DRV_CHOP.MINPULSE)

/-- The largest on-time (R633). -/
def maxNs (s : State) : Nat := chopNs s - 2 * deadNs s

/-! ### When an axis is driven (R628) -/

/-- Modes in which the bridges may be driven (R641, Table 02-5). -/
def drvMode (s : State) : Bool :=
  match s.pwr.mode with
  | .run | .survey | .watch | .bridge | .degraded | .holdup => true
  | _ => false

/-- An axis with EN = 1 and OUT = INTERNAL. -/
def drvOn (s : State) (n : Nat) : Bool := s.bit (DRV_AX_CFG.EN n) && !s.bit (MOT_CFG.OUT n)

def tripActive (s : State) : Bool := s.bit DRV_TRIP.ACTIVE

/-- R628 but for the trip path. -/
def drvAllowed (s : State) (n : Nat) : Bool := drvOn s n && s.pwr.vmRisen && !s.pwr.vmOv && drvMode s && s.running

def drvState (s : State) (n : Nat) : Nat := s.fld (DRV_AX_STAT.STATE n)

/-- Set the state of an axis: 0 OFF, 1 DRIVING, 2 HOLD_FULL, 3 PARKED, 4 ENERGISING, 5 TRIPPED. -/
def setDrvState (s : State) (n st : Nat) : State :=
  (s.setFld (DRV_AX_STAT.STATE n) st).setBitAt DRV_STATUS.DRIVEN n (st == 1 || st == 2 || st == 4)

/-- Bring the state of an axis into line with R628: off, tripped, or energised when it becomes enabled or the trip is
released (R643, R652). -/
def drvRefresh1 (s : State) (n : Nat) : State :=
  let st := drvState s n
  if tripActive s ∧ drvOn s n then
    let s := modDrvAx s n fun a => { a with parked := if st = 5 then a.parked else st == 3 }
    setDrvState s n 5
  else if !drvAllowed s n then setDrvState s n 0
  else if st = 0 then setDrvState s n 4
  else if st = 5 then setDrvState s n (if (drvAx s n).parked then 3 else 4)
  else s

def drvRefresh (s : State) : State := (List.range 4).foldl drvRefresh1 s

/-- Park an axis: its bridges off, EIDX kept. -/
def parkAxis (s : State) (n : Nat) : State := if drvState s n = 0 then s else setDrvState s n 3

/-- Standstill entry (R641): carries and counts of the coils are 0 (R636). -/
def standstill (s : State) (n : Nat) : State :=
  let s := modDrvAx s n fun a => { a with coils := a.coils.map fun c => { c with carry := 0, n := 0 } }
  setDrvState s n (if s.bit (DRV_AX_CFG.STANDSTILL n) then 3 else 2)

/-- The axis takes `k` microsteps (signed): EIDX moves, the coils are driven. -/
def drvSteps (s : State) (n : Nat) (k : Int) : State :=
  let k := if s.bit (DRV_AX_CFG.EIDX_INV n) then -k else k
  let s := s.setFld (DRV_AX_EIDX.EIDX n) ((s.fld (DRV_AX_EIDX.EIDX n) + k) % 1024).toNat
  let s := modDrvAx s n fun a => { a with moved := s.uptime }
  if drvState s n = 2 then setDrvState s n 1 else s

/-- The axis waits for its bridges before its first microstep (R643); a parked one is energised. -/
def drvHolds (s : State) (n : Nat) : Bool := drvAllowed s n && (drvState s n == 3 || drvState s n == 4)

def drvWake (s : State) (n : Nat) : State := if drvAllowed s n && drvState s n == 3 then setDrvState s n 4 else s

/-! ### The trip path (R650 to R652) -/

/-- Set an input of the trip path: the bridges turn off. Whether it became active. -/
def tripSet (s : State) (r : FRef) : State :=
  let was := tripActive s
  let s := (s.setBit r true).setBit DRV_TRIP.ACTIVE true
  if was then s
  else drvRefresh (drvIrq ((s.setBit DRV_STATUS.TRIP true).setBit MOT_STATUS.TRIP true) DRV_IRQ.TRIP)

/-- Release an input; with none left the trip path is released. -/
def tripClear (s : State) (r : FRef) : State :=
  let s := s.setBit r false
  if (s.word DRV_TRIP.addr).toNat % 32 = 0 ∧ tripActive s then
    drvRefresh (((s.setBit DRV_TRIP.ACTIVE false).setBit DRV_STATUS.TRIP false).setBit MOT_STATUS.TRIP false)
  else s

/-- Bits of DRV_FAULT that drive the trip path: all but OTW. -/
def tripFaults : Word := 0x3DFF

/-- Input FAULT follows the fault bits. -/
def tripFaultFollows (s : State) : State :=
  if s.word DRV_FAULT.addr &&& tripFaults ≠ 0 then s else tripClear s DRV_TRIP.FAULT

/-- TRIP_N reads low: driven low or open, or pulled down without VIO_GEN (R29, R45). -/
def tripLandLow (s : State) : Bool := s.drv.tripN || !s.pwr.vioGenOk

/-- The park step of a shutdown has been reached: from its commit point, or with every axis at rest (Table 03-7, R30). -/
def parkReached (s : State) (atRest : Bool) : Bool :=
  (s.pwr.mode == .holdup || s.pwr.seq == .pdown) && (s.pwr.committed || atRest)

/-- DRV_FLT_N is low: the bridges cannot be driven, or the drive stage is not powered, in reset, tripped or parked for a
shutdown (R30, R650). `atRest`: no axis emits. -/
def drvFltLow (s : State) (atRest : Bool) : Bool :=
  !drvMode s || !s.up fenceDRV || !s.pwr.vmRisen || s.pwr.vmOv || tripActive s || parkReached s atRest

/-! ### The regulator (R632 to R637) -/

/-- The minimum-pulse carry for a requested on-time `r`: the pulse, the coil, skips and discards counted. -/
def pulseOf (s : State) (c : Coil) (r : Nat) : Coil × Nat × Nat :=
  let mn := minNs s
  if mn ≤ r then ({ c with pulse := Nat.min (r + c.carry) (maxNs s), carry := 0, n := 0 }, 0, 0)
  else if 0 < r then
    let cy := c.carry + r
    if mn ≤ cy then ({ c with pulse := cy, carry := 0, n := 0 }, 0, 0)
    else if c.n + 1 = 8 then ({ c with pulse := 0, carry := 0, n := 0 }, 1, 1)
    else ({ c with pulse := 0, carry := cy, n := c.n + 1 }, 1, 0)
  else ({ c with pulse := 0 }, 0, 0)

/-- One period of a coil: `t` its target with sign, `m` the measured current. A sign change restarts the regulator and
discards the carry. -/
def chopCoil (s : State) (n : Nat) (c : Coil) (t : Nat × Bool) (m : Int) : Coil × Nat × Nat :=
  if c.neg ≠ t.2 then
    ({ d := 0, e := 0, carry := 0, n := 0, neg := t.2, pulse := 0 }, 0, if c.carry = 0 then 0 else 1)
  else
    let e : Int := (t.1 : Int) - (if t.2 then -m else m)
    let d := (c.d : Int) + ((s.fld (DRV_AX_REG.KP n) : Int) * (e - c.e) + (s.fld (DRV_AX_REG.KI n) : Int) * e)
    let d := (clampI 0 (maxNs s * 1048576 / chopNs s : Nat) d).toNat
    pulseOf s { c with d := d, e := e } (d * chopNs s / 1048576)

/-- The off-phase of a period whose pulse is `k.pulse` (R633): ns of the opposite diagonal, then of both low sides; the current
reaches 0 after `z` ns of it. Each change of switches takes a dead time of its own. -/
def offPhase (s : State) (n : Nat) (k : Coil) (z : Nat) : Nat × Nat :=
  let off := chopNs s - 2 * deadNs s - k.pulse
  let fast := match s.fld (DRV_AX_CFG.DECAY n) with
    | 0 => 0
    | 1 => Nat.min off z
    | _ => Nat.min (off * (s.fld (DRV_AX_CFG.FAST_FRAC n) + 1) / 8) z
  (fast, off - fast)

/-- One chopper period of coil `c` of axis `n`: its measured current shown, its pulse given. -/
def chopAxisCoil (s : State) (n c : Nat) (m : Int) : State :=
  let s := s.setFld (if c = 0 then DRV_AX_COIL.IA n else DRV_AX_COIL.IB n) (ofSigned 16 m)
  let (k, skip, disc) := chopCoil s n ((drvAx s n).coils.getD c {}) (coilTarget s n c) m
  let s := (s.count DRV_SKIP_CNT.SKIP skip).count DRV_SKIP_CNT.DISCARD disc
  modDrvAx s n fun a => { a with coils := modAt a.coils c fun _ => k }

/-- A chopper period starts (R631, R640): banks change, then every driven coil is regulated. -/
def doChopperPeriod (mA : List Int) (s : State) : State :=
  if !s.up fenceDRV then s
  else
    let s := (List.range 4).foldl (fun s n => modDrvAx s n fun a => { a with bank := s.fld (DRV_AX_CFG.TBL n) }) s
    let s := if s.drv.tblPend ≠ 0 then drvIrq (s.modDrv fun d => { d with tblPend := 0 }) DRV_IRQ.TBL else s
    (List.range 8).foldl (fun s i =>
      if s.bitAt DRV_STATUS.DRIVEN (i / 2) then chopAxisCoil s (i / 2) (i % 2) (mA.getD i 0) else s) s

/-- An apply of group 8 from state `old` (R640): axes whose bank changes, and what may be driven now. -/
def driveApplied (old s : State) : State :=
  let ch := (List.range 4).foldl (fun m n =>
    if old.fld (DRV_AX_CFG.TBL n) = s.fld (DRV_AX_CFG.TBL n) then m else setBit m n) s.drv.tblPend
  drvRefresh (s.modDrv fun d => { d with tblPend := ch })

/-- A write of DRV_TBL (R639): refused where the bank is the effective one of an axis with EN = 1. -/
def tblWrite (s : State) (wa v : Nat) : State × Bool :=
  let b := wa / 256 % 2
  if (List.range 4).any fun n => s.bit (DRV_AX_CFG.EN n) && s.fld (DRV_AX_CFG.TBL n) == b then (s, false)
  else (setTblEntry s b (wa % 256) v, true)

end Sys2Proof.Machine
end

