-- ==== Sys2Proof/Machine/Motion.lean ====
section
/-! DEFINITION. The motion controller below Bark (chapter 18): positions and microsteps, the ramp, stops and halts, groups,
homing, gearing, the position history. -/

namespace Sys2Proof.Machine

def State.modMot (s : State) (f : Mot → Mot) : State := { s with mot := f s.mot }

def axisOf (s : State) (n : Nat) : Axis := s.mot.ax.getD n {}

def modAxis (s : State) (n : Nat) (f : Axis → Axis) : State := s.modMot fun m => { m with ax := modAt m.ax n f }

/-- Position units in a microstep. -/
def stepUnits : Int := 256000000000000

/-- STATE codes of Table 18-8. -/
def axIDLE : Nat := 0
def axMOVING : Nat := 1
def axSTOPPING : Nat := 2
def axSTOPPED : Nat := 3
def axHALTED : Nat := 4
def axHOMING : Nat := 5
def axGEARED : Nat := 6
def axFOLLOW : Nat := 7
def axDISABLED : Nat := 8

def axState (s : State) (n : Nat) : Nat := s.fld (MOT_STAT.STATE n)

/-- Axes may move (R594). -/
def motEnabled (s : State) : Bool := s.up fenceMOT && s.work == .survey && s.pwr.seq == .none

/-- STATE as it reads: outside SURVEY an axis is DISABLED unless it is still stopping. -/
def axShown (s : State) (n : Nat) : Nat :=
  if motEnabled s || axState s n == axSTOPPING then axState s n else axDISABLED

/-- MODE as it acts: 3 acts as POS. -/
def axMode (s : State) (n : Nat) : Nat := s.fld (MOT_CFG.MODE n) % 3

def motIrq (s : State) (r : FRef) (n : Nat) : State := plicRaise (s.setBitAt r n true) 23

/-- The position and the target, in microsteps. -/
def axPos (s : State) (n : Nat) : Int := s.sfld (MOT_POS.POS n)
def axTarget (s : State) (n : Nat) : Int := s.sfld (MOT_TARGET.POS n)

/-- Show what follows from the axis: VEL, DIR, AT_TARGET, MOVING. -/
def showAxis (s : State) (n : Nat) : State :=
  let a := axisOf s n
  let s := s.setFld (MOT_VEL.V n) (a.v / 1000000)
  let s := s.setBit (MOT_STAT.DIR n) a.neg
  let s := s.setBit (MOT_STAT.AT_TARGET n) (axPos s n == axTarget s n)
  s.setBitAt MOT_STATUS.MOVING n (a.v != 0)

def setAxState (s : State) (n st : Nat) : State := showAxis (s.setFld (MOT_STAT.STATE n) st) n

/-- TARGET, effective and staged. -/
def setTarget (s : State) (n : Nat) (t : Int) : State :=
  let s := s.setFld (MOT_TARGET.POS n) (ofSigned 32 t)
  { s with stg := s.stg.filter fun p => p.1 != MOT_TARGET.addr n }

/-- The kept remaining distance. -/
def setRemain (s : State) (n : Nat) : State := s.setFld (MOT_REMAIN.DIST n) (ofSigned 32 (axTarget s n - axPos s n))

/-- Discard the kept distance: TARGET becomes the position. -/
def dropRemain (s : State) (n : Nat) : State := (setTarget s n (axPos s n)).setFld (MOT_REMAIN.DIST n) 0

/-! ### Emitting microsteps (R598, R619, R630) -/

/-- Multiples of `d` that a way from `a` to `b` reaches. -/
def multiples (d a b : Int) : Nat := if a ≤ b then (b / d - a / d).toNat else ((-b) / d - (-a) / d).toNat

/-- The axis emits the microsteps from its position to `b`. -/
def emitSteps (s : State) (n : Nat) (b : Int) : State :=
  let a := axPos s n
  if a = b then s
  else
    let s := s.setFld (MOT_POS.POS n) (ofSigned 32 b)
    if s.bit (MOT_CFG.OUT n) then
      let k := multiples (s.fld (MOT_CFG.OUT_DIV n) + 1) a b
      modAxis s n fun x => { x with pulses := x.pulses + k, dirOut := decide (a < b) != s.bit (MOT_CFG.INV n) }
    else drvSteps s n (b - a)

/-- The axis comes to `p` (position units): the count follows when a microstep is crossed. A count that wraps takes the
position along. -/
def moveTo (s : State) (n : Nat) (p : Int) : State :=
  let c := axPos s n
  let b := if (c + 1) * stepUnits ≤ p then p / stepUnits else if p ≤ (c - 1) * stepUnits then -((-p) / stepUnits) else c
  let s := emitSteps s n b
  let p := p + (axPos s n - b) * stepUnits
  modAxis s n fun x => { x with p := p }

/-! ### The ramp (R597, R598) -/

/-- Ramp values as they act, in 24.8. -/
structure Ramp where
  lift : Nat
  kneeUp : Nat
  cruise : Nat
  kneeDn : Nat
  land : Nat
  accLo : Nat
  accHi : Nat
  decLo : Nat
  decHi : Nat

/-- 4,000,000 microsteps per s in 24.8 (R593). -/
def vMax (v : Nat) : Nat := Nat.min 1024000000 v

def rampOf (s : State) (n : Nat) : Ramp :=
  let cruise := vMax (s.fld (MOT_VCRUISE.V n))
  let up := Nat.min cruise (vMax (s.fld (MOT_VKNEE_UP.V n)))
  let dn := Nat.min cruise (vMax (s.fld (MOT_VKNEE_DN.V n)))
  { lift := Nat.max 1 (Nat.min up (vMax (s.fld (MOT_VLIFT.V n)))), kneeUp := up, cruise := cruise, kneeDn := dn,
    land := Nat.max 1 (Nat.min dn (vMax (s.fld (MOT_VLAND.V n)))),
    accLo := Nat.max 1 (s.fld (MOT_ACC_LO.A n)), accHi := Nat.max 1 (s.fld (MOT_ACC_HI.A n)),
    decLo := Nat.max 1 (s.fld (MOT_DEC_LO.A n)), decHi := Nat.max 1 (s.fld (MOT_DEC_HI.A n)) }

/-- decel(v) × 1 µs, `v` in velocity units. -/
def Ramp.decel (r : Ramp) (v : Nat) : Nat := if r.kneeDn * 1000000 < v then r.decHi else r.decLo

/-- stopdist(v) ≥ `ahead`, exactly: `v` in velocity units, `ahead` in position units. -/
def Ramp.mustBrake (r : Ramp) (v : Nat) (ahead : Int) : Bool :=
  let k := r.kneeDn * 1000000
  let l := r.land * 1000000
  if k < v then
    (2 * r.decHi * r.decLo : Nat) * ahead ≤ ((v * v - k * k) * r.decLo : Nat) + (((k * k : Nat) : Int) - (l * l : Nat)) * r.decHi
  else (2 * r.decLo : Nat) * ahead ≤ (v * v - l * l : Nat)

/-- Brake by one tick, to VLAND at least. -/
def Ramp.brake (r : Ramp) (v : Nat) : Nat := Nat.max (v - r.decel v) (r.land * 1000000)

/-- The velocity of a tick, R598's chain of cases. -/
def Ramp.next (r : Ramp) (v : Nat) (ahead : Int) : Nat :=
  if ahead ≤ 0 ∨ r.mustBrake v ahead then r.brake v
  else if r.cruise * 1000000 < v then Nat.max (v - r.decel v) (r.cruise * 1000000)
  else if v < r.kneeUp * 1000000 then Nat.min (v + r.accLo) (r.kneeUp * 1000000)
  else if v < r.cruise * 1000000 then Nat.min (v + r.accHi) (r.cruise * 1000000)
  else v

/-- One tick toward `t` (position units): the new position, velocity, direction, and whether the axis arrives. -/
def Ramp.tick (r : Ramp) (p : Int) (v : Nat) (neg : Bool) (t : Int) : Int × Nat × Bool × Bool :=
  if v = 0 ∧ p = t then (p, 0, neg, true)
  else
    let neg := if v = 0 then decide (t < p) else neg
    let v := if v = 0 then r.lift * 1000000 else v
    let ahead := if neg then p - t else t - p
    let v := r.next v ahead
    if 0 < ahead ∧ ahead ≤ v then (t, 0, neg, true)
    else
      let p := if neg then p - v else p + v
      (p, if ahead ≤ 0 ∧ v = r.land * 1000000 then 0 else v, neg, false)

/-! ### Groups (R608) -/

/-- An axis emits, or may emit at its next tick. -/
def axActive (s : State) (n : Nat) : Bool := [axMOVING, axSTOPPING, axHOMING, axGEARED, axFOLLOW].contains (axState s n)

/-- Members of the interpolation group in mode POS. -/
def groupMembers (s : State) : List Nat := (List.range 4).filter fun n => s.bitAt MOT_GRP.MEMBERS n && axMode s n == 0

/-- The axes that a command to axis `n` concerns: its group, or itself. -/
def axesWith (s : State) (n : Nat) : List Nat :=
  match s.mot.grp with
  | some g => if g.members.contains n then g.members else [n]
  | none => if (groupMembers s).contains n && !(groupMembers s).any (axActive s) then groupMembers s else [n]

/-- Bring the members of a group move to their places on the line for the lead's position. -/
def groupFollow (s : State) (g : GroupRun) : State :=
  let d := g.delta.getD g.lead 0
  let prog := (axisOf s g.lead).p - g.start.getD g.lead 0 * stepUnits
  g.members.foldl (fun s i =>
    if i = g.lead then s
    else
      let b := g.start.getD i 0 + (if d = 0 then 0 else roundDivI (g.delta.getD i 0 * prog * (if d < 0 then -1 else 1))
        ((if d < 0 then -d else d) * stepUnits))
      let v := if d = 0 then 0 else (axisOf s g.lead).v * (g.delta.getD i 0).natAbs / d.natAbs
      showAxis (moveTo (modAxis s i fun x => { x with v := v, neg := decide (g.delta.getD i 0 < 0) }) i (b * stepUnits)) i) s

/-- Start a group move to the members' effective targets, or a single move. The axes' bridges come on first. -/
def startLine (s : State) (ms : List Nat) : State :=
  let start := (List.range 4).map (axPos s)
  let delta := (List.range 4).map fun n => axTarget s n - axPos s n
  let lead := ms.foldl (fun b n => if (delta.getD b 0).natAbs < (delta.getD n 0).natAbs then n else b) (ms.headD 0)
  let s := ms.foldl (fun s n =>
    let s := modAxis s n fun x => { x with p := axPos s n * stepUnits, v := 0 }
    let s := (s.setFld (MOT_REMAIN.DIST n) 0).setBit (DRV_AX_STAT.STALL n) false
    setAxState (drvWake s n) n axMOVING) s
  if 2 ≤ ms.length then s.modMot fun m => { m with grp := some ⟨lead, ms, start, delta⟩, kept := none } else s

/-- A single axis starts, or goes on, toward its target from where it is. -/
def startMove (s : State) (n : Nat) : State :=
  let s := (s.setFld (MOT_REMAIN.DIST n) 0).setBit (DRV_AX_STAT.STALL n) false
  setAxState (drvWake s n) n axMOVING

/-- The line of a stopped group, where the axes `ms` still stand on it and its targets are theirs. -/
def keptLine (s : State) (ms : List Nat) : Option GroupRun :=
  match s.mot.kept with
  | some g =>
    if g.members = ms ∧ ms.all (fun n => axTarget s n == g.start.getD n 0 + g.delta.getD n 0 && s.fld (MOT_STAT.CAUSE n) != 6)
    then some g else none
  | none => none

/-- A stopped group goes on along its original line (R603). -/
def resumeLine (s : State) (g : GroupRun) : State :=
  g.members.foldl startMove (s.modMot fun m => { m with grp := some g, kept := none })

/-! ### Modes of an axis at rest (R595, R610, R617) -/

def tchCount (s : State) (i : Nat) : Int := s.sfld (TCH_POS.POS i)

/-- Latch the encoder reference (R620). -/
def latchEncoder (s : State) (n : Nat) : State :=
  modAxis s n fun x => { x with e0 := axPos s n, k0 := tchCount s (s.fld (MOT_ENC_CFG.INPUT n)) }

/-- ENCPOS (R620). -/
def encPos (s : State) (n : Nat) : Int :=
  let a := axisOf s n
  let cnt := toSigned 32 (ofSigned 32 (tchCount s (s.fld (MOT_ENC_CFG.INPUT n)) - a.k0))
  a.e0 + roundDivI (s.sfld (MOT_ENC_MULT.MULT n) * cnt) 65536

/-- The encoder deviation exceeds its window (R621). -/
def devOver (s : State) (n : Nat) : Bool :=
  s.bit (MOT_ENC_CFG.EN n) && decide (Nat.max 1 (s.fld (MOT_ENC_CFG.DEV n)) < (axPos s n - encPos s n).natAbs)

/-- Keep since when it has done so without a break. -/
def devNote (s : State) (n : Nat) : State :=
  modAxis s n fun x => { x with devAt := if devOver s n then some (x.devAt.getD s.uptime) else none }

/-- Ratio GR_k and threshold GM_k. -/
def gearGM (s : State) (n k : Nat) : Int := s.sfld (MOT_GM.M n k)
def gearGR (s : State) (n k : Nat) : Int := s.sfld (MOT_GR.RATIO n k)

/-- Entries of the table: it ends at the first whose GM is not above the one before (R611). -/
def gearLen (s : State) (n : Nat) : Nat :=
  let m := s.fld (MOT_GEAR_CFG.NENT n) + 1
  ((List.range m).find? fun k => 2 ≤ k && gearGM s n k ≤ gearGM s n (k - 1)).getD m

/-- The entry that applies at `m`. -/
def gearEntry (s : State) (n : Nat) (m : Int) : Nat :=
  (List.range (gearLen s n)).foldl (fun b k => if k ≠ 0 ∧ gearGM s n k ≤ m then k else b) 0

/-- An integral of the ratio, in 1/65,536 microstep. -/
def gearSum (s : State) (n : Nat) (m : Int) : Int :=
  let len := gearLen s n
  let seg := fun (k : Nat) =>
    let lo := gearGM s n k
    let hi := if k + 1 < len then gearGM s n (k + 1) else m
    if m ≤ lo then 0 else gearGR s n k * ((if m < hi ∨ k + 1 = len then m else hi) - lo)
  let first := gearGR s n 0 * (if 1 < len ∧ gearGM s n 1 < m then gearGM s n 1 else m)
  (List.range len).foldl (fun a k => if k = 0 then a else a + seg k) first

/-- F(m) (R611). -/
def gearF (s : State) (n : Nat) (m : Int) : Int := gearSum s n m - gearSum s n 0

/-- The relative master position (R610). -/
def gearRel (s : State) (n : Nat) : Int :=
  toSigned 32 (ofSigned 32 (tchCount s (s.fld (MOT_GEAR_CFG.MASTER n)) - (axisOf s n).gear.c0))

/-- An axis at rest takes up its mode in SURVEY. -/
def enterAxMode (s : State) (n : Nat) : State :=
  let s := modAxis s n fun x => { x with v := 0 }
  match axMode s n with
  | 1 =>
    let g : Gearing := { c0 := tchCount s (s.fld (MOT_GEAR_CFG.MASTER n)), p0 := axPos s n }
    let s := modAxis s n fun x => { x with gear := g, p := axPos s n * stepUnits }
    let s := (s.setFld (MOT_GEAR_REL.M n) 0).setFld (MOT_GEAR_LAG.LAG n) 0
    setAxState (drvWake (dropRemain s n) n) n axGEARED
  | 2 => setAxState (modAxis (dropRemain s n) n fun x => { x with ftgt := axPos s n, p := axPos s n * stepUnits }) n axFOLLOW
  | _ => setAxState (dropRemain s n) n axIDLE

/-- An axis at rest becomes IDLE, its kept distance discarded (R594, R604). -/
def axisIdle (s : State) (n : Nat) : State := setAxState (dropRemain (modAxis s n fun x => { x with v := 0 }) n) n axIDLE

/-! ### Stops (R600 to R604, R607) -/

/-- Record the cause of a stop. -/
def noteStop (s : State) (n cause : Nat) : State := motIrq (s.setFld (MOT_STAT.CAUSE n) cause) MOT_IRQ.HALT n

/-- A homing fails: its flag and count, DONE for a homing that has ended (Table 18-6), and the event it owes. -/
def homeFail (s : State) (n : Nat) : State :=
  let s := motIrq s MOT_IRQ.DONE n
  let s := ((s.setBit (MOT_STAT.HOME_FAIL n) true).count (MOT_CNT.HOMEFAIL n)).setFld (MOT_STAT.HPHASE n) 0
  s.modMot fun m => { m with owed := m.owed ++ [(Src.MOT_AXIS, n)] }

/-- Halt one axis: at rest at once, POS_SUSPECT where it was moving; the distance kept or discarded. A homing fails and
leaves it IDLE. -/
def halt1 (s : State) (cause : Nat) (keep : Bool) (n : Nat) : State :=
  let moving := (axisOf s n).v != 0 || s.bitAt MOT_STATUS.MOVING n
  let homing := axState s n == axHOMING || s.fld (MOT_STAT.HPHASE n) != 0
  let s := noteStop s n cause
  let s := s.count (MOT_CNT.HALTS n)
  let s := if moving then s.setBit (MOT_STAT.POS_SUSPECT n) true else s
  let s := modAxis s n fun x => { x with v := 0, p := axPos s n * stepUnits, hom := {}, gear := {} }
  if homing then setAxState (dropRemain (homeFail s n) n) n axIDLE
  else setAxState (if keep then setRemain s n else dropRemain s n) n axHALTED

/-- Halt axis `n` with its group, whose other members show GROUP. -/
def haltWith (s : State) (n cause : Nat) (keep : Bool) : State :=
  let ms := match s.mot.grp with | some g => if g.members.contains n then g.members else [n] | none => [n]
  let s := if ms.length = 1 then s else s.modMot fun m => { m with grp := none, kept := if keep then m.grp else none }
  ms.foldl (fun s i => halt1 s (if i = n then cause else 12) keep i) s

/-- Axes may move but for a fence of MOT itself. -/
def motMode (s : State) : Bool := s.running && s.work == .survey && s.pwr.seq == .none

/-- Halt every axis that may move or is still stopping (TRIP, TRUNK_STOP, FENCE). -/
def haltAll (s : State) (cause : Nat) : State :=
  let on := motEnabled s || (cause == 13 && motMode s)
  let s := s.modMot fun m => { m with grp := none, kept := if m.grp.isSome then m.grp else m.kept }
  (List.range 4).foldl (fun s n => if on || axActive s n then halt1 s cause true n else s) s

/-- Begin a ramped stop of one axis. A homing fails. -/
def ramp1 (s : State) (cause : Nat) (next : StopThen) (n : Nat) : State :=
  let homing := axState s n == axHOMING
  let s := if cause = 0 then s else noteStop s n cause
  let s := if homing then homeFail s n else s
  let s := modAxis s n fun x => { x with next := if homing then .idle else next, hom := {} }
  setAxState s n axSTOPPING

/-- A ramped stop of axis `n` with its group. -/
def rampWith (s : State) (n cause : Nat) (next : StopThen) : State :=
  let ms := match s.mot.grp with | some g => if g.members.contains n then g.members else [n] | none => [n]
  ms.foldl (fun s i => ramp1 s (if i = n ∨ cause = 0 then cause else 12) next i) s

/-- Each moving axis stops on its ramp: SURVEY is left, or power fails. -/
def rampAll (s : State) (cause : Nat) : State :=
  (List.range 4).foldl (fun s n => if axActive s n then ramp1 s cause (if cause = 14 then .idle else .stopped) n else s) s

/-! ### The history (R623) -/

/-- The position of axis `n` at mill time `t`, where the history covers it. -/
def histAt (n t : Nat) : List (Nat × List Int) → Option Int
  | (t1, p1) :: (t0, p0) :: rest =>
    if t1 ≤ t then some (p1.getD n 0)
    else if t0 ≤ t then
      let a := p0.getD n 0
      some (a + roundDivI ((p1.getD n 0 - a) * ((t : Int) - t0)) (Nat.max 1 (t1 - t0)))
    else histAt n t ((t0, p0) :: rest)
  | [(t0, p0)] => if t0 ≤ t then some (p0.getD n 0) else none
  | [] => none

/-- What PACK puts into a record for axis `n` at time `t`: none when the history does not reach there. -/
def axisPosAt (s : State) (n t : Nat) : Option Nat :=
  match s.mot.hist with
  | [] => none
  | (t1, _) :: _ => if t1 + 100000 < t then none else (histAt n t s.mot.hist).map (ofSigned 32)

/-- A re-base of axis `n` by `d` microsteps: earlier positions are reported on the new scale. -/
def shiftHistory (s : State) (n : Nat) (d : Int) : State :=
  s.modMot fun m => { m with hist := m.hist.map fun e => (e.1, modAt e.2 n (· + d)) }

/-- Give an axis at rest a new position (R606, R624). -/
def rebase (s : State) (n : Nat) (d : Int) : State :=
  let q := toSigned 32 (ofSigned 32 (axPos s n + d))
  let s := s.setFld (MOT_POS.POS n) (ofSigned 32 q)
  let s := shiftHistory (modAxis s n fun x => { x with p := q * stepUnits, v := 0 }) n d
  let s := ((setTarget s n q).setBit (MOT_STAT.POS_LOST n) false).setBit (MOT_STAT.POS_SUSPECT n) false
  latchEncoder s n

/-! ### Homing (R605 to R607) -/

/-- Start phase `ph` of a homing. -/
def homePhase (s : State) (n ph : Nat) : State :=
  let s := s.setFld (MOT_STAT.HPHASE n) ph
  modAxis s n fun x => { x with v := 0, neg := s.bit (MOT_HOME_CFG.HDIR n) == decide (ph = 2),
                                hom := { x.hom with from_ := x.p, brake := false, seen := false,
                                                    clear := if ph = 2 ∧ !s.bit (MOT_STAT.HOME n) then some x.p else none } }

/-- The reference condition or event comes at position `at_`: the phase ends; in phase 3 the position is latched. -/
def homeReference (s : State) (n : Nat) (at_ : Int) : State :=
  if axState s n ≠ axHOMING ∨ (axisOf s n).hom.brake then s
  else
    match s.fld (MOT_STAT.HPHASE n) with
    | 1 => modAxis s n fun x => { x with hom := { x.hom with brake := true } }
    | 3 => (modAxis s n fun x => { x with hom := { x.hom with brake := true, latch := some at_ } }).setFld (MOT_STAT.HPHASE n) 4
    | _ => s

/-- The homing ends at rest (R606). -/
def homeSet (s : State) (n : Nat) : State :=
  let lat := (axisOf s n).hom.latch.getD (axPos s n)
  let s := rebase s n (s.sfld (MOT_HOFFSET.POS n) - lat)
  let s := (s.setBit (MOT_STAT.HOME_OK n) true).setFld (MOT_STAT.HPHASE n) 0
  let s := modAxis s n fun x => { x with hom := {} }
  motIrq (setAxState s n axIDLE) MOT_IRQ.DONE n

/-- A homing axis comes to rest at the end of a phase. -/
def homeRest (s : State) (n : Nat) : State :=
  match s.fld (MOT_STAT.HPHASE n) with
  | 1 => homePhase s n 2
  | 2 => homePhase s n 3
  | _ => homeSet s n

/-- One tick of a homing axis: toward or away at its speed, with ACC_LO and DEC_LO; a phase that travels HMAX without its
end fails. -/
def homeTick (s : State) (n : Nat) : State :=
  let a := axisOf s n
  let r := rampOf s n
  let ph := s.fld (MOT_STAT.HPHASE n)
  let top := Nat.max 1 (vMax (s.fld (if ph = 1 then MOT_HVFAST.V n else MOT_HVSLOW.V n))) * 1000000
  let land := r.land * 1000000
  if a.hom.brake then
    let v := Nat.max (a.v - r.decLo) land
    let s := moveTo s n (if a.v = 0 then a.p else if a.neg then a.p - v else a.p + v)
    if a.v = 0 ∨ v ≤ land then homeRest (modAxis s n fun x => { x with v := 0 }) n
    else modAxis s n fun x => { x with v := v }
  else
    let v := if a.v = 0 then Nat.min (r.lift * 1000000) top
      else if a.v < top then Nat.min (a.v + r.accLo) top else Nat.max (a.v - r.decLo) top
    let s := moveTo (modAxis s n fun x => { x with v := v }) n (if a.neg then a.p - v else a.p + v)
    let a := axisOf s n
    let gone := ((a.p - a.hom.from_).natAbs : Int)
    let meth := s.fld (MOT_HOME_CFG.METHOD n)
    let backDone : Bool := ph == 2 &&
      (if meth ≤ 1 then
        match a.hom.clear with
        | some c => decide (s.fld (MOT_HBACK.DIST n) * stepUnits ≤ ((a.p - c).natAbs : Int))
        | none => false
       else decide (s.fld (MOT_HBACK.DIST n) * stepUnits ≤ gone))
    if backDone then modAxis s n fun x => { x with hom := { x.hom with brake := true } }
    else if s.fld (MOT_HMAX.DIST n) * stepUnits ≤ gone then ramp1 s 0 .idle n
    else s

/-- HOME's level, already filtered (R606): the position taken is that of the first sample of the run, two ticks ago. -/
def homeInput (s : State) (n : Nat) (high : Bool) : State :=
  let active := high != s.bit (MOT_CFG.HOME_POL n)
  let s := s.setBit (MOT_STAT.HOME n) active
  let a := axisOf s n
  let meth := s.fld (MOT_HOME_CFG.METHOD n)
  if axState s n ≠ axHOMING ∨ 2 ≤ meth then s
  else if !active then
    (if s.fld (MOT_STAT.HPHASE n) = 2 then modAxis s n fun x => { x with hom := { x.hom with clear := some x.p } } else s)
  else if s.fld (MOT_STAT.HPHASE n) = 3 ∧ meth = 1 then modAxis s n fun x => { x with hom := { x.hom with seen := true } }
  else homeReference s n (a.trail.getD 2 (axPos s n))

/-- An index event of input `i` (R605). -/
def homeIndex (s : State) (i : Nat) : State :=
  (List.range 4).foldl (fun s n =>
    let meth := s.fld (MOT_HOME_CFG.METHOD n)
    if s.fld (MOT_ENC_CFG.INPUT n) = i ∧ axState s n = axHOMING ∧
        (meth = 2 ∨ (meth = 1 ∧ (axisOf s n).hom.seen ∧ s.fld (MOT_STAT.HPHASE n) = 3))
    then homeReference s n (axPos s n) else s) s

/-! ### Trip, power and resets -/

/-- An input of the trip path becomes active; every axis halts (R602). -/
def tripAll (s : State) (r : FRef) (cause : Nat) : State := haltAll (tripSet s r) cause

/-- Input TRIPN follows the land (R29, R650). -/
def tripLandFollows (s : State) : State :=
  if tripLandLow s then (if s.bit DRV_TRIP.TRIPN then s else tripAll s DRV_TRIP.TRIPN 4) else tripClear s DRV_TRIP.TRIPN

/-- DRV or MOT is fenced (Table 06-4): the bridges are off through the trip path, the axes stopped. A fence of MOT uses the
same input as one of DRV (DEDUCED, log entry 62). -/
def tripFence (s : State) (cause : Nat) : State := haltAll (tripSet s DRV_TRIP.FENCE) cause

/-- The fence of DRV or MOT lifts: the input is released once neither is fenced. -/
def tripUnfence (s : State) : State :=
  if s.fenced fenceDRV || s.fenced fenceMOT then s else tripClear s DRV_TRIP.FENCE

/-- Bark has reacted GRAVE (R650). -/
def driveTrip (s : State) : State := tripAll s DRV_TRIP.GRAVE 4

/-- Power fails: axes stop on their ramps; those at rest park (R80, R625). -/
def stopAxesForPowerFail (s : State) : State :=
  let s := rampAll s 14
  (List.range 4).foldl (fun s n => if axActive s n then s else parkAxis s n) s

/-- Axes still moving 10 ms after power failed are cut (Table 03-7, R625). -/
def cutMovingAxes (s : State) : State :=
  let s := s.modMot fun m => { m with grp := none }
  (List.range 4).foldl (fun s n =>
    if axActive s n then
      let s := (s.setBitAt PWR_HOLD_STAT.AXCUT n true).setBit (MOT_STAT.POS_SUSPECT n) true
      let s := modAxis s n fun x => { x with v := 0, p := axPos s n * stepUnits }
      parkAxis (setAxState (dropRemain s n) n axIDLE) n
    else s) s

/-- The park step: every bridge off. -/
def parkAllAxes (s : State) : State := (List.range 4).foldl parkAxis s

/-- A reset of the node or of MOT catches axes that move: POS_SUSPECT (R601, R626). -/
def nodeResetAxes (s : State) : State :=
  (List.range 4).foldl (fun s n =>
    if (axisOf s n).v ≠ 0 || s.bitAt MOT_STATUS.MOVING n then s.setBit (MOT_STAT.POS_SUSPECT n) true else s) s

/-- After a reset each axis stands at its retained position, which is its TARGET (R625). -/
def axesAtRest (s : State) : State :=
  (List.range 4).foldl (fun s n =>
    let q := axPos s n
    let s := s.setFld (MOT_TARGET.POS n) (ofSigned 32 q)
    modAxis s n fun x => { x with p := q * stepUnits, e0 := q, pulses := x.pulses }) s

/-- The unit reset of MOT (R626). -/
def resetMotion (s : State) : State :=
  let s := (nodeResetAxes s).resetRegs MOT_STATUS.addr (MOT_STATUS.addr + 0x10000)
  let s := { s with mot := {} }
  let s := axesAtRest s
  if tripActive s then s.setBit MOT_STATUS.TRIP true else s

/-- The trip inputs that outlast a reset of the drive stage: TRIP_N low, GRAVE, STOP where latched, a fence. -/
def tripRestore (s : State) (w : Word) : State :=
  let keep := (w &&& 0xE) ||| (if tripLandLow s then 1 else 0)
  if keep = 0 then s.setBit MOT_STATUS.TRIP false
  else (((s.setWord DRV_TRIP.addr (keep ||| 0x100)).setBit DRV_STATUS.TRIP true).setBit MOT_STATUS.TRIP true)

/-- The unit reset of DRV: faults gone, tables at the sine, EIDX kept. -/
def resetDrive (s : State) : State :=
  let w := s.word DRV_TRIP.addr
  let s := s.resetRegs DRV_STATUS.addr (DRV_STATUS.addr + 0x10000)
  let s := { s with indTbl := {}, drv := { tripN := s.drv.tripN, otpHot := s.drv.otpHot, clkLost := s.drv.clkLost } }
  drvRefresh (tripRestore s w)

/-- What rails off and a node reset leave of both: TRIP_N and the P-die's condition are outside the node's reset, and act
again when the drive stage starts. -/
def clearAxes (s : State) : State :=
  axesAtRest { s with mot := {}, drv := { tripN := s.drv.tripN, otpHot := s.drv.otpHot, clkLost := s.drv.clkLost } }

/-- The mode has changed from state `old` (R594): SURVEY left, moving axes stop on their ramps; SURVEY entered, axes with a
kept distance are STOPPED, the others IDLE at their position. -/
def motionMode (old s : State) : State :=
  let s := if motEnabled old && !motEnabled s then rampAll s 2 else s
  let s := if !motEnabled old && motEnabled s then
      (List.range 4).foldl (fun s n =>
        if axState s n = axSTOPPING then s
        else if s.sfld (MOT_REMAIN.DIST n) ≠ 0 then setAxState s n axSTOPPED
        else axisIdle s n) s
    else s
  drvRefresh (s.setBit MOT_STATUS.ENABLED (motEnabled s))

end Sys2Proof.Machine
end

