-- ==== Sys2Proof/Machine/Tiles.lean ====
section
/-! DEFINITION. Canopy (chapter 08): the tiles STAT, ALRM and PACK, the way words take through Canopy, tuning, and what
fences and image apply do to it. -/

namespace Sys2Proof.Machine

/-! ### STAT (R259, R260) -/

def statRevs (s : State) (b t : Nat) : Bool := tileP s b t 0 7 1 == 1

def statLen (s : State) (b t : Nat) : Nat := 2 ^ clampN 6 20 (tileP s b t 0 8 5)

/-- Close the block in progress. -/
def statClose (s : State) (b t : Nat) (c : Ctx) (gap invalid : Bool) : Ctx :=
  if c.buf.isEmpty then c
  else
    let excl := (c.buf.filter (·.settle)).length
    let len := if statRevs s b t then c.buf.length else statLen s b t
    { c with buf := [], revs := 0,
             done := c.done ++ [{ smps := c.buf, t := (c.buf.headD {}).t16, excl := excl, clip := c.buf.any (·.clip),
                                  sflt := c.buf.any (·.sflt), mark := c.buf.any (·.mark), gap := gap,
                                  invalid := invalid || 2 * (c.buf.length - excl) < len }] }

/-- An input word of a STAT context. -/
def statTake (s : State) (b t k : Nat) (w : SWord) : State :=
  let key := ctxKey b t k
  let c := ctxOf s key
  let c := if w.isGap then statClose s b t c true false else c
  let c := trackTime c w
  if w.ty ≠ 0 ∧ w.ty ≠ 1 ∨ (statRevs s b t ∧ c.buf.isEmpty ∧ !w.first) then setCtx s key c
  else
    let c := stepTime16 { c with buf := c.buf ++ [smpOf c w] } w
    let c := if statRevs s b t ∧ w.last then { c with revs := c.revs + 1 } else c
    let ends := if statRevs s b t then tileP s b t 0 16 8 + 1 ≤ c.revs else statLen s b t ≤ c.buf.length
    setCtx s key (if ends then statClose s b t c false false else c)

/-- The value of a sample: full-scale units for SAMPLE, the value itself for FLOAT. -/
def smpValue (x : Smp) : Option Rat := if x.isFloat then f32ToRat x.w else some (mkRat (dataOf x.w) (2 ^ 23))

def ratMax (l : List Rat) : Rat := l.foldl (fun m x => if m < x then x else m) (l.headD 0)
def ratMin (l : List Rat) : Rat := l.foldl (fun m x => if x < m then x else m) (l.headD 0)
def ratAbs (x : Rat) : Rat := if x < 0 then -x else x
/-- A sum accumulated in binary64 (R259). -/
def f64Sum (l : List Rat) : Rat := l.foldl (fun a x => f64Round (a + x)) 0

def f64Mean (l : List Rat) : Rat := f64Round (f64Sum l / (l.length : Rat))

/-- x^n in binary64. -/
def f64Pow (x : Rat) (n : Nat) : Rat := (List.range (n - 1)).foldl (fun p _ => f64Round (p * x)) x

/-- Statistic `i` of SEL order over the values `xs` (R259); `none` where the formula divides by zero. Terms, sums and means
are binary64, the central moments about MEAN; the formula's result is rounded once, to binary32 (DEDUCED, log entry 10). -/
def statistic (xs : List Rat) (i : Nat) : Option Word :=
  let mean := f64Mean xs
  let m := fun (j : Nat) => f64Mean (xs.map fun x => f64Pow (f64Round (x - mean)) j)
  let sq := f64Mean (xs.map fun x => f64Pow x 2)
  let peak := ratMax (xs.map ratAbs)
  match i with
  | 0 => some (f32OfSqrt sq)
  | 1 => some (f32OfRat peak)
  | 2 => some (f32OfRat (ratMax xs - ratMin xs))
  | 3 => if sq = 0 then none else some (f32OfSqrt (peak * peak / sq))
  | 4 => if m 2 = 0 then none else some (f32OfRat (m 4 / (m 2 * m 2)))
  | 5 => if m 2 = 0 then none
      else
        let r := f32OfSqrt (m 3 * m 3 / (m 2 * m 2 * m 2))
        some (if m 3 < 0 then r ||| 0x80000000 else r)
  | _ => some (f32OfRat mean)

/-- The words of the enabled statistics. No valid sample gives quiet NaNs; where the rules state no result (a division
by zero, a value that is no number) a free value stands (log entry 11). -/
def statWords (s : State) (sel : Nat) (valid : List Smp) : List Word × State :=
  let is := (List.range 7).filter (nbit sel)
  if valid.isEmpty then (is.map fun _ => f32QNaN, s)
  else
    let xs := valid.mapM smpValue
    is.foldl (fun (ws, s) i =>
      match xs.bind fun xs => statistic xs i with
      | some w => (ws ++ [w], s)
      | none =>
        let (v, s) := s.fresh
        (ws ++ [BitVec.ofNat 32 v], s)) (([] : List Word), s)

/-- The set of a block (R260). -/
def statSet (s : State) (b t k : Nat) (f : Blk) : List SWord × State :=
  let src := srcOf s (ctxKey b t k)
  let valid := f.smps.filter fun x => !x.settle
  let (ws, s) := statWords s (tileP s b t 0 0 7) valid
  let s := if f.invalid then s.count (CNP_T_CNT.EVT b t) else s
  let head := timePair (toNs f.t) src ++
    [ctrlWord 3 (infoWord f.excl f.clip f.sflt f.gap f.invalid false) src, ctrlWord 4 valid.length src]
  (asSet (head ++ ws.map fun w => { w := w, ty := 1, mark := f.mark, src := src }), s)

/-! ### ALRM (R261 to R264) -/

def pointOf (s : State) (g : Nat) : Point := SMap.get (fun _ => ({} : Point)) s.cnp.pts g

def setPoint (s : State) (g : Nat) (p : Point) : State :=
  s.modCnp fun x => { x with pts := SMap.set (fun _ => ({} : Point)) x.pts g p }

/-- Word `j` of point `k` (Table 08-22). -/
def pointWord (s : State) (b k j : Nat) : Word := tileTab s b 14 (4 * k + j)

/-- Points of the tile that watch context `k` and, for a set, value index `idx`. -/
def pointsOn (s : State) (b k : Nat) (idx : Option Nat) : List Nat :=
  (List.range 32).filter fun p =>
    let w := pointWord s b p 0
    wordField w 0 5 == k && wordField w 5 1 == 1 &&
      (match idx with | some i => wordField w 8 16 == i | none => true)

/-- A value for some points waits at each (R261). -/
def pushValue (s : State) (b : Nat) (ps : List Nat) (v : AlrmVal) : State :=
  ps.foldl (fun s p =>
    let x := pointOf s (32 * b + p)
    setPoint s (32 * b + p) { x with q := x.q ++ [v] }) s

/-- An input word of an ALRM context: SAMPLE words and the values of a set become values of the points. -/
def alrmTake (s : State) (b k : Nat) (w : SWord) : State :=
  let key := ctxKey b 14 k
  let c := trackTime (ctxOf s key) w
  if w.ty = 3 then
    setCtx s key (match w.ck with
      | 1 => { c with setT := c.t16 }
      | 3 => { c with idx := some 0, inval := nbit w.w.toNat 27, clip := nbit w.w.toNat 24, sflt := nbit w.w.toNat 25 }
      | 4 => { c with idx := some 0 }
      | _ => c)
  else if w.ty = 0 then
    let x := smpOf c w
    let v : AlrmVal := { valid := !x.settle && !x.sflt, v := f32OfRat (mkRat (dataOf w.w) (2 ^ 23)), t := toNs x.t16,
                            clip := nbit w.w.toNat 6, sflt := x.sflt }
    pushValue (setCtx s key (stepTime16 c w)) b (pointsOn s b k none) v
  else
    match c.idx with
    | none => setCtx s key c
    | some i =>
      let v : AlrmVal := { valid := !c.inval && !f32IsNaN w.w, v := w.w, t := toNs c.setT, clip := c.clip,
                            sflt := c.sflt }
      pushValue (setCtx s key { c with idx := some (i + 1) }) b (pointsOn s b k (some i)) v

/-- A binary32 word as a number; infinities lie beyond every finite one, a NaN is none. -/
def f32Val (w : Word) : Option Rat :=
  if f32IsNaN w then none
  else match f32ToRat w with
    | some q => some q
    | none => some (if w.getLsbD 31 then -((2 : Rat) ^ 200) else (2 : Rat) ^ 200)

/-- One level after a valid value `v`: on, and its count of consecutive values toward a change (R262). -/
def judgeLevel (low : Bool) (pset pclr hyst : Nat) (v : Rat) (thr : Option Rat) (on : Bool) (n : Nat) : Bool × Nat :=
  match thr with
  | none => (on, 0)
  | some th =>
    let h := ratAbs th * mkRat hyst 256
    let goes := if on then (if low then decide (th + h < v) else decide (v < th - h))
      else if low then decide (v < th) else decide (th < v)
    if !goes then (on, 0)
    else if (if on then Nat.max 1 pclr else Nat.max 1 pset) ≤ n + 1 then (!on, 0) else (on, n + 1)

/-- State of a point as Tt_ASTATE holds it. -/
def pointState (s : State) (b k : Nat) : Nat := s.fld (CNP_T_ASTATE.ST b 14 (k / 16)) / 4 ^ (k % 16) % 4

def setPointState (s : State) (b k n : Nat) : State :=
  let r := CNP_T_ASTATE.ST b 14 (k / 16)
  let v := s.fld r
  s.setFld r (v - v / 4 ^ (k % 16) % 4 * 4 ^ (k % 16) + n * 4 ^ (k % 16))

/-- Alarm events of bough `b` waiting for the record engine (R264). -/
def alarmsWaiting (s : State) (b : Nat) : Nat :=
  (s.eng.offered.filter fun p => match p.1 with | .alarm g => g / 32 == b | _ => false).length

/-- An alarm event: the record of Table 10-4, with CLIP and SFLT as the deciding value has them (R299), goes to the record engine unless 64 wait (R264, R302). A change to ALERT or
DANGER triggers the captures on this point (R328). -/
def alarmEvent (s : State) (b k old new : Nat) (v thr : Word) (t : Nat) : State :=
  let g := 32 * b + k
  let (q, s) := takeSeq s (64 + g)
  let s :=
    if 64 ≤ alarmsWaiting s b then s.count (CNP_T_CNT.EVT b 14)
    else
      let w0 : Word := BitVec.ofNat 32 (g + 256 * new + 1024 * old)
      let p := pointOf s g
      let fl := flagFINAL + unlockedFlag s + (if p.lastClip then flagCLIP else 0) + (if p.lastSflt then flagSFLT else 0)
      offerRecord s (.alarm g) { ty := 0xE0, source := 0xE000 + g, flags := fl, seq := q, time := t,
                                 payload := [w0, v, thr, 0] }
  if new = 1 ∨ new = 2 then
    ((List.range 32).filter fun n => s.bit (REC_CAP_CFG.PT_EN n) && s.fld (REC_CAP_CFG.PT n) == g).foldl triggerCapture s
  else s

/-- The state that the level flags give (R262). -/
def flagState (p : Point) : Nat := if p.danger then 2 else if p.alert then 1 else 0

/-- Bring the state of point `k` up to its flags: LATCH keeps it from falling (R263); a change sends an event. `thr` says
which level's threshold the event carries. -/
def settlePoint (s : State) (b k : Nat) (p : Point) (danger : Bool) : State :=
  let old := pointState s b k
  let want := flagState p
  let held := wordField (pointWord s b k 1) 24 1 = 1 ∧ old ≠ 3 ∧ want < old
  let s := s.setBitAt (CNP_T_AACK.LATCHED b 14) k held
  if held ∨ want = old then s
  else
    let thr : Word := if old = 3 ∧ want = 0 then 0 else pointWord s b k (if danger then 3 else 2)
    alarmEvent (setPointState s b k want) b k old want p.lastV thr p.lastT

/-- A write to Tt_AACK releases the points named (R263). -/
def writeAack (s : State) (b : Nat) (v : Word) : State :=
  (List.range 32).foldl (fun s k =>
    if v.getLsbD k && s.bitAt (CNP_T_AACK.LATCHED b 14) k then
      let p := pointOf s (32 * b + k)
      let old := pointState s b k
      let new := flagState p
      let s := setPointState (s.setBitAt (CNP_T_AACK.LATCHED b 14) k false) b k new
      alarmEvent s b k old new p.lastV (pointWord s b k (if old = 2 then 3 else 2)) p.lastT
    else s) s

/-- A point goes OFF. -/
def pointOff (s : State) (b k : Nat) : State :=
  let old := pointState s b k
  let p := pointOf s (32 * b + k)
  if old = 3 then s
  else alarmEvent ((setPointState s b k 3).setBitAt (CNP_T_AACK.LATCHED b 14) k false) b k old 3 p.lastV 0 p.lastT

/-! ### PACK (R265 to R268) -/

/-- Word `j` of PACK context `k` (Table 08-24). -/
def packWord (s : State) (b k j : Nat) : Word := tileTab s b 15 (2 * k + j)

/-- MODE, 3 acting as SET: 0 SET, 1 SAMPLES, 2 REV. -/
def packMode (s : State) (b k : Nat) : Nat := wordField (packWord s b k 0) 1 2 % 3

/-- Close the open record; `gap` closed it, `final` says that no part follows. The parts of one set share CLIP and SFLT
(R299). -/
def packClose (c : Ctx) (gap final : Bool) : Ctx :=
  if c.words.isEmpty then { c with openGap := c.openGap || gap }
  else
    let f : Blk := { words := c.words, t := c.packT.getD 0, excl := c.excl, clip := c.clip, sflt := c.sflt,
                     gap := gap || c.openGap, part := c.part, split := c.part != 0 || !final, final := final }
    { c with done := c.done ++ [f], words := [], nsmp := if final then 0 else c.nsmp, part := if final then 0 else c.part + 1,
             packT := if final then none else c.packT, excl := 0, clip := c.clip && !final, sflt := c.sflt && !final,
             openGap := gap }

/-- A word enters the open record, after closing a part that is full (R265). -/
def packAppend (c : Ctx) (w : SWord) : Ctx :=
  let c := if 16384 ≤ c.words.length then packClose c false false else c
  let info := w.ty = 3 ∧ w.ck = 3
  let n := w.w.toNat
  { c with words := c.words ++ [w.w], nsmp := if w.ty = 0 then c.nsmp + 1 else c.nsmp,
           excl := if info then c.excl + n % 2 ^ 24 else c.excl,
           clip := c.clip || (info && nbit n 24) || (w.ty == 0 && nbit n 6),
           sflt := c.sflt || (info && nbit n 25) || (w.ty == 0 && nbit n 5) }

/-- A THI word: the TIME pair is the record's time, or in SAMPLES closes a record it does not continue (R265, R266). -/
def packTime (c : Ctx) (mode expected : Nat) : Ctx :=
  if mode = 1 then
    if !c.words.isEmpty ∧ (c.t16 + 16 < expected ∨ expected + 16 < c.t16) then packClose c false true else c
  else if c.words.isEmpty ∧ c.part = 0 then { c with packT := some (toNs c.t16) } else c

/-- The time of a record that no TIME pair opens, as one of stamp words: the rules give none, a free value (log entry 19). -/
def packUntimed (s : State) (c : Ctx) : Ctx × State :=
  if c.words.isEmpty && c.part == 0 && c.packT.isNone then
    let (v, s) := s.fresh
    ({ c with packT := some (v % 2 ^ 64) }, s)
  else (c, s)

/-- An input word of a PACK context. -/
def packTake (s : State) (b k : Nat) (w : SWord) : State :=
  let key := ctxKey b 15 k
  if wordField (packWord s b k 0) 0 1 = 0 then s
  else
    let mode := packMode s b k
    let c := ctxOf s key
    let c := if w.isGap then packClose c true true else c
    let expected := c.t16
    let c := trackTime c w
    if w.ty = 3 ∧ (w.ck = 0 ∨ w.ck = 5) then setCtx s key c
    else if w.ty = 3 ∧ w.ck = 1 then setCtx s key (packTime c mode expected)
    else
      let c := if mode = 1 ∧ w.ty = 0 ∧ c.nsmp = 0 then { c with packT := some (toNs c.t16) } else c
      let (c, s) := if w.ty = 2 then packUntimed s c else (c, s)
      let c := stepTime16 (packAppend c w) w
      let ends := if mode = 1 then wordField (packWord s b k 1) 0 14 + 1 ≤ c.nsmp else w.last
      setCtx s key (if ends then packClose c false true else c)

def refOf (s : State) (b i : Nat) : RefPath := SMap.get (fun _ => ({} : RefPath)) s.cnp.refs (8 * b + i)

/-- Skip the index stamps after `t`: the rest and how many were skipped. -/
def stampsUpTo (t : Nat) : List (Nat × Int) → Nat → List (Nat × Int) × Nat
  | [], n => ([], n)
  | x :: xs, n => if x.1 ≤ t then (x :: xs, n) else stampsUpTo t xs (n + 1)

/-- Revolution count, angle and whether it is extrapolated, at time `t` (R267); `none` when the path holds no index stamp
pair. Whole revolutions passed count in the direction of the last one. Where the rules give no fraction below 1, and where
t_k is the older stamp held, the angle is a free value, 0 at t_k itself; so is the count before the stamps held (log
entry 12). -/
def rollAngle (s : State) (b i t : Nat) : Option (Int × Nat × Bool) × State :=
  let r := refOf s b i
  if r.stamps.length < 2 then (none, s)
  else
    match stampsUpTo t r.stamps 0 with
    | (tk :: tp :: _, n) =>
      let per := Nat.max 1 (tk.1 - tp.1)
      let d := t - tk.1
      let more := if n = 0 then d / per else 0
      let rev := if tk.2 < tp.2 then tk.2 - more else tk.2 + more
      let frac := (d - more * per) * 2 ^ 32 / per
      if frac < 2 ^ 32 then (some (rev, frac, n == 0 && per < d), s)
      else
        let (v, s) := s.fresh
        (some (rev, v % 2 ^ 32, false), s)
    | (tk :: _, _) =>
      let (v, s) := s.fresh
      (some (tk.2, if t = tk.1 then 0 else v % 2 ^ 32, false), s)
    | (_, _) =>
      let (v, s) := s.fresh
      let (w, s) := s.fresh
      (some (toSigned 32 (w % 2 ^ 32), v % 2 ^ 32, false), s)

/-- The record of a closed block (R266). -/
def packRecord (s : State) (b k : Nat) (f : Blk) : Rec × State :=
  let w0 := packWord s b k 0
  let ax := wordField w0 11 4
  let (ang, s) := if wordField w0 18 1 = 1 then rollAngle s b (wordField w0 15 3) f.t else (none, s)
  let (q, s) := takeSeq s (16 * b + k)
  let at_ := if ax < 4 then axisPosAt s ax f.t else none
  let fl := (if f.gap then flagGAP else 0) + unlockedFlag s + (if f.split then flagSPLIT else 0) +
    (if f.final then flagFINAL else 0) + (if f.clip then flagCLIP else 0) + (if f.sflt then flagSFLT else 0) +
    (match ang with | some (_, _, e) => flagANG + (if e then flagEXTRAP else 0) | none => 0) +
    (if at_.isSome then flagPOS + 512 * ax else 0)
  let (rev, angle) := match ang with | some (r, a, _) => (ofSigned 32 r, a) | none => (0, 0)
  ({ ty := wordField w0 3 8, part := f.part % 256, source := wordField (packWord s b k 1) 16 16, flags := fl,
     excl := Nat.min f.excl 65535, seq := q, pos := at_.getD 0, time := f.t, rev := rev,
     angle := angle, payload := f.words }, s)

/-! ### The way of a word (R234 to R238) -/

def outOf (s : State) (b t : Nat) : List SWord := SMap.get (fun _ => []) s.cnp.outq (16 * b + t)

def setOut (s : State) (b t : Nat) (ws : List SWord) : State :=
  s.modCnp fun x => { x with outq := SMap.set (fun _ => []) x.outq (16 * b + t) ws }

/-- Tile `t` of bough `b` sends words: they wait at its lane. -/
def pushOut (s : State) (b t : Nat) (ws : List SWord) : State := setOut s b t (outOf s b t ++ ws)

/-- A word enters the input of a context, or fails parity there and is lost (R238). -/
def deliver (s : State) (key : Nat) (w : SWord) : State :=
  let c := ctxOf s key
  if 0 < c.hit then setCtx s key { c with hit := c.hit - 1, gapNext := true }
  else setCtx s key { c with q := c.q ++ [if c.gapNext then { w with gap := true } else w], gapNext := false }

/-- The tile takes a word of a context's input: what it sends at once. -/
def takeWord (s : State) (key : Nat) (w : SWord) : List SWord × State :=
  let b := key / 512
  let t := key / 32 % 16
  let k := key % 32
  if !tileAccepts t w.ty then ([], (s.setBit (CNP_T_STAT.TYPEERR b t) true).count (CNP_T_CNT.DROP b t))
  else
    let s := if w.isGap then s.setBit (CNP_T_STAT.GAP b t) true else s
    match tileTypeOf t with
    | 0 | 2 => filtTake s b t k w
    | 1 => ([], fftTake s b t k w)
    | 3 => rsmpTake s b k w
    | 4 => ([], statTake s b t k w)
    | 5 => ([], alrmTake s b k w)
    | _ => ([], packTake s b k w)

/-- A context reads lane `t` of bough `b` with origin `src`, by its local lane or a cross lane in use (R235). -/
def readsLane (s : State) (b t src key d : Nat) : Bool :=
  let rb := key / 512
  let num := d / 256 % 32
  s.up (3 + rb) && d / 65536 % 128 == src &&
    ((d % 8 == 3 && rb == b && num == t) ||
     (d % 8 == 4 && s.up fenceCNX && s.bit (CNX_XL.USED num) && s.fld (CNX_XL.BOUGH num) == b &&
       s.fld (CNX_XL.TILE num) == t && nbit (s.fld (CNX_XL.DEST num)) rb))

def laneReaders (s : State) (b t src : Nat) : List Nat :=
  (s.cnp.desc.filter fun p => readsLane s b t src p.1 p.2).map (·.1)

/-- The contexts that read port `p` of bough `b`: descriptor KIND 1 for sample ports, 2 for stamp ports. -/
def portReaders (s : State) (b kind p src : Nat) : List Nat :=
  (s.cnp.desc.filter fun x => x.1 / 512 == b && x.2 % 8 == kind && x.2 / 256 % 32 == p && x.2 / 65536 % 128 == src).map (·.1)

def deliverAll (s : State) (keys : List Nat) (w : SWord) : State := keys.foldl (fun s key => deliver s key w) s

/-- A full input (64 words) stops its writer (R237). -/
def inputFull (s : State) (key : Nat) : Bool := 64 ≤ (ctxOf s key).q.length

/-- A reader of the lane is full: the writer stalls. -/
def laneStalled (s : State) (b t src : Nat) : Bool := (laneReaders s b t src).any (inputFull s)

def ingOf (s : State) (b p : Nat) : IngPort := SMap.get (fun _ => ({} : IngPort)) s.cnp.ing (16 * b + p)

def setIng (s : State) (b p : Nat) (x : IngPort) : State :=
  s.modCnp fun c => { c with ing := SMap.set (fun _ => ({} : IngPort)) c.ing (16 * b + p) x }

/-- The next word that waits at a lane with room goes to every reader. A bough in a graft or a fence sends none. -/
def laneStep (s : State) : Option State :=
  match s.cnp.outq.find? (fun p => s.up (3 + p.1 / 16) && !s.bit (CNP_STATUS.GRAFT (p.1 / 16)) &&
      (match p.2 with | [] => false | w :: _ => !laneStalled s (p.1 / 16) (p.1 % 16) w.src)) with
  | some (i, w :: rest) =>
    some (deliverAll (setOut s (i / 16) (i % 16) rest) (laneReaders s (i / 16) (i % 16) w.src) w)
  | _ => none

/-- The next word that a sample port holds and whose readers have room passes on. -/
def portStep (s : State) : Option State :=
  match s.cnp.ing.find? (fun p => match p.2.q with
      | [] => false
      | w :: _ => !(portReaders s (p.1 / 16) 1 (p.1 % 16) w.src).any (inputFull s)) with
  | some (i, g) =>
    match g.q with
    | w :: rest => some (deliverAll (setIng s (i / 16) (i % 16) { g with q := rest }) (portReaders s (i / 16) 1 (i % 16) w.src) w)
    | [] => none
  | none => none

/-- The tile of context `key` takes the next word of its input without a command: it works, no word of it waits at its lane
(R237), and what the context has completed has been taken over. FILT and ENV contexts take their words by their
commands. -/
def takesInput (s : State) (key : Nat) : Bool :=
  let b := key / 512
  let t := key / 32 % 16
  let k := key % 32
  let c := ctxOf s key
  s.up (3 + b) && !c.q.isEmpty && (outOf s b t).isEmpty &&
    (match tileTypeOf t with
     | 0 | 2 => false
     | 3 => true
     | 5 => (List.range 32).all fun p => wordField (pointWord s b p 0) 0 5 != k || (pointOf s (32 * b + p)).q.isEmpty
     | _ => c.done.isEmpty)

def takeStep (s : State) : Option State :=
  match s.cnp.desc.find? (fun p => takesInput s p.1) with
  | some (key, _) =>
    match (ctxOf s key).q with
    | w :: rest =>
      let (ws, s) := takeWord (setCtx s key { ctxOf s key with q := rest }) key w
      some (pushOut s (key / 512) (key / 32 % 16) ws)
    | [] => none
  | none => none

/-- One word moves: off a lane, out of a port, or into a tile. -/
def canopyStep (s : State) : Option State :=
  match laneStep s with
  | some s => some s
  | none => match portStep s with
    | some s => some s
    | none => takeStep s

/-- Words move until none can, at most `fuel` of them. -/
def canopyRun : Nat → State → State
  | 0, s => s
  | fuel + 1, s => match canopyStep s with
    | some s => canopyRun fuel s
    | none => s

/-- More words than Canopy can hold or make of what it holds. -/
def canopyFuel : Nat := 2 ^ 40

/-- Words move until every one that is left waits: for a full input, a command or a fence (R236, R237). -/
def canopySettle (s : State) : State := canopyRun canopyFuel s

/-- Tile `t` of bough `b` sends words, and the words in Canopy move on. -/
def emit (s : State) (b t : Nat) (ws : List SWord) : State := canopySettle (pushOut s b t ws)

/-! ### Ingest (R240 to R244) -/

/-- The port takes samples: enabled, its bough has a structure, and neither it nor the channel's AFE is fenced. -/
def portOpen (s : State) (b p : Nat) : Bool :=
  s.bit (CNX_ING.EN b p) && s.bit (CNP_STATUS.ACTIVE b) && !s.bit (CNP_STATUS.GRAFT b) && s.up (3 + b) &&
    s.up (s.fld (CNX_ING.CH b p) / 16)

/-- A sample of channel `ch` leaves its die for the ports that select it. -/
def sampleToPorts (s : State) (ch : Nat) (w : Word) (inst : Nat) : State :=
  (List.range 64).foldl (fun s i =>
    if portOpen s (i / 16) (i % 16) && s.fld (CNX_ING.CH (i / 16) (i % 16)) == ch then
      let g := ingOf s (i / 16) (i % 16)
      setIng s (i / 16) (i % 16) { g with inq := g.inq ++ [(ch, w, inst)] }
    else s) s

/-- The words that a port passes for a sample (R240): a TIME pair and IVL first where `timed`, GAP on the first word where
`gap`. -/
def sampleWords (s : State) (ch : Nat) (w : Word) (inst : Nat) (timed gap : Bool) : List SWord :=
  let x : SWord := { w := w, settle := w.getLsbD 7, mark := w.getLsbD 4, src := ch }
  let ws := if timed || gap || x.mark then timePair inst ch ++ [ctrlWord 2 (sampleInterval s ch) ch, x] else [x]
  if gap then ws.zipIdx.map fun (y, i) => { y with gap := i == 0 } else ws

/-- Words enter port `p`: as many as it has room for; each further one is dropped and counted, and the next word it passes
carries GAP with a new TIME pair and IVL (R241). -/
def enterPort (s : State) (b p : Nat) (g : IngPort) (ws : List SWord) : State :=
  let lost := ws.length - (512 - g.q.length)
  let g := { g with q := g.q ++ ws.take (512 - g.q.length), needTime := 0 < lost, gapNext := 0 < lost }
  setIng (if 0 < lost then s.count (CNP_DROP.ING b) lost else s) b p g

/-- The oldest sample on its way to port `p` of bough `b`, one of channel `ch`, reaches it (R240 to R242). A `lastSeq` of 16
stands for a fence since. -/
def doIngestSample (b p ch : Nat) (s : State) : State :=
  let g := ingOf s b p
  match g.inq with
  | [] => s
  | (src, w, inst) :: rest =>
    if src ≠ ch ∨ !portOpen s b p then s
    else
      let seq := w.toNat % 16
      let broke : Bool := match g.lastSeq with | some l => l == 16 || seq != (l + 1) % 16 | none => false
      let s := if broke then s.count (CNP_GAP_CNT.COUNT b) else s
      let ws := sampleWords s ch w inst g.needTime (g.gapNext || broke)
      canopySettle (enterPort s b p { g with lastSeq := some seq, inq := rest } ws)

/-- The stamp ports of bough `b` in use for input `i`. -/
def stampPorts (s : State) (b i : Nat) : List Nat :=
  (List.range 4).filter fun q =>
    let w := s.word (CNX_STP.addr b)
    wordField w (8 * q + 3) 1 == 1 && wordField w (8 * q) 3 == i

/-- A stamp reaches bough `b`: the reference path, the RSMP tile behind it, and the contexts that read a stamp port of the
input (R243, R244). -/
def stampToBough (s : State) (b i : Nat) (x : Stamp) : State :=
  if !s.up (3 + b) then s
  else
    let n := x.info.toNat
    let s := if nbit n 1 then
        s.modCnp fun c => { c with refs := SMap.set (fun _ => ({} : RefPath)) c.refs (8 * b + i)
                                       { stamps := ((x.t, x.rev) :: (refOf s b i).stamps).take 2 } }
      else s
    let s := if s.bit (CNP_T_INFO.USED b 10) && tileP s b 10 0 0 3 == i then
        let r := rsmpOf s b
        let e : RefEv := { t := x.t, idx := nbit n 1, bad := nbit n 2 || nbit n 3, rev := x.rev }
        setRsmp s b { r with evq := r.evq ++ [e] }
      else s
    let src := 32 + i
    let ws : List SWord := [{ w := BitVec.ofNat 32 x.t, ty := 2, first := true, src := src },
      { w := BitVec.ofNat 32 (x.t / 2 ^ 32), ty := 2, src := src }, { w := x.info, ty := 2, last := true, src := src }]
    (stampPorts s b i).foldl (fun s q => ws.foldl (fun s w => deliverAll s (portReaders s b 2 q w.src) w) s) s

/-- A context that reads a stamp of input `i` has no room for its three words. -/
def stampStalled (s : State) (i : Nat) : Bool :=
  (List.range 4).any fun b => s.up (3 + b) && (stampPorts s b i).any fun q =>
    (portReaders s b 2 q (32 + i)).any fun key => 61 < (ctxOf s key).q.length

/-- The oldest waiting stamp of input `i` leaves for the boughs (R228, R243). While a reader is full it waits in its input's
queue (DEDUCED, log entry 37). -/
def doStampIngest (i : Nat) (s : State) : State :=
  match (s.tch.getD i {}).queue with
  | [] => s
  | x :: rest =>
    if !s.up fenceTCH || stampStalled s i then s
    else
      let s := { s with tch := modAt s.tch i fun y => { y with queue := rest } }
      canopySettle ((List.range 4).foldl (fun s b => stampToBough s b i x) s)

/-! ### Commands of the tiles -/

/-- Tile `t` of bough `b` works and no word of it waits at its lane (R237). -/
def tileFree (s : State) (b t : Nat) : Bool := s.up (3 + b) && (outOf s b t).isEmpty

/-- A FILT or ENV context takes its next word, unless its tile stalls (R237, R247). -/
def doFiltInput (b t k : Nat) (s : State) : State :=
  let key := ctxKey b t k
  let c := ctxOf s key
  match c.q with
  | [] => s
  | w :: rest =>
    if !tileFree s b t then s
    else
      let (ws, s) := takeWord (setCtx s key { c with q := rest }) key w
      emit s b t ws

def doRsmpRefEvent (b : Nat) (s : State) : State :=
  if !tileFree s b 10 then s
  else
    let (ws, s) := rsmpEvent s b
    emit s b 10 ws

/-- REF gives no reference event for 4 times the last revolution period (R253). -/
def doRsmpRefTimeout (b : Nat) (s : State) : State :=
  if !s.up (3 + b) || (rsmpOf s b).evs.isEmpty then s
  else
    let (ws, s) := rsmpAbandon s b
    emit s b 10 ws

/-- A complete frame of context `k` queues for the transform of its tile (R258). -/
def doFftFrameComplete (b t k : Nat) (s : State) : State :=
  let key := ctxKey b t k
  let c := ctxOf s key
  match c.done with
  | [] => s
  | f :: rest =>
    if !s.up (3 + b) then s
    else
      let s := setCtx s key { c with done := rest }
      canopySettle (s.modCnp fun x =>
        { x with ffq := SMap.set (fun _ => []) x.ffq (16 * b + t) (SMap.get (fun _ => []) x.ffq (16 * b + t) ++ [(k, f)]) })

def doFftTransformDone (b t : Nat) (s : State) : State :=
  match SMap.get (fun _ => []) s.cnp.ffq (16 * b + t) with
  | [] => s
  | (k, f) :: rest =>
    if !tileFree s b t then s
    else
      let s := s.modCnp fun x => { x with ffq := SMap.set (fun _ => []) x.ffq (16 * b + t) rest }
      let (ws, s) := fftTransform s b t k f
      emit s b t ws

/-- A block of a STAT context that has ended leaves as a set (R260). -/
def doStatBlockEnd (b t k : Nat) (s : State) : State :=
  let key := ctxKey b t k
  let c := ctxOf s key
  match c.done with
  | [] => s
  | f :: rest =>
    if !tileFree s b t then s
    else
      let (ws, s) := statSet (setCtx s key { c with done := rest }) b t k f
      emit s b t ws

/-- Point `k` takes its next value (R261 to R264). -/
def doAlarmValue (b k : Nat) (s : State) : State :=
  let g := 32 * b + k
  let p := pointOf s g
  match p.q with
  | [] => s
  | v :: rest =>
    let p := { p with q := rest }
    if !s.up (3 + b) then s
    else if !v.valid then canopySettle (setPoint s g p)
    else
      let w1 := pointWord s b k 1
      let low := wordField (pointWord s b k 0) 6 1 = 1
      let x := (f32Val v.v).getD 0
      let x := if wordField (pointWord s b k 0) 7 1 = 1 then ratAbs x else x
      let (al, na) := judgeLevel low (wordField w1 0 8) (wordField w1 8 8) (wordField w1 16 8) x
        (f32Val (pointWord s b k 2)) p.alert p.nAlert
      let (da, nd) := judgeLevel low (wordField w1 0 8) (wordField w1 8 8) (wordField w1 16 8) x
        (f32Val (pointWord s b k 3)) p.danger p.nDanger
      let changed := da != p.danger
      let p := { p with alert := al, danger := da, nAlert := na, nDanger := nd, lastV := v.v, lastT := v.t,
                         lastClip := v.clip, lastSflt := v.sflt }
      canopySettle (settlePoint (setPoint s g p) b k p changed)

/-- Context `k` of PACK hands its oldest closed record to the record engine (R268). -/
def doPackRecordClose (b k : Nat) (s : State) : State :=
  let key := ctxKey b 15 k
  let c := ctxOf s key
  match c.done with
  | [] => s
  | f :: rest =>
    if !s.up (3 + b) then s
    else
      let (r, s) := packRecord (setCtx s key { c with done := rest }) b k f
      canopySettle (offerRecord s (.pack (16 * b + k)) r)

/-- The next word that reaches context `k` of tile `t` fails parity on entry (R238). -/
def laneDrop (b t k : Nat) (s : State) : State :=
  let key := ctxKey b t k
  setCtx (s.count (CNP_DROP.LANE b)) key { ctxOf s key with hit := (ctxOf s key).hit + 1 }

/-! ### Gaps from fences (R243, Table 06-4, Table 08-7) -/

/-- The AFE `n` is fenced: each port fed by it sends GAPN as its last word, what waits in it is lost, and the next sample is
one after a gap (R242, R243). -/
def canopyFenceAfe (s : State) (n : Nat) : State :=
  canopySettle ((List.range 64).foldl (fun s i =>
    let b := i / 16
    let p := i % 16
    let ch := s.fld (CNX_ING.CH b p)
    if s.bit (CNX_ING.EN b p) && s.bit (CNP_STATUS.ACTIVE b) && s.up (3 + b) && ch / 16 == n then
      setIng s b p { lastSeq := some 16, gapNext := true, needTime := true, q := [gapNotice ch] }
    else s) s)

/-- TCH is fenced: each stamp port in use sends GAPN, and the order resamplers mark the gap. A GAPN of a fence enters an
input also where it is full. -/
def canopyFenceTch (s : State) : State :=
  canopySettle (((List.range 4).filter fun b => s.up (3 + b)).foldl (fun s b =>
    let s := (List.range 8).foldl (fun s i =>
      (stampPorts s b i).foldl (fun s q => deliverAll s (portReaders s b 2 q (32 + i)) (gapNotice (32 + i))) s) s
    if s.bit (CNP_T_INFO.USED b 10) then
      let (ws, s) := rsmpAbandon s b
      pushOut s b 10 ws
    else s) s)

/-- Readers of cross lane `x` get GAPN (Table 08-7). -/
def crossGap (s : State) (x : Nat) : State :=
  if !s.bit (CNX_XL.USED x) then s
  else
    let rs := s.cnp.desc.filter fun p => p.2 % 8 == 4 && p.2 / 256 % 32 == x && s.up (3 + p.1 / 512) && nbit (s.fld (CNX_XL.DEST x)) (p.1 / 512)
    rs.foldl (fun s p => deliver s p.1 (gapNotice (p.2 / 65536 % 128))) s

/-- Bough `b` is fenced, or its graft begins: its cross lanes send GAPN, where CNX carries them. -/
def boughSilent (s : State) (b : Nat) : State :=
  if !s.up fenceCNX then s
  else canopySettle (((List.range 32).filter fun x => s.fld (CNX_XL.BOUGH x) == b).foldl crossGap s)

/-- CNX is fenced: readers of every cross lane get GAPN. -/
def crossSilent (s : State) : State := canopySettle ((List.range 32).foldl crossGap s)

/-- Clear the state of every tile of bough `b` and of its ports. -/
def clearBough (s : State) (b : Nat) : State :=
  s.modCnp fun x =>
    { x with ctx := x.ctx.filter (fun p => p.1 / 512 != b), pts := x.pts.filter (fun p => p.1 / 32 != b),
             rsmp := x.rsmp.filter (fun p => p.1 != b), ffq := x.ffq.filter (fun p => p.1 / 16 != b), outq := x.outq.filter (fun p => p.1 / 16 != b),
             ing := x.ing.filter (fun p => p.1 / 16 != b) }

/-- Every enabled sample port begins again with a TIME pair: after a step and after the realignment that follows it (R240,
Table 08-7). -/
def ingestNeedTime (s : State) : State :=
  (List.range 64).foldl (fun s i =>
    if s.bit (CNX_ING.EN (i / 16) (i % 16)) then
      setIng s (i / 16) (i % 16) { ingOf s (i / 16) (i % 16) with needTime := true }
    else s) s

/-! ### Tuning (R233, R246, R270, R271) -/

/-- Bough and tile of an address in a CNP block, with the offset in the tile's window; the USER tables lie in their tile's
range 0x400 on. -/
def tileAt (a : Nat) : Nat × Nat × Nat :=
  let b := a / 0x10000 % 16 - 8
  let off := a % 0x10000
  if 0x8000 ≤ off then (b, 6 + (off - 0x8000) / 0x1000, 0x400 + off % 0x1000)
  else (b, (off - 0x1000) / 0x400, (off - 0x1000) % 0x400)

/-- A write to this parameter word is discarded and counted (R233, R270, R296). -/
def tuneRejected (s : State) (a : Nat) : Bool :=
  let (b, t, off) := tileAt a
  let ok := if off < 0x100 then nbit (s.fld (CNP_T_TUNE.P b t)) ((off - 0x10) / 4) else s.bit (CNP_T_TUNE.TABLE b t)
  !s.bit (CNP_T_INFO.USED b t) || s.bit (CNP_STATUS.GRAFT b) || !ok

/-- A parameter word or coefficient of tile `t` differs between two states. -/
def tileChanged (o s : State) (b t : Nat) : Bool :=
  (List.range 24).any (fun r => o.word (CNP_T_P.addr b t r) != s.word (CNP_T_P.addr b t r)) ||
    (List.range 192).any (fun w => tileTab o b t w != tileTab s b t w)

/-- What the apply of group 2 + `b` does to the tiles; `o` is the state before it (R246, R271). -/
def tuningApplied (o s : State) (b : Nat) : State :=
  (List.range 16).foldl (fun s t =>
    let each := fun (s : State) (f : Ctx → Ctx) =>
      (ctxsOf s b t).foldl (fun s k => setCtx s (ctxKey b t k) (f (ctxOf s (ctxKey b t k)))) s
    match tileTypeOf t with
    | 0 | 2 => if tileChanged o s b t then each s fun c => { c with hold := Nat.max c.hold (holdOf s b t) } else s
    | 1 =>
      if wordField (o.word (CNP_T_P.addr b t 0)) 0 12 ≠ tileP s b t 0 0 12 then
        let s := s.modCnp fun x => { x with ffq := x.ffq.filter fun p => p.1 != 16 * b + t }
        each s fun c => { c with buf := [], done := [], nfrm := 0, every := 0, avg := [], excl := 0, clip := false,
                                 sflt := false, mark := false, inval := false }
      else s
    | 4 =>
      let w := o.word (CNP_T_P.addr b t 0)
      if wordField w 7 6 ≠ tileP s b t 0 7 6 ∨ wordField w 16 8 ≠ tileP s b t 0 16 8 then
        each s fun c => statClose o b t c false true
      else s
    | 5 =>
      (List.range 32).foldl (fun s k =>
        if wordField (pointWord s b k 0) 5 1 = 0 then setPoint (pointOff s b k) (32 * b + k) {} else s) s
    | _ => s) s

/-- After an apply of group 6: a channel outside CNX_ALLOW keeps the effective one (Table 08-25); a port that is enabled or
changes its channel begins anew. `o` is the state before. -/
def ingestApplied (o s : State) : State :=
  (List.range 64).foldl (fun s i =>
    let b := i / 16
    let p := i % 16
    let ch := s.fld (CNX_ING.CH b p)
    let was := o.fld (CNX_ING.CH b p)
    let s := if s.bitAt (CNX_ALLOW.MASK b p) ch then s else s.setFld (CNX_ING.CH b p) was
    if s.fld (CNX_ING.CH b p) ≠ was ∨ s.bit (CNX_ING.EN b p) ≠ o.bit (CNX_ING.EN b p) then
      setIng s b p { q := (ingOf s b p).q }
    else s) s

end Sys2Proof.Machine
end

