-- ==== Sys2Proof/Machine/Image.lean ====
section
/-! DEFINITION. Tilif images: the container, its verification, image apply, boot slots, installing and grafting
(chapter 09), below the operations that raise Bark sources. -/

namespace Sys2Proof.Machine

def State.modImg (s : State) (f : SecImg → SecImg) : State := { s with img := f s.img }

/-! ### RESULT codes (Table 09-14) -/

def resOK : Nat := 1
def resFORMAT : Nat := 2
def resKEY : Nat := 3
def resSIGNATURE : Nat := 4
def resROLLBACK : Nat := 5
def resSECTION : Nat := 6
def resSTRUCTURE : Nat := 7
def resFIRMWARE : Nat := 8
def resDENIED : Nat := 9
def resBUSY : Nat := 10
def resACTIVE : Nat := 11
def resREADERR : Nat := 12
def resREFUSED : Nat := 13
def resABANDONED : Nat := 14

/-! ### The container (R272 to R282) -/

/-- The bytes of an image, by offset. -/
abbrev Img := Array Byte

def Img.u8 (m : Img) (o : Nat) : Nat := (m.getD o 0).toNat
def Img.u16 (m : Img) (o : Nat) : Nat := m.u8 o + 256 * m.u8 (o + 1)
def Img.u32 (m : Img) (o : Nat) : Nat := m.u16 o + 65536 * m.u16 (o + 2)
def Img.slice (m : Img) (o n : Nat) : List Byte := (List.range n).map fun i => m.getD (o + i) 0
def Img.zeros (m : Img) (o n : Nat) : Bool := (List.range n).all fun i => m.u8 (o + i) == 0

/-- KIND: 1 FULL, 2 GRAFT. -/
def Img.kind (m : Img) : Nat := m.u8 6
def Img.totalLen (m : Img) : Nat := m.u32 8
def Img.arbId (m : Img) : Nat := m.u8 0x15
def Img.arb (m : Img) : Nat := m.u32 0x18
def Img.imageId (m : Img) : Nat := m.u32 0x1C

/-- A section: its table entry number, TYPE, INDEX, OFFSET, LENGTH and CRC (Table 09-2). -/
structure Sect where
  no : Nat
  ty : Nat
  idx : Nat
  off : Nat
  len : Nat
  crc : Nat
  deriving DecidableEq, Repr

def Img.sects (m : Img) : List Sect :=
  (List.range (m.u16 0xC)).map fun i =>
    let o := 0x40 + 16 * i
    ⟨i, m.u16 o, m.u16 (o + 2), m.u32 (o + 4), m.u32 (o + 8), m.u32 (o + 12)⟩

def Img.ofType (m : Img) (ty : Nat) : List Sect := m.sects.filter (·.ty == ty)

def tyBOUGH : Nat := 1
def tyCROSS : Nat := 2
def tySUBS : Nat := 3
def tyCODE : Nat := 0x10
def tyDATA : Nat := 0x11
def tyENTRY : Nat := 0x12
def tyNOTE : Nat := 0xF0

/-- Step 1 of Table 09-7. `len` is SEC_IMG_LEN, `kinds` what the operation takes. -/
def headerOk (s : State) (m : Img) (len : Nat) (kinds : List Nat) : Bool :=
  let n := m.totalLen
  m.slice 0 4 == [0x54, 0x4C, 0x49, 0x46] && m.u16 4 == 1 && m.u16 0xE == 64 && m.zeros 0x16 2 && m.zeros 0x28 24 &&
    m.u32 0x10 == 0x4C4E0064 && m.u8 0x14 ≤ s.fld SYS_REV.DDIE && n % 8 == 0 && n ≤ len && 192 ≤ n &&
    n ≤ (if m.kind = 1 then 2096896 else 65536) && kinds.contains m.kind

/-- Step 2: the key hash equals the fuse hash KEYSEL names; a blank hash matches no key (R282). -/
def keyOk (s : State) (m : Img) : Bool :=
  let fuse := (List.range 8).flatMap fun j => toLE 4 (s.word (SEC_KEYHASH.addr (m.u8 7) j)).toNat
  m.u8 7 ≤ 1 && fuse.any (· != 0) && sha256 (m.slice (m.totalLen - 128) 64) == fuse

/-- Step 3: the signature over all bytes before the signature block (R282). -/
def signatureOk (m : Img) : Bool :=
  let o := m.totalLen - 128
  let be := fun i => beNat (m.slice (o + 32 * i) 32)
  ecdsaVerify (be 0) (be 1) (be 2) (be 3) (m.slice 0 o)

/-- Step 4. -/
def rollbackOk (s : State) (m : Img) : Bool := m.arbId < 8 && s.fld (SEC_ARB.COUNT m.arbId) ≤ m.arb

/-- `n` bytes at offset `o` of a section, as far as they lie in it, are 0. -/
def Img.zerosIn (m : Img) (x : Sect) (o n : Nat) : Bool :=
  (List.range n).all fun i => x.len ≤ o + i || m.u8 (x.off + o + i) == 0

/-- The reserved bytes of a section are 0 (R276, R279, R280). -/
def sectZeros (m : Img) (x : Sect) : Bool :=
  if x.ty = tyBOUGH then
    m.zerosIn x 1 3 && m.zerosIn x 0x8C 4 && (List.range 16).all fun p => m.zerosIn x (8 + 8 * p + 6) 2
  else if x.ty = tySUBS then
    m.zerosIn x 2 6 && (List.range (m.u16 x.off)).all fun i => m.zerosIn x (8 + 16 * i + 9) 7
  else if x.ty = tyCODE ∨ x.ty = tyDATA then m.zerosIn x 4 4
  else true

/-- A table entry keeps R274 and R275, apart from what concerns several entries, and its reserved bytes are 0. -/
def sectOk (m : Img) (x : Sect) : Bool :=
  let graft := m.kind == 2
  x.off % 8 == 0 && 0x40 + 16 * m.u16 0xC ≤ x.off && x.off + x.len ≤ m.totalLen - 128 &&
    crc32c (m.slice x.off x.len) == x.crc && sectZeros m x &&
    (if x.ty = tyBOUGH then x.idx < 4
     else if x.ty = tyCROSS ∨ x.ty = tySUBS ∨ x.ty = tyENTRY then !graft && x.idx == 0
     else if x.ty = tyCODE ∨ x.ty = tyDATA then !graft && x.idx ≤ 4
     else x.ty == tyNOTE) &&
    m.sects.all (fun y => y.no == x.no || x.off + x.len ≤ y.off || y.off + y.len ≤ x.off) &&
    (!(x.ty = tyBOUGH || x.ty = tyCROSS || x.ty = tySUBS || x.ty = tyENTRY) ||
      m.sects.all fun y => x.no ≤ y.no || y.ty != x.ty || (x.ty == tyBOUGH && y.idx != x.idx))

/-- Bytes in no part of the image are 0. -/
def paddingOk (m : Img) : Bool :=
  (List.range (m.totalLen - 128)).all fun i =>
    i < 0x40 + 16 * m.u16 0xC || m.u8 i == 0 || m.sects.any fun x => x.off ≤ i && i < x.off + x.len

/-- Step 5: `none`, or the entry that fails. -/
def sectionsFail (m : Img) : Option Nat :=
  if m.u16 0xC = 0 ∨ 64 < m.u16 0xC ∨ m.totalLen - 128 < 0x40 + 16 * m.u16 0xC then some 0
  else match m.sects.find? (fun x => !sectOk m x) with
    | some x => some x.no
    | none =>
      if !paddingOk m ∨ (m.kind = 2 ∧ (m.ofType tyBOUGH).length ≠ 1) then some 0 else none

/-! ### Structure (R276 to R279, R285) -/

/-- What the check needs of a bough: its tiles' USED bits, input of each used stamp port, and its descriptors. -/
structure BoughShape where
  bough : Nat
  used : List Bool
  stamps : List (Option Nat)
  desc : List (Nat × Nat)
  deriving DecidableEq, Repr

/-- A cross lane: source bough and tile, destinations, used. -/
structure XLane where
  bough : Nat
  tile : Nat
  dest : Nat
  used : Bool
  deriving DecidableEq, Repr

def xlaneOf (w : Word) : XLane := ⟨wordField w 0 2, wordField w 2 4, wordField w 6 4, wordField w 10 1 == 1⟩

/-- Offset of tile record `t` in a BOUGH section. -/
def tileRec (o t : Nat) : Nat := o + 0x90 + 1000 * t

def tileMax (t : Nat) : Nat :=
  match tileTypeOf t with | 0 | 2 => 8 | 1 | 3 => 4 | 4 | 6 => 16 | _ => 32

def shapeOfSect (m : Img) (x : Sect) : BoughShape :=
  { bough := x.idx
    used := (List.range 16).map fun t => m.u8 (tileRec x.off t + 1) == 1
    stamps := (List.range 4).map fun q =>
      let v := m.u8 (x.off + 0x88 + q)
      if nbit v 7 then some (v % 8) else none
    desc := (List.range 512).filterMap fun i =>
      let d := m.u32 (tileRec x.off (i / 32) + 8 + 4 * (i % 32))
      if d = 0 then none else some (512 * x.idx + i, d) }

/-- The shape of a bough as it stands in force. -/
def shapeInForce (s : State) (b : Nat) : BoughShape :=
  { bough := b, used := (List.range 16).map fun t => s.bit (CNP_T_INFO.USED b t), stamps := [],
    desc := s.cnp.desc.filter fun p => p.1 / 512 == b }

/-- A tile record keeps Table 09-5 and R277. -/
def tileRecOk (m : Img) (o t : Nat) : Bool :=
  let r := tileRec o t
  let used := m.u8 (r + 1)
  let n := m.u8 (r + 2)
  m.u8 r == tileTypeOf t && used ≤ 1 && n ≤ tileMax t && m.u8 (r + 3) ≤ (if tileTypeOf t = 1 then 1 else 0) &&
    (List.range 32).all (fun c => m.u32 (r + 8 + 4 * c) == 0 || (used == 1 && c < n)) &&
    (used == 1 || m.zeros (r + 0x88) (96 + 768))

/-- Output types of a tile beyond CTRL: 0 SAMPLE, 1 FLOAT, none for ALRM and PACK (Table 08-1). -/
def tileEmits (t : Nat) : Option Nat :=
  match tileTypeOf t with | 0 | 2 | 3 => some 0 | 1 | 4 => some 1 | _ => none

/-- A descriptor of tile `t` in shape `h` (Table 09-6, R285). -/
def descriptorOk (h : BoughShape) (xs : List XLane) (key d : Nat) : Bool :=
  let t := key / 32 % 16
  let num := d / 256 % 32
  d / 8 % 32 == 0 && d / 8192 % 8 == 0 && d / 2 ^ 23 == 0 &&
    (match d % 8 with
     | 0 => true
     | 1 => num < 16
     | 2 => num < 4 && (h.stamps.getD num none).isSome && (t == 10 || t == 15)
     | 3 => num < 16 && h.used.getD num false && (match tileEmits num with | some ty => tileAccepts t ty | none => false)
     | 4 => match xs[num]? with | some x => x.used && nbit x.dest h.bough | none => false
     | _ => false)

/-- A BOUGH section keeps R276, R277 and the conditions of R285 that concern it alone. -/
def boughOk (m : Img) (xs : List XLane) (x : Sect) : Bool :=
  let o := x.off
  let h := shapeOfSect m x
  let wins := ([6, 7].filter fun t => nbit (m.u8 (tileRec o t + 3)) 0).length
  x.len == 16144 + 4096 * wins && m.u8 o == x.idx &&
    (List.range 16).all (fun p =>
      let q := o + 8 + 8 * p
      m.u8 (q + 5) ≤ 1 && (m.u8 (q + 5) == 0 || (m.u8 (q + 4) < 32 && nbit (m.u32 q) (m.u8 (q + 4))))) &&
    (List.range 4).all (fun q => m.u8 (o + 0x88 + q) / 8 % 16 == 0) &&
    (List.range 16).all (tileRecOk m o) && h.desc.all (fun p => descriptorOk h xs p.1 p.2) &&
    (!h.used.getD 10 false || h.stamps.contains (some (m.u32 (tileRec o 10 + 0x88) % 8)))

/-- Edges of the graph from tile to tile, global numbers 16 b + t. -/
def graphEdges (hs : List BoughShape) (xs : List XLane) : List (Nat × Nat) :=
  hs.flatMap fun h => h.desc.filterMap fun p =>
    let dst := p.1 / 32
    let num := p.2 / 256 % 32
    if p.2 % 8 = 3 then some (16 * h.bough + num, dst)
    else if p.2 % 8 = 4 then (xs[num]?).map fun x => (16 * x.bough + x.tile, dst)
    else none

/-- Take away, `fuel` times, the edges whose source nothing leads to. -/
def pruneEdges : Nat → List (Nat × Nat) → List (Nat × Nat)
  | 0, es => es
  | fuel + 1, es => pruneEdges fuel (es.filter fun e => es.any fun d => d.2 == e.1)

/-- The graph over all active boughs has no cycle. -/
def acyclic (es : List (Nat × Nat)) : Bool := (pruneEdges 64 es).isEmpty

/-- A SUBS section keeps R279. -/
def subsOk (m : Img) (x : Sect) : Bool :=
  let n := m.u16 x.off
  let subs := (List.range n).map fun i => m.u8 (x.off + 8 + 16 * i)
  n ≤ 256 && x.len == 8 + 16 * n && subs.eraseDups.length == n

/-- The cross-lane table the check uses: the image's own for FULL, the one in force for GRAFT. -/
def xlanesFor (s : State) (m : Img) : List XLane :=
  if m.kind = 2 then (List.range 32).map fun i => xlaneOf (s.word (CNX_XL.addr i))
  else match m.ofType tyCROSS with
    | x :: _ => (List.range 32).map fun i => xlaneOf (BitVec.ofNat 32 (m.u32 (x.off + 4 * i)))
    | [] => List.replicate 32 ⟨0, 0, 0, false⟩

/-- The boughs that will be active: the image's, and for a graft the others in force. -/
def shapesFor (s : State) (m : Img) : List BoughShape :=
  let own := (m.ofType tyBOUGH).map (shapeOfSect m)
  if m.kind = 2 then
    own ++ ((List.range 4).filter fun b => s.bit (CNP_STATUS.ACTIVE b) && !own.any (·.bough == b)).map (shapeInForce s)
  else own

/-- Step 6: `none`, or the entry of the section that fails. -/
def structureFail (s : State) (m : Img) : Option Nat :=
  let xs := xlanesFor s m
  let hs := shapesFor s m
  let laneOk := fun (x : XLane) => !x.used || hs.any fun h => h.bough == x.bough && h.used.getD x.tile false
  let crossBad := (m.ofType tyCROSS).find? fun x =>
    !(x.len == 128 && (List.range 32).all fun i => m.u32 (x.off + 4 * i) < 2048)
  match (m.ofType tyBOUGH).find? (fun x => !boughOk m xs x), crossBad, (m.ofType tySUBS).find? (fun x => !subsOk m x) with
  | some x, _, _ => some x.no
  | _, some x, _ => some x.no
  | _, _, some x => some x.no
  | none, none, none =>
    if xs.all laneOk && acyclic (graphEdges hs xs) then none
    else some (((m.ofType tyCROSS ++ m.ofType tyBOUGH).map (·.no)).headD 0)

/-! ### Firmware (R280, R281) -/

/-- Internal address at which a CODE or DATA section loads, and the size of its memory. -/
def loadBase (x : Sect) : Nat × Nat :=
  if x.idx = 4 then (0x20000000, 0x100000)
  else (0x21000000 + 0x20000 * x.idx + (if x.ty = tyDATA then 0x10000 else 0), 0x10000)

/-- First address and length a CODE or DATA section loads. -/
def loadRange (m : Img) (x : Sect) : Nat × Nat := ((loadBase x).1 + m.u32 x.off, x.len - 8)

def loads (m : Img) : List Sect := m.sects.filter fun x => x.ty == tyCODE || x.ty == tyDATA

def loadOk (m : Img) (x : Sect) : Bool :=
  8 ≤ x.len && m.u32 x.off + (x.len - 8) ≤ (loadBase x).2 &&
    (loads m).all fun y =>
      let a := loadRange m x
      let b := loadRange m y
      y.no == x.no || a.2 == 0 || b.2 == 0 || a.1 + a.2 ≤ b.1 || b.1 + b.2 ≤ a.1

/-- ADDR of a core that starts is even and lies in its I-TCM or in L2. -/
def entryOkFor (m : Img) (x : Sect) (n : Nat) : Bool :=
  let a := m.u32 (x.off + 8 * n)
  let lo := 0x21000000 + 0x20000 * n
  !nbit (m.u32 (x.off + 8 * n + 4)) 0 ||
    (a % 2 == 0 && ((lo ≤ a && a < lo + 0x10000) || (0x20000000 ≤ a && a < 0x20100000)))

/-- Step 7: `none`, or the entry that fails. -/
def firmwareFail (m : Img) : Option Nat :=
  let bad := m.sects.find? fun x =>
    if x.ty = tyCODE ∨ x.ty = tyDATA then !loadOk m x
    else x.ty == tyENTRY && !(x.len == 32 && (List.range 4).all (entryOkFor m x))
  bad.map (·.no)

/-- Verify an image by the steps of Table 09-7: RESULT and SECT (R283). -/
def verifyImage (s : State) (m : Img) (len : Nat) (kinds : List Nat) : Nat × Nat :=
  if !headerOk s m len kinds then (resFORMAT, 0)
  else if !keyOk s m then (resKEY, 0)
  else if !signatureOk m then (resSIGNATURE, 0)
  else if !rollbackOk s m then (resROLLBACK, 0)
  else match sectionsFail m, structureFail s m, firmwareFail m with
    | some n, _, _ => (resSECTION, n)
    | none, some n, _ => (resSTRUCTURE, n)
    | none, none, some n => (resFIRMWARE, n)
    | none, none, none => (resOK, 0)

/-! ### Putting a structure into force (R287, R295) -/

/-- Discard the staged words in `[lo, hi)`. -/
def discardStaged (s : State) (lo hi : Nat) : State :=
  { s with stg := s.stg.filter fun p => !(lo ≤ p.1 && p.1 < hi) }

/-- Registers of Canopy whose reset entry is "image" (Table 08-8): Tt_INFO, Tt_TUNE, the parameter words and tables, and the
CNX registers but CNX_STATUS. -/
def isImageReg (a : Nat) : Bool :=
  let o := a % 0x10000
  if 0x400C0000 ≤ a then 0x100 ≤ o
  else 0x8000 ≤ o || (0x1000 ≤ o && (o % 0x400 < 8 || (0x10 ≤ o % 0x400 && o % 0x400 < 0x70) || 0x100 ≤ o % 0x400))

/-- What the registers in `[lo, hi)` hold now is what the image gives them. -/
def noteImage (s : State) (lo hi : Nat) : State :=
  s.modCnp fun x => { x with
    img := (s.regs.filter fun p => lo ≤ p.1 && p.1 < hi && isImageReg p.1).foldl (fun m p => SMap.set resetWord m p.1 p.2)
      (x.img.filter fun p => !(lo ≤ p.1 && p.1 < hi)) }

/-- The registers of bough `b` and of its ports are as its image section has them. -/
def noteBough (s : State) (b : Nat) : State :=
  let base := 0x40080000 + 0x10000 * b
  let s := noteImage (noteImage s base (base + 0x10000)) (CNX_ING.addr b 0) (CNX_ING.addr b 16)
  noteImage (noteImage s (CNX_ALLOW.addr b 0) (CNX_ALLOW.addr b 16)) (CNX_STP.addr b) (CNX_STP.addr b + 4)

/-- A unit reset in `[lo, hi)`: registers with a numeric reset hold it, the others what the image gives them (R153,
Table 08-8). The status of the structure in force, the words at `keep`, stays. -/
def resetToImage (s : State) (lo hi : Nat) (keep : List Nat) : State :=
  let r := s.resetRegs lo hi
  let r := (s.cnp.img.filter fun p => lo ≤ p.1 && p.1 < hi).foldl (fun r p => r.setWord p.1 p.2) r
  keep.foldl (fun r a => r.setWord a (s.word a)) r

/-- Bough `b` without a structure: inactive, every tile unused (R275). -/
def emptyBough (s : State) (b : Nat) : State :=
  let base := 0x40080000 + 0x10000 * b
  let s := clearBough (discardStaged s base (base + 0x10000)) b
  let s := (List.range 16).foldl (fun s t =>
    let w := base + 0x1000 + 0x400 * t
    s.resetRegs w (w + 0x400)) s
  let s := s.resetRegs (base + 0x8000) (base + 0xA000)
  let s := s.resetRegs (CNX_ING.addr b 0) (CNX_ING.addr b 16)
  let s := s.resetRegs (CNX_ALLOW.addr b 0) (CNX_ALLOW.addr b 16)
  let s := ((s.setWord (CNX_STP.addr b) 0).setBit (CNP_STATUS.ACTIVE b) false).setFld (CNP_IMG.ID b) 0
  let s := noteBough s b
  s.modCnp fun x => { x with desc := x.desc.filter fun p => p.1 / 512 != b }

/-- Write `n` words of the image from offset `o` into the registers from `a` on. -/
def loadWords (s : State) (m : Img) (a o n : Nat) : State :=
  (List.range n).foldl (fun s i => s.setWord (a + 4 * i) (BitVec.ofNat 32 (m.u32 (o + 4 * i)))) s

/-- The section's tile records, ports and windows go into bough `b` (Table 09-4, Table 09-8). -/
def loadBough (s : State) (m : Img) (x : Sect) (b : Nat) : State :=
  let o := x.off
  let s := emptyBough s b
  let s := (List.range 16).foldl (fun s t =>
    let r := tileRec o t
    let s := (s.setFld (CNP_T_INFO.USED b t) (m.u8 (r + 1))).setFld (CNP_T_INFO.NCTX b t) (m.u8 (r + 2))
    let s := s.setWord (CNP_T_TUNE.addr b t) (BitVec.ofNat 32 (m.u32 (r + 4)) &&& 0x80FFFFFF)
    loadWords (loadWords s m (CNP_T_P.addr b t 0) (r + 0x88) 24) m (CNP_T_TAB.addr b t 0) (r + 0xE8) 192) s
  let wins := [6, 7].filter fun t => nbit (m.u8 (tileRec o t + 3)) 0
  let s := wins.zipIdx.foldl (fun s (t, i) => loadWords s m (CNP_USERWIN.addr b (t - 6) 0) (o + 0x3F10 + 4096 * i) 1024) s
  let s := (List.range 16).foldl (fun s p =>
    let q := o + 8 + 8 * p
    let s := s.setWord (CNX_ALLOW.addr b p) (BitVec.ofNat 32 (m.u32 q))
    (s.setFld (CNX_ING.CH b p) (m.u8 (q + 4))).setFld (CNX_ING.EN b p) (m.u8 (q + 5))) s
  let stp := (List.range 4).foldl (fun v q =>
    let u := m.u8 (o + 0x88 + q)
    v + 2 ^ (8 * q) * (u % 8 + (if nbit u 7 then 8 else 0))) 0
  let s := s.setWord (CNX_STP.addr b) (BitVec.ofNat 32 stp)
  let s := (s.setBit (CNP_STATUS.ACTIVE b) true).setFld (CNP_IMG.ID b) (m.u32 (o + 4))
  let s := noteBough s b
  let d := (shapeOfSect m { x with idx := b }).desc
  s.modCnp fun c => { c with desc := d.foldl (fun l p => SMap.set (fun _ => 0) l p.1 p.2) c.desc }

/-- One entry of a SUBS section (R279), into the effective registers and in place of what is staged of them (R287). -/
def loadSub (s : State) (m : Img) (o : Nat) : State :=
  let i := m.u8 o
  let s := discardStaged s (REC_SUB_MATCH.addr i) (REC_SUB_CTL.addr i + 1)
  let s := (s.setFld (REC_SUB_MATCH.SUBSRC i) (m.u16 (o + 2))).setFld (REC_SUB_MATCH.RTYPE i) (m.u8 (o + 4))
  let s := (s.setFld (REC_SUB_MATCH.RMASK i) (m.u8 (o + 5))).setFld (REC_SUB_CTL.EN i) (m.u8 (o + 1))
  let s := (s.setFld (REC_SUB_CTL.TENANT i) (m.u8 (o + 6))).setFld (REC_SUB_CTL.CLASS i) (m.u8 (o + 7))
  s.setFld (REC_SUB_CTL.METHOD i) (m.u8 (o + 8))

/-- ADDR and START of each core in the ENTRY section; none without one. -/
def imageEntries (m : Img) : List (Nat × Bool) :=
  match m.ofType tyENTRY with
  | x :: _ => (List.range 4).map fun n => (m.u32 (x.off + 8 * n), nbit (m.u32 (x.off + 8 * n + 4)) 0)
  | [] => []

/-- Image apply of a FULL image (R287, R304). BOOT_SEL = HALT_CREW (code 4) holds every core. -/
def applyImage (s : State) (m : Img) : State :=
  let s := discardStaged s 0x40080000 0x400D0000
  let s := (List.range 4).foldl (fun s b =>
    match (m.ofType tyBOUGH).find? (·.idx == b) with
    | some x => loadBough s m x b
    | none => emptyBough s b) s
  let s := match m.ofType tyCROSS with
    | x :: _ => loadWords s m (CNX_XL.addr 0) x.off 32
    | [] => s.resetRegs (CNX_XL.addr 0) (CNX_XL.addr 32)
  let s := (noteImage s (CNX_XL.addr 0) (CNX_XL.addr 32)).setBit CNX_STATUS.APPLIED true
  let s := match m.ofType tySUBS with
    | x :: _ => discardRetargeted s ((List.range (m.u16 x.off)).foldl (fun s i => loadSub s m (x.off + 8 + 16 * i)) s)
    | [] => s
  let s := (loads m).foldl (fun s x => s.store (loadRange m x).1 (m.slice (x.off + 8) (x.len - 8))) s
  let s := { s with cnp := { s.cnp with refs := [] } }
  let s := crewImageStart s (imageEntries m) (s.fld SYS_STRAP.BOOT_SEL == 4)
  partitionAtImage (s.modImg fun i => { i with applied := [(4, m.arbId, m.arb)] })

/-! ### Slots (R286) -/

def slotDesc (s : State) (x : Nat) : SlotDesc := if x = 0 then s.img.slotA else s.img.slotB

def slotBase (x : Nat) : Nat := hwdBase + 0x200000 * x

/-- The image in slot `x`. -/
def slotImage (s : State) (x : Nat) : Img := (s.bytes (slotBase x) (slotDesc s x).len).toArray

/-- The slot that is tried first, and whether the other one may follow (R286): NORMAL (and the codes that act as it),
A_ONLY, B_ONLY; RECOVER tries none. -/
def slotOrder (s : State) : List Nat :=
  let a := s.img.slotA
  let b := s.img.slotB
  let valid := fun x => (slotDesc s x).valid
  match s.fld SYS_STRAP.BOOT_SEL with
  | 1 => [0].filter valid
  | 2 => [1].filter valid
  | 3 => []
  | _ =>
    let bFirst := a.arb < b.arb ∨ (a.arb = b.arb ∧ a.installSeq < b.installSeq)
    (if bFirst then [1, 0] else [0, 1]).filter valid

/-- Hold in LOAD on the service floor without an image (R67); the boot is an event (R352). -/
def holdNoImage (s : State) : State :=
  logBoot (({ (s.setBit SYS_BOOT_STAT.NO_IMAGE true) with pwr := { s.pwr with phase := .held } }).modImg fun i =>
    { i with booted := none })

/-- The verification of boot images starts with the first slot in order; with none the node holds in LOAD (R67). -/
def selectBootSlot (s : State) : State :=
  match slotOrder s with
  | x :: _ => { s with pwr := { s.pwr with phase := .verify, slot := x, fallback := false } }
  | [] => holdNoImage s

/-! ### Operations (R289 to R293) -/

/-- An operation runs (SEC_IMG_STAT.BUSY). -/
def imgBusy (s : State) : Bool := s.img.op.isSome

/-- Bytes of the staged image are write-locked while an operation runs (R290). -/
def imageLocks (s : State) (a n : Nat) : Bool :=
  match s.img.op with
  | some o => a < o.addr + o.len && o.addr < a + n
  | none => false

/-- End the operation in hand with RESULT `r`; its end raises the PLIC source SEC; one that ends OK is an event (R352). -/
def endImgOp (s : State) (r sect : Nat) : State :=
  match s.img.op with
  | none => s
  | some o =>
    let s := ((s.setFld SEC_IMG_STAT.RESULT r).setFld SEC_IMG_STAT.SECT sect).setBit SEC_IMG_STAT.BUSY false
    let s := plicRaise (s.modImg fun i => { i with op := none }) plicSEC
    if r = resOK then logOther s 4 (o.op + 256 * r + 2 ^ 32 * leNat (s.bytes (o.addr + 0x1C) 4)) else s

/-- The tenant's bit in SEC_IMG_PERM for operation `op` (Table 09-15). -/
def imgPermitted (s : State) (t op : Nat) : Bool :=
  if op = 4 then s.bitAt SEC_IMG_PERM.GRAFT t
  else if op = 5 then s.bitAt SEC_IMG_PERM.ARB t
  else s.bitAt SEC_IMG_PERM.INSTALL t

/-- ARB_RAISE (R293): to the lower of SEC_IMG_ARB and the highest value among the applied images of that ARB_ID. -/
def arbRaise (s : State) (k : Nat) : State :=
  let best := ((s.img.applied.filter fun p => p.2.1 == k).map (·.2.2)).foldl Nat.max 0
  let v := Nat.min (s.fld SEC_IMG_ARB.VALUE) best
  if s.fld (SEC_ARB.COUNT k) < v then s.setFld (SEC_ARB.COUNT k) v else s

/-- A mode in which a graft is accepted (R294). -/
def graftMode (s : State) : Bool := s.pwr.mode.isRunning && s.pwr.seq == .none

/-- GO = 1 by tenant `t` (R289): refused with DENIED, BUSY or FORMAT, without effect on a running operation; a code that
names no operation is REFUSED. ARB_RAISE acts at once. -/
def startImgOp (s : State) (t op bough arbId : Nat) : State :=
  let addr := s.fld SEC_IMG_ADDR.VALUE
  let len := s.fld SEC_IMG_LEN.VALUE
  let refuse := fun r => s.setFld SEC_IMG_STAT.RESULT r
  if op = 0 ∨ 5 < op then refuse resREFUSED
  else if !imgPermitted s t op then refuse resDENIED
  else if imgBusy s then refuse resBUSY
  else if addr % 8 ≠ 0 ∨ 0x4000000 < addr + len then refuse resFORMAT
  else if op = 5 then
    let s := arbRaise ((s.setFld SEC_IMG_STAT.TENANT t).setFld SEC_IMG_STAT.SECT 0) arbId
    logOther (s.setFld SEC_IMG_STAT.RESULT resOK) 4 (5 + 256 * resOK)
  else
    let s := ((s.setFld SEC_IMG_STAT.TENANT t).setFld SEC_IMG_STAT.SECT 0).setFld SEC_IMG_STAT.RESULT 0
    if (op = 2 ∧ s.img.booted = some 0) ∨ (op = 3 ∧ s.img.booted = some 1) then s.setFld SEC_IMG_STAT.RESULT resACTIVE
    else if op = 4 ∧ (!graftMode s ∨ s.fenced (3 + bough)) then s.setFld SEC_IMG_STAT.RESULT resREFUSED
    else (s.setBit SEC_IMG_STAT.BUSY true).modImg fun i => { i with op := some ⟨op, 0, bough, addr, len⟩ }

/-- The image named by the operation in hand. -/
def stagedImage (s : State) (o : ImgOp) : Img := (s.bytes o.addr o.len).toArray

/-! ### Installing (R291, R292) -/

def setSlot (s : State) (x : Nat) (d : SlotDesc) : State :=
  s.modImg fun i => if x = 0 then { i with slotA := d } else { i with slotB := d }

/-- The BOOT write counter increases by 1 for each enclave write into a slot and each commit of a descriptor (R340). -/
def countBootWrite (s : State) : State :=
  s.count HWD_BOOT_WCNT.COUNT

/-- Commit a slot descriptor. It lies in the last row of its slot (Table 11-1), in a layout that the spec does not give: the
bytes of the row are free values. -/
def commitSlot (s : State) (x : Nat) (d : SlotDesc) : State :=
  let (bs, s) := s.freshList 256 256
  countBootWrite (setSlot (s.store (slotBase x + 0x1FFF00) (bs.map (BitVec.ofNat 8))) x d)

/-- The first step of an install: the descriptor is committed with VALID = 0. -/
def installBegin (s : State) (x : Nat) : State := commitSlot s x { slotDesc s x with valid := false }

/-- The rest: the image is written and re-read, and the new descriptor committed with VALID = 1. -/
def installFinish (s : State) (x : Nat) (m : Img) : State :=
  let bs := m.slice 0 m.totalLen
  let s := countBootWrite (s.store (slotBase x) bs)
  let n := Nat.max s.img.slotA.installSeq s.img.slotB.installSeq + 1
  commitSlot s x { valid := true, len := m.totalLen, arbId := m.arbId, arb := m.arb, imageId := m.imageId,
                   digest := sha256 bs, installSeq := n }

/-! ### Grafting (R294 to R298) -/

/-- Orders 1 to 3 of Table 09-8: ports off with a gap counted each, PACK records closed with the gap flag and handed on,
alarm points in ALERT or DANGER go OFF, cross lanes send GAPN. -/
def graftBegin (s : State) (b : Nat) : State :=
  let s := s.setBit (CNP_STATUS.GRAFT b) true
  let n := ((List.range 16).filter fun p => s.bit (CNX_ING.EN b p)).length
  let s := s.count (CNP_GAP_CNT.COUNT b) n
  let s := (List.range 16).foldl (fun s k =>
    let key := ctxKey b 15 k
    let c := packClose (ctxOf s key) true true
    let s := setCtx s key { c with done := [] }
    c.done.foldl (fun s f =>
      let (r, s) := packRecord s b k f
      offerRecord s (.pack (16 * b + k)) r) s) s
  let s := (List.range 32).foldl (fun s k =>
    if pointState s b k = 1 ∨ pointState s b k = 2 then pointOff s b k else s) s
  boughSilent s b

/-- Orders 4 and 5: the section goes into force, group 2 + `b` is no longer pending, what is staged of the bough's ports is
what is effective, and the PEND bit of group 6 stays (R296); the ports reopen with GAP. -/
def graftFinish (s : State) (b : Nat) (m : Img) : State :=
  match m.ofType tyBOUGH with
  | [] => s
  | x :: _ =>
    let s := loadBough s m x b
    let restage := fun (p : Nat × Option Word) =>
      if CNX_ING.addr b 0 ≤ p.1 ∧ p.1 < CNX_ING.addr b 16 then (p.1, some (s.word p.1)) else p
    let s := { s with stg := s.stg.map restage }
    let s := s.setBit (CNP_STATUS.GRAFT b) false
    let s := (List.range 16).foldl (fun s p => setIng s b p { gapNext := true }) s
    s.modImg fun i => { i with applied := i.applied.filter (·.1 != b) ++ [(b, m.arbId, m.arb)] }

/-- A graft operation ends without its structure: its bough is left inactive (R298). -/
def graftLost (s : State) (b res : Nat) : State :=
  let s := ((emptyBough s b).setBit (CNP_STATUS.GRAFT b) false).modImg fun i => { i with applied := i.applied.filter (·.1 != b) }
  endImgOp s res 0

/-- A graft in hand is abandoned (R298), also one whose image is still being verified (DEDUCED, log entry 40). -/
def abandonGraft (s : State) : State :=
  match s.img.op with
  | some o => if o.op = 4 then graftLost s o.bough resABANDONED else s
  | none => s

/-- Bough `b` is fenced (Table 06-4, R298): its lanes fall silent, a graft on it is abandoned. -/
def boughFenced (s : State) (b : Nat) : State :=
  let s := match s.img.op with
    | some o => if o.op = 4 ∧ o.bough = b then abandonGraft s else s
    | none => s
  boughSilent s b

/-- What SEC_SLOT_x_ID and SEC_SLOT_x_INFO read (Table 09-17). -/
def slotIdShown (s : State) (x : Nat) : Nat := if (slotDesc s x).valid then (slotDesc s x).imageId else 0

def slotInfoShown (s : State) (x : Nat) : Nat :=
  let d := slotDesc s x
  b2n d.valid + 2 * (d.arbId % 8) + 65536 * (d.installSeq % 65536)

end Sys2Proof.Machine
end

