-- ==== Sys2Proof/Machine/Stops.lean ====
section
/-! DEFINITION. What fences, unit resets, node resets and the loss of the rails do in each unit (Tables 05-6, 05-19, 06-4). -/

namespace Sys2Proof.Machine

/-- The service port lets go of its lines: a frame in hand is cut short (R161). -/
def svcRelease (s : State) : State :=
  let s := if s.sys.svc.isSome then
      (s.count SYS_SVC_CNT.ABORT).modMot fun m => { m with owed := m.owed ++ [(Src.SVC_PROTO, 0)] } else s
  let c := s.sys.carry.map fun c => if c.port = 2 then { c with gone := true } else c
  { s with sys := { s.sys with svcIgnored := true, svc := none, carry := c } }

/-- The write counter of the BOOT area (R68). -/
def bootWriteCounter (s : State) : Nat := s.fld HWD_BOOT_WCNT.COUNT

/-- Recording restarts at entry to ROOT (R61, R223): comparators armed, no crossing recorded. -/
def watchRestart (s : State) : State :=
  let s := { s with watch := { s.watch with armed := 0xFFFF, sets := 0 } }
  (List.range 2).foldl (fun s n =>
    ((s.setFld (AFE_WATCH_STAT.HPTR n) 0).setBit (AFE_WATCH_STAT.VALID n) false).setFld (AFE_WATCH_STAT.HIT n) 0) s

/-- A key commit completes: the new key stands, its tenant is unbound and its exchange abandoned (R454, R459). While HWD is
fenced the write is refused (Table 06-4): the previous key stands. -/
def finishKeyCommit (s : State) : State :=
  match s.th.commit with
  | none => s
  | some (t, key) =>
    if s.fenced fenceHWD then
      ((s.modTh fun h => { h with commit := none }).setFld SEC_TKEY_STAT.RESULT 2).setBit SEC_TKEY_STAT.BUSY false
    else
      let s := (s.setBytes (0x10000000 + keysOff + 0x1000 * (1 + t)) key).modTh fun h => { h with commit := none }
      let s := (s.setBitAt SEC_TKEY_STAT.PRESENT t true).setFld SEC_TKEY_STAT.RESULT 1
      let s := (s.setBit SEC_TKEY_STAT.BUSY false).modTen t fun h => { h with exch := none }
      unbindTenant (s.setBitAt TEN_STATUS.EXCH t false) t

/-- Axes geared to input `i` lose their master (R616): its count is cleared or the input fenced. -/
def masterLost (s : State) (i : Nat) : State :=
  (List.range 4).foldl (fun s n =>
    if axState s n = axGEARED ∧ s.fld (MOT_GEAR_CFG.MASTER n) = i then
      let s := halt1 s 10 false n
      s.modMot fun m => { m with owed := m.owed ++ [(Src.MOT_AXIS, n)] }
    else s) s

/-- What a unit does when its fence closes (Table 06-4). -/
def fenceUnit (s : State) (f : Nat) : State :=
  match f with
  | 0 | 1 => canopyFenceAfe s f
  | 2 => (List.range 8).foldl masterLost (canopyFenceTch s)
  | 3 | 4 | 5 | 6 => boughFenced s (f - 3)
  | 7 => crossSilent s
  | 10 => hwdFenced s
  | 11 | 12 | 13 | 14 => fenceCore s (f - 11)
  | 15 | 16 => fencePort s (f - 15)
  | 18 => crbCut s
  | 19 | 20 => grvIdle s (f - 19)
  | 21 => tripFence s 13
  | 22 => tripFence s 4
  | 24 => svcRelease s
  | 28 | 29 | 30 | 31 => hwdFenceTenant (recordsFenceTenant (fenceTenant s (f - 28)) (f - 28)) (f - 28)
  | _ => s

/-- What closes when a fence lifts: the trip input of DRV and MOT. -/
def unfenceUnit (s : State) (f : Nat) : State := if f = 21 ∨ f = 22 then tripUnfence s else s

/-- Reset an AFE unit: registers, converters and rings' producers at their reset values. -/
def resetAfe (s : State) (n : Nat) : State :=
  let lo := AFE_SFLT_STICKY.addr n / 0x10000 * 0x10000
  let s := s.resetRegs lo (lo + 0x10000)
  { s with afe := s.afe.zipIdx.map fun (h, j) => if j / 16 = n then {} else h }

/-- Reset the tach inputs, the levels of whose lands stay; geared axes lose their masters. -/
def resetTch (s : State) : State :=
  let s := (List.range 8).foldl masterLost s
  { s.resetRegs TCH_STATUS.addr (TCH_STATUS.addr + 0x10000) with tch := s.tch.map fun x => { a := x.a, b := x.b, z := x.z } }

/-- Reset bough `b`: the structure its image gives it stays, the state of its tiles is cleared. -/
def resetBough (s : State) (b : Nat) : State :=
  clearBough (resetToImage s (0x40080000 + 0x10000 * b) (0x40090000 + 0x10000 * b) [CNP_STATUS.addr b, CNP_IMG.addr b]) b

/-- The reset of unit `u` of SYS_URST starts (Table 05-19); 24 to 26 are SVCP, GRV_A and GRV_B (R188). -/
def resetUnitState (s : State) (u : Nat) : State :=
  match u with
  | 0 | 1 => resetAfe s u
  | 2 => resetTch s
  | 3 | 4 | 5 | 6 => resetBough s (u - 3)
  | 7 => ingestNeedTime (resetToImage s 0x400C0000 0x400D0000 [CNX_STATUS.addr])
  | 8 => resetRecords s
  | 9 => resetBuffers s
  | 10 => resetHeartwood s
  | 11 | 12 | 13 | 14 => resetCore s (u - 11)
  | 15 | 16 => resetPort s (u - 15)
  | 17 => resetTks s
  | 18 => resetCrb s
  | 19 => resetGrove s
  | 20 => resetMotion s
  | 21 => resetDrive s
  | 22 => s.resetRegs 0x40220000 0x40230000
  | 24 => svcRelease s
  | 25 | 26 => resetGrovePort s (u - 25)
  | _ => s

/-- The bytes of memory that outlast the rails: the Heartwood (R333). -/
def keptMemory (m : SMap Byte) : SMap Byte := m.filter fun p => 0x10000000 ≤ p.1 && p.1 < 0x11000000

/-- What node reset and the loss of the rails leave behind the registers, which are already at their reset words. The IEPE
settings of the watch channels are as the rails went off last (R220). -/
def clearVolatile (old s : State) : State :=
  let iepe := if old.railsOn then (List.range 8).map fun c => old.fld (AFE_CH_CFG.IEPE (c / 4) (c % 4)) else s.watch.iepe
  let s := clearAxes (clearTrunk (resetCrew (hwdVolatileLost s)))
  { s with mem := keptMemory s.mem, crb := {}, eng := {}, cnp := {}, afe := List.replicate 32 {},
           tch := s.tch.map fun x => { a := x.a, b := x.b, z := x.z }, grv := [{}, {}], img := { s.img with op := none, applied := [] },
           watch := { s.watch with iepe := iepe } }

/-- POR: what stands in the M-die and behind its registers; Root's schedule, positions and history are cleared. -/
def porVolatile (s : State) : State :=
  let s := { clearVolatile s s with groot := {}, watch := {} }
  axesAtRest s

end Sys2Proof.Machine
end

