-- ==== Sys2Proof/Machine/Bark.lean ====
section
/-! DEFINITION. Bark: events of its 96 sources, escalation, the four reactions, fences, entry to SAFE, and what the
commands of chapter 06 do. -/

namespace Sys2Proof.Machine

/-! ### Configuration -/

/-- BASE of source `src` (R176). -/
def barkBase (s : State) (src : Nat) : Nat := s.fld (BRK_SRC_CFG.BASE src)

/-- SEVERE, which acts as BASE when it is below it (R176). -/
def barkSevere (s : State) (src : Nat) : Nat := Nat.max (barkBase s src) (s.fld (BRK_SRC_CFG.SEVERE src))

/-- N, where 0 acts as 1 (R176). -/
def barkN (s : State) (src : Nat) : Nat := Nat.max 1 (s.fld (BRK_SRC_CFG.N src))

/-- Sources in the ROOT_FAST domain (Table 06-1), whose events Root holds (R170). -/
def rootFastSource (src : Nat) : Bool :=
  src == Src.PWR_HOLD || src == Src.ROOT_MEM || src == Src.CLK_RSLOW || src == Src.WATCH_CHK

/-- The window W of a code in ns (R177); 53 to 63 act as 52. -/
def windowNs (code : Nat) : Nat :=
  let c := Nat.min 52 code
  if c % 2 = 0 then 1000000 * 2 ^ (c / 2) else 1500000 * 2 ^ ((c - 1) / 2)

/-- Sources whose Fences entry is Bark, the interconnect, SYSCTL or the enclave (R172, R182). -/
def floorSource (src : Nat) : Bool := [0, 1, 2, 6, 7, 10, 13, 14, 15, 21].contains src

/-- The fence of this event would take in a unit of the service floor (R182): by the source's Fences entry, or because the
unit that did not answer is one. `inst` 25 to 30 of IC_TIMEOUT stand for the interconnect, Bark, SYSCTL and the enclave; 31
for a target without a fence. -/
def floorEvent (src inst : Nat) : Bool := floorSource src || (src == 3 && decide (25 ≤ inst) && decide (inst ≤ 30))

/-- The fence targets of an event (Table 06-1, R172), as bits of BRK_FENCE. `inst` is the core, port, controller, tenant
or, for IC_TIMEOUT, the fence bit of the unit that did not answer. SVC, LOCAL and the unused tenants have no fence. -/
def fenceTargets (src inst : Nat) : List Nat :=
  if src = 3 then (if inst ≤ 24 then [inst] else [])
  else if src = 4 ∨ src = 5 ∨ src = 53 ∨ src = 54 then (if inst < 4 then [fenceTEN inst] else [])
  else if src = 16 then [0, 1, 2]
  else if src = 17 then [fenceTK (inst % 2)]
  else if src = 24 ∨ src = 25 then [fenceSVCP]
  else if src = 28 ∨ src = 30 then [0]
  else if src = 29 ∨ src = 31 then [1]
  else if src = 32 ∨ src = 33 then [0, 1]
  else if src = 36 then [2]
  else if 37 ≤ src ∧ src ≤ 48 then [3 + (src - 37) % 4]
  else if src = 49 then [7]
  else if src = 50 then [fenceCRC]
  else if src = 51 ∨ src = 52 then [fenceREC]
  else if src = 55 ∨ src = 56 then [fenceBUF]
  else if src = 58 ∨ src = 59 ∨ src = 61 then [fenceHWD]
  else if src = 62 ∨ src = 63 ∨ src = 65 then [fenceCRW (inst % 4)]
  else if src = 64 then [11, 12, 13, 14]
  else if src = 70 then [15] else if src = 71 then [16]
  else if src = 72 then [fenceTKS]
  else if src = 80 then [fenceCRB]
  else if src = 87 then [fenceGRV (inst % 2)]
  else if src = 88 then [fenceMOT]
  else if src = 90 ∨ src = 91 ∨ src = 95 then [fenceDRV]
  else []

/-- Sources attributed to a tenant, whose Bark MSG carries it (R174): those that Table 06-1 gives the fence target tenant
(DEDUCED, log entry 33). -/
def tenantSource (src : Nat) : Bool := src = 4 || src = 5 || src = 53 || src = 54

/-- Sources that fence a tenant: once escalated, only the one whose event reached the count (R172). -/
def byTenant (src : Nat) : Bool := src = 4 || src = 5 || src = 53 || src = 54

/-! ### Fences -/

/-- Fences of `f` would leave no access path: no trunk port with an unfenced lane up, and the service port neither enabled
nor unfenced (R182). -/
def losesLastPath (s : State) (targets : List Nat) : Bool :=
  let shut := fun f => s.fenced f || targets.contains f
  !((!shut (fenceTK 0) && s.portHasLane 0) || (!shut (fenceTK 1) && s.portHasLane 1) ||
    (s.bit SYS_STRAP.SVC_EN && !shut fenceSVCP))

/-- The first fence of a running mode makes it DEGRADED with that mode as base (R51, Table 03-2). During a power-down to ROOT
SYS_MODE.MODE keeps showing the mode being left (DEDUCED, log entry 33). -/
def enterDegraded (s : State) : State :=
  match s.pwr.mode, s.pwr.seq with
  | .watch, .none | .run, .none | .survey, .none | .bridge, .none =>
    let b := s.pwr.mode
    let s := s.enter .degraded .none
    { s with pwr := { s.pwr with base := b } }
  | _, _ => s

/-- Close the gates of fence target `f` (R181, R185); a fence of a tenant unbinds it (R183). -/
def fence1 (s : State) (f : Nat) : State :=
  if s.fenced f then s
  else
    let s := s.setWord BRK_FENCE.addr (BitVec.ofNat 32 (setBit (s.word BRK_FENCE.addr).toNat f))
    let s := s.setBit BRK_STATUS.FENCED true
    fenceUnit s f

/-- Fence every target, then enter DEGRADED (R173). -/
def fenceAll (s : State) (targets : List Nat) : State := enterDegraded (targets.foldl fence1 s)

/-! ### SAFE -/

/-- Entry to SAFE (R52): bridges off through the trip path, acquisition, Grove chain and rack bridge stopped, the event
committed and the journal closed, the SAFE latch set. -/
def enterSafe (s : State) : State :=
  let s := driveTrip s
  let s := crbStop (groveStop s)
  let s := if s.pwr.mode = .degraded then abandonGraft s else s
  let s := closeJournal (commitEvents s)
  let s := s.enter .safe .none
  { s with pwr := { s.pwr with safeLatch := true, phase := .none, watchAcq := false,
                               fwWindow := false, committed := false, retWait := false } }

/-- A GRAVE reaction: SAFE, or in HOLDUP (and in a power-down that VIN failed in, R93) the trip, the latch and the flag,
the sequence going on (R86). In an ordinary power-down to ROOT the node enters SAFE at once, as Table 03-2 says of every mode
but HOLDUP, although R81 has the power-down go on to its commit point (DEDUCED, log entry 33). In SAFE nothing more
happens. -/
def actGrave (s : State) (src : Nat) : State :=
  match s.pwr.mode with
  | .off | .root | .safe => s
  | _ =>
    if s.pwr.mode = .holdup ∨ (s.pwr.seq = .pdown ∧ s.pwr.pdownLost) then
      let s := (driveTrip s).setBit PWR_HOLD_STAT.GRAVE true
      { s with pwr := { s.pwr with safeLatch := true, retWait := false,
                                   noJournal := s.pwr.noJournal || (58 ≤ src && src ≤ 61) } }
    else enterSafe s

/-! ### Events -/

/-- The window of `src` is open and its time is over: an event that arrives as it expires still counts (Table 06-5). An
escalated source has no window any more (R179). -/
def windowOver (s : State) (src : Nat) : Bool :=
  !s.bitAt (BRK_ESC.ESC (src / 32)) (src % 32) && s.fld (BRK_SRC_CFG.COUNT src) != 0 &&
    decide (SMap.get (fun _ => 0) s.brk.closes src < s.uptime)

/-- A window that has expired returns its count to 0 (R178). -/
def closeWindow (s : State) (src : Nat) : State :=
  if windowOver s src then s.setFld (BRK_SRC_CFG.COUNT src) 0 else s

/-- Every window that has expired is closed. -/
def closeWindows (s : State) : State := (List.range 96).foldl closeWindow s

/-- The count of an event (R178): at count 0 it opens a window, whose length is that of WCODE then; it adds 1; at N the source
escalates. Answers whether this event escalated it. -/
def barkCount (s : State) (src : Nat) : State × Bool :=
  let s := closeWindow s src
  let s := if s.fld (BRK_SRC_CFG.COUNT src) = 0 then
      { s with brk := { s.brk with closes := SMap.set (fun _ => 0) s.brk.closes src
                                      (s.uptime + windowNs (s.fld (BRK_SRC_CFG.WCODE src))) } }
    else s
  let s := s.count (BRK_SRC_CFG.COUNT src)
  if s.bitAt (BRK_ESC.ESC (src / 32)) (src % 32) then (s, false)
  else if barkN s src ≤ s.fld (BRK_SRC_CFG.COUNT src) then (s.setBitAt (BRK_ESC.ESC (src / 32)) (src % 32) true, true)
  else (s, false)

/-- The reaction of class `cls` (Table 06-2): from MINOR on the MSG frame, the PLIC and service-port interrupts and the
log entry; from MAJOR on the fences; at GRAVE entry to SAFE. -/
def barkPerform (s : State) (src cls inst : Nat) (targets : List Nat) : State :=
  let s :=
    if 1 ≤ cls then
      let s := if s.bit BRK_CTRL.MSG_EN then
          sendBarkMsg s src cls (if tenantSource src then some inst else none) else s
      let s := plicRaise s plicBARK
      let s := s.setBit SYS_SVC_IRQ.BARK true
      logEvent s src cls (if tenantSource src then some inst else none)
    else s
  let s := if 2 ≤ cls then fenceAll s targets else s
  if 3 ≤ cls then actGrave s src else s

def stickyBit (s : State) (src : Nat) : Bool := s.bitAt (BRK_STICKY.STICKY (src / 32)) (src % 32)

def setSticky (s : State) (src : Nat) (b : Bool) : State := s.setBitAt (BRK_STICKY.STICKY (src / 32)) (src % 32) b

def barkPerfOf (s : State) (src : Nat) : Nat := SMap.get (fun _ => 0) s.brk.perf src

def setBarkPerf (s : State) (src cls : Nat) : State :=
  { s with brk := { s.brk with perf := SMap.set (fun _ => 0) s.brk.perf src cls } }

/-- Source 0 acts GRAVE whatever its configuration (R196); others at BASE, or at SEVERE once escalated (R178, R179). -/
def actingClass (s : State) (src : Nat) : Nat :=
  if src = 0 then 3
  else if s.bitAt (BRK_ESC.ESC (src / 32)) (src % 32) then barkSevere s src else barkBase s src

/-- The class after R172 (MAJOR without a fence target acts as MINOR) and R182 (GRAVE where the fence would take in a
unit of the service floor or the last access path). -/
def reactionClass (s : State) (src inst : Nat) (targets : List Nat) : Nat :=
  let c := actingClass s src
  if c = 2 then
    if floorEvent src inst then 3
    else if targets.isEmpty then 1
    else if losesLastPath s targets then 3 else 2
  else c

/-- Count an event in BRK_TOTAL under the class it acted at; the register has no field for GRAVE (Table 06-11). -/
def countTotal (s : State) (cls : Nat) : State :=
  match cls with
  | 0 => s.count BRK_TOTAL.INFO
  | 1 => s.count BRK_TOTAL.MINOR
  | 2 => s.count BRK_TOTAL.MAJOR
  | _ => s

/-- Note that `src` has named these targets (R172); they bind unfence until its sticky bit clears (R186). -/
def nameTargets (s : State) (src : Nat) (targets : List Nat) : State :=
  { s with brk := { s.brk with named :=
      (targets.map (fun f => (src, f))).filter (fun p => !s.brk.named.contains p) ++ s.brk.named } }

/-- Note the instance of the source's last event; a sticky bit that sets again under R10 names it once more. -/
def noteInst (s : State) (src inst : Nat) : State :=
  { s with brk := { s.brk with inst := SMap.set (fun _ => 0) s.brk.inst src inst } }

/-- Note that `src` has acted GRAVE (R191). -/
def noteGrave (s : State) (src cls : Nat) : State :=
  if cls = 3 ∧ ¬ s.brk.graves.contains src then { s with brk := { s.brk with graves := src :: s.brk.graves } } else s

/-- An event whose fence targets are all fenced already (R193): it has been counted; one that escalates the source to GRAVE
has that reaction; a sticky bit that a write has just cleared sets again (R10). -/
def barkFenced (s : State) (src inst : Nat) (targets : List Nat) (esc again : Bool) : State :=
  if esc && actingClass s src == 3 then
    setBarkPerf (barkPerform (noteGrave (setSticky s src true) src 3) src 3 inst targets) src 3
  else if again then setSticky s src true
  else s

/-- An event of a source while Bark runs (R169, R173 to R180, R193). `again` is the re-setting of a sticky bit that a
write has just cleared (R10). -/
def barkRun (s : State) (src inst : Nat) (again : Bool) : State :=
  let targets := if floorEvent src inst then [] else fenceTargets src inst
  let (s, esc) := barkCount (nameTargets (noteInst s src inst) src targets) src
  let cls := reactionClass s src inst targets
  if targets ≠ [] ∧ targets.all s.fenced then barkFenced s src inst targets esc again
  else
    let first := !stickyBit s src
    let s := noteGrave (countTotal (setSticky s src true) cls) src cls
    if first || again then setBarkPerf (barkPerform s src cls inst targets) src cls
    else if esc ∧ barkPerfOf s src < cls then setBarkPerf (barkPerform s src cls inst targets) src cls
    else if cls = 3 ∧ barkPerfOf s src < 3 then setBarkPerf (barkPerform s src cls inst targets) src cls
    else if cls = 2 ∧ (¬ byTenant src ∨ barkBase s src = 2) then setBarkPerf (fenceAll s targets) src (Nat.max 2 (barkPerfOf s src))
    else s

/-- Events that stops below Bark owe (R607, R616) are raised. -/
def payOwed (s : State) : State :=
  let l := s.mot.owed
  l.foldl (fun s e => barkRun s e.1 e.2 false) (s.modMot fun m => { m with owed := [] })

/-- The pair of `src` reads error or broken (R167). -/
def pairLive (s : State) (src : Nat) : Bool := s.bitAt (BRK_LIVE.LIVE (src / 32)) (src % 32)

/-- Source `src` raises its error. An event is a change of its pair from no error to error: while the pair reads error
already there is none (R169). With the main rails off Bark does not run: Root holds the events of ROOT_FAST sources, one each
(R170, R190), and the checkers of other domains do not run. -/
def bark (s : State) (src : Nat) (inst : Nat := 0) : State :=
  if s.railsOn then (if pairLive s src then s else payOwed (barkRun s src inst false))
  else if rootFastSource src && !s.pwr.heldSrc.contains src then
    { s with pwr := { s.pwr with heldSrc := s.pwr.heldSrc ++ [src] } }
  else s

/-- At the end of WAKING Root hands each held event to Bark (R170, R190). -/
def handHeldEvents (s : State) : State :=
  let held := s.pwr.heldSrc
  held.foldl (fun s src => barkRun s src 0 false) { s with pwr := { s.pwr with heldSrc := [] } }

/-! ### Commands -/

/-- Set what a pair reads now: LIVE for error or broken, PAIR for broken. -/
def setPair (s : State) (src : Nat) (live broken : Bool) : State :=
  if s.railsOn then
    (s.setBitAt (BRK_LIVE.LIVE (src / 32)) (src % 32) live).setBitAt (BRK_PAIR.PAIR (src / 32)) (src % 32) broken
  else s

/-- A lasting cause of source `src` begins or ends within its unit: the pair reads it as long as it lasts (R167). -/
def pairFollows (s : State) (src : Nat) (live : Bool) : State := setPair s src live false

/-- An error on the M-die interface also counts in HWD_CNT (Table 11-9). -/
def countLink (s : State) (src : Nat) : State :=
  if src = Src.HWD_LINK ∧ s.railsOn then s.count HWD_CNT.LINK else s

/-- The checker that an injection waits for has raised its error (R197). -/
def injectionDone (s : State) (src : Nat) : State :=
  match s.brk.inj with
  | some (x, _) => if x = src then ({ s with brk := { s.brk with inj := none } }).setFld BRK_INJ.STATUS 2 else s
  | none => s

/-- What PWR_VIO tells of the supplies: `inst` 0 is VIO_GEN, which holds TRIP_N low while it is out of range (R29), 1 is
VIO_CRB. -/
def vioState (s : State) (inst : Nat) (out : Bool) : State :=
  let s := { s with pwr := if inst = 0 then { s.pwr with vioGenOk := !out } else { s.pwr with vioCrbOk := !out } }
  if s.running then payOwed (tripLandFollows s) else s

/-- The pair of `src` comes to read error, and stays so where the cause does; with `stays` = 0 a pair that read error
returns to no error (R167, R169). -/
def doBarkSourceEvent (src inst : Nat) (stays : Bool) (s : State) : State :=
  let was := pairLive s src
  let s := if src = Src.PWR_VIO then vioState s inst stays else s
  let s := if was then s else bark (countLink (injectionDone s src) src) src inst
  setPair s src (stays || (src == Src.PWR_VIO && !(s.pwr.vioGenOk && s.pwr.vioCrbOk))) false

/-- The pair of `src` has been broken for 4 cycles (R168). -/
def doBarkPairBroken (src inst : Nat) (stays : Bool) (s : State) : State :=
  setPair (bark (injectionDone s src) src inst) src stays stays

/-- The window ends before the count reached N: the count returns to 0 at the window's end (R178). -/
def doBarkWindowExpiry (src : Nat) (s : State) : State :=
  if s.running && !s.bitAt (BRK_ESC.ESC (src / 32)) (src % 32) && s.fld (BRK_SRC_CFG.COUNT src) != 0 then
    let s := s.advanceTo (s.tim.now + (SMap.get (fun _ => 0) s.brk.closes src - s.uptime))
    s.setFld (BRK_SRC_CFG.COUNT src) 0
  else s

/-- A register held in three copies (R195). -/
def votedReg (a : Nat) : Bool :=
  a = BRK_CTRL.addr || (BRK_SRC_CFG.addr 0 ≤ a && a ≤ BRK_SRC_CFG.addr 95 && a % 4 == 0)

/-- The copy `c` of a voted register. -/
def voteCopy (s : State) (c a : Nat) : Word :=
  match c with
  | 0 => s.word a
  | 1 => (SMap.get (fun _ => none) s.brk.voteB a).getD (s.word a)
  | _ => (SMap.get (fun _ => none) s.brk.voteC a).getD (s.word a)

/-- The word a read returns: the value two copies agree on; the first copy where all differ (R195). -/
def majority (s : State) (a : Nat) : Word :=
  if voteCopy s 1 a = voteCopy s 2 a then voteCopy s 1 a else s.word a

/-- A copy comes to differ: BRK_VOTE acts and the node enters SAFE at once (R196). -/
def doVoteMismatch (copy a : Nat) (v : Word) (s : State) : State :=
  if s.running && votedReg a then
    let b := voteCopy s 1 a
    let c := voteCopy s 2 a
    let b' := if copy = 1 then v else b
    let c' := if copy = 2 then v else c
    let s1 := if copy = 0 then s.setWord a v else s
    let s1 := { s1 with brk := { s1.brk with
      voteB := SMap.set (fun _ => none) s1.brk.voteB a (if b' = s1.word a then none else some b')
      voteC := SMap.set (fun _ => none) s1.brk.voteC a (if c' = s1.word a then none else some c') } }
    if v = voteCopy s copy a then s else bark (s1.setBit BRK_STATUS.VOTE_OK false) Src.BRK_VOTE
  else s

/-- Clear one sticky bit (R179): back to BASE, count 0, window closed; not where the source has acted GRAVE (R191). While
the pair still reads error or broken the bit sets again, which is an event (R10, R169). -/
def clearSticky1 (s : State) (src : Nat) : State :=
  if s.brk.graves.contains src || !stickyBit s src then s
  else
    let s := setSticky s src false
    let s := (s.setBitAt (BRK_ESC.ESC (src / 32)) (src % 32) false).setFld (BRK_SRC_CFG.COUNT src) 0
    let s := setBarkPerf s src 0
    if pairLive s src then barkRun s src (SMap.get (fun _ => 0) s.brk.inst src) true
    else { s with brk := { s.brk with named := s.brk.named.filter (fun p => p.1 != src) } }

/-- A write of 1s to BRK_STICKYk (R173, R179). -/
def writeSticky (s : State) (k : Nat) (v : Word) : State :=
  (List.range 32).foldl (fun s i => if nbit v.toNat i then clearSticky1 s (32 * k + i) else s) s

/-- Sources whose fence target depends on who raised the event (R172). -/
def indexedSource (src : Nat) : Bool := [3, 4, 5, 17, 53, 54, 62, 63, 65, 87].contains src

/-- Source `src` has fence target `f`: by Table 06-1, or named by its events (R172, R186). -/
def fencesTarget (s : State) (src f : Nat) : Bool :=
  if indexedSource src then s.brk.named.contains (src, f)
  else !floorSource src && (fenceTargets src 0).contains f

/-- R186: every source whose fence target is `f` has its sticky bit clear and its pair at no error. -/
def mayUnfence (s : State) (f : Nat) : Bool :=
  (List.range 96).all fun src =>
    !fencesTarget s src f || (!stickyBit s src && !s.bitAt (BRK_LIVE.LIVE (src / 32)) (src % 32))

/-- The last fence is lifted: the node leaves DEGRADED for its base (R51). -/
def leaveDegraded (s : State) : State :=
  if (s.word BRK_FENCE.addr).toNat = 0 then
    let s := s.setBit BRK_STATUS.FENCED false
    if s.pwr.mode = .degraded then (abandonGraft s).enter s.pwr.base s.pwr.seq else s
  else s

/-- The gates of `f` reopen and its BRK_FENCE bit reads 0 (R186, R187). -/
def liftFence (s : State) (f : Nat) : State :=
  let s := s.setWord BRK_FENCE.addr (BitVec.ofNat 32 (clrBit (s.word BRK_FENCE.addr).toNat f))
  let s := unfenceUnit s f
  leaveDegraded { s with sys := { s.sys with unfencing := clrBit s.sys.unfencing f } }

/-- Start the reset of unit `u` (SYS_URST numbering; 24 to 26 for the targets of R188): its status bit reads 1, its
registers and state go to their reset values. -/
def startUnitReset (s : State) (u : Nat) : State :=
  let s := if u < 23 then s.setWord SYS_URST_STAT.addr (BitVec.ofNat 32 (setBit (s.word SYS_URST_STAT.addr).toNat u))
    else if u = 25 ∨ u = 26 then s.setBit SYS_URST_STAT.GRV true else s
  resetUnitState s u

/-- A 1 written to bit `f` of BRK_UNFENCE (R186, R188). A tenant's fence needs no reset and lifts at once. -/
def unfence1 (s : State) (f : Nat) : State :=
  if !s.fenced f || nbit s.sys.unfencing f then s
  else if !mayUnfence s f then s.setBit BRK_STATUS.UNFENCE_REF true
  else if 28 ≤ f then liftFence s f
  else startUnitReset { s with sys := { s.sys with unfencing := setBit s.sys.unfencing f } } (fenceToReset f)

def writeUnfence (s : State) (v : Word) : State :=
  (List.range 32).foldl (fun s f => if nbit v.toNat f && (f ≤ 24 || 28 ≤ f) then unfence1 s f else s) s

/-! ### Fault injection (R197 to R199) -/

/-- Sources with a CHK entry in Table 06-1. -/
def chkSources : List Nat :=
  [11, 25, 28, 29, 30, 31, 34, 36, 37, 38, 39, 40, 41, 42, 43, 44, 45, 46, 47, 48, 49, 50, 51, 52, 55, 56, 57, 58, 59,
   61, 63, 64, 68, 69, 70, 71, 72, 80, 87, 88, 95]

/-- Sources with a CHK (FT) entry. -/
def chkFtSources : List Nat := [1, 2, 6, 21]

/-- Sources marked P. -/
def pdieSources : List Nat := [90, 91, 92, 93, 94]

/-- How many of `INST`'s values name a part of the source; single-part sources ignore INST (R197). -/
def instCount (src : Nat) : Nat :=
  if src = 62 ∨ src = 63 ∨ src = 65 then 4
  else if src = 17 ∨ (66 ≤ src ∧ src ≤ 69) ∨ (81 ≤ src ∧ src ≤ 87) then 2 else 4

/-- The node refuses the injection (R198). Outside FACTORY TEST it also refuses one whose fence would make the reaction
GRAVE (R199). -/
def injectRefused (s : State) (src mode inst : Nat) : Bool :=
  let ft := s.pwr.mode == .factory
  96 ≤ src || (mode == 0 && !chkSources.contains src && !chkFtSources.contains src) ||
    (!ft && (chkFtSources.contains src || barkBase s src == 3 || barkSevere s src == 3)) ||
    (!ft && mode != 0) || (mode == 3 && !pdieSources.contains src) || instCount src ≤ inst ||
    (!ft && (barkBase s src == 2 || barkSevere s src == 2) && fenceTargets src inst ≠ [] &&
      losesLastPath s (fenceTargets src inst))

/-- The instance an injection names: a source that fences tenants names none, IC_TIMEOUT no unit (R197). -/
def injInst (src inst : Nat) : Nat := if byTenant src then 7 else if src = Src.IC_TIMEOUT then 31 else inst

/-- A write of BRK_INJ: SRC, MODE, INST and the reserved bits are stored; GO = 1 starts the injection, or is refused, or
performs nothing while one is pending. CHK and PDIE wait for the next check of their checker, STATUS reading PENDING
(R197, R199, log entry 33); LINE00 and LINE11 force the pair at once. -/
def writeInj (s : State) (v : Word) : State :=
  if wordField v 10 1 = 0 then s.setWord BRK_INJ.addr ((v &&& 0xFFFFCBFF) ||| (s.word BRK_INJ.addr &&& 0x3000))
  else if s.fld BRK_INJ.STATUS = 1 then s
  else
    let src := wordField v 0 7
    let mode := wordField v 8 2
    let inst := wordField v 14 2
    let s := s.setWord BRK_INJ.addr (v &&& 0xFFFFCBFF)
    if injectRefused s src mode inst then s.setFld BRK_INJ.STATUS 3
    else if mode = 1 ∨ mode = 2 then
      let s := s.setFld BRK_INJ.STATUS 2
      let was := pairLive s src
      let s := { s with brk := { s.brk with injLine := s.brk.injLine ++ [(src, was)] } }
      setPair (bark s src (injInst src inst)) src true true
    else ({ s with brk := { s.brk with inj := some (src, injInst src inst) } }).setFld BRK_INJ.STATUS 1

/-- The line forced longest is released after its 8 cycles (R199): its pair reads what it read before, unless another
injection still holds it. -/
def doInjectLineRelease (s : State) : State :=
  match s.brk.injLine with
  | (src, was) :: rest =>
    let s := { s with brk := { s.brk with injLine := rest } }
    if rest.any fun p => p.1 == src then s else setPair s src was false
  | [] => s

end Sys2Proof.Machine
end

