-- ==== Sys2Proof/Machine/DriveCmds.lean ====
section
/-! DEFINITION. What the commands of the drive stage do (chapter 19): faults, trips, standstill, stalls; and the tick and
the stops of the motion controller that raise events (chapter 18). -/

namespace Sys2Proof.Machine

/-! ### Faults (R648, R649) -/

/-- A fault sets its bit, its flag and its event; all but OTW drive the trip path and halt the axes. -/
def drvFault (s : State) (r : FRef) (i src : Nat) : State :=
  let s := drvIrq (s.setBitAt r i true) DRV_IRQ.FAULT
  bark (tripAll s DRV_TRIP.FAULT 4) src

/-- A fault whose cause lasts is detected: where the drive stage works, as any fault; a fenced one only raises its event,
which counts (R193). The pair reads error as long as the cause lasts (R167). -/
def drvLasting (s : State) (r : FRef) (src : Nat) : State :=
  pairFollows (if s.up fenceDRV then drvFault s r 0 src else bark s src) src true

/-- The pair of DRV_VM reads the supply's condition. -/
def vmPair (s : State) : State := pairFollows s Src.DRV_VM (s.pwr.vmUv || s.pwr.vmOv)

/-- PWR_STATUS.VM_UV or VM_OV sets. -/
def vmFault (s : State) (uv : Bool) : State :=
  drvLasting s (if uv then DRV_FAULT.VM_UV else DRV_FAULT.VM_OV) Src.DRV_VM

def doDrvOcp (n : Nat) (s : State) : State :=
  if s.up fenceDRV && drvOn s n then drvFault s DRV_FAULT.OCP n Src.DRV_OCP else s

/-- A moving coil stays below 25 % of its target at the largest on-time for 16 periods. -/
def doDrvOpenDetect (n : Nat) (s : State) : State :=
  if s.up fenceDRV && drvOn s n && s.bitAt MOT_STATUS.MOVING n then drvFault s DRV_FAULT.OPEN n Src.DRV_OPEN else s

/-- The junction temperature, offset by +50 °C: OTW above 135 °C, off below 125 °C. -/
def doDrvOtw (temp : Nat) (s : State) : State :=
  if !s.up fenceDRV then s
  else
    let s := s.setFld DRV_TEMP.DEGC temp
    if 185 < temp ∧ !s.bit DRV_FAULT.OTW then
      drvIrq (drvIrq (s.setBit DRV_FAULT.OTW true) DRV_IRQ.FAULT) DRV_IRQ.OTW
    else if temp < 175 then s.setBit DRV_FAULT.OTW false
    else s

/-- OTP above 155 °C; its cause is gone below 135 °C. -/
def doDrvOtp (temp : Nat) (s : State) : State :=
  let s := if s.up fenceDRV then s.setFld DRV_TEMP.DEGC temp else s
  if 205 < temp ∧ !s.drv.otpHot ∧ s.running then
    drvLasting (s.modDrv fun d => { d with otpHot := true }) DRV_FAULT.OTP Src.DRV_OTP
  else if temp < 185 then pairFollows (s.modDrv fun d => { d with otpHot := false }) Src.DRV_OTP false
  else s

def doDrvLinkCrc (s : State) : State :=
  if s.up fenceDRV then
    drvFault (s.modDrv fun d => { d with linkAt := some s.uptime }) DRV_FAULT.LINK 0 Src.DRV_LINK
  else s

def doDrvClockLoss (lost : Bool) (s : State) : State :=
  if !s.running then s
  else if lost && !s.drv.clkLost then
    drvLasting (s.modDrv fun d => { d with clkLost := true }) DRV_FAULT.CLK Src.DRV_LINK
  else pairFollows (s.modDrv fun d => { d with clkLost := lost }) Src.DRV_LINK lost

/-- A write of DRV_FAULT: a bit whose cause persists sets again (R10, R649); its pair has read error all along. -/
def writeDrvFault (s : State) (v : Word) : State :=
  let old := s.word DRV_FAULT.addr
  let s := s.setWord DRV_FAULT.addr (old &&& ~~~ (v &&& tripFaults))
  let again := fun (s : State) (r : FRef) (c : Bool) (src : Nat) =>
    if c && nbit (old &&& v).toNat r.lo then drvFault s r 0 src else s
  let s := again s DRV_FAULT.OTP s.drv.otpHot Src.DRV_OTP
  let s := again s DRV_FAULT.VM_UV s.pwr.vmUv Src.DRV_VM
  let s := again s DRV_FAULT.VM_OV s.pwr.vmOv Src.DRV_VM
  let s := again s DRV_FAULT.CLK s.drv.clkLost Src.DRV_LINK
  tripFaultFollows s

/-! ### The trip lands (R651, R652) -/

/-- TRIP_N is low for 30 ns; it acts while VM is present (R29). -/
def doTripNLow (s : State) : State :=
  let s := s.modDrv fun d => { d with tripN := true }
  if s.running then payOwed (tripLandFollows s) else s

def doTripRelease (s : State) : State :=
  let s := s.modDrv fun d => { d with tripN := false }
  if s.running then tripLandFollows s else s

/-- The drive stage starts with the clocks: TRIP_N acts as it reads, and a fault whose cause stands is detected (R29, R45,
R648; DEDUCED, log entry 62). -/
def driveStarts (s : State) : State :=
  let s := payOwed (tripLandFollows s)
  let s := if s.drv.otpHot then drvLasting s DRV_FAULT.OTP Src.DRV_OTP else s
  let s := if s.pwr.vmUv then vmFault s true else s
  let s := if s.pwr.vmOv then vmFault s false else s
  if s.drv.clkLost then drvLasting s DRV_FAULT.CLK Src.DRV_LINK else s

/-- A trunk STOP (R465, R602): the STOP latch, every axis halted, REASON and tenant recorded. -/
def trunkStop (s : State) (t reason : Nat) : State :=
  let s := ((s.setFld MOT_STOPINFO.REASON reason).setFld MOT_STOPINFO.TENANT t).setBit MOT_STOPINFO.VALID true
  payOwed (tripAll s DRV_TRIP.STOP 5)

/-! ### Standstill and energising (R641 to R643) -/

/-- No microstep for STBY_MS. -/
def doStandstillEntry (n : Nat) (s : State) : State :=
  if s.up fenceDRV && drvAllowed s n && drvState s n == 1 && !s.bitAt MOT_STATUS.MOVING n then
    standstill (s.runTo ((drvAx s n).moved + Nat.max 1 (s.fld (DRV_AX_CFG.STBY_MS n)) * 1000000)) n
  else s

/-- The 500 µs end: an axis that waits to move is driven, another stands still. -/
def doEnergiseEnd (n : Nat) (s : State) : State :=
  if s.up fenceDRV && drvState s n == 4 then
    if axActive s n && motEnabled s then setDrvState (modDrvAx s n fun a => { a with moved := s.uptime }) n 1 else standstill s n
  else s

/-! ### Stalls (R644 to R647) -/

/-- A stall is declared: a reference in STALL homing, else flags, event and halt. -/
def declareStall (s : State) (n : Nat) : State :=
  let homing := axState s n == axHOMING && s.fld (MOT_HOME_CFG.METHOD n) == 3 &&
    (s.fld (MOT_STAT.HPHASE n) == 1 || s.fld (MOT_STAT.HPHASE n) == 3)
  let s := drvIrq (s.setBit (DRV_AX_STAT.STALL n) true) ⟨DRV_IRQ.addr, 4 + n, 1⟩
  if homing then homeReference s n (axPos s n)
  else bark (haltWith s n 7 true) Src.DRV_STALL

/-- The demand Id of R646 for load angle `la`. LA_LO and LA_HI are the fields LA_DN and LA_UP, RISE and FALL the steps
ISTEP per UP_MS and per 8 × DN_MS (log entry 15). -/
def loadDemand (s : State) (n la : Nat) : Nat :=
  let lo := s.fld (DRV_AX_LOAD_CFG.LA_DN n)
  let hi := s.fld (DRV_AX_LOAD_CFG.LA_UP n)
  let mn := drvImin s n
  let run := drvIrun s n
  if la ≤ lo then mn
  else if hi ≤ lo ∨ hi ≤ la then run
  else mn + (run - mn) * (la - lo) / (hi - lo)

/-- I moves toward the demand, in 10^-6 mA, over `dt` ns. -/
def loadAdapt (s : State) (n la dt : Nat) : Nat :=
  let now := (drvAx s n).cur.getD (drvIrun s n * 1000000)
  let want := loadDemand s n la * 1000000
  let istep := Nat.max 1 (s.fld (DRV_AX_LOAD_CFG2.ISTEP n))
  let up := istep * dt / Nat.max 1 (s.fld (DRV_AX_LOAD_CFG2.UP_MS n))
  let dn := istep * dt / (8 * Nat.max 1 (s.fld (DRV_AX_LOAD_CFG2.DN_MS n)))
  let i := if now ≤ want then Nat.min want (now + up) else Nat.max want (now - dn)
  clampN (drvImin s n * 1000000) (drvIrun s n * 1000000) i

/-- One full step under LOAD (R645 to R647). -/
def doLoadAngleStep (n la : Nat) (s : State) : State :=
  if !s.up fenceDRV || !drvOn s n || !drvLoad s n then s
  else if !loadFast s n then
    let s := modDrvAx s n fun a => { a with cur := none, ovr := 0, stepAt := s.uptime }
    ((s.setFld (DRV_AX_LOAD.LA n) 0).setFld (DRV_AX_LOAD.I n) (drvIrun s n)).setBit (DRV_AX_STAT.LOAD_VALID n) false
  else
    let i := loadAdapt s n la (s.uptime - (drvAx s n).stepAt)
    let ovr := if s.fld (DRV_AX_LOAD_CFG.LA_LIMIT n) < la ∧ drvIrun s n * 1000000 ≤ i then (drvAx s n).ovr + 1 else 0
    let s := modDrvAx s n fun a => { a with cur := some i, ovr := ovr, stepAt := s.uptime }
    let s := ((s.setFld (DRV_AX_LOAD.LA n) la).setFld (DRV_AX_LOAD.I n) (i / 1000000)).setBit (DRV_AX_STAT.LOAD_VALID n) true
    let s := if s.fld (DRV_AX_LAMAX.LA n) < la then s.setFld (DRV_AX_LAMAX.LA n) la else s
    if s.fld (DRV_AX_LOAD_CFG.LA_FILT n) + 1 ≤ ovr ∧ !s.bit (DRV_AX_STAT.STALL n) then declareStall s n else s

/-! ### Halts that are events (R600) -/

/-- A halt of cause LIMIT, FOLLOWING, GEAR_OVER or FOLLOW_OVER, with its event. -/
def haltEvent (s : State) (n cause : Nat) (keep : Bool) : State := bark (haltWith s n cause keep) Src.MOT_AXIS n

/-- LIMIT is active and the axis moves, or is to move, toward its side (R622). -/
def limitBlocks (s : State) (n : Nat) (neg : Bool) : Bool :=
  s.bit (MOT_CFG.LIM_EN n) && s.bit (MOT_STAT.LIMIT n) && (neg == !s.bit (MOT_CFG.LIM_SIDE n))

/-- The halt of R622, but in the STALL homing whose reference LIMIT is. -/
def limitCheck (s : State) (n : Nat) : State :=
  let a := axisOf s n
  let stallHome := axState s n == axHOMING && s.fld (MOT_HOME_CFG.METHOD n) == 3
  if axActive s n && a.v != 0 && limitBlocks s n a.neg && !stallHome then haltEvent (s.count (MOT_CNT.LIMIT n)) n 8 false
  else s

def doLimitActive (n : Nat) (high : Bool) (s : State) : State :=
  if s.up fenceMOT then limitCheck (s.setBit (MOT_STAT.LIMIT n) (high != s.bit (MOT_CFG.LIM_POL n))) n else s

/-- The deviation has lasted FILT_MS, or is there now with FILT_MS = 0 (R621). -/
def doEncoderDeviationHalt (n : Nat) (s : State) : State :=
  let s := devNote s n
  match (axisOf s n).devAt with
  | some u =>
    if motEnabled s && axState s n != axHALTED then
      let s := s.runTo (u + s.fld (MOT_ENC_CFG.FILT_MS n) * 1000000)
      haltEvent ((s.setFld (MOT_ENCPOS.POS n) (ofSigned 32 (encPos s n))).count (MOT_CNT.FOLERR n)) n 6 true
    else s
  | none => s

/-! ### Ticks (R598, R599, R608, R613, R618) -/

/-- An axis arrives: AT_TARGET and DONE. -/
def arrive (s : State) (n : Nat) : State :=
  motIrq (setAxState (modAxis s n fun x => { x with v := 0 }) n axIDLE) MOT_IRQ.DONE n

/-- A ramped stop ends: what follows for each axis of it. -/
def stopEnds (s : State) (ms : List Nat) : State :=
  let next := (axisOf s (ms.headD 0)).next
  let s := s.modMot fun m => { m with grp := none, kept := if (ms.all fun n => (axisOf s n).next == .stopped) ∧ m.grp.isSome then m.grp
                                              else m.kept }
  let s := ms.foldl (fun s n =>
    let s := modAxis s n fun x => { x with v := 0 }
    match (axisOf s n).next with
    | .stopped => setAxState (setRemain s n) n axSTOPPED
    | .idle => (let s := setAxState (dropRemain s n) n axIDLE
                if s.pwr.seq = .none ∧ s.pwr.mode ≠ .holdup then s else parkAxis s n)
    | .newLine => setAxState s n axIDLE
    | .newMode => enterAxMode s n) s
  if next = .newLine ∧ motEnabled s then
    (if 2 ≤ (groupMembers s).length ∧ ms.any (groupMembers s).contains then startLine s (groupMembers s)
     else ms.foldl startMove s)
  else s

/-- One tick of a ramped stop of axis `n`. -/
def stopTick (s : State) (n : Nat) : State :=
  let a := axisOf s n
  let r := rampOf s n
  let ms := match s.mot.grp with | some g => g.members | none => [n]
  if a.v = 0 then stopEnds s ms
  else
    let v := r.brake a.v
    let s := moveTo (modAxis s n fun x => { x with v := v }) n (if a.neg then a.p - v else a.p + v)
    let s := match s.mot.grp with | some g => groupFollow s g | none => s
    if v ≤ r.land * 1000000 then stopEnds s ms else showAxis s n

/-- One tick of a moving axis, alone or leading its group. -/
def moveTick (s : State) (n : Nat) : State :=
  let a := axisOf s n
  let t := match s.mot.grp with
    | some g => (g.start.getD n 0 + g.delta.getD n 0) * stepUnits
    | none => axTarget s n * stepUnits
  let (p, v, neg, done) := (rampOf s n).tick a.p a.v a.neg t
  let s := modAxis (moveTo s n p) n fun x => { x with v := v, neg := neg }
  match s.mot.grp with
  | some g =>
    let s := groupFollow s g
    if done then g.members.foldl arrive (s.modMot fun m => { m with grp := none }) else showAxis s n
  | none => if done then arrive s n else showAxis s n

/-- The velocity that the master commands, 0 once it has stopped (R616). -/
def gearCommand (s : State) (n : Nat) : Int :=
  if s.bitAt TCH_STATUS.STOPPED (s.fld (MOT_GEAR_CFG.MASTER n)) then 0 else (axisOf s n).gear.vcmd

/-- One tick of a geared axis: during a slew its velocity and GEAR_LAG (R613), else its locked place, taken up late by an
axis whose bridges were being energised. -/
def gearTick (s : State) (n : Nat) : State :=
  let a := axisOf s n
  let vcmd := gearCommand s n
  let locked := a.gear.p0 * stepUnits + gearF s n a.gear.m * (stepUnits / 65536)
  if !a.gear.slew then
    let s := moveTo s n (roundDivI (locked - a.gear.lag) stepUnits * stepUnits)
    showAxis (modAxis s n fun x => { x with v := vcmd.natAbs, neg := if vcmd = 0 then x.neg else decide (vcmd < 0) }) n
  else
    let g := (s.fld (MOT_GACC.A n) : Int)
    let cur : Int := if a.neg then -(a.v : Int) else a.v
    let v := if g = 0 ∨ (vcmd - cur).natAbs ≤ g.toNat then vcmd else if cur < vcmd then cur + g else cur - g
    let s := moveTo s n (a.p + v)
    let lag := locked - (axisOf s n).p
    let s := modAxis s n fun x => { x with v := v.natAbs, neg := decide (v < 0),
                                           gear := { x.gear with slew := v != vcmd, lag := lag } }
    showAxis (s.setFld (MOT_GEAR_LAG.LAG n) (ofSigned 32 (roundDivI lag stepUnits))) n

/-- One tick of a following axis: toward its target at up to 4 microsteps in a tick (R618). -/
def followTick (s : State) (n : Nat) : State :=
  let a := axisOf s n
  let d := a.ftgt * stepUnits - a.p
  let k := clampI (-4 * stepUnits) (4 * stepUnits) d
  let s := modAxis (moveTo s n (a.p + k)) n fun x => { x with v := k.natAbs, neg := if k = 0 then x.neg else decide (k < 0) }
  showAxis s n

/-- One tick of axis `n`. Members of a group move with its lead; an axis whose bridges are being energised waits. -/
def axisTick (s : State) (n : Nat) : State :=
  let led := match s.mot.grp with | some g => g.members.contains n && g.lead != n | none => false
  let waits := match s.mot.grp with
    | some g => if g.members.contains n then g.members.any (drvHolds s) else drvHolds s n
    | none => drvHolds s n
  let st := axState s n
  if led || !axActive s n || (waits && (axisOf s n).v == 0 && st != axSTOPPING) then s
  else
    let s :=
      if st = axSTOPPING then stopTick s n
      else if !motEnabled s then s
      else if st = axMOVING then moveTick s n
      else if st = axHOMING then showAxis (homeTick s n) n
      else if st = axGEARED then gearTick s n
      else followTick s n
    let s := modAxis s n fun x => { x with trail := (axPos s n :: x.trail).take 3 }
    limitCheck s n

/-- Every 1 µs. -/
def doMotionTick (s : State) : State :=
  if s.up fenceMOT then payOwed ((List.range 4).foldl devNote ((List.range 4).foldl axisTick s)) else s

end Sys2Proof.Machine
end

