-- ==== Sys2Proof/Machine/MotionCmds.lean ====
section
/-! DEFINITION. What the commands of the motion controller do (chapter 18). -/

namespace Sys2Proof.Machine

/-! ### MOT_n_CMD (R600, R603 to R605, R607, R624) -/

def cmdOk (s : State) (n : Nat) : State := s.setFld (MOT_STAT.CMDRES n) 1
def cmdRefused (s : State) (n : Nat) : State := s.setFld (MOT_STAT.CMDRES n) 2

def atRest (s : State) (n : Nat) : Bool := axState s n == axSTOPPED || axState s n == axHALTED

/-- OP = STOP: a ramped stop of an axis that moves; one at rest stays as it is. -/
def axisStopCmd (s : State) (n : Nat) : State :=
  let s := cmdOk s n
  if axActive s n && axState s n != axSTOPPING then rampWith s n 1 .stopped else s

/-- OP = HALT: an axis that moves halts; one at rest stays as it is. -/
def axisHaltCmd (s : State) (n : Nat) : State :=
  let s := cmdOk s n
  if axActive s n then haltWith s n 3 true else s

/-- Why RESUME is refused (R603). -/
def resumeRefused (s : State) (n : Nat) : Bool :=
  !motEnabled s || !atRest s n || axMode s n != 0 || [8, 9, 10, 11].contains (s.fld (MOT_STAT.CAUSE n)) ||
    tripActive s || s.word DRV_FAULT.addr &&& tripFaults != 0

/-- OP = RESUME: after a FOLLOWING halt the position is first that of the encoder. -/
def axisResumeCmd (s : State) (n : Nat) : State :=
  if resumeRefused s n then cmdRefused s n
  else
    let s := cmdOk s n
    let ms := (axesWith s n).filter (atRest s)
    let s := ms.foldl (fun s i =>
      if s.fld (MOT_STAT.CAUSE i) = 6 then
        let e := encPos s i
        let s := s.setFld (MOT_POS.POS i) (ofSigned 32 e)
        (modAxis s i fun x => { x with p := axPos s i * stepUnits }).setBit (MOT_STAT.POS_SUSPECT i) false
      else s) s
    match keptLine s ms with
    | some g => resumeLine s g
    | none => if 2 ≤ ms.length then startLine s ms else startMove s n

/-- OP = CLEAR, on the whole group. -/
def axisClearCmd (s : State) (n : Nat) : State :=
  if !(motEnabled s && atRest s n) then cmdRefused s n
  else cmdOk ((axesWith s n).foldl (fun s i => if atRest s i then axisIdle s i else s) s) n

/-- OP = HOME. -/
def axisHomeCmd (s : State) (n : Nat) : State :=
  let meth := s.fld (MOT_HOME_CFG.METHOD n)
  let ok := motEnabled s && (axState s n == axIDLE || atRest s n) && axMode s n == 0 && !tripActive s &&
    !((meth == 1 || meth == 2) && !s.bit (MOT_ENC_CFG.EN n))
  if !ok then cmdRefused s n
  else
    let s := cmdOk (drvWake (dropRemain s n) n) n
    let s := modAxis s n fun x => { x with p := axPos s n * stepUnits, v := 0, hom := {} }
    let s := (s.setBit (MOT_STAT.HOME_FAIL n) false).setBit (DRV_AX_STAT.STALL n) false
    homePhase (setAxState s n axHOMING) n (if meth ≤ 1 ∧ s.bit (MOT_STAT.HOME n) then 2 else 1)

/-- OP = SETPOS. -/
def axisSetposCmd (s : State) (n : Nat) : State :=
  if axState s n ≠ axIDLE ∨ !motEnabled s then cmdRefused s n
  else showAxis (cmdOk (rebase s n (s.sfld (MOT_SETPOS.POS n) - axPos s n)) n) n

def motCommand (s : State) (n op : Nat) : State :=
  match op with
  | 1 => axisStopCmd s n
  | 2 => axisResumeCmd s n
  | 3 => payOwed (axisHaltCmd s n)
  | 4 => axisHomeCmd s n
  | 5 => axisSetposCmd s n
  | 6 => axisClearCmd s n
  | _ => s

/-! ### Applies of group 7 (R596, R599, R604, R608 to R610, R615, R622) -/

/-- The new target lies toward the limit that is active. -/
def limitRefuses (s : State) (n : Nat) : Bool := limitBlocks s n (decide (axTarget s n < axPos s n))

/-- Axis `n` leaves a group that moves for a new mode: the group stops on its ramp, the others with cause GROUP (R600,
R610). -/
def groupLeft (s : State) (g : GroupRun) (n : Nat) : State :=
  g.members.foldl (fun s i => if i = n then ramp1 s 0 .newMode i else ramp1 s 12 .stopped i) s

/-- A changed MODE: an axis that moves stops first. -/
def modeApplied (s : State) (n : Nat) : State :=
  let moves := axActive s n && (axisOf s n).v != 0
  if !motEnabled s then s
  else if moves then
    match s.mot.grp with
    | some g => if g.members.contains n then groupLeft s g n else ramp1 (modAxis s n fun x => { x with gear := {} }) 0 .newMode n
    | none => ramp1 (modAxis s n fun x => { x with gear := {} }) 0 .newMode n
  else enterAxMode s n

/-- An apply that sets MODE to GEAR or FOLLOW again, for an axis at rest (R610). -/
def modeSetAgain (old s : State) (n : Nat) : Bool :=
  motEnabled s && axMode s n != 0 && (axState s n == axIDLE || atRest s n) && old.stg.any (·.1 == MOT_CFG.addr n)

/-- A changed TARGET of an axis in mode POS, by itself. -/
def targetApplied (s : State) (n : Nat) : State :=
  let st := axState s n
  if !motEnabled s then showAxis s n
  else if st = axIDLE ∨ (st = axHALTED ∧ s.fld (MOT_STAT.CAUSE n) = 8) then
    if limitRefuses s n then showAxis (s.count (MOT_CNT.LIMIT n)) n
    else if tripActive s then setAxState (setRemain (s.setFld (MOT_STAT.CAUSE n) 4) n) n axHALTED
    else startMove (modAxis s n fun x => { x with p := axPos s n * stepUnits, v := 0 }) n
  else if atRest s n then showAxis (setRemain s n) n
  else showAxis s n

/-- Changed TARGETs of members of the group. -/
def groupApplied (s : State) (ms changed : List Nat) : State :=
  if changed.isEmpty || !motEnabled s then changed.foldl showAxis s
  else
    match s.mot.grp with
    | some g => if changed.any g.members.contains then
        (if axState s g.lead = axMOVING then rampWith s g.lead 0 .newLine else s) else s
    | none =>
      if changed.any fun n => axState s n == axIDLE || (axState s n == axHALTED && s.fld (MOT_STAT.CAUSE n) == 8) then
        if tripActive s then ms.foldl (fun s n => setAxState (setRemain (s.setFld (MOT_STAT.CAUSE n) 4) n) n axHALTED) s
        else
          match changed.find? (limitRefuses s) with
          | some n => showAxis (s.count (MOT_CNT.LIMIT n)) n
          | none => startLine s ms
      else changed.foldl (fun s n => showAxis (if atRest s n then setRemain s n else s) n) s

/-- An apply of group 7 from state `old`. -/
def motionApplied (old s : State) : State :=
  let axs := List.range 4
  let s := axs.foldl (fun s n => if s.bit (MOT_ENC_CFG.EN n) && !old.bit (MOT_ENC_CFG.EN n) then latchEncoder s n else s) s
  let s := axs.foldl (fun s n => if axMode old n = axMode s n && !modeSetAgain old s n then s else modeApplied s n) s
  let changed := axs.filter fun n => axMode s n == 0 && axMode old n == 0 && axTarget old n != axTarget s n
  let ms := if s.mot.grp.isNone && (groupMembers s).any (axActive s) then [] else groupMembers s
  let inGroup := fun n => 2 ≤ ms.length && ms.contains n || (match s.mot.grp with | some g => g.members.contains n | none => false)
  let s := groupApplied s ms (changed.filter inGroup)
  drvRefresh ((changed.filter fun n => !inGroup n).foldl targetApplied s)

/-! ### Inputs -/

def doHomeInputEdge (n : Nat) (high : Bool) (s : State) : State := if s.up fenceMOT then homeInput s n high else s

/-- Without BLEND the axis is at its locked place: no lag (R612). -/
def gearLocked (s : State) (n : Nat) : State :=
  (modAxis s n fun x => { x with gear := { x.gear with lag := 0 } }).setFld (MOT_GEAR_LAG.LAG n) 0

/-- A counted edge of the master (R612 to R616): the locked position, or the commanded velocity of a slew. -/
def doGearMasterEdge (n dt : Nat) (s : State) : State :=
  let a := axisOf s n
  if !motEnabled s || axState s n != axGEARED then s
  else
    let m := gearRel s n
    let back := decide (m < a.gear.m)
    let k := gearEntry s n m
    let ratio := gearGR s n k
    let s := if k ≠ gearEntry s n a.gear.m then motIrq s MOT_IRQ.SWITCH n else s
    let speed : Int := ratio * 256 * 1000000 * 1000000000 / 65536 / (Nat.max 1 dt : Nat)
    let vcmd := if back then -speed else speed
    let s := s.setFld (MOT_GEAR_REL.M n) (ofSigned 32 m)
    if (rampOf s n).cruise * 1000000 < vcmd.natAbs then haltEvent s n 9 false
    else
      let blend := s.bit (MOT_GEAR_CFG.BLEND n) && s.fld (MOT_GACC.A n) != 0
      let starts := blend && ratio != a.gear.ratio
      let s := modAxis s n fun x => { x with gear := { x.gear with m := m, ratio := ratio, vcmd := vcmd,
                                                                   slew := x.gear.slew || starts } }
      let a := axisOf s n
      if a.gear.slew || drvHolds s n then drvWake s n
      else
        let s := if s.bit (MOT_GEAR_CFG.BLEND n) then s else gearLocked s n
        let locked := a.gear.p0 * stepUnits + gearF s n m * (stepUnits / 65536) - (axisOf s n).gear.lag
        let s := moveTo s n (roundDivI locked stepUnits * stepUnits)
        let s := modAxis s n fun x => { x with v := vcmd.natAbs, neg := decide (vcmd < 0) }
        limitCheck (showAxis s n) n

/-- A rising edge of AXn_STEP_IN (R617, R618). An IDLE axis in mode FOLLOW begins to follow. -/
def doFollowStepIn (n : Nat) (dir : Bool) (s : State) : State :=
  if !motEnabled s || !(axState s n == axFOLLOW || (axState s n == axIDLE && axMode s n == 2)) then s
  else
    let s := if axState s n = axFOLLOW then s else enterAxMode s n
    let k : Int := s.fld (MOT_CFG.IN_MULT n) + 1
    let s := modAxis s n fun x => { x with ftgt := if dir != s.bit (MOT_CFG.INV n) then x.ftgt + k else x.ftgt - k }
    if 65536 < ((axisOf s n).ftgt - axPos s n).natAbs then haltEvent s n 11 false else drvWake s n

/-- Every 100 µs of mill time (R623). -/
def doPositionHistorySample (s : State) : State :=
  if !s.up fenceMOT then s
  else
    let last := match s.mot.hist with | (t, _) :: _ => t + 1 | [] => 0
    let s := s.advanceTo ((Nat.max last s.tim.now + 99999) / 100000 * 100000)
    s.modMot fun m => { m with hist := ((s.tim.now, (List.range 4).map (axPos s)) :: m.hist).take 32768 }

end Sys2Proof.Machine
end

