-- ==== Sys2Proof/Machine/Power.lean ====
section
/-! DEFINITION. Supplies, boot and wake sequences, modes, HOLDUP and power-down, watch cycles and resets (chapters 02
and 03). -/

namespace Sys2Proof.Machine

/-! ### Common steps -/

def State.modPwr (s : State) (f : Pwr → Pwr) : State := { s with pwr := f s.pwr }

/-- VM_OK (R78). -/
def State.vmOk (s : State) : Bool := s.pwr.vmRisen && !s.pwr.vmOv

/-- A mode of Table 03-1 by its code where it is a target of R56; RUN for any other code (Tables 03-14, 03-15). -/
def targetOf (code : Nat) : Mode :=
  match code with
  | 1 => .root | 4 => .watch | 6 => .survey | 7 => .bridge | _ => .run

/-- Cancel an armed timed apply (R145): CANCELLED sets, ARMED and the mask read 0. -/
def cancelTimedApply (s : State) : State :=
  if s.bit SYS_UPD_STAT.ARMED then
    ((s.setBit SYS_UPD_STAT.CANCELLED true).setBit SYS_UPD_STAT.ARMED false).setFld SYS_UPD_AT_MASK.MASK 0
  else s

/-- What both kinds of reset of all units leave (Table 05-6): registers at their reset words but for the bits marked
retained, strap, fuse or M-die; nothing staged; no snapshot; Bark cleared; what stands behind the registers of every unit
at its reset value; mill time kept (Table 03-4). -/
def clearUnits (s : State) : State :=
  let s := clearVolatile s (s.resetRegs 0 (2 ^ 40))
  { s with stg := [], snaps := [], brk := {}, sys := {}, indSap := {}, indSched := {}, indConf := {}, indTbl := {},
           tim := { now := s.tim.now } }

/-- Start the rails step of a boot or wake (Table 03-5, R48, R69). -/
def startRails (s : State) (q : Seq) (why : BootWhy) : State :=
  let s := { s with pwr := { s.pwr with mode := .waking, base := .waking, seq := q, phase := .rails, why := why,
                                        bootStart := s.uptime, booted := true, offFrom := .none, wakeLatched := 0,
                                        sense := false, bootLogged := false } }
  s.count SYS_BOOT_STAT.BOOTS

/-- The boot after a node reset may still lead to FACTORY TEST: one that acts in FACTORY TEST, or in the boot of the POR
itself (R54). -/
def factoryAhead (s : State) : Bool :=
  s.pwr.mode == .factory || ((s.pwr.mode == .waking || s.pwr.mode == .load) && s.pwr.why == .start true)

/-- Clear the units; a request latched in Root still shows LATCHED until the node acts on it (R91, R92). -/
def clearKeepingRequest (s : State) : State :=
  let w := s.word SYS_MODE_REQ.addr
  let s' := clearUnits s
  if s.pwr.latchedReq.isSome then s'.setWord SYS_MODE_REQ.addr w else s'

/-- The main rails turn off (R715, R200), with them the test access port. -/
def railsDown (s : State) : State := { clearKeepingRequest s with jtag := {} }

/-- A node reset (R48, R153): everything but Root and Heartwood goes to its reset state, and the node boots from the rails
step without Root-up wait or strap sampling. Transactions that it aborts show ABORTED (Table 11-2). `hold`: RST_N still
holds it. -/
def nodeReset (s : State) (hold : Bool) : State :=
  let factory := factoryAhead s
  let gone := abortedByReset s
  let s := showAborted (clearKeepingRequest (nodeResetAxes (cancelTimedApply s))) gone
  let s := s.setBit PWR_WAKE_CAUSE.RSTN true
  let s := s.modPwr fun p => { p with latchedRst := false, fwWindow := false, committed := false, retWait := false,
                                      watchAcq := false, rstHeld := hold }
  startRails s .cold (.start factory)

/-- A latched reset acts at a commit point; a latched mode request is discarded then (R90, R661). -/
def latchedReset (s : State) : State :=
  nodeReset (s.modPwr fun p => { p with latchedReq := none }) s.pwr.rstLow

/-- Enter WAKING; with RST_N low the node is in node reset at once (Table 02-9). -/
def startBoot (s : State) (q : Seq) (why : BootWhy) : State :=
  let s := startRails s q why
  if s.pwr.rstLow && s.pwr.vioGenOk then nodeReset s true else s

/-- A watch wake: the watch timer alone (Table 03-13 bit 21). -/
def watchOnly (mask : Nat) : Bool := mask == 2 ^ 21

/-- A cause other than the watch timer ends the watch cycle (R74). -/
def endWatchCycle (s : State) (mask : Nat) : State :=
  if mask = 0 ∨ watchOnly mask then s else s.modPwr fun p => { p with watchCycle := false }

/-- Wake from ROOT for the causes in `mask` (R69, R70). The bits of the mask are those of PWR_WAKE_CAUSE. -/
def startWake (s : State) (mask : Nat) : State :=
  let s := startBoot s .warm (.wake mask)
  endWatchCycle (s.modPwr fun p => { p with sense := p.seq == .warm }) mask

/-- The wake cycle: a wake from ROOT started at this very instant (R70). -/
def wakeCycle (s : State) : Bool :=
  s.pwr.mode == .waking && s.pwr.phase == .rails && s.pwr.sense && s.pwr.bootStart == s.uptime

/-- A cause of the wake cycle joins those the wake follows (Table 03-9: one wake, the target from the first in cause
order). -/
def joinWake (s : State) (b : Nat) : State :=
  match s.pwr.why with
  | .wake m => if wakeCycle s ∧ m ≠ 0 then endWatchCycle (s.modPwr fun p => { p with why := .wake (setBit m b) }) (2 ^ b) else s
  | _ => s

/-- Registers that fuses or the M-die hold: they outlast Root (Tables 09-16, 11-11). -/
def fusedReg (a : Nat) : Bool :=
  a == SYS_REV.addr || a == SYS_UID_LO.addr || a == SYS_UID_HI.addr || (SEC_ARB.addr 0 ≤ a && a < SEC_ARB.addr 8) ||
    (SEC_KEYHASH.addr 0 0 ≤ a && a < SEC_KEYHASH.addr 2 0) || a == HWD_BOOT_WCNT.addr || a == HWD_TR_HEAD.addr ||
    a == HWD_TR_TAIL.addr || a == HWD_EVT_HEAD.addr || a == HWD_EVT_SEQ.addr || a == HWD_KEYS_LOCK.addr ||
    a == SEC_TKEY_STAT.addr

/-- Root gets power after being without: all retained state is cleared (R713, R53, Table 03-4), the four axis positions
are lost (R63); straps and fuses stay to be sampled or read. The supply monitors go on. -/
def porState (s : State) : State :=
  let p := s.pwr
  let r := State.reset
  { s with
    regs := s.regs.filterMap (fun q =>
      if fusedReg q.1 then some q
      else if q.1 = SYS_STRAP.addr ∧ q.2 &&& 0x400 ≠ 0 then some (q.1, 0x400) else none)
    stg := [], snaps := [], rmem := [], brk := {}, sys := {}, tim := {}, jtag := {}
    indSap := {}, indSched := {}, indConf := {}, indTbl := {}
    pwr := { r.pwr with vinOk := p.vinOk, vinQual := p.vinQual, qualRun := p.qualRun, holdOk := p.holdOk,
                        charging := p.charging, vbakOk := p.vbakOk, vbakLow := p.vbakLow, vmUv := false,
                        vmOv := p.vmOv, vioGenOk := p.vioGenOk, vioCrbOk := p.vioCrbOk, rstLow := p.rstLow } }

/-- POR with what the units hold behind their registers. -/
def powerOnReset (s : State) : State := porVolatile (porState s)

/-! ### Wake causes (R70) -/

/-- Root senses wake causes: in ROOT, during a power-down to ROOT, and in the WAKING that follows ROOT until its end
(R70). -/
def sensing (s : State) : Bool := s.pwr.mode == .root || s.pwr.seq == .pdown || (s.pwr.mode == .waking && s.pwr.sense)

/-- Root senses cause bit `b` (layout of PWR_WAKE_EN): it is recorded, and when enabled it wakes the node from ROOT, or
is latched during a power-down (Table 03-8). -/
def senseCause (s : State) (b : Nat) : State :=
  if sensing s then
    let s := s.setBitAt ⟨PWR_WAKE_CAUSE.addr, 0, 32⟩ b true
    if nbit (s.word PWR_WAKE_EN.addr).toNat b then
      if s.pwr.mode = .root then startWake s (2 ^ b)
      else if s.pwr.seq = .pdown then s.modPwr fun p => { p with wakeLatched := setBit p.wakeLatched b }
      else joinWake s b
    else s
  else s

/-! ### Shutting down -/

/-- What HOLDUP and a power-down to ROOT do at once (Table 03-7, R75): currents and acquisition off, timed applies
cancelled, POWER_FAIL sent, the crew cores interrupted, the axes sent to stop, the firmware window opened. The Grove ports
and the rack bridge fall idle (Table 02-5). -/
def shutdownSteps (s : State) : State :=
  let s := cancelTimedApply s
  let s := plicRaise (sendPowerFail s) plicPOWER
  let s := payOwed (stopAxesForPowerFail s)
  let s := crbStop (if s.pwr.mode = .holdup then groveStop s else groveShutdown s)
  let s := abandonGraft s
  let s := s.modPwr fun p => { p with fwWindow := true, committed := false, retWait := false, seqStart := s.uptime,
                                      phase := .none, watchAcq := false }
  if s.fld PWR_HOLD_CFG.FW_MS = 0 then closeFwWindow s else s

/-- What both reach at the commit point (Table 03-7): journal closed, drive stage parked, positions retained, trunk lanes
idle, service port released. -/
def commitSteps (s : State) : State :=
  let s := if s.pwr.fwWindow then closeFwWindow s else s
  let s := finishKeyCommit (holdAllCores s)
  let s := if s.pwr.mode = .holdup then logHoldup s else s
  let s := parkAllAxes (cutMovingAxes s)
  svcRelease (trunkIdle (closeJournal s))

/-- Start an orderly power-down to ROOT (R75); SYS_MODE.MODE keeps the mode being left. -/
def startPowerdown (s : State) : State :=
  let s := s.modPwr fun p => { p with seq := .pdown, wakeLatched := 0, pdownLost := false }
  shutdownSteps s

/-- PWR_HOLD_STAT begins the record of a sequence on HOLD: the mode left, nothing else yet (Table 03-21). -/
def holdRecord (s : State) : State :=
  (s.setWord PWR_HOLD_STAT.addr (s.word PWR_HOLD_STAT.addr &&& 0xF000)).setFld PWR_HOLD_STAT.FROM s.pwr.mode.code

/-- Enter HOLDUP (R80). Root keeps the target of the interrupted boot or wake, or the mode to return to (Table 03-3). A node
reset that RST_N holds in WAKING counts as one latched in the HOLDUP, even where RST_N is released before the commit point
(DEDUCED, log entry 28). -/
def enterHoldup (s : State) : State :=
  let from_ := s.pwr.mode
  let why := match from_ with
    | .waking | .load => (match s.pwr.why with
        | .start _ => .start false
        | .wake m => if watchOnly m then .resume .watch else .wake m
        | w => w)
    | .factory => .start false
    | _ => .resume s.work
  let s := (holdRecord s).enter .holdup .hold
  let s := s.modPwr fun p => { p with why := why, latchedRst := p.rstHeld, rstHeld := false, noJournal := false }
  shutdownSteps s

/-- PWR_HOLD_STAT.TIME_US: how long the sequence has lasted. -/
def recordSeqTime (s : State) : State :=
  s.setFld PWR_HOLD_STAT.TIME_US (satAdd 16 0 ((s.uptime - s.pwr.seqStart) / 1000))

/-- The node acts on the latched request (R91, Table 03-13). -/
def requestMet (s : State) : State :=
  ((s.setBit PWR_WAKE_CAUSE.REQ true).setFld SYS_MODE_REQ.STATUS 2).modPwr fun p => { p with latchedReq := none }

/-- A wake cause latched during the power-down starts a warm wake at entry to ROOT (Table 03-8). -/
def wakeIfLatched (s : State) : State := if s.pwr.wakeLatched ≠ 0 then startWake s s.pwr.wakeLatched else s

/-- Enter ROOT with the main rails off (R75): the watch cycle's T0 is this instant (R71); a latched running-mode request or
wake cause starts a warm wake, a latched ROOT request has been met (Table 03-8). -/
def enterRoot (s : State) : State :=
  let s := watchRestart (railsDown s)
  let s := s.enter .root .none
  let s := if s.pwr.watchArm then
      s.modPwr fun p => { p with watchArm := false, watchT0 := s.tim.now, watchN := 0 } else s
  match s.pwr.latchedReq with
  | some (.root, _) => wakeIfLatched (requestMet s)
  | some _ => startWake s s.pwr.wakeLatched
  | none => wakeIfLatched s

/-- Root loses power where neither VIN nor VBAK supplies it (R53). -/
def checkRootPower (s : State) : State :=
  if s.pwr.mode = .off ∧ !s.pwr.vinOk ∧ !s.pwr.vbakOk then s.modPwr fun p => { p with rootPowered := false } else s

/-- VIN is qualified in OFF with Root kept (Table 03-2): SAFE latch set, or after a HOLDUP, a wake; after a loss in ROOT,
ROOT. A latched ROOT request acts at the end of the M-die-ready step of the wake (Table 03-8). -/
def offResume (s : State) : State :=
  let s := s.setBit PWR_WAKE_CAUSE.VINRET true
  if s.pwr.safeLatch then startBoot s .warm s.pwr.why
  else match s.pwr.offFrom with
    | .root => enterRoot s
    | _ => startBoot s .warm s.pwr.why

/-- Turn the rails off into OFF (Table 03-2). -/
def enterOff (s : State) (f : OffFrom) : State :=
  let s := railsDown s
  let s := s.enter .off .none
  let s := s.modPwr fun p => { p with offFrom := f, latchedRst := false, phase := .none, retWait := false,
                                      committed := false, fwWindow := false, rstHeld := false }
  let s := checkRootPower s
  if s.pwr.vinQual && s.pwr.booted && s.pwr.rootPowered then offResume s else s

/-- HOLD runs out before the commit point (R84): the previous commit stands, and PWR_HOLD is raised at the next boot. -/
def holdAborted (s : State) : State :=
  let s := (s.count PWR_HOLD_ABORTED.COUNT).setBit PWR_HOLD_STAT.ABORT true
  let s := s.modPwr fun p => { p with heldSrc := p.heldSrc.filter (· != Src.PWR_HOLD) ++ [Src.PWR_HOLD] }
  enterOff (recordSeqTime s) (if s.pwr.seq = .pdown then .root else .holdup)

/-! ### Targets (R58) -/

/-- The target of a wake (Table 03-3): the PWR_WAKE_TGT field of the first cause in the order comparator, timer, trunk,
Grove, rack. -/
def wakeTarget (s : State) (mask : Nat) : Mode :=
  let run := fun c => if c = 6 then Mode.survey else if c = 7 then Mode.bridge else Mode.run
  if mask % 2 ^ 16 ≠ 0 then run (s.fld PWR_WAKE_TGT.CMP_TGT)
  else if nbit mask 16 || nbit mask 17 then run (s.fld PWR_WAKE_TGT.TMR_TGT)
  else if nbit mask 18 then run (s.fld PWR_WAKE_TGT.TRK_TGT)
  else if nbit mask 19 then run (s.fld PWR_WAKE_TGT.GRV_TGT)
  else if nbit mask 20 then run (s.fld PWR_WAKE_TGT.CRB_TGT)
  else .watch

/-- The target by the rows of Table 03-3 below the first. -/
def rowTarget (s : State) : Mode :=
  match s.pwr.why with
  | .start f => if f && s.bit SYS_STRAP.TEST_EN && s.bit SYS_STRAP.FT_FUSE then .factory
                else targetOf (s.fld PWR_START_MODE.MODE)
  | .wake m => wakeTarget s m
  | .resume m => m

/-- Start a watch cycle (R59, R71): WATCH_CYCLE reads 1, the node powers down, T0 is the end of that power-down. -/
def startWatchCycle (s : State) : State :=
  startPowerdown (s.modPwr fun p => { p with watchCycle := true, watchArm := true })

/-- SYS_BOOT_TIME at entry of the target mode (Table 03-31). -/
def recordBootTime (s : State) : State :=
  s.setFld SYS_BOOT_TIME.US (satAdd 20 0 ((s.uptime - s.pwr.bootStart) / 1000))

/-- Enter a running target (R58), substituted by RUN where the node cannot enter it; DEGRADED with it as base when a unit
is fenced (R184). -/
def enterTarget (s : State) (m : Mode) : State :=
  let sub := (m == .bridge && s.fld SYS_STRAP.CRB_ROLE == 0) || (m == .survey && !s.vmOk)
  let s := if sub then s.setBit SYS_BOOT_STAT.TGT_SUBST true else s
  let m := if sub then .run else m
  let s0 := s
  let s := recordBootTime (s.enter m .none)
  let s := logBoot (motionMode s0 (s.modPwr fun p => { p with phase := .none, watchAcq := m == .watch }))
  let s := if m = .factory then (s.setFld CRW_DBG.EN 15).setBit CRW_DBG.SBA true else s
  if (s.word BRK_FENCE.addr).toNat ≠ 0 then enterDegraded s else s

/-- LOAD ends (R58, R59, Table 03-3): a latched request first, else by what the boot or wake followed. R54 has FACTORY TEST
entered at POR and names no step of its boot: it is entered here, at the end of image apply, as every target, and a node
without a valid image stays in LOAD (DEDUCED, log entry 28). -/
def finishLoad (s : State) : State :=
  let req := s.pwr.latchedReq
  let s := if req.isSome then requestMet s else s
  let m := match req with | some (m, _) => m | none => rowTarget s
  match m with
  | .root => startPowerdown (logBoot s)
  | .watch =>
    match s.pwr.why, req with
    | .wake k, none => if watchOnly k || k == 0 then enterTarget s .watch else startWatchCycle (logBoot s)
    | _, _ => startWatchCycle (logBoot s)
  | m => enterTarget s m

/-- Bring the node into LOAD at the end of WAKING, or on a warm return. The signature checks are skipped when Root holds
the images' verification record and the BOOT write counter agrees (R68); a mismatch clears the record (Table 03-4). A warm return only applies the image once one
has been verified (R87). -/
def enterLoad (s : State) (q : Seq) : State :=
  let s := s.enter .load q
  if s.pwr.verif = some (bootWriteCounter s) ∨ (q = .ret ∧ s.pwr.verif.isSome) then
    ((s.setBit SYS_BOOT_STAT.PATH true).setFld SYS_BOOT_STAT.SLOT (s.img.booted.getD 0)).modPwr fun p => { p with phase := .apply }
  else selectBootSlot (s.modPwr fun p => { p with verif := none })

/-- A warm return (R87, R88). What SYS_BOOT_STAT said of how the last boot came to its target is over. -/
def warmReturn (s : State) : State :=
  let s := recordSeqTime (s.setBit PWR_HOLD_STAT.RETURNED true)
  let s := ((s.setBit SYS_BOOT_STAT.PATH false).setBit SYS_BOOT_STAT.NO_IMAGE false).setBit SYS_BOOT_STAT.TGT_SUBST false
  let s := s.modPwr fun p => { p with retWait := false, committed := false, bootStart := s.uptime }
  enterLoad (trunkRestart s) .ret

/-- The sequence may lead to anything but OFF: not after a GRAVE fault (R86), nor from FACTORY TEST (R54). -/
def mayReturn (s : State) : Bool := !s.bit PWR_HOLD_STAT.GRAVE && s.fld PWR_HOLD_STAT.FROM != Mode.factory.code

/-- VIN is qualified at the commit point: a latched reset first, then a latched ROOT request, else the warm return (R87,
R90, R661, Table 03-8). -/
def holdupReturn (s : State) : State :=
  if s.pwr.latchedRst then latchedReset (recordSeqTime s)
  else match s.pwr.latchedReq with
    | some (.root, _) => enterRoot ((recordSeqTime s).modPwr fun p => { p with retWait := false, committed := false })
    | _ => warmReturn s

/-! ### Mode requests (R56, R57, R91) -/

/-- Why a request is refused, a code of SYS_MODE_REQ.REASON; 0 where it is accepted. -/
def requestReason (s : State) (code : Nat) : Nat :=
  if s.pwr.mode = .safe then 2
  else if s.pwr.mode = .factory then 5
  else if !(code = 1 || (4 ≤ code && code ≤ 7)) then 1
  else if s.pwr.mode = .load ∧ s.pwr.phase = .held then 6
  else if code = 7 ∧ s.fld SYS_STRAP.CRB_ROLE = 0 then 3
  else if code = 6 ∧ !s.vmOk then 4
  else 0

/-- Act on an accepted request in a running mode (Table 03-2, R71, R74). -/
def actRequest (s : State) (m : Mode) : State :=
  let s := s.setFld SYS_MODE_REQ.STATUS 2
  match m with
  | .watch => startWatchCycle s
  | .root => startPowerdown (s.modPwr fun p => { p with watchCycle := false })
  | m =>
    let s := s.modPwr fun p => { p with watchCycle := false, watchAcq := false }
    let s := if m = .bridge then groveShutdown s else s
    payOwed (motionMode s (if s.pwr.mode = .degraded then s.modPwr fun p => { p with base := m } else s.enter m .none))

/-- A request for mode `code` by tenant `t` (R56): refused, latched for a safe point (R91), or acted on. The register's
TARGET field has been written. A refused request shows REFUSED and its tenant even while an earlier one stays latched, which
still acts (DEDUCED, log entry 28). -/
def requestMode (s : State) (t code : Nat) : State :=
  if code = 0 then s
  else
    let s := (s.setFld SYS_MODE_REQ.TENANT t).setFld SYS_MODE_REQ.REASON (requestReason s code)
    if requestReason s code ≠ 0 then s.setFld SYS_MODE_REQ.STATUS 3
    else if s.pwr.mode.isRunning && s.pwr.seq == .none then actRequest s (targetOf code)
    else
      let s := s.setFld SYS_MODE_REQ.STATUS 1
      s.modPwr fun p => { p with latchedReq := some (targetOf code, t),
                                 watchCycle := p.watchCycle && targetOf code == .watch }

/-- A node reset requested by RST_N or SYS_NODE_RST (R48, R156): at once in WAKING, LOAD, the running modes and ROOT;
latched in HOLDUP and in a power-down; ignored in SAFE and OFF. -/
def requestNodeReset (s : State) (hold : Bool) : State :=
  match s.pwr.mode with
  | .off | .safe => s
  | _ =>
    if s.pwr.mode = .holdup ∨ s.pwr.seq = .pdown then
      (s.setBit PWR_WAKE_CAUSE.RSTN true).modPwr fun p => { p with latchedRst := true }
    else nodeReset s hold

/-! ### Commands: supplies -/

/-- Cold boot from the Root-up step (R64, R713). -/
def startColdBoot (s : State) : State :=
  let s := s.setBit SYS_BOOT_STAT.POR true
  s.modPwr fun p => { p with phase := .rootUp, seq := .cold, why := .start true, bootStart := s.uptime }

def doVinValid (s : State) : State :=
  let s := if s.pwr.rootPowered then s else powerOnReset s
  let s := s.modPwr fun p => { p with vinOk := true, qualRun := !p.vinQual }
  if s.pwr.mode = .off ∧ s.pwr.phase = .none ∧ !s.pwr.booted then startColdBoot s else s

def doRootPor (s : State) : State := if s.pwr.rootPowered then s else powerOnReset s

/-- VIN fails (Table 03-2, Table 03-9, R93). -/
def doVinFail (holdLow : Bool) (s : State) : State :=
  if !s.pwr.vinOk then s
  else
    let s := (s.count PWR_VIN_FAILS.COUNT).modPwr fun p => { p with vinOk := false, vinQual := false, qualRun := false }
    match s.pwr.mode with
    | .off => checkRootPower (s.modPwr fun p => { p with phase := .none, seq := .none })
    | .root => enterOff s .root
    | .safe => enterOff s .safe
    | .holdup => s
    | _ =>
      if s.pwr.seq = .pdown then
        let s := (holdRecord s).modPwr fun p => { p with pdownLost := true, seqStart := s.uptime }
        if holdLow then holdAborted s else s
      else
        let s := enterHoldup s
        if holdLow then holdAborted s else s

/-- VIN is qualified (R76): from OFF with Root kept, a wake or ROOT; in the return wait, a warm return (R88). -/
def doVinQualified (s : State) : State :=
  if s.pwr.vinOk && s.pwr.qualRun then
    let s := s.modPwr fun p => { p with vinQual := true, qualRun := false }
    if s.pwr.mode = .off ∧ s.pwr.booted then offResume s
    else if s.pwr.mode = .holdup ∧ s.pwr.retWait then holdupReturn s
    else s
  else s

/-- VIN dips below 17.0 V without failing: the qualification restarts (R77). -/
def doVinExcursion (s : State) : State :=
  if s.pwr.vinOk then s.modPwr fun p => { p with vinQual := false, qualRun := true } else s

def doHoldReady (s : State) : State := s.modPwr fun p => { p with holdOk := true }

/-- Before the commit point of HOLDUP, or of a power-down that VIN failed in, the sequence ends at once (R84); after it the
sequence ends with its commit standing (Table 03-6). -/
def doHoldExhausted (s : State) : State :=
  if (s.pwr.mode = .holdup ∧ !s.pwr.committed) ∨ (s.pwr.seq = .pdown ∧ s.pwr.pdownLost) then holdAborted s
  else if s.pwr.mode = .holdup then enterOff (recordSeqTime s) .holdup
  else s

def doVbakPresent (present : Bool) (s : State) : State :=
  if present then (doRootPor s).modPwr fun p => { p with vbakOk := true }
  else checkRootPower (s.modPwr fun p => { p with vbakOk := false })

def doVbakLow (s : State) : State := s.modPwr fun p => { p with vbakLow := true }

/-- VM_OK may have come: axes that are enabled are energised (R628, R643). -/
def vmBack (s : State) : State := if s.up fenceDRV then drvRefresh s else s

def doVmRise (s : State) : State := vmPair (vmBack (s.modPwr fun p => { p with vmRisen := true, vmUv := false }))

def doVmUnder (s : State) : State :=
  if s.vmOk then vmFault (s.modPwr fun p => { p with vmRisen := false, vmUv := true }) true else s

def doVmOver (ovr : Bool) (s : State) : State :=
  if ovr && !s.pwr.vmOv then vmFault (s.modPwr fun p => { p with vmOv := true }) false
  else vmPair (vmBack (s.modPwr fun p => { p with vmOv := ovr }))

/-- The monitors update (Tables 03-24, 03-25). Their figures also decide the conditions of Table 03-6 and R79 that have no
command of their own: HOLD below 17.0 V, VBAK no longer below 2.6 V, and the charger drawing current. -/
def doVmon (vin hold vm vbak : Nat) (s : State) : State :=
  if s.running then
    let s := (s.setFld PWR_VMON0.VIN_MV vin).setFld PWR_VMON0.HOLD_MV hold
    let s := (s.setFld PWR_VMON1.VM_MV vm).setFld PWR_VMON1.VBAK_MV vbak
    s.modPwr fun p => { p with holdOk := p.holdOk && 17000 ≤ hold, vbakLow := p.vbakLow && vbak < 2600,
                               charging := s.bit PWR_HOLD_CFG.CHG_EN && hold + 500 < vin }
  else s

def doHoldChargeComplete (s : State) : State := s.modPwr fun p => { p with charging := false }

/-! ### Commands: boot and wake -/

/-- Sample the straps (R34, Table 05-13) and go on to the rails step. -/
def sampleStraps (s : State) (straps : Nat) (vio18 : Bool) : State :=
  let inv := if 5 ≤ straps % 8 then 0x100 else 0
  let w := straps % 256 + inv + (if vio18 then 0x200 else 0) + (s.word SYS_STRAP.addr).toNat / 0x400 % 2 * 0x400
  let start := s.pwr.bootStart
  let s := resetCrewDbg ((s.setWord SYS_STRAP.addr (BitVec.ofNat 32 w)).modPwr fun p => { p with vioGenOk := true })
  (startBoot s .cold (.start true)).modPwr fun p => if p.rstHeld then p else { p with bootStart := start }

def doRootUpEnd (straps : Nat) (vio18 vioOk : Bool) (s : State) : State :=
  if s.pwr.mode = .off ∧ s.pwr.phase = .rootUp then
    if vioOk then sampleStraps s straps vio18
    else (s.setBit SYS_BOOT_STAT.STRAP_WAIT true).modPwr fun p => { p with phase := .vioWait, vioGenOk := false }
  else s

/-- VIO_GEN comes into range: the Root-up step's wait ends (R36), TRIP_N reads what drives it again (R29). A node reset that
RST_N holds ends only once RST_N then reads high in 4 samples (R49), which is the command of its release. -/
def doVioGenInRange (straps : Nat) (vio18 : Bool) (s : State) : State :=
  if s.pwr.mode = .off ∧ s.pwr.phase = .vioWait then sampleStraps s straps vio18
  else
    let s := vioState s 0 false
    if s.pwr.vioCrbOk then setPair s Src.PWR_VIO false false else s

/-- The main rails are up: MTIME starts at 0 (R375). -/
def doRailsStepEnd (s : State) : State :=
  if s.pwr.mode = .waking ∧ s.pwr.phase = .rails ∧ !s.pwr.rstHeld then
    (setMtime s 0).modPwr fun p => { p with phase := .pll }
  else s

/-- The PLLs are locked; the timebase starts from the carried time, after a wake in HOLDOVER with a frequency adjustment of
0 (R106); the trunk lanes start their bring-up (R401). -/
def doPllStepEnd (s : State) : State :=
  if s.pwr.mode = .waking ∧ s.pwr.phase = .pll then
    let s := ((s.setBit TIM_STATUS.SYS_PLL true).setBit TIM_STATUS.TB_PLL true)
    let s := ((s.setBit TIM_STATUS.TRK_PLL_A true).setBit TIM_STATUS.TRK_PLL_B true)
    let s := if s.pwr.seq = .warm then s.setFld TIM_STATUS.STATE 3 else s
    driveStarts (trunkRestart (s.modPwr fun p => { p with phase := .mdie }))
  else s

/-- A rail or PLL has failed (R66). -/
def doBootStepTimeout (s : State) : State :=
  if s.pwr.mode = .waking ∧ !s.pwr.rstHeld then
    if s.pwr.phase = .rails then bark (s.setBit SYS_BOOT_STAT.RAIL_FAIL true) Src.PWR_SEQ
    else if s.pwr.phase = .pll then bark (s.setBit SYS_BOOT_STAT.PLL_FAIL true) Src.PWR_SEQ
    else s
  else s

/-- The end of WAKING (R64, R170, Table 03-2): the journal is checked, held events go to Bark, then SAFE, a latched
power-down, or LOAD. -/
def doMdieReadyEnd (s : State) : State :=
  if s.pwr.mode = .waking ∧ s.pwr.phase = .mdie then
    let (s, earlier) := hwdBootRestore s
    let s := if earlier then bark s Src.HWD_JOURNAL else s
    let s := handHeldEvents s
    if s.pwr.mode ≠ .waking then s
    else if s.pwr.safeLatch then enterSafe (logBoot s)
    else match s.pwr.latchedReq with
      | some (.root, _) => startPowerdown (logBoot (requestMet s))
      | _ => enterLoad s s.pwr.seq
  else s

/-- The M-die did not become ready (R67). -/
def doMdieReadyTimeout (s : State) : State :=
  if s.pwr.mode = .waking ∧ s.pwr.phase = .mdie then
    let s := handHeldEvents (s.setBit SYS_BOOT_STAT.MDIE_FAIL true)
    if s.pwr.mode ≠ .waking then s
    else if s.pwr.safeLatch then enterSafe (logBoot s)
    else holdNoImage (s.enter .load s.pwr.seq)
  else s

/-! ### Commands: power-down and HOLDUP -/

/-- The commit point of a power-down to ROOT (R75, R90, R93). -/
def doPowerdownCommit (s : State) : State :=
  if s.pwr.seq = .pdown then
    let s := commitSteps s
    if s.pwr.pdownLost then enterOff (recordSeqTime (s.setBit PWR_HOLD_STAT.COMMIT true)) .root
    else if s.pwr.latchedRst then latchedReset s
    else enterRoot s
  else s

def doHoldupFwWindowEnd (s : State) : State :=
  if (s.pwr.mode = .holdup ∨ s.pwr.seq = .pdown) ∧ s.pwr.fwWindow then closeFwWindow s else s

def doHoldupAxisCut (s : State) : State :=
  if s.pwr.mode = .holdup ∨ s.pwr.seq = .pdown then cutMovingAxes s else s

/-- The commit point of HOLDUP (R87, R88, R90, Table 03-8). -/
def doHoldupCommit (s : State) : State :=
  if s.pwr.mode = .holdup ∧ !s.pwr.committed then
    let s := (commitSteps s).setBit PWR_HOLD_STAT.COMMIT true
    let s := s.modPwr fun p => { p with committed := true }
    if !mayReturn s then s
    else if s.pwr.vinQual then holdupReturn s
    else s.modPwr fun p => { p with retWait := p.qualRun }
  else s

def doHoldupReturnWaitEnd (s : State) : State := s.modPwr fun p => { p with retWait := false }

/-- The sequence ends: rails off, OFF (R80, R88); a latched reset is discarded (R90). -/
def doHoldupEnd (s : State) : State :=
  if s.pwr.mode = .holdup ∧ s.pwr.committed ∧ !s.pwr.retWait then enterOff (recordSeqTime s) .holdup else s

/-! ### Commands: wake causes and watch cycles -/

def doWakeTimerExpiry (n : Nat) (s : State) : State :=
  let c := s.fld (PWR_WTIMER.COUNT n)
  if s.pwr.rootPowered ∧ c ≠ 0 then
    let s := s.runTo ((if n = 0 then s.pwr.wt0At else s.pwr.wt1At) + (c * 1000000000 + 1023) / 1024)
    senseCause (s.setFld (PWR_WTIMER.COUNT n) 0) (16 + n)
  else s

/-- PWR_WATCH_PERIOD within its limits (Table 03-17). -/
def watchPeriod (s : State) : Nat := clampN 1 86400 (s.fld PWR_WATCH_PERIOD.SEC)

/-- An instant T0 + n × PWR_WATCH_PERIOD (R71): a warm wake into WATCH from ROOT, else the snapshot is skipped (R73). It is
recorded while Root senses causes (R70). -/
def doWatchPeriodInstant (s : State) : State :=
  if s.pwr.watchCycle && !s.pwr.watchArm then
    let s := s.modPwr fun p => { p with watchN := p.watchN + 1 }
    let s := s.advanceTo (s.pwr.watchT0 + s.pwr.watchN * watchPeriod s * 1000000000)
    let s := if sensing s then s.setBit PWR_WAKE_CAUSE.WATCH true else s
    if s.pwr.mode = .root then startWake s (2 ^ 21) else s.count PWR_WATCH_SKIP.COUNT
  else s

def doWatchAcquisitionEnd (s : State) : State :=
  if s.work = .watch ∧ s.pwr.watchAcq then s.modPwr fun p => { p with watchAcq := false } else s

/-- A frame of a push record. -/
def EgFrame.isPush (e : EgFrame) : Bool := match e.use with | .push _ _ => true | _ => false

/-- The snapshot ends: records still queued, in the engine or in an egress queue, are discarded and the power-down starts
(R72). -/
def doWatchSnapEnd (s : State) : State :=
  if s.work = .watch ∧ s.pwr.seq = .none ∧ !s.pwr.watchAcq then
    let s := discardRecords s
    startPowerdown (emptyQueues (emptyQueues s 0 (fun _ e => e.isPush) fun s _ => s) 1 (fun _ e => e.isPush) fun s _ => s)
  else s

/-! ### Commands: resets -/

/-- RST_N low in 4 samples (R47); nothing while VIO_GEN is below its range (R49). -/
def doRstLow (s : State) : State :=
  if s.pwr.rootPowered && s.pwr.vioGenOk then
    requestNodeReset (s.modPwr fun p => { p with rstLow := true }) true
  else s

/-- RST_N high again: the node boots (R48), once VIO_GEN is in range (R49). -/
def doRstRelease (s : State) : State :=
  let s := s.modPwr fun p => { p with rstLow := false }
  if s.pwr.rstHeld && s.pwr.vioGenOk then s.modPwr fun p => { p with rstHeld := false, bootStart := s.uptime } else s

end Sys2Proof.Machine
end

