-- ==== Sys2Proof/Machine/Access.lean ====
section
/-! DEFINITION. Reaching memory and judging accesses: the rows of Table 05-1, windows, capture-store owners, the Heartwood
window, TCMs of fenced cores, the rules of SAFE (R128, R136, R309, R338, R462, R714). -/

namespace Sys2Proof.Machine

/-- The rows of Table 05-1. -/
inductive Row where
  | capture | heartwood | l2 | tcm | regs | rack
  deriving DecidableEq, Repr

/-- First address and length of a row. -/
def Row.base : Row → Nat × Nat
  | .capture => (0, 0x4000000)
  | .heartwood => (0x10000000, 0x1000000)
  | .l2 => (0x20000000, 0x100000)
  | .tcm => (0x21000000, 0x80000)
  | .regs => (0x40000000, 0x400000)
  | .rack => (0x100000000, 0x1000000)

def allRows : List Row := [.capture, .heartwood, .l2, .tcm, .regs, .rack]

/-- `n` bytes from `a` on lie within the row. -/
def Row.holds (r : Row) (a n : Nat) : Bool := r.base.1 ≤ a && a + n ≤ r.base.1 + r.base.2

/-- The row that holds all `n` bytes from `a` on (R434). -/
def rowOf (a n : Nat) : Option Row := allRows.find? fun r => r.holds a n

/-! ### Tenant windows (R462) -/

/-- Window `w` of tenant `t` is enabled and covers the bytes. -/
def winCovers (s : State) (t w a n : Nat) : Bool :=
  s.bit (TEN_WIN_LIM.EN t w) && 65536 * s.fld (TEN_WIN_BASE.BASE t w) ≤ a &&
    a + n ≤ 65536 * (s.fld (TEN_WIN_LIM.LIMIT t w) + 1)

/-- The window that decides an access. -/
def winFor (s : State) (t a n : Nat) : Option Nat := (List.range 8).find? fun w => winCovers s t w a n

/-- The deciding window permits the direction. -/
def winAllows (s : State) (t a n : Nat) (wr : Bool) : Bool :=
  match winFor s t a n with
  | some w => s.bit (if wr then TEN_WIN_LIM.WR t w else TEN_WIN_LIM.RD t w)
  | none => false

/-! ### Rules of the rows -/

/-- Tenant `t` may reach buffer `u` of the capture store (R309); chains of pull delivery are read by the tenant they are
charged to (R325). -/
def bufAllows (s : State) (t u : Nat) (wr : Bool) : Bool :=
  if u < poolBase s then !wr
  else
    let v := bufOwn s u
    t == 6 || t == 7 || v == t || (!wr && v % 16 == 8 && v / 16 % 16 == t && 256 ≤ v)

/-- The buffers that `n` bytes from `a` on touch. -/
def touched (a n : Nat) : List Nat := (List.range ((a + n - 1) / 4096 + 1 - a / 4096)).map (a / 4096 + ·)

/-- The capture store lets tenant `t` have the access (R290, R309, R343). -/
def captureAllows (s : State) (t a n : Nat) (wr : Bool) : Bool :=
  !(wr && (imageLocks s a n || entryLocks s a n)) && (!parted s || (touched a n).all fun u => bufAllows s t u wr)

/-- The rules of a memory row, in the codes of Table 14-2: fenced and reset units (R99, R185), the Heartwood window (R338),
owners (R309). -/
def rowStatus (s : State) (t : Nat) (r : Row) (a n : Nat) (wr : Bool) : Nat :=
  match r with
  | .capture => if captureAllows s t a n wr then 0 else 2
  | .heartwood =>
    if !s.up fenceHWD then 3
    else if wr || hwdReadDenied (a - 0x10000000) n then 2 else 0
  | .tcm => if s.up (fenceCRW ((a - 0x21000000) / 0x20000)) then 0 else 3
  | .l2 => 0
  | .regs | .rack => 1

/-- In SAFE only reads of the event log are performed in memory (R354, R714). -/
def safeMem (s : State) (r : Row) (a n : Nat) (wr : Bool) : Bool :=
  s.pwr.mode != .safe ||
    (!wr && r == .heartwood && 0x10000000 + eventOff ≤ a && a + n ≤ 0x10000000 + journalOff)

/-- The refusal of an access is raised for tenant `t`: DECODE_ERR and DENIED (R130, R136). -/
def raiseRefusal (s : State) (t st : Nat) : State :=
  if st = 1 then bark s Src.BUS_DECODE t else if st = 2 then bark s Src.TEN_PERM t else s

/-- An access to an address outside Table 05-1 (R130), which SAFE denies (R714). -/
def decodeRefusal (s : State) (t : Nat) : State × Nat :=
  if !s.running then (s, 3) else if s.pwr.mode = .safe then (s, 2) else (raiseRefusal s t 1, 1)

/-- Judge an access of tenant `t` to a memory row: the status and whether a refusal is raised. `permitted` is the judgement
of its windows. -/
def memJudge (s : State) (t : Nat) (permitted : Bool) (r : Row) (a n : Nat) (wr : Bool) : Nat × Bool :=
  if !permitted then (2, true)
  else if !safeMem s r a n wr then (2, false)
  else (rowStatus s t r a n wr, true)

/-- Write the enabled bytes at `a` (R435). -/
def storeEnabled (s : State) (a : Nat) : List (Bool × Byte) → State
  | [] => s
  | (en, b) :: rest => storeEnabled (if en then s.store a [b] else s) (a + 1) rest

/-- A read of `n` bytes of memory by tenant `t`: status, bytes. -/
def memRead (s : State) (t : Nat) (permitted : Bool) (r : Row) (a n : Nat) : State × Nat × List Byte :=
  let (st, raise) := memJudge s t permitted r a n false
  if st = 0 then (s, 0, s.bytes a n)
  else (if raise then raiseRefusal s t st else s, st, List.replicate n 0)

/-- A write of bytes with their enables by tenant `t`: status. -/
def memWrite (s : State) (t : Nat) (permitted : Bool) (r : Row) (a : Nat) (bs : List (Bool × Byte)) : State × Nat :=
  let (st, raise) := memJudge s t permitted r a bs.length true
  if st = 0 then (storeEnabled s a bs, 0) else (if raise then raiseRefusal s t st else s, st)

/-! ### Error-corrected words -/

/-- A word read at `a` is corrected (R327, R335, R366). -/
def eccCorrected (s : State) (a : Nat) : State :=
  match rowOf a 1 with
  | some .tcm => s.count (CRW_CNT.TCM_COR ((a - 0x21000000) / 0x20000))
  | some .l2 => s.count CRW_L2_CNT.COR
  | some .capture => bark s Src.CAP_COR
  | some .heartwood => bark (s.count HWD_CNT.COR) Src.HWD_COR
  | _ => s

/-- A word read at `a` is uncorrectable. -/
def eccLost (s : State) (a : Nat) : State :=
  match rowOf a 1 with
  | some .tcm =>
    let n := (a - 0x21000000) / 0x20000
    bark (s.count (CRW_CNT.TCM_UNC n)) Src.CRW_TCM_UNC n
  | some .l2 => bark (s.count CRW_L2_CNT.UNC) Src.CRW_L2_UNC
  | some .capture => bark s Src.CAP_UNC
  | some .heartwood => bark (s.count HWD_CNT.UNC) Src.HWD_UNC
  | _ => s

/-- The words read come back as `ecc` says: the status of the read. -/
def eccRead (s : State) (a ecc : Nat) : State × Nat :=
  if ecc = 1 then (eccCorrected s a, 0) else if ecc = 2 then (eccLost s a, 3) else (s, 0)

/-- Several words of one read come back, each as its entry of `ecc` says: 0 good, 1 corrected, 2 uncorrectable (R327, R335,
R366); the read fails where one is lost. -/
def eccReads (s : State) (a : Nat) (ecc : List (Fin 3)) : State × Nat :=
  ecc.foldl (fun (s, st) e => let (s, st') := eccRead s a e.val; (s, Nat.max st st')) (s, 0)

/-- A read of memory whose words come back as `ecc` says. -/
def memReadEcc (s : State) (t : Nat) (permitted : Bool) (r : Row) (a n : Nat) (ecc : List (Fin 3)) :
    State × Nat × List Byte :=
  let (s, st, bs) := memRead s t permitted r a n
  if st ≠ 0 then (s, st, bs)
  else
    let (s, st) := eccReads s a ecc
    (s, st, if st = 0 then bs else List.replicate n 0)

end Sys2Proof.Machine
end

