-- ==== Sys2Proof/Machine/Analog.lean ====
section
/-! DEFINITION. Analog channels, the Root watch path and the tach and encoder inputs (chapter 07). -/

namespace Sys2Proof.Machine

/-! ### SETTLE counts (R213 to R216) -/

/-- Output rate in S/s (R207). -/
def afeRate (cfg : Word) : Nat := 204800 / 2 ^ (Nat.min 9 (wordField cfg 6 4))

/-- Filter code, 3 acting as WIDE (R208). -/
def afeFilter (cfg : Word) : Nat := wordField cfg 4 2 % 3

/-- Input code, 3 acting as SENSOR (Table 07-2). -/
def afeInput (cfg : Word) : Nat := wordField cfg 10 2 % 3

/-- The effective range: codes 6 and 7 act as 0 (Table 07-1), and INPUT = BIAS converts on ±10 V (R206). -/
def afeRange (cfg : Word) : Nat := let r := wordField cfg 1 3; if 6 ≤ r ∨ afeInput cfg = 2 then 0 else r

/-- The channel converts AC-coupled: selected, or IEPE on (R204), and INPUT is not BIAS (R206). -/
def afeAc (cfg : Word) : Bool := afeInput cfg != 2 && (wordField cfg 13 2 != 0 || wordField cfg 12 1 == 1)

/-- SETTLE count of a range change (Table 07-6). -/
def settleRange (cfg : Word) : Nat := match afeFilter cfg with | 0 => 80 | 1 => 9 | _ => 28

/-- SETTLE count of a filter or rate change. -/
def settleFilter (cfg : Word) : Nat := match afeFilter cfg with | 0 => 80 | 1 => 10 | _ => 16

/-- SETTLE count of an IEPE or coupling change: 8.0 s of samples, at least the range figure. -/
def settleIepe (cfg : Word) : Nat := Nat.max (8 * afeRate cfg) (settleRange cfg)

/-- The count for the change of a channel's configuration from `o` to `n` (Table 07-6, R214); 0 where no effective value
changes (R216). -/
def settleFor (o n : Word) : Nat :=
  if wordField n 0 1 = 0 then 0
  else if wordField o 0 1 = 0 then (if afeAc n then settleIepe n else settleFilter n)
  else
    let r := if afeRange o != afeRange n then settleRange n else 0
    let f := if afeFilter o != afeFilter n || afeRate o != afeRate n then settleFilter n else 0
    let i := if afeInput o != afeInput n then settleRange n + 16 else 0
    let e := if wordField o 13 2 != wordField n 13 2 || afeAc o != afeAc n then settleIepe n else 0
    Nat.max (Nat.max r f) (Nat.max i e)

/-- Start a SETTLE count: the remaining count becomes the larger (R214). -/
def startSettle (s : State) (n c k : Nat) : State :=
  s.setFld (AFE_CH_STAT.SETTLE_LEFT n c) (Nat.max k (s.fld (AFE_CH_STAT.SETTLE_LEFT n c)))

/-- Channel `c` of die `n` converts (R202, Table 03-1, Table 06-4). -/
def afeActive (s : State) (n c : Nat) : Bool := s.acquiring && s.up n && s.bit (AFE_CH_CFG.EN n c)

/-- The channel's IEPE source is on (R203, Table 02-5). -/
def iepeOn (s : State) (n c : Nat) : Bool :=
  s.up n && s.bit (AFE_CH_CFG.EN n c) && s.fld (AFE_CH_CFG.IEPE n c) != 0 &&
    s.pwr.mode != .safe && s.pwr.seq != .hold && s.pwr.seq != .pdown

/-- The effect of an apply on channel `c` whose configuration was `o` (R213, R217): its SETTLE count, SEQ 0 on enable, and
SFLT NOT_CHECKED while IEPE is off; index events before a change of MARK_IDX or MARK_IN mark nothing. -/
def afeChApplied (s : State) (n c : Nat) (o : Word) : State :=
  let w := s.word (AFE_CH_CFG.addr n c)
  let s := if wordField o 15 4 = wordField w 15 4 then s
    else { s with afe := modAt s.afe (16 * n + c) fun h => { h with idxAt := [] } }
  let s := if wordField w 0 1 = 0 then s.setFld (AFE_CH_STAT.SETTLE_LEFT n c) 0 else startSettle s n c (settleFor o w)
  let s := if wordField o 0 1 = 0 ∧ wordField w 0 1 = 1 then
      { s with afe := modAt s.afe (16 * n + c) fun _ => {} } else s
  let on := wordField w 0 1 = 1 ∧ wordField w 13 2 ≠ 0
  if !on then s.setFld (AFE_CH_STAT.SFLT n c) 3
  else if s.fld (AFE_CH_STAT.SFLT n c) = 3 then s.setFld (AFE_CH_STAT.SFLT n c) 0 else s

/-- Realignment after a step counts as a filter change on every channel (R120, Table 07-6). -/
def settleAll (s : State) : State :=
  (List.range 32).foldl (fun s i =>
    if s.bit (AFE_CH_CFG.EN (i / 16) (i % 16)) then
      startSettle s (i / 16) (i % 16) (settleFilter (s.word (AFE_CH_CFG.addr (i / 16) (i % 16))))
    else s) s

/-! ### Samples -/

/-- A sample word (Table 07-5). -/
def sampleWord (data : Nat) (settle clip sflt mark : Bool) (seq : Nat) : Word :=
  BitVec.ofNat 32 (data % 2 ^ 24 * 256 + b2n settle * 128 + b2n clip * 64 + b2n sflt * 32 + b2n mark * 16 + seq % 16)

/-- The nominal instant carries the epoch marker (R118). -/
def epochMark (s : State) (inst : Nat) : Bool := inst % (2 ^ s.fld TIM_CTRL.EPOCH_LOG * 1000000000) == 0

/-- The word of the channel's next sample (R209 to R213). -/
def nextSampleWord (s : State) (n c inst data : Nat) (ovr : Bool) : Word :=
  let h := s.afe.getD (16 * n + c) {}
  let clamped := if ovr then (if nbit data 23 then 0x800000 else 0x7FFFFF) else data
  let sf := s.fld (AFE_CH_STAT.SFLT n c)
  let mark := epochMark s inst || h.idxAt.any (· ≤ inst)
  sampleWord clamped (s.fld (AFE_CH_STAT.SETTLE_LEFT n c) != 0) ovr (sf == 1 || sf == 2) mark h.nextSeq

/-- A channel produces a sample: the word leaves for the ingest ports that select it and enters its raw ring; the SETTLE
count, sticky and status fields follow. -/
def doAfeSample (n c inst data : Nat) (ovr : Bool) (s : State) : State :=
  if !afeActive s n c then s
  else
    let w := nextSampleWord s n c inst data ovr
    let left := s.fld (AFE_CH_STAT.SETTLE_LEFT n c)
    let s := if left ≠ 0 then
        (s.setFld (AFE_CH_STAT.SETTLE_LEFT n c) (left - 1)).count (AFE_SETTLE_CNT.COUNT n) else s
    let s := if ovr then s.setBitAt (AFE_CLIP_STICKY.CH n) c true else s
    let s := (s.setBit (AFE_CH_STAT.CLIP n c) ovr).setFld (AFE_CH_STAT.SEQ n c) (w.toNat % 16)
    let s := { s with afe := modAt s.afe (16 * n + c) fun h =>
      { h with nextSeq := (h.nextSeq + 1) % 16,
               idxAt := h.idxAt.filter (inst < ·) } }
    rawRingWrite (sampleToPorts s (16 * n + c) w inst) (16 * n + c) w inst

/-- A sensor fault begins (R217, R218). A fault present that turns to the other kind is reported so; it is no new onset. -/
def doSensorOnset (n c : Nat) (isShort : Bool) (s : State) : State :=
  let sf := s.fld (AFE_CH_STAT.SFLT n c)
  if iepeOn s n c ∧ (sf = 1 ∨ sf = 2) then s.setFld (AFE_CH_STAT.SFLT n c) (if isShort then 2 else 1)
  else if iepeOn s n c ∧ sf = 0 then
    let s := s.setFld (AFE_CH_STAT.SFLT n c) (if isShort then 2 else 1)
    bark (s.setBitAt (AFE_SFLT_STICKY.CH n) c true) (Src.AFE0_SFLT + n)
  else s

/-- A sensor fault clears; the SETTLE count of an IEPE change follows (R217, R218). -/
def doSensorClear (n c : Nat) (s : State) : State :=
  let sf := s.fld (AFE_CH_STAT.SFLT n c)
  if iepeOn s n c ∧ (sf = 1 ∨ sf = 2) then
    startSettle (s.setFld (AFE_CH_STAT.SFLT n c) 0) n c (settleIepe (s.word (AFE_CH_CFG.addr n c)))
  else s

/-- The bias monitor reports (Table 07-18). -/
def doBias (n c mv : Nat) (s : State) : State :=
  if s.up n then s.setFld (AFE_CH_BIAS.MV n c) (if iepeOn s n c then mv else 0) else s

/-! ### Root watch path -/

/-- A comparator crosses (R221): HIT sets, it is no longer armed, and Root senses the wake cause. -/
def watchCross (s : State) (c k : Nat) : State :=
  let s := s.setBitAt (AFE_WATCH_STAT.HIT (c / 4)) (2 * (c % 4) + k) true
  let s := { s with watch := { s.watch with armed := clrBit s.watch.armed (2 * c + k) } }
  senseCause s (2 * c + k)

/-- The RMS register of comparator `k` of channel `c`. -/
def watchRmsRef (c k : Nat) : FRef := if k = 0 then AFE_WCH_RMS.RMS0 (c / 4) (c % 4) else AFE_WCH_RMS.RMS1 (c / 4) (c % 4)

/-- An armed comparator crosses while Root senses it (R70, R221): its RMS has risen above THRESH, to a free value (log
entry 5), which no RMS does where THRESH is at its largest. -/
def doWatchCmpCross (c k : Nat) (s : State) : State :=
  let th := s.fld (AFE_WCH_CMP.THRESH (c / 4) (c % 4) k)
  if sensing s ∧ s.bit (AFE_WCH_CFG.EN (c / 4) (c % 4)) ∧ nbit s.watch.armed (2 * c + k) ∧ th < 65535 then
    let (v, s) := s.fresh
    watchCross (s.setFld (watchRmsRef c k) (th + 1 + v % (65535 - th))) c k
  else s

/-- The comparator's averaged RMS after this sample. The spec gives the band edges and the time constant, not the filters:
a free value, log entry 5. -/
def watchRms (s : State) (c k : Nat) : Nat × State :=
  let (v, s) := s.fresh
  let v := v % 65536
  (v, s.setFld (watchRmsRef c k) v)

/-- Comparator `k` of channel `c` takes its RMS: whether it is above THRESH, whether it crossed, and the state with the
comparator re-armed below THRESH × (1 − HYST ÷ 16). -/
def watchCompare (s : State) (c k : Nat) : Bool × Bool × State :=
  let (v, s) := watchRms s c k
  let th := s.fld (AFE_WCH_CMP.THRESH (c / 4) (c % 4) k)
  let hy := s.fld (AFE_WCH_CMP.HYST (c / 4) (c % 4) k)
  let armed := nbit s.watch.armed (2 * c + k)
  let s := if v * 16 < th * (16 - hy) then
      { s with watch := { s.watch with armed := setBit s.watch.armed (2 * c + k) } } else s
  (th < v, th < v && armed, s)

/-- One watch channel's part of a set: its history word (Table 07-9) and the comparators that crossed. -/
def watchChannel (s : State) (c : Nat) (data : Nat) (clip sflt : Bool) : Word × List Nat × State :=
  if s.bit (AFE_WCH_CFG.EN (c / 4) (c % 4)) then
    let (a0, x0, s) := watchCompare s c 0
    let (a1, x1, s) := watchCompare s c 1
    let keep := s.bit (AFE_WCH_CFG.IEPE_KEEP (c / 4) (c % 4)) && s.watch.iepe.getD c 0 != 0
    let w := data % 2 ^ 24 * 256 + b2n clip * 64 + b2n (sflt && keep) * 32 + b2n a1 * 16 + b2n a0 * 8 + c
    (BitVec.ofNat 32 w, (if x0 then [0] else []) ++ (if x1 then [1] else []), s)
  else (BitVec.ofNat 32 c, [], s)

/-- A sample instant of the watch path in ROOT (R61, R220 to R223): eight words enter the history ring, HPTR and VALID
move, then the crossings act. -/
def doWatchSample (data : List (BitVec 24)) (clip sflt : Nat) (s : State) : State :=
  if s.pwr.mode ≠ .root then s
  else
    let base := s.watch.sets % 3200 * 8
    let (s, hits) := (List.range 8).foldl (fun (s, hits) c =>
      let (w, ks, s) := watchChannel s c (data.getD c 0).toNat (nbit clip c) (nbit sflt c)
      (s.setRword (4 * (base + c)) w, hits ++ ks.map (fun k => (c, k)))) (s, ([] : List (Nat × Nat)))
    let k := s.watch.sets + 1
    let s := { s with watch := { s.watch with sets := k } }
    let s := (List.range 2).foldl (fun s n =>
      (s.setFld (AFE_WATCH_STAT.HPTR n) (k % 3200 * 8)).setBit (AFE_WATCH_STAT.VALID n) (3200 ≤ k)) s
    hits.foldl (fun s h => watchCross s h.1 h.2) s

/-! ### Tach and encoder inputs -/

def tchIn (s : State) (i : Nat) : TchIn := s.tch.getD i {}

def modTch (s : State) (i : Nat) (f : TchIn → TchIn) : State := { s with tch := modAt s.tch i f }

/-- Effective MODE: 3 acts as OFF (Table 07-26). -/
def tchMode (s : State) (i : Nat) : Nat := s.fld (TCH_CFG.MODE i) % 3

/-- The first stamp of each input after a step of mill time carries TSTEP (R123): the first that is queued, where one before
it is not wanted or is lost (DEDUCED, log entry 36). -/
def stampStepFlags (s : State) : State := { s with tch := s.tch.map fun x => { x with tstep := true } }

/-- Queue a stamp for delivery, or lose it when 256 wait (R229). -/
def queueStamp (s : State) (i t : Nat) (back idx edge : Bool) : State :=
  let x := tchIn s i
  if 256 ≤ x.queue.length then
    let s := s.count (TCH_CNT.LOST i)
    let s := modTch s i fun x => { x with gapNext := true, ovr := true }
    if x.ovr then s else bark (s.setBitAt TCH_OVR_STICKY.OVR i true) Src.TCH_OVR
  else
    let pos := s.fld (TCH_POS.POS i) % 2 ^ 24
    let info := b2n back + 2 * b2n idx + 4 * b2n x.tstep + 8 * b2n x.gapNext + 16 * b2n edge + 32 * i + 256 * pos
    modTch s i fun x => { x with queue := x.queue ++ [⟨t, BitVec.ofNat 32 info, s.sfld (TCH_REV.REV i)⟩], gapNext := false, tstep := false,
                                 ovr := false }

/-- A counted edge (R224, R227, R230): POS, the last stamp, the direction and the stopped flag; encoder deviations follow. An edge
that clears STOPPED starts a new period measurement. -/
def countEdge (s : State) (i t : Nat) (back : Bool) : State :=
  let s := s.setFld (TCH_POS.POS i) (ofSigned 32 (s.sfld (TCH_POS.POS i) + (if back then -1 else 1)))
  let s := s.setWide (TCH_LAST_LO.addr i) t
  let s := s.setBitAt TCH_STATUS.DIRREV i back
  let s := if s.bitAt TCH_STATUS.STOPPED i then
      modTch (s.setBitAt TCH_STATUS.STOPPED i false) i fun x => { x with lastIdx := some t } else s
  (List.range 4).foldl devNote (modTch s i fun x => { x with cnt := x.cnt + 1, decim := x.decim + 1, edgeAt := s.uptime })

/-- An index event (R227): REV, the clearing of POS, PERIOD; channels that mark this input's index take its stamp
(R212). -/
def indexEvent (s : State) (i t : Nat) : State :=
  let back := s.bitAt TCH_STATUS.DIRREV i
  let s := s.setFld (TCH_REV.REV i) (ofSigned 32 (s.sfld (TCH_REV.REV i) + (if back then -1 else 1)))
  let s := if s.bit (TCH_CFG.ZRST i) then s.setFld (TCH_POS.POS i) 0 else s
  let s := match (tchIn s i).lastIdx with
    | some t0 => if s.bitAt TCH_STATUS.STOPPED i then s else s.setFld (TCH_PERIOD.PERIOD i) (Nat.min (t - t0) 0xFFFFFFFF)
    | none => s
  let s := homeIndex (modTch s i fun x => { x with cnt := 0, lastIdx := some t }) i
  { s with afe := s.afe.zipIdx.map fun (h, j) =>
      if s.bit (AFE_CH_CFG.MARK_IDX (j / 16) (j % 16)) && s.fld (AFE_CH_CFG.MARK_IN (j / 16) (j % 16)) == i
      then { h with idxAt := h.idxAt ++ [t] } else h }

/-- Whether a stamp is delivered (R228). -/
def stampWanted (s : State) (i : Nat) (counted idx : Bool) : Bool :=
  match s.fld (TCH_CFG.SEL i) with
  | 0 => true
  | 2 => idx || (counted && s.fld (TCH_DIV.DECIM i) + 1 ≤ (tchIn s i).decim)
  | _ => idx

/-- Whether the accepted change counts, and its direction (R224): `none` where it does not. In QUAD _A leading _B counts
up. -/
def tchCounts (s : State) (i : Nat) (old : TchIn) (a b : Bool) : Option Bool :=
  match tchMode s i with
  | 1 =>
    let up := a && !old.a
    let down := !a && old.a
    let sel := s.fld (TCH_CFG.EDGE i) % 3
    if (up && sel != 1) || (down && sel != 0) then some false else none
  | 2 =>
    if (a != old.a) == (b != old.b) then none
    else
      let fwd := if a != old.a then a != b else a == b
      some (!(fwd != s.bit (TCH_CFG.INV_DIR i)))
  | _ => none

/-- The tach lands are heard: the unit works and the mode does not ignore them (Table 02-5). -/
def tachHeard (s : State) : Bool := s.up 2 && s.pwr.mode != .safe && s.pwr.mode != .holdup

/-- A counted edge, and the index event it is with ZEN = 0, with the stamp delivered for it (R227, R228). -/
def tchEdgeEvent (s : State) (i t : Nat) (back edge : Bool) : State :=
  let s := countEdge s i t back
  let idx := !s.bit (TCH_CFG.ZEN i) && s.fld (TCH_DIV.COUNTS i) + 1 ≤ (tchIn s i).cnt
  let s := if idx then indexEvent s i t else s
  let wanted := stampWanted s i true idx
  let s := if s.fld (TCH_DIV.DECIM i) + 1 ≤ (tchIn s i).decim then modTch s i fun x => { x with decim := 0 } else s
  if wanted then queueStamp s i t back idx edge else s

/-- An index event on _Z (R227). What EDGE of its stamp shows in QUAD the spec does not say: a free value, log entry 18. -/
def tchZEvent (s : State) (i t : Nat) : State :=
  let s := indexEvent s i t
  let (v, s) := s.fresh
  queueStamp s i t (s.bitAt TCH_STATUS.DIRREV i) true (tchMode s i == 2 && nbit v 0)

/-- The lands of input `i` change at mill time `t` to levels that hold for `held` ns (R224 to R230). They are accepted once
they have held for FILT + 1 cycles of 5 ns, and stamped with the time of the change; a shorter pulse is ignored (R225). -/
def doTachEdge (i : Nat) (a b z : Bool) (t held : Nat) (s : State) : State :=
  let old := tchIn s i
  let wait := 5 * (s.fld (TCH_CFG.FILT i) + 1)
  let m := tchMode s i
  if held < wait then s
  else if !tachHeard s ∨ m = 0 then modTch (s.advanceTo (t + wait)) i fun x => { x with a := a, b := b, z := z }
  else
    let s := modTch (s.advanceTo (t + wait)) i fun x => { x with a := a, b := b, z := z }
    let s := if m = 2 ∧ a ≠ old.a ∧ b ≠ old.b then s.count (TCH_CNT.QERR i) else s
    let s := match tchCounts s i old a b with
      | some back => tchEdgeEvent s i t back (if m = 1 then !a else a == old.a)
      | none => s
    if s.bit (TCH_CFG.ZEN i) && z && !old.z then tchZEvent s i t else s

/-- No counted edge for TIMEOUT (R230). -/
def doTachStopped (i : Nat) (s : State) : State :=
  if tachHeard s ∧ tchMode s i ≠ 0 then
    let s := s.runTo ((tchIn s i).edgeAt + Nat.max 1 (s.fld (TCH_TIMEOUT.MS i)) * 1000000)
    (s.setBitAt TCH_STATUS.STOPPED i true).setFld (TCH_PERIOD.PERIOD i) 0
  else s

/-- After a write of TCH_i_CFG or TCH_i_DIV (R227, R231): the counts toward COUNTS and DECIM restart; a change of MODE or COUNTS
clears the counts and the queue. `o` and `d` are the words before. -/
def tachCfgWritten (s : State) (i : Nat) (o d : Word) : State :=
  let changed := wordField o 0 2 ≠ s.fld (TCH_CFG.MODE i) ∨ wordField d 0 16 ≠ s.fld (TCH_DIV.COUNTS i)
  let s := modTch s i fun x => { x with cnt := 0, decim := 0 }
  if changed then
    let s := ((s.setFld (TCH_POS.POS i) 0).setFld (TCH_REV.REV i) 0).setFld (TCH_PERIOD.PERIOD i) 0
    payOwed (masterLost (modTch s i fun x => { x with queue := [], lastIdx := none }) i)
  else s

end Sys2Proof.Machine
end

