-- ==== Sys2Proof/Machine/Time.lean ====
section
/-! DEFINITION. Mill time: TIME exchanges, the discipline loop, steps, TIME_PPS, clock monitors (chapter 04). -/

namespace Sys2Proof.Machine

/-- TIM_STATUS.STATE codes (Table 04-8). -/
def timFREE : Nat := 0
def timACQUIRE : Nat := 1
def timLOCKED : Nat := 2
def timHOLDOVER : Nat := 3

def timState (s : State) : Nat := s.fld TIM_STATUS.STATE

/-- Move to another state of Table 04-4: raises the PLIC source TIM (Table 12-4), and TIM_UNLOCK where LOCKED is left
(R97). -/
def setTimState (s : State) (n : Nat) : State :=
  if timState s = n then s
  else
    let was := timState s
    let s := plicRaise (s.setFld TIM_STATUS.STATE n) plicTIM
    let s := s.modTim fun t => { t with lockCnt := 0, unlockCnt := 0, stepCnt := 0, ppsAt := none }
    if was = timLOCKED then bark s Src.TIM_UNLOCK else s

/-- log2 of the sync interval in s, −4 to 3 (Table 04-13). -/
def syncLog (s : State) : Int := clampI (-4) 3 (s.sfld TIM_SYNC_CFG.LOG_INT)

/-- The step threshold in ns (R111). -/
def stepThreshold (s : State) : Int := (Nat.max 1 (s.fld TIM_SYNC_CFG.STEP_US) : Int) * 1000

/-- A TIME frame of host tenant `t` on port `p` is the master's (R107). -/
def fromMaster (s : State) (t p : Nat) : Bool :=
  s.bit TIM_MASTER.VALID && s.fld TIM_MASTER.TENANT == t && masterPort s == p

/-- A step of mill time to `n` ns and a fraction (R111, R120, R123): the accumulator clears, the step is counted, the
modulators realign at the next whole second, the sample ports send a new TIME pair, and the first stamp of each input after
it is flagged. -/
def stepTo (s : State) (n frac : Int) : State :=
  let d := n - s.tim.now
  let s := s.modTim fun t => { t with now := (n % 2 ^ 64).toNat, frac := frac, acc := 0, realign := true }
  stampStepFlags (ingestNeedTime (gatesStep (s.count TIM_CNT.STEPS) d))

/-- A step by `h` half ns. -/
def stepTime (s : State) (h : Int) : State :=
  let f := s.tim.frac + 128000000000 * h
  stepTo s (s.tim.now + f / 256000000000) (f % 256000000000)

/-- The adjustment y in 1/256 ppb for offset `o` and accumulator `acc`, in half ns (R111): −o / (2^KP × T) − acc / (2^KI × T),
clamped to ±100,000 ppb, to the nearest 1/256. -/
def loopAdjust (s : State) (o acc : Int) : Int :=
  let kp := s.fld TIM_LOOP_CFG.KP_SH
  let ki := s.fld TIM_LOOP_CFG.KI_SH
  let l := (syncLog s + 4).toNat
  let num := -(o * 2 ^ ki + acc * 2 ^ kp) * 256 * 16
  clampI (-25600000) 25600000 (roundDivI num (2 ^ (kp + ki + l + 1)))

/-- The loop's work on an accepted exchange with offset `o` in half ns, DISC_EN = 1 (R111, R112). -/
def discipline (s : State) (o : Int) : State :=
  let s := if timState s = timFREE ∨ timState s = timHOLDOVER then setTimState s timACQUIRE else s
  let big := 2 * stepThreshold s ≤ o.natAbs
  let unl := if 20 * s.fld TIM_LOOP_CFG.UNLOCK_X10NS < o.natAbs then s.tim.unlockCnt + 1 else 0
  if big ∧ timState s = timACQUIRE then
    (stepTime s (-o)).modTim fun t => { t with lockCnt := 0 }
  else if big ∧ timState s = timLOCKED then
    let k := s.tim.stepCnt + 1
    if 3 ≤ k then setTimState (stepTime s (-o)) timACQUIRE
    else if 4 ≤ unl then setTimState s timACQUIRE
    else s.modTim fun t => { t with stepCnt := k, unlockCnt := unl }
  else
    let acc := s.tim.acc + o
    let s := s.modTim fun t => { t with acc := acc, stepCnt := 0 }
    let s := s.setFld TIM_FREQ_ADJ.PPB (ofSigned 32 (loopAdjust s o acc))
    if timState s = timLOCKED then
      if 4 ≤ unl then setTimState s timACQUIRE else s.modTim fun t => { t with unlockCnt := unl }
    else
      let k := if o.natAbs < 2 * s.fld TIM_LOOP_CFG.LOCK_NS then s.tim.lockCnt + 1 else 0
      if 16 ≤ k then setTimState s timLOCKED else s.modTim fun t => { t with lockCnt := k }

/-- An exchange of delay `d` half ns passes the checks of R110. -/
def exchangeOk (s : State) (d : Int) : Bool :=
  0 ≤ d && d ≤ 200000 && (match s.tim.dHist with
    | [] => true
    | x :: xs => d ≤ xs.foldl min x + 400)

/-! ### Commands -/

/-- SYNC arrives (R107, R108): the exchange starts, t2 is now. One that interrupts another rejects that one (R110) and starts
an exchange of its own (DEDUCED, log entry 35). -/
def doSyncRx (t p tag t1 : Nat) (s : State) : State :=
  if !s.running then s
  else if !fromMaster s t p then s.count TIM_CNT.FOREIGN
  else
    let s := if s.tim.exch.isSome then s.count TIM_CNT.REJECT else s
    (timPort s).modTim fun x => { x with exch := some { port := p, tag := tag, t1 := t1, t2 := x.now } }

/-- DELAY_REQ leaves in class CONTROL and its departure is stamped t3 (R108): at a frame boundary of its port at which no ALARM
frame may go (R25, R476). -/
def doDelayReqTx (s : State) : State :=
  match s.tim.exch with
  | some e =>
    if s.running ∧ e.t3 = none ∧ mayTransmit s e.port ∧ !alarmWaits s e.port then
      sendDelayReq (s.modTim fun t => { t with exch := some { e with t3 := some t.now } }) e.port e.tag
    else s
  | none => s

/-- A DELAY_RESP that no exchange waits for. -/
def lateResp (s : State) (p tag : Nat) : State :=
  if s.tim.late.contains (p, tag) then bark (s.modTim fun t => { t with late := t.late.erase (p, tag) }) Src.LATE else s

/-- DELAY_RESP arrives (R109, R110, R111). One whose exchange has been missed is late (R103); any other that no exchange
waits for says nothing. Delay and offset are kept in half ns and reported to the nearest ns. -/
def doDelayRespRx (t p tag t4 : Nat) (s : State) : State :=
  if !s.running then s
  else if !fromMaster s t p then s.count TIM_CNT.FOREIGN
  else match s.tim.exch with
    | some { port := x, tag := g, t1 := t1, t2 := t2, t3 := some t3 } =>
      if g ≠ tag ∨ x ≠ p then lateResp s p tag
      else
      let fwd : Int := (t2 : Int) - t1
      let d : Int := fwd + ((t4 : Int) - t3)
      let o : Int := 2 * fwd - d - 2 * s.sfld TIM_ASYM.NS
      let s := s.modTim fun x => { x with exch := none }
      if !exchangeOk s d then s.count TIM_CNT.REJECT
      else
        let s := s.modTim fun x => { x with dHist := (d :: x.dHist).take 16 }
        let s := s.setFld TIM_OFFSET.NS (ofSigned 32 (clampI (-2147483648) 2147483647 ((o + 1) / 2)))
        let s := (s.setFld TIM_DELAY.NS ((d + 1) / 2).toNat).setBit TIM_STATUS.MASTER_OK true
        if s.bit TIM_CTRL.DISC_EN then discipline s o else s
    | _ => lateResp s p tag

def doExchangeMiss (s : State) : State :=
  match s.tim.exch with
  | some { port := x, tag := g, t3 := some _, .. } =>
    if s.running then (s.modTim fun t => { t with exch := none, late := t.late ++ [(x, g)] }).count TIM_CNT.MISS else s
  | _ => s

/-- No exchange accepted for 8 intervals (R112). -/
def doHoldover (s : State) : State :=
  if s.running then
    let s := s.setBit TIM_STATUS.MASTER_OK false
    if timState s = timACQUIRE ∨ timState s = timLOCKED then setTimState s timHOLDOVER else s
  else s

/-- The side effects of a write of TIM_CTRL, its RW fields already written: DISC_EN = 0 forces FREE (R112, R717); SET = 1
loads mill time in FREE or HOLDOVER and counts as a step (R114). One write that does both forces FREE first, so that its set
is accepted (DEDUCED, log entry 35). -/
def timCtrlWritten (s : State) (v : Word) : State :=
  let s := if s.bit TIM_CTRL.DISC_EN then s else setTimState s timFREE
  let s := if s.bit TIM_CTRL.PPS_EN then s else s.modTim fun t => { t with ppsAt := none }
  if wordField v 2 1 = 1 ∧ (timState s = timFREE ∨ timState s = timHOLDOVER) then
    stepTo s ((s.word TIM_SET_LO.addr).toNat + 2 ^ 32 * (s.word TIM_SET_HI.addr).toNat) 0
  else s

/-- An apply of group 14 that changes TIM_MASTER (R717). -/
def masterChanged (s : State) : State :=
  let s := timPort (clearTimHistory s)
  if timState s = timLOCKED ∨ timState s = timHOLDOVER then setTimState s timACQUIRE else s

/-- A whole second of mill time (R32): TIME_PPS rises while LOCKED and enabled. -/
def doPps (s : State) : State :=
  if s.running then
    let s := s.advanceTo ((s.tim.now + 999999999) / 1000000000 * 1000000000)
    if timState s = timLOCKED ∧ s.bit TIM_CTRL.PPS_EN then s.modTim fun t => { t with ppsAt := some t.now } else s
  else s

/-- The level of TIME_PPS (R32, R127): high for 100 µs from its rise, low while unlocked or disabled. -/
def timePps (s : State) : Bool :=
  match s.tim.ppsAt with
  | some t => s.running && timState s == timLOCKED && s.bit TIM_CTRL.PPS_EN && t ≤ s.tim.now && s.tim.now < t + 100000
  | none => false

def doRootSlowFallback (s : State) : State :=
  if s.pwr.rootPowered ∧ !s.pwr.rslowRc then bark (s.modPwr fun p => { p with rslowRc := true }) Src.CLK_RSLOW else s

/-- A clock monitor acts (R97). -/
def doPllLoss (which : Nat) (s : State) : State :=
  if s.running then
    match which with
    | 0 => bark s Src.CLK_REF
    | 1 => bark (s.setBit TIM_STATUS.SYS_PLL false) Src.CLK_SYSPLL
    | 2 => bark (s.setBit TIM_STATUS.TB_PLL false) Src.CLK_TIMEPLL
    | 3 => bark (s.setBit TIM_STATUS.TRK_PLL_A false) Src.CLK_TRKPLL 0
    | _ => bark (s.setBit TIM_STATUS.TRK_PLL_B false) Src.CLK_TRKPLL 1
  else s

/-- The first whole second after a step (R120): the modulators realign and the channels mark SETTLE. -/
def doAfeRealign (s : State) : State :=
  if s.running && s.tim.realign then
    let s := s.advanceTo ((s.tim.now + 999999999) / 1000000000 * 1000000000)
    settleAll (ingestNeedTime (s.modTim fun t => { t with realign := false }))
  else s

/-- One TIME cycle of mill time: 8 ns of SYS_REF at (1 + y × 10^-9) (R104, R111). -/
def tickTime (s : State) : State :=
  let y := s.sfld TIM_FREQ_ADJ.PPB
  let f := s.tim.frac + 8 * (256 * 1000000000 + y)
  let d := f / (256 * 1000000000)
  { s with uptime := s.uptime + 8,
           tim := { s.tim with now := ((s.tim.now + d) % 2 ^ 64).toNat, frac := f % (256 * 1000000000) } }

/-- One ROOT_SLOW tick: Root carries mill time at 1/32,768 s (R106). -/
def tickRoot (s : State) : State :=
  let f := s.tim.frac + 256 * 1000000000 * (1000000000 % 32768) / 32768
  { s with uptime := s.uptime + 30517,
           tim := { s.tim with now := (s.tim.now + 30517 + (f / (256 * 1000000000)).toNat) % 2 ^ 64,
                               frac := f % (256 * 1000000000) } }

/-- What the clock does when no command waits: Root carries mill time wherever the main domains are off or held in reset
(R106). DESIGN CHOICE, log entry 2. -/
def idleTick (s : State) : State :=
  if s.running then tickTime s else if s.pwr.rootPowered then tickRoot s else s

end Sys2Proof.Machine
end

