-- ==== Sys2Proof/Machine/TrunkLink.lean ====
section
/-! DEFINITION. The trunk link: lanes, bonding, frames received, recovery, and the scheduler (chapters 13 and 15). -/

namespace Sys2Proof.Machine

/-! ### Lanes and ports -/

/-- An event of TKA_LANE or TKB_LANE (R401). -/
def laneEvent (s : State) (x : Nat) : State := bark s (if x = 0 then Src.TKA_LANE else Src.TKB_LANE) x

def laneState (s : State) (x l : Nat) : Nat := s.fld (TK_LANE_STAT.STATE x l)

def isUp (s : State) (x l : Nat) : Bool := laneState s x l == 6

/-- Lanes of a port that are UP, as a mask. -/
def upMask (s : State) (x : Nat) : Nat := b2n (isUp s x 0) + 2 * b2n (isUp s x 1)

/-- The node answers on port `x`: its gates are open. -/
def portOn (s : State) (x : Nat) : Bool := s.up (fenceTK x)

def laneOf (s : State) (x l : Nat) : Lane := (s.port x).lanes.getD l {}

def State.modLane (s : State) (x l : Nat) (f : Lane → Lane) : State :=
  s.modPort x fun p => { p with lanes := modAt p.lanes l f }

/-- Put a LINK or RESYNC frame ahead of every queue (R424, R471). -/
def pushLink (s : State) (x : Nat) (f : Frame) : State := s.modPort x fun p => { p with linkq := p.linkq ++ [f] }

/-- The lanes a HELLO or MASK names received: each lane that is UP (R716). -/
def maskFrame (s : State) (x : Nat) : Frame := linkFrame 8 2 (upMask s x)

/-- The payload word of a HELLO for lane `l` (Table 13-4). -/
def helloWord (s : State) (x l : Nat) : Nat :=
  (s.port x).effId + 2 ^ 16 * x + 2 ^ 17 * l + 2 ^ 18 * upMask s x + 2 ^ 20 * b2n (s.bit (TK_LANE_CFG.FEC x l)) +
    2 ^ 21 * b2n (portCode s x == 2)

/-- Retrain a port and report each lane that left UP (R420, Table 13-6). -/
def retrainLanes (s : State) (x : Nat) : State :=
  let ups := (List.range 2).filter fun l => isUp s x l
  ups.foldl (fun s _ => laneEvent s x) (retrain s x)

/-- The stripe set the port is to send on: the lanes UP that the partner last named received, from the next marker pair on
(R407). -/
def restripe (s : State) (x : Nat) : State :=
  let m := (s.port x).peerRx &&& upMask s x
  s.modPort x fun p => { p with markPend := if m = s.fld (TK_STATUS.TXMASK x) then none else some m }

/-- The REQ of the recovery that runs. -/
def resyncReq (s : State) (x : Nat) : Frame := linkFrame 9 0 (s.fld (TK_SEQ.RX x) + 2 ^ 16 * (s.port x).rseq)

/-- The partner's stripe set names a lane that is not decoded: its stream cannot be decoded (R407). -/
def streamLost (s : State) (x : Nat) : Bool :=
  let p := s.port x
  (p.peerStripe &&& s.fld (TK_STATUS.RXMASK x)) != p.peerStripe

/-- Start recovery (R420): a new RSEQ, the REQ at once or, where the partner's stream cannot be decoded, at a marker pair
(R407). A recovery that runs goes on. -/
def startRecovery (s : State) (x : Nat) : State :=
  if s.bit (TK_STATUS.RESYNC x) || portCode s x == 0 then s
  else
    let defer := streamLost s x
    let s := (s.setBit (TK_STATUS.RESYNC x) true).modPort x fun p =>
      { p with rseq := (p.rseq + 1) % 65536, defer := defer, nreq := if defer then 0 else 1 }
    if defer then s else pushLink s x (resyncReq s x)

/-- A recovery that runs as a lane is lost: its next REQ waits for the marker pair, with the same RSEQ (R407, R420). -/
def deferRecovery (s : State) (x : Nat) : State :=
  if s.bit (TK_STATUS.RESYNC x) && streamLost s x then
    s.modPort x fun p => { p with defer := true, linkq := p.linkq.filter fun f => !(f.ty == 9 && f.sub == 0) }
  else s

/-- A port recovers on lane `l` (R409): both directions at SEQ 0, TKx_ID in force, the partner shown. -/
def recoverPort (s : State) (x l : Nat) : State :=
  let id := s.fld (TK_ID.NODE_ID x)
  let id := if id = 0 ∨ id = 65535 then 1 else id
  let s := s.modPort x fun p =>
    { p with effId := id, held := [], pos := 0, nreq := 0, defer := false, answered := none, linkq := [],
             ackDue := false, markPend := none, peerStripe := 0, maskWait := false, lead := l, part := [] }
  let s := (s.setWord (TK_SEQ.addr x) 0).setFld (TK_REPLAY.HELD x) 0
  let s := setPort s x 1
  match (laneOf s x l).partner with
  | some (n, p) =>
    let was := s.word (TK_PARTNER.addr x)
    let s := ((s.setFld (TK_PARTNER.NODE_ID x) n).setFld (TK_PARTNER.PORT x) p).setBit (TK_PARTNER.VALID x) true
    restripe (if s.word (TK_PARTNER.addr x) = was then s else tkIrq s x (TK_IRQ.PARTNER_CHG x)) x
  | none => restripe s x

/-- A framing error or a CRC failure is counted and reported (R417, R420). -/
def rxCount (s : State) (x : Nat) (r : FRef) : State :=
  bark (s.count r) (if x = 0 then Src.TKA_CRC else Src.TKB_CRC) x

/-- The frame in reception from the stream, if any, breaks off: a framing error (R407, R417). -/
def breakFrame (s : State) (x : Nat) : State :=
  if (s.port x).part.isEmpty then s else rxCount (s.modPort x fun p => { p with part := [] }) x (TK_CNT.FRAMING x)

/-- A lane has left UP, or entered it (R403, R407, R409): the port goes DOWN, recovers, or goes on with the lanes left,
naming them in a MASK and recovering what was lost with the lane. -/
def portEval (s : State) (x : Nat) : State :=
  let up := upMask s x
  if up = 0 then portDown s x
  else if portCode s x = 0 then recoverPort s x (if isUp s x 0 then 0 else 1)
  else
    let rx := s.fld (TK_STATUS.RXMASK x)
    let lost := (rx &&& up) != rx
    let s := s.setFld (TK_STATUS.RXMASK x) (rx &&& up)
    let s := if portCode s x = 2 ∧ up ≠ 3 then setPort s x 1 else s
    let s := s.modPort x fun p => { p with lead := if nbit up p.lead then p.lead else 1 - p.lead }
    let s := restripe s x
    if lost then
      let s := startRecovery (deferRecovery (pushLink (breakFrame s x) x (maskFrame s x)) x) x
      s.modPort x fun p => { p with maskWait := p.defer }
    else s

/-- A lane leaves its state for its first one (R401); a return from UP is an event. -/
def laneRestart (s : State) (x l : Nat) : State :=
  let was := isUp s x l
  let s := portEval (setLane s x l (firstState s x l)) x
  if was then laneEvent s x else s

/-- A write changed TKx_LANEl_CFG (R401). -/
def laneCfgChanged (s : State) (x l : Nat) : State := laneRestart s x l

/-- A write changed TKx_CTRL.EN: its lanes start again, or go idle. -/
def portEnChanged (s : State) (x : Nat) : State :=
  let ups := (List.range 2).filter fun l => isUp s x l
  ups.foldl (fun s _ => laneEvent s x) (restartPort s x)

/-! ### Lane commands -/

def doLaneModulePresent (x l : Nat) (s : State) : State :=
  let s := if portOn s x then
      (s.setBit (TK_LANE_STAT.MODABS x l) false).setBit (TK_LANE_STAT.LOS x l) false else s
  if portOn s x && laneState s x l == 1 then (setLane s x l 3).setBit (TK_LANE_STAT.SIGDET x l) true else s

/-- MODABS or LOS of an SFI lane in a later state returns it (R400, R401); a KR lane does not read them. -/
def sfiLost (s : State) (x l : Nat) : State :=
  if s.bit (TK_LANE_CFG.PMD x l) && 1 < laneState s x l then laneRestart s x l else s

def doLaneModabsRise (x l : Nat) (s : State) : State :=
  if portOn s x then sfiLost (s.setBit (TK_LANE_STAT.MODABS x l) true) x l else s

/-- LOS of an SFI lane is loss of signal; a KR lane does not read it (R400). -/
def doLaneLos (x l : Nat) (s : State) : State :=
  if portOn s x then
    let s := s.setBit (TK_LANE_STAT.LOS x l) true
    sfiLost (if s.bit (TK_LANE_CFG.PMD x l) then s.setBit (TK_LANE_STAT.SIGDET x l) false else s) x l
  else s

def doLaneTrainDone (x l : Nat) (s : State) : State :=
  if portOn s x && laneState s x l == 2 then (setLane s x l 3).setBit (TK_LANE_STAT.SIGDET x l) true else s

def doLaneTrainTimeout (x l : Nat) (s : State) : State :=
  if portOn s x && laneState s x l == 2 then
    laneEvent (laneRestart (s.count (TK_LANE_CNT.TRAIN_FAIL x l)) x l) x else s

def doLaneBlockLock (x l : Nat) (s : State) : State :=
  if portOn s x && laneState s x l == 3 then setLane s x l (if s.bit (TK_LANE_CFG.FEC x l) then 4 else 5) else s

def doLaneFecLock (x l : Nat) (s : State) : State :=
  if portOn s x && laneState s x l == 4 then setLane s x l 5 else s

/-- LOCK, FEC and HELLO time out; a lane held for MISMATCH stays in HELLO (R403). -/
def doLaneStateTimeout (x l : Nat) (s : State) : State :=
  if portOn s x && 3 ≤ laneState s x l && laneState s x l ≤ 5 && !s.bit (TK_LANE_STAT.MISMATCH x l) then
    laneRestart s x l else s

/-- Block lock goes at 16 invalid sync headers in 64 blocks, FEC lock by the Clause 74 process (R401). -/
def doLaneLockLoss (x l : Nat) (fec : Bool) (s : State) : State :=
  let held := if fec then s.bit (TK_LANE_STAT.FEC_LOCK x l) else s.bit (TK_LANE_STAT.BLOCK_LOCK x l)
  if portOn s x && held then
    laneRestart (if fec then s else s.count (TK_LANE_CNT.BAD_SH x l) 16) x l else s

/-- The partner that TKx_PARTNER shows. -/
def partnerShown (s : State) (x : Nat) : Nat × Nat := (s.fld (TK_PARTNER.NODE_ID x), s.fld (TK_PARTNER.PORT x))

/-- A lane is held in HELLO: its HELLO names another partner than the lane already UP (R403, Table 13-6). -/
def holdMismatch (s : State) (x l : Nat) : State :=
  if s.bit (TK_LANE_STAT.MISMATCH x l) then s
  else bark ((s.setBit (TK_LANE_STAT.MISMATCH x l) true).count (TK_CNT2.LINKERR x)) Src.TRK_PROTO

/-- A lane in HELLO that has sent and received one goes UP, unless its partner is not the port's (R401, R403). -/
def helloDone (s : State) (x l : Nat) : State :=
  let n := laneOf s x l
  if laneState s x l == 5 && n.helloRx && n.helloTx then
    if portCode s x ≠ 0 ∧ n.partner ≠ some (partnerShown s x) then holdMismatch s x l else portEval (setLane s x l 6) x
  else s

/-- A lane HELLO leaves: on a lane in HELLO, and on any lane in use outside the transmit stripe set (R402, R716). -/
def doLaneHelloTx (x l : Nat) (s : State) : State :=
  let st := laneState s x l
  if portOn s x && (st == 5 || (st != 0 && !s.bitAt (TK_STATUS.TXMASK x) l)) then
    let id := s.fld (TK_ID.NODE_ID x)
    let id := if id = 0 ∨ id = 65535 then 1 else id
    let s := s.modPort x fun p => { p with effId := if portCode s x = 0 then id else p.effId, line := [] }
    let f := stamped s x (linkFrame 8 0 (helloWord s x l))
    let s := putBlks s x (1 + l) l (frameBlks (wireBytes f 0xFFFF 0xFFFF))
    let s := frameSent s x { f := f, dst := 0xFFFF }
    helloDone (s.modLane x l fun n => { n with helloTx := st == 5 || n.helloTx }) x l
  else s

def doPortHelloTx (x : Nat) (s : State) : State :=
  if portOn s x && portCode s x != 0 then
    pushLink s x (linkFrame 8 0 (helloWord s x (if s.bitAt (TK_STATUS.TXMASK x) 0 || s.fld (TK_STATUS.TXMASK x) == 0
      then 0 else 1))) else s

/-- A HELLO on an UP port names another partner: the port is retrained (R425). -/
def partnerChanged (s : State) (x : Nat) : State :=
  bark (retrainLanes (s.count (TK_CNT2.LINKERR x)) x) Src.TRK_PROTO

/-- A lane HELLO (R402, R403, R425, R716). -/
def laneHello (s : State) (x l w : Nat) : State :=
  let who := (w % 65536, w / 65536 % 2)
  let st := laneState s x l
  let shown := partnerShown s x
  if st < 5 ∨ (laneOf s x l).inStream then s
  else if st = 6 ∧ portCode s x ≠ 0 ∧ who ≠ shown then partnerChanged s x
  else
    let s := s.modLane x l fun n => { n with partner := some who }
    if portCode s x ≠ 0 ∧ who ≠ shown then holdMismatch s x l
    else
      let s := (s.setBit (TK_LANE_STAT.MISMATCH x l) false).modPort x fun p => { p with peerRx := w / 2 ^ 18 % 4 }
      let s := if portCode s x ≠ 0 then restripe s x else s
      if st = 5 then helloDone (s.modLane x l fun n => { n with helloRx := true }) x l else s

/-- A stream HELLO (R425, R716). -/
def streamHello (s : State) (x w : Nat) : State :=
  if portCode s x = 0 then s
  else if s.bit (TK_PARTNER.VALID x) && (w % 65536 != s.fld (TK_PARTNER.NODE_ID x) ||
      w / 65536 % 2 != s.fld (TK_PARTNER.PORT x)) then partnerChanged s x
  else restripe (s.modPort x fun p => { p with peerRx := w / 2 ^ 18 % 4 }) x

def doHelloRx (x : Nat) (via : Option Nat) (w : Nat) (s : State) : State :=
  if portOn s x then
    match via with
    | some l => laneHello s x l w
    | none => streamHello s x w
  else s

def doMaskRx (x lanes : Nat) (s : State) : State :=
  if portOn s x && portCode s x != 0 then restripe (s.modPort x fun p => { p with peerRx := lanes }) x else s

/-- A marker pair leaves on the lanes of the stripe set that begins with it (R404); in TWO both markers stand at one pair
index. -/
def insertMarkers (s : State) (x : Nat) : State :=
  let s := match (s.port x).markPend with | some m => s.setFld (TK_STATUS.TXMASK x) m | none => s
  let m := s.fld (TK_STATUS.TXMASK x)
  let c := (s.port x).mrkCnt
  let s := putBlks s x m 0 (((List.range 2).filter fun l => nbit m l).map fun l => markerBlk l m c)
  s.modPort x fun p => { p with markPend := none, mrkCnt := (c + 1) % 256, blk := [0, 0] }

/-- The frame boundary that follows a change of the stripe set, or 4,096 blocks on each lane, idle blocks among them (R404). -/
def doMarkerInsert (x : Nat) (s : State) : State :=
  if portOn s x && portCode s x != 0 then insertMarkers (s.modPort x fun p => { p with line := [] }) x else s

/-- The frames alone have filled 4,096 blocks on each lane of the stripe set (R404). -/
def markersDue (s : State) (x : Nat) : Bool :=
  streaming s x && (List.range 2).all fun l =>
    !nbit (s.fld (TK_STATUS.TXMASK x)) l || decide (4096 ≤ (s.port x).blk.getD l 0)

/-- Lanes that a marker pair leaves decoded as one stream, `join` saying that both lanes are the port's (R403, R405, R716). In
TWO, a pair too far apart holds the lane out that joined second. -/
def decodedLanes (s : State) (x m : Nat) (pair join far : Bool) : Nat :=
  if !pair then m
  else if join then 3
  else if far && portCode s x == 2 then 2 ^ (s.port x).lead
  else s.fld (TK_STATUS.RXMASK x)

/-- A marker pair arrives (R403, R405, R407, R716). Lanes its mask names are decoded from the stream. The second lane joins
the port when the pair's counts agree, its skew is at most 1.0 µs, its HELLO named the same partner, and no recovery runs
(Table 13-7). A REQ that waited goes when the mask names only lanes decoded. Inside a frame a marker is a framing error
(R417). -/
def doMarkerRx (x mask c0 c1 skew : Nat) (late1 : Bool) (s : State) : State :=
  let m := mask &&& upMask s x
  if !portOn s x || portCode s x == 0 || m == 0 then s
  else
    let s := if (s.port x).part.isEmpty then s else startRecovery (breakFrame s x) x
    let pair := mask == 3 && m == 3
    let s := if pair && c0 == c1 then (s.setFld (TK_SKEW.SKEW x) skew).setBit (TK_SKEW.LATE1 x) late1 else s
    let far := pair && c0 == c1 && 10000 < skew
    let s := if pair && c0 == c1 then s.setBit (TK_STATUS.SKEW_ERR x) far else s
    let same := (laneOf s x 0).partner == (laneOf s x 1).partner
    let join := pair && c0 == c1 && !far && same &&
      (portCode s x == 2 || !s.bit (TK_STATUS.RESYNC x))
    let rx := decodedLanes s x m pair join far
    let s := (s.setFld (TK_STATUS.RXMASK x) rx).modPort x fun p => { p with peerStripe := mask }
    let s := (List.range 2).foldl (fun s l => if nbit rx l then s.modLane x l fun n => { n with inStream := true } else s) s
    let s := if join then setPort s x 2 else if far then setPort s x 1 else s
    let p := s.port x
    if p.defer && (mask &&& rx) == mask then
      let s := s.modPort x fun p => { p with defer := false, nreq := p.nreq + 1, maskWait := false }
      pushLink s x (resyncReq s x)
    else s

/-- No marker pair naming only decoded lanes came within 20 µs of the MASK (R407). -/
def doMaskMarkerTimeout (x : Nat) (s : State) : State :=
  if portOn s x && (s.port x).maskWait then retrainLanes s x else s

def doPortRetrainEnd (x : Nat) (s : State) : State :=
  if s.running && (s.port x).idle then restartPort (s.modPort x fun p => { p with idle := false }) x else s

/-- The trunk wake cause (R70, R410). -/
def doTrunkWakePattern (x l : Nat) (s : State) : State :=
  if s.bitAt (TK_WAKE.LANE x) l then senseCause s 18 else s

/-! ### Receiving (R417) -/

/-- A framing error or a CRC failure, and the recovery it starts (R417, R420). -/
def rxError (s : State) (x : Nat) (r : FRef) : State := startRecovery (rxCount s x r) x

/-- A malformed frame (R417, R433). -/
def malformed (s : State) (x : Nat) : State :=
  bark (tkIrq (s.count (TK_MALFORMED.COUNT x)) x (TK_IRQ.MALFORMED x)) Src.TRK_PROTO

/-- An ACK_SEQ (R419, R423): the frames before it are freed. -/
def applyAck (s : State) (x ack : Nat) : State :=
  let p := s.port x
  let oldest := match p.held with | (n, _) :: _ => n | [] => s.fld (TK_SEQ.TX x)
  let n := (ack + 65536 - oldest) % 65536
  if p.held.length < n then bark (s.count (TK_CNT2.ACKERR x)) Src.TRK_PROTO
  else
    (s.modPort x fun p => { p with held := p.held.drop n, pos := p.pos - n }).setFld (TK_REPLAY.HELD x)
      (p.held.length - n)

/-- Credits a frame takes (R439): NPH, PH, PD. -/
def creditNeed (f : Frame) : Nat × Nat × Nat :=
  if f.ty = 0 ∨ f.ty = 3 then (1, 0, 0) else if f.ty = 2 ∨ f.ty = 5 then (0, 1, fwords f) else (0, 0, 0)

/-- Credits are consumed, modulo 65,536 (R440). -/
def consume (s : State) (t : Nat) (n : Nat × Nat × Nat) : State :=
  s.modTen t fun h => { h with cons :=
    ((h.cons.1 + n.1) % 65536, (h.cons.2.1 + n.2.1) % 65536, (h.cons.2.2 + n.2.2) % 65536) }

/-- A policer judges the frame (R490): not where it is exempt, nor while TKS is fenced (R499). -/
def policed (s : State) (f : Frame) : Bool :=
  !s.fenced fenceTKS && (f.ty == 0 || f.ty == 2 || f.ty == 3 || (f.ty == 5 && f.sub < 11))

/-- The byte of TKS_PDROP for class `c`. -/
def pdropRef (t c : Nat) : FRef :=
  match c with
  | 0 => TKS_PDROP_LO.DROP0 t | 1 => TKS_PDROP_LO.DROP1 t | 2 => TKS_PDROP_LO.DROP2 t | 3 => TKS_PDROP_LO.DROP3 t
  | 4 => TKS_PDROP_HI.DROP4 t | _ => TKS_PDROP_HI.DROP5 t

/-- The policer of a bound tenant admits the frame, or drops it (R491 to R494). -/
def police (s : State) (f : Frame) : State × Bool :=
  match tenantOf s f.src with
  | none => (s, true)
  | some t =>
    let h := policer s t f.cls
    if !policed s f || !h.en then (s, true)
    else if shaperOk s h (fsize f) then
      (s.modTks fun g => { g with pol := SMap.set freshBucket g.pol (8 * t + f.cls) (spend s h (fsize f)) }, true)
    else (tksIrq (consume (s.count (pdropRef t f.cls)) t (creditNeed f)) TKS_IRQ.POLDROP, false)

/-- The address a received frame folds (R415, R416). -/
def rxFold (s : State) (x : Nat) (f : Frame) : Nat :=
  if f.ty = 1 ∨ f.ty = 4 then
    match SMap.get (fun _ => none) (s.port x).tags f.tag with | some g => g.addr | none => 0
  else foldAddr f.ty f.addr

/-- A TIME frame that no exchange can take counts as foreign: a DELAY_REQ that is not the master's, and a SYNC or DELAY_RESP of
a node that is bound to no tenant (R107). Those of a tenant are judged where they act. -/
def strayTime (s : State) (x : Nat) (f : Frame) : State :=
  if f.ty ≠ 6 then s
  else match tenantOf s f.src with
    | some t => if f.sub = 1 ∧ !fromMaster s t x then s.count TIM_CNT.FOREIGN else s
    | none => s.count TIM_CNT.FOREIGN

/-- An accepted frame of a bound node keeps its binding (R459). -/
def noteHeard (s : State) (f : Frame) : State :=
  match tenantOf s f.src with | some t => s.modTen t fun h => { h with heard := s.uptime } | none => s

/-- A MSG of a SUB that no host may send (R433, Table 14-4). -/
def strangeMsg (f : Frame) : Bool := f.ty == 5 && !(([8, 9, 11, 12, 14] : List Nat).contains f.sub)

/-- A frame with a good CRC (R417 steps 3 and 4): a sequenced one has its SEQ consumed; a malformed one is dropped; its
ACK_SEQ applies; the policer judges it; it is handed over, unless no host may send such a message (R433). -/
def acceptFrame (s : State) (x : Nat) (f : Frame) (resv : Bool) : State :=
  let s := if unsequenced f.ty then s
    else (s.setFld (TK_SEQ.RX x) (s.fld (TK_SEQ.RX x) + 1)).modPort x fun p => { p with ackDue := true }
  if resv || headerBad f then malformed s x
  else
    let s := s.countWide (TK_RXFRM_LO.addr x) 1
    let s := if f.ackV then applyAck s x f.ackSeq else s
    let (s, ok) := police s f
    if !ok then s
    else if strangeMsg f then malformed s x
    else (strayTime (noteHeard s f) x f).modPort x fun p => { p with handed := some f }

/-- The bytes of a whole frame from the stream of port `x` (R417 step 2). -/
def rxStream (s : State) (x : Nat) (bs : List Byte) : State :=
  let f := frameOfBytes bs
  if unsequenced f.ty then
    if crcOk bs 0xFFFF 0xFFFF 0 then acceptFrame s x f (reservedSet bs) else rxError s x (TK_CNT.CRC x)
  else if s.bit (TK_STATUS.RESYNC x) then (if crcOk bs (s.port x).effId (s.fld (TK_SEQ.RX x)) (rxFold s x f) then s else rxCount s x (TK_CNT.CRC x))
  else if crcOk bs (s.port x).effId (s.fld (TK_SEQ.RX x)) (rxFold s x f) then acceptFrame s x f (reservedSet bs)
  else rxError s x (TK_CNT.CRC x)

/-- The bytes of a whole frame decoded on lane `l` alone: only LINK frames have a place there; another on a lane before UP is
dropped and counted (R402, R716). -/
def rxLane (s : State) (x l : Nat) (bs : List Byte) : State :=
  let f := frameOfBytes bs
  if f.ty ≠ 8 then (if isUp s x l then s else s.count (TK_CNT2.LINKERR x))
  else if !crcOk bs 0xFFFF 0xFFFF 0 then rxError s x (TK_CNT.CRC x)
  else if reservedSet bs || headerBad f then malformed s x
  else s.modPort x fun p => { p with handed := some f }

/-- The blocks of a frame are whole: 4 + LEN of them (R411, R412). -/
def wholeFrame (ps : List PcsBlk) : Bool :=
  match ps with
  | [] => false
  | b :: _ => ps.length == 4 + startLen b

/-- Blocks are taken up into frames (R412, R417 step 1): `ps` are those of the frame in reception. A start block begins a frame,
with LEN at most 32; any block but data before LEN words have arrived is a framing error, a start block also the next frame.
Between frames other blocks say nothing. `whole` and `bad` act on a whole frame and on a framing error. -/
def takeBlks (whole : State → List Byte → State) (bad : State → State) : State → List PcsBlk → List PcsBlk → State × List PcsBlk
  | s, ps, [] => (s, ps)
  | s, ps, b :: bs =>
    if b.isData then
      if ps.isEmpty then takeBlks whole bad s [] bs
      else if wholeFrame (ps ++ [b]) then takeBlks whole bad (whole s (blksFrame (ps ++ [b]))) [] bs
      else takeBlks whole bad s (ps ++ [b]) bs
    else
      let s := if ps.isEmpty then s else bad s
      if !b.isStart then takeBlks whole bad s [] bs
      else if 32 < startLen b then takeBlks whole bad (bad s) [] bs
      else takeBlks whole bad s [b] bs

/-- Invalid sync headers count on their lane (Table 13-11). -/
def countBadSh (s : State) (x mask first : Nat) (bs : List PcsBlk) : State :=
  (List.range 2).foldl (fun s l => s.count (TK_LANE_CNT.BAD_SH x l)
    ((bs.zipIdx).filter fun q => laneFor mask (first + q.2) == l && hdrBad q.1.hdr).length) s

/-- Clause 74 blocks on a lane that runs it with FEC block lock: corrected or uncorrectable (R399). -/
def countFec (s : State) (x : Nat) (ws : List (Fin 2 × BitVec 2112)) : State :=
  ws.foldl (fun s w =>
    if s.bit (TK_LANE_CFG.FEC x w.1) && s.bit (TK_LANE_STAT.FEC_LOCK x w.1) then
      match fecDecode w.2 with
      | some (_, true) => s.count (TK_LANE_FEC.COR x w.1)
      | some (_, false) => s
      | none => s.count (TK_LANE_FEC.UNC x w.1)
    else s) s

/-- The blocks that the lanes of `mask` carry: RXINV set right on a lane without FEC, each lane descrambled (R398). -/
def blksOf (s : State) (x mask : Nat) (r : RxLine) : List PcsBlk :=
  destripe mask (fun l => s.bit (TK_LANE_CFG.RXINV x l) && !s.bit (TK_LANE_CFG.FEC x l)) r.first r.seed0 r.seed1 r.blks

def doFrameRx (x : Nat) (via : Option Nat) (fec : List (Fin 2 × BitVec 2112)) (r : RxLine) (s : State) : State :=
  if portOn s x then
    let s := countFec s x fec
    match via with
    | some l =>
      if 5 ≤ laneState s x l ∧ !(laneOf s x l).inStream then
        let bs := blksOf s x (1 + l) r
        let q := takeBlks (fun s b => rxLane s x l b) (fun s => rxError s x (TK_CNT.FRAMING x))
          (countBadSh s x (1 + l) r.first bs) (laneOf s x l).part bs
        q.1.modLane x l fun n => { n with part := q.2 }
      else s
    | none =>
      let mask := s.fld (TK_STATUS.RXMASK x)
      if portCode s x ≠ 0 ∧ mask ≠ 0 then
        let bs := blksOf s x mask r
        let q := takeBlks (fun s b => rxStream s x b) (fun s => rxError s x (TK_CNT.FRAMING x))
          (countBadSh s x mask r.first bs) (s.port x).part bs
        q.1.modPort x fun p => { p with part := q.2 }
      else s
  else s

/-! ### Recovery (R418 to R423) -/

/-- The REQ is sent again, or after 8 the port is retrained (R420). -/
def doResyncRetry (x : Nat) (s : State) : State :=
  let p := s.port x
  if portOn s x && s.bit (TK_STATUS.RESYNC x) && !p.defer then
    if 8 ≤ p.nreq then retrainLanes s x
    else
      pushLink (s.modPort x fun p => { p with nreq := p.nreq + 1 }) x (resyncReq s x)
  else s

/-- A RESYNC REQ (R421). -/
def doResyncReqRx (x next rseq : Nat) (s : State) : State :=
  if !portOn s x || portCode s x == 0 then s
  else
    let p := s.port x
    let ack := fun (n lost : Nat) => linkFrame 9 1 (n + 2 ^ 16 * rseq + 2 ^ 32 * lost)
    let again := match p.answered with | some (n, r, lost) => if r = rseq then some (n, lost) else none | none => none
    match again with
    | some (n, lost) => pushLink s x (ack n lost)
    | none =>
      let tx := s.fld (TK_SEQ.TX x)
      let oldest := match p.held with | (n, _) :: _ => n | [] => tx
      let below := (oldest + 65536 - next) % 65536
      let beyond := (next + 65536 - tx) % 65536
      let isBelow := 0 < below && below < 32768
      let isBeyond := !isBelow && 0 < beyond && beyond < 32768
      let n := if isBelow then oldest else if isBeyond then tx else next
      let lost := if isBelow then below else 0
      let s := if isBelow || isBeyond then bark (s.count (TK_CNT2.LINKERR x)) Src.TRK_PROTO else s
      pushLink (s.modPort x fun p => { p with answered := some (n, rseq, lost),
                                              pos := Nat.min p.held.length ((n + 65536 - oldest) % 65536) }) x (ack n lost)

/-- A RESYNC ACK (R422). -/
def doResyncAckRx (x next rseq lost : Nat) (s : State) : State :=
  if !portOn s x || portCode s x == 0 then s
  else if s.bit (TK_STATUS.RESYNC x) && !(s.port x).defer && (s.port x).rseq == rseq then
    let s := (s.setBit (TK_STATUS.RESYNC x) false).setFld (TK_SEQ.RX x) next
    let s := (s.count (TK_CNT2.LOST x) lost).count (TK_CNT.RESYNC x)
    bark (tkIrq (s.modPort x fun p => { p with ackDue := true }) x (TK_IRQ.RESYNC x)) Src.TRK_SEQ
  else s.count (TK_CNT2.RSEQERR x)

def doLinkAckRx (x ack : Nat) (s : State) : State :=
  if portOn s x && portCode s x != 0 then applyAck s x ack else s

def doLinkAckTx (x : Nat) (s : State) : State :=
  if portOn s x && portCode s x != 0 && (s.port x).ackDue then
    pushLink (s.modPort x fun p => { p with ackDue := false }) x (linkFrame 8 1 0) else s

/-! ### The scheduler (R474 to R477) -/

/-- The guard band in ns (R484). -/
def guardBand (s : State) (x : Nat) : Nat := if portCode s x = 2 then 115 else 230

/-- The gate of class `c` is open (R483). -/
def gateOpen (s : State) (x c : Nat) : Bool := c == 0 || nbit (gateView (gatesOf s x) s.tim.now).1 (c - 1)

/-- Class `c` is inside its guard band (R484). -/
def inGuard (s : State) (x c : Nat) : Bool :=
  c != 0 && (nextClose (gatesOf s x) c (guardBand s x) 64 s.tim.now 0).isSome

/-- A deficit round robin turn from subscriber `u` (R475): who sends, and the deficits. -/
def drr (elig : Nat → Bool) (size weight : Nat → Nat) (empty : Nat → Bool) : Nat → Nat → List Nat → Option (Nat × List Nat)
  | 0, _, _ => none
  | fuel + 1, u, d =>
    if elig u && size u ≤ d.getD u 0 then some (u, modAt d u fun k => k - size u)
    else
      let d := if empty u then modAt d u fun _ => 0 else d
      let v := (u + 1) % 5
      drr elig size weight empty fuel v (if elig v then modAt d v fun k => k + weight v * 288 else d)

/-- WEIGHT of a subscriber (R475). -/
def drrWeight (s : State) (x u : Nat) : Nat :=
  if u = 4 then 1 else Nat.max 1 (wordField (s.word (TKS_WEIGHT.addr x)) (8 * u) 8)

/-- Take the head of a queue. -/
def takeHead (s : State) (x u c : Nat) : State := setEgQueue s (qkey x u c) (egQueue s (qkey x u c)).tail

/-- Select from class `c` by deficit round robin, deducting from the shapers. -/
def selectClass (s : State) (x c : Nat) : Option (State × EgFrame) :=
  let elig := fun u => headReady s x u c && gateOpen s x c && !inGuard s x c
  if !((List.range 5).any elig) then none
  else
    let size := fun u => match headOf s x u c with | some e => fsize e.f | none => 0
    let d := (List.range 5).map fun u => SMap.get (fun _ => 0) s.tks.def_ (qkey x u c)
    match drr elig size (drrWeight s x) (fun u => (headOf s x u c).isNone) 12
        (SMap.get (fun _ => 0) s.tks.ptr (8 * x + c)) d with
    | none => none
    | some (u, d) =>
      match headOf s x u c with
      | none => none
      | some e =>
        let def_ := (List.range 5).foldl (fun m v => SMap.set (fun _ => 0) m (qkey x v c) (d.getD v 0)) s.tks.def_
        let qsh := if u = 4 then s.tks.qsh
          else SMap.set freshBucket s.tks.qsh (qkey x u c) (spend s (queueShaper s x u c) (fsize e.f))
        let csh := SMap.set freshBucket s.tks.csh (8 * x + c) (spend s (classShaper s x c) (fsize e.f))
        let s := takeHead s x u c
        some (s.modTks fun g => { g with def_ := def_, ptr := SMap.set (fun _ => 0) g.ptr (8 * x + c) u,
                                         qsh := qsh, csh := csh }, e)

/-- The first class, in order, that has a frame to send; TIME and CREDIT frames go ahead of CONTROL (R476). -/
def selectFrom (s : State) (x : Nat) : List Nat → Option (State × EgFrame)
  | [] => none
  | c :: cs =>
    match c, tcQueue s x with
    | 1, e :: rest => some (setTc s x rest, e)
    | _, _ => match selectClass s x c with | some r => some r | none => selectFrom s x cs

/-- The bypass while TKS is fenced (Table 06-4): ALARM, CONTROL and COMPLETION in strict priority, the subscribers in
order. -/
def selectBypass (s : State) (x : Nat) : List Nat → Option (State × EgFrame)
  | [] => none
  | c :: cs =>
    match c, tcQueue s x with
    | 1, e :: rest => some (setTc s x rest, e)
    | _, _ =>
      match (List.range 5).find? fun u => headCredited s x u c with
      | some u => match headOf s x u c with | some e => some (takeHead s x u c, e) | none => selectBypass s x cs
      | none => selectBypass s x cs

/-- A head frame that only the guard band holds back, in a class looked at before class `n` (R484). -/
def guardDefers (s : State) (x n : Nat) : Bool :=
  [1, 2, 3, 4, 5].any fun c => c < n && inGuard s x c && gateOpen s x c && (List.range 5).any fun u => headReady s x u c

/-- A frame boundary of port `x` (R471, R475): a marker pair that is due (R404), then LINK and RESYNC frames, frames sent
again, a queued frame, else idle. -/
def doSchedulerSelect (x : Nat) (s : State) : State :=
  if !portOn s x || !streaming s x then s
  else
    let s := if markersDue s x then insertMarkers s x else s
    match (s.port x).linkq with
    | f :: rest =>
      let f := stamped s x f
      frameSent (putFrame (s.modPort x fun p => { p with linkq := rest }) x f 0xFFFF 0xFFFF) x { f := f, dst := 0xFFFF }
    | [] =>
      let p := s.port x
      match p.held[p.pos]? with
      | some (n, e) =>
        let g : EgFrame := { e with f := stamped s x e.f }
        frameSent (putFrame (s.modPort x fun p => { p with pos := p.pos + 1 }) x g.f g.dst n) x g
      | none =>
        if !mayTransmit s x || s.inUnitReset 17 then s
        else if s.fenced fenceTKS then
          match selectBypass s x [0, 1, 2] with
          | some (s, e) => transmit s x e
          | none => s
        else
          let s := refreshGates s x
          let sel := selectFrom s x [0, 1, 2, 3, 4, 5]
          let late := guardDefers s x (match sel with | some (_, e) => e.f.cls | none => 6)
          match sel with
          | some (s, e) =>
            let s := if late then s.count (TKS_CNT.GUARD x) else s
            transmit (s.countWide (TKS_TXB_LO.addr x e.f.cls) (fsize e.f)) x e
          | none => if late then s.count (TKS_CNT.GUARD x) else s

/-- The next cycle start of the list in force, of a waiting list, or at the end of a hold (R481, R488, R489). -/
def nextCycle (s : State) (x : Nat) : Option Nat :=
  let g := gatesOf s x
  let own := match g.hold with
    | some h => some h.restart.toNat
    | none => if g.cur.en then some (firstStart g.cur (s.tim.now + 1)).toNat else none
  match g.wait, own with
  | some (_, t), some u => some (Nat.min t u)
  | some (_, t), none => some t
  | none, o => o

def doGateCycleStart (x : Nat) (s : State) : State :=
  if s.running && !s.fenced fenceTKS then
    match nextCycle s x with
    | some t => refreshGates (s.advanceTo t) x
    | none => s
  else s

def doGateEntryChange (x : Nat) (s : State) : State :=
  let v := gateView (gatesOf s x) s.tim.now
  if s.running && !s.fenced fenceTKS && v.2.2 < gateForever then refreshGates (s.advanceTo (s.tim.now + v.2.2)) x else s

end Sys2Proof.Machine
end

