-- ==== Sys2Proof/Machine/TrunkTen.lean ====
section
/-! DEFINITION. Host tenants: binding, credits, messages, firmware request slots and their completions, tenant keys, and
push delivery (chapters 10 and 14). -/

namespace Sys2Proof.Machine

/-! ### Malformed transactions (R433) -/

/-- Binding messages that a host sends (Table 14-3), with the LEN of each. -/
def bindLen (sub : Nat) : Option Nat :=
  match sub with | 11 => some 0 | 12 => some 2 | 14 => some 4 | _ => none

/-- A frame from a host that breaks Table 14-1 or Table 14-4, with R440, R455 and R466. -/
def transBad (f : Frame) : Bool :=
  match f.ty with
  | 0 =>
    let n := f.aux % 64
    f.sub != 0 || f.status != 0 || !f.payload.isEmpty || 64 ≤ f.aux || n == 0 || 32 < n || (n == 1 && f.lbe != 0) ||
      (2 ≤ n && (f.fbe == 0 || f.lbe == 0))
  | 1 => 8 ≤ f.status || f.sub != 0 || (if f.status = 0 then f.aux != 0 else !f.payload.isEmpty)
  | 4 => 8 ≤ f.status || f.sub != 0 || !f.payload.isEmpty || f.fbe != 0 || f.lbe != 0
  | 2 => f.sub != 0 || f.status != 0 || f.payload.isEmpty || f.tag != 0 || f.aux != 0
  | 3 => f.sub != 0 || f.status != 0 || f.payload.isEmpty || f.aux != 0
  | 5 =>
    f.status != 0 || f.tag != 0 || f.addr != 0 ||
      (if f.sub = 8 then decide (4 < fwords f)
       else if f.sub = 9 then f.cls != 1 || fwords f != 1 || 65536 ≤ fpay f
       else bindLen f.sub != some (fwords f) || f.cls != 5 || f.oid != 0 || 4 ≤ f.aux)
  | 7 => fwords f != 1 || f.fbe != 0xFF || f.lbe != 0 || f.tag != 0 || f.oid != 0 || f.addr != 0 || f.aux != 0 ||
      f.sub != 0 || f.status != 0 || 2 ^ 48 ≤ fpay f
  | _ => true

/-- A transaction frame that the port hands over reaches its rule, or is malformed. -/
def onFrame (x : Nat) (f : Frame) (s : State) (go : Frame → State → State) : State :=
  if !portOn s x then s else if transBad f then malformed s x else go f s

/-! ### Credits -/

/-- The limits in force (R440): consumed plus free, modulo 65,536. -/
def creditLimits (s : State) (t : Nat) : Nat × Nat × Nat :=
  let h := tenOf s t
  ((h.cons.1 + 64 - s.fld (TEN_T_CRED.NP t)) % 65536, (h.cons.2.1 + 64 - s.fld (TEN_T_CRED.PH t)) % 65536,
    (h.cons.2.2 + 2048 - s.fld (TEN_T_CRED.PD t)) % 65536)

/-- Consuming `n` more would pass limit `lim` (R441). -/
def beyond (lim cons n : Nat) : Bool := 32768 ≤ (lim + 131072 - cons - n) % 65536

def overCredit (s : State) (t : Nat) (n : Nat × Nat × Nat) : Bool :=
  let h := tenOf s t
  (n.1 != 0 && beyond h.sent.1 h.cons.1 n.1) || (n.2.1 != 0 && beyond h.sent.2.1 h.cons.2.1 n.2.1) ||
    (n.2.2 != 0 && beyond h.sent.2.2 h.cons.2.2 n.2.2)

/-- Credits in use (TEN_t_CRED). -/
def holdPosted (s : State) (t words : Nat) : State :=
  (s.setFld (TEN_T_CRED.PH t) (s.fld (TEN_T_CRED.PH t) + 1)).setFld (TEN_T_CRED.PD t) (s.fld (TEN_T_CRED.PD t) + words)

/-- A violation of TRK_PROTO by a tenant, with its count (Table 14-6). -/
def reqViolation (s : State) (r : FRef) : State := bark (s.count r) Src.TRK_PROTO

/-- A binding message takes credit of the tenant bound to its node, like any MSG, and frees it at once (R439); beyond the limits
it is dropped (R441). -/
def msgCredit (f : Frame) (s : State) (go : State → State) : State :=
  match tenantOf s f.src with
  | none => go s
  | some t =>
    let need := creditNeed f
    if overCredit s t need then reqViolation (consume s t need) (TEN_T_CNT.CREDIT t) else go (consume s t need)

/-- A CREDIT frame of the host (R443). -/
def doCreditRx (x : Nat) (f : Frame) (s : State) : State :=
  onFrame x { f with ty := 7 } s fun f s =>
    match tenantOf s f.src with
    | some t => s.modTen t fun h => { h with hostLim := some (leAt f.payload 0 2, leAt f.payload 2 2) }
    | none => s

/-- A CREDIT frame of the node (R442): after BIND_DONE, or while a limit has advanced unsent. -/
def doCreditTx (t : Nat) (s : State) : State :=
  let l := creditLimits s t
  let queued := ((tcQueue s 0) ++ (tcQueue s 1)).any fun e => e.f.ty == 7 && e.dst == s.fld (TEN_T_BIND.NODE_ID t)
  if s.running && bound s t && ((tenOf s t).owed || l != (tenOf s t).sent) && !queued then
    let w := l.2.1 + 2 ^ 16 * l.2.2 + 2 ^ 32 * l.1
    toHost (s.modTen t fun h => { h with owed := false }) t { ty := 7, cls := 1, fbe := 0xFF, payload := toLE 8 w } .plain
  else s

/-! ### Binding (R455 to R459) -/

/-- A binding message to `node`, on the port of the exchange: through the tenant's MGMT queue where the node is bound,
else through the unbound one (R470). -/
def sendBind (s : State) (x node : Nat) (f : Frame) : State :=
  enqueue s x ((tenantOf s node).getD 4) { f := f, dst := node }

/-- BIND_DONE with a STATUS of Table 14-2; `unb`: it answers UNBIND. -/
def bindDone (s : State) (x node t status : Nat) (unb : Bool) : State :=
  sendBind s x node { msgFrame 15 5 [] (t + (if unb then 256 else 0)) with status := status }

/-- The key of host tenant `t` in KEYS block 1 + `t` (R454). -/
def tenantKey (s : State) (t : Nat) : List Byte := s.bytes (0x10000000 + keysOff + 0x1000 * (1 + t)) 32

/-- The MAC of R456. -/
def bindMac (s : State) (t char : Nat) (e : BindEx) : List Byte :=
  hmac256 (tenantKey s t) (toLE 1 char ++ e.nh ++ e.nn ++ toLE 4 (s.word SYS_UID_LO.addr).toNat ++
    toLE 4 (s.word SYS_UID_HI.addr).toNat ++ toLE 2 e.node ++ toLE 2 (s.port e.port).effId ++ toLE 1 t)

/-- The conditions of R455 but for the running exchange. -/
def bindAllowed (s : State) (t node : Nat) : Bool :=
  s.bit (TEN_T_HOST.EN t) && s.fld (TEN_T_HOST.NODE_ID t) == node && s.bitAt SEC_TKEY_STAT.PRESENT t &&
    !s.fenced (fenceTEN t) && s.pwr.mode != .safe &&
    (match tenantOf s node with | some u => u == t | none => true)

def setExch (s : State) (t : Nat) (e : Option BindEx) : State :=
  (s.modTen t fun h => { h with exch := e }).setBitAt TEN_STATUS.EXCH t e.isSome

/-- BIND_REQ (R455, R457, R458). -/
def bindReq (x : Nat) (f : Frame) (s : State) : State :=
  let t := f.aux
  let h := tenOf s t
  let soon := match h.lastReq with | some u => decide (s.uptime < u + 10000000) | none => false
  if h.lockout || soon then s.count (TEN_T_CNT2.BINDFAIL t)
  else if !bindAllowed s t f.src then bindDone s x f.src t 4 false
  else if h.exch.isSome then bindDone s x f.src t 6 false
  else
    let s := s.modTen t fun h => { h with lastReq := some s.uptime }
    let (n, s) := s.fresh
    let e : BindEx := { node := f.src, port := x, nh := f.payload, nn := toLE 16 n }
    sendBind (setExch s t (some e)) x f.src (msgFrame 13 5 (e.nn ++ bindMac s t 0x4E e) t)

def doBindReqRx (x : Nat) (f : Frame) (s : State) : State := onFrame x { f with ty := 5, sub := 12 } s fun f s => msgCredit f s (bindReq x f)

/-- Bind tenant `t` to a node (R439, R440, R457): credits are as granted; a request of the binding before holds none of them. -/
def bindNow (s : State) (t node : Nat) : State :=
  let s := (s.setWord (TEN_T_BIND.addr t) (BitVec.ofNat 32 (node % 65536 + 65536))).setBitAt TEN_STATUS.BOUND t true
  let s := (s.setWord (TEN_T_CRED.addr t) 0).modTen t fun h => { lastReq := h.lastReq, mbox := h.mbox, owed := true, heard := s.uptime }
  let s := s.modTh fun h => { h with reqs := h.reqs.map fun r => if r.t = t then { r with cred := false } else r }
  tenIrq s TEN_IRQ.BIND t

/-- BIND_PROOF (R457). -/
def bindProof (x : Nat) (f : Frame) (s : State) : State :=
  let t := f.aux
  match (tenOf s t).exch with
  | none => s
  | some e =>
    if e.node ≠ f.src then s
    else
      let s := setExch s t none
      if f.payload = bindMac s t 0x48 e then
        if bindAllowed s t e.node then bindDone (bindNow s t e.node) x e.node t 0 false
        else bindDone s x e.node t 4 false
      else
        let s := bark (s.count (TEN_T_CNT2.BINDFAIL t)) Src.TEN_BIND t
        bindDone (s.modTen t fun h => { h with lockout := true }) x e.node t 2 false

def doBindProofRx (x : Nat) (f : Frame) (s : State) : State := onFrame x { f with ty := 5, sub := 14 } s fun f s => msgCredit f s (bindProof x f)

/-- Mh is late (R457). -/
def doBindProofTimeout (t : Nat) (s : State) : State :=
  if s.running && (tenOf s t).exch.isSome then bark ((setExch s t none).count (TEN_T_CNT2.BINDFAIL t)) Src.TEN_BIND t else s

def doBindLockoutEnd (t : Nat) (s : State) : State := s.modTen t fun h => { h with lockout := false }

/-- UNBIND (R459). -/
def doUnbindRx (x : Nat) (f : Frame) (s : State) : State :=
  onFrame x { f with ty := 5, sub := 11 } s fun f s => msgCredit f s fun s =>
    if tenantOf s f.src = some f.aux then bindDone (unbindTenant s f.aux) x f.src f.aux 0 true
    else bindDone s x f.src f.aux 4 true

def doTenantIdleTimeout (t : Nat) (s : State) : State :=
  let n := s.fld (TEN_T_CFG.IDLE_S t)
  if s.running && bound s t && n != 0 then unbindTenant (s.runTo ((tenOf s t).heard + n * 1000000000)) t else s

/-- An apply of group 13 (R459): a changed TEN_t_HOST ends the binding and the exchange. -/
def hostApplied (s old : State) (t : Nat) : State :=
  if s.word (TEN_T_HOST.addr t) = old.word (TEN_T_HOST.addr t) then s else unbindTenant (setExch s t none) t

/-! ### Unbound requests (R460) -/

/-- The answers a port may still send, in 10^-9 answer. -/
def unboundLevel (s : State) (x : Nat) : Nat :=
  let b := s.th.unb.getD x (0, 0)
  Nat.min 16000000000 (b.1 + 1024 * (s.uptime - b.2))

def unbound (x : Nat) (f : Frame) (s : State) : State :=
  let s := bark s Src.TRK_UNBOUND
  let l := unboundLevel s x
  let ok := (f.ty == 0 || f.ty == 3) && 1000000000 ≤ l
  let s := s.modTh fun h => { h with unb := modAt h.unb x fun _ => (if ok then l - 1000000000 else l, s.uptime) }
  if ok then enqueue (s.count TEN_CNT.UNB_ANS) x 4 { f := cplFrame f 5 [] 0, dst := f.src }
  else s.count TEN_CNT.UNB_DROP

/-- A request of a node that no tenant holds; from a bound one this command does nothing. -/
def doUnboundRequestRx (x : Nat) (f : Frame) (s : State) : State :=
  if tenantOf s f.src = none ∧ (f.ty = 0 ∨ f.ty = 2 ∨ f.ty = 3 ∨ (f.ty = 5 ∧ f.sub < 11)) then
    onFrame x f s (unbound x) else s

/-! ### Firmware request slots (R467, R468) -/

/-- The node's next tag on a port (R446). -/
def nextTag (s : State) (x : Nat) : Nat :=
  let p := s.port x
  let out := fun k => match SMap.get (fun _ => none) p.tags k with | some g => g.out | none => false
  ((List.range 1024).map fun i => (p.nextTag + i) % 1024).find? (fun k => !out k) |>.getD p.nextTag

/-- GO in slot `q`, its other fields written (R467, Table 14-5). A closed FWMSG route sends nothing: as for a tenant not
bound, with a count (R464). -/
def hrqGo (s : State) (q : Nat) : State :=
  let op := s.fld (TEN_HRQ_CTRL.OP q)
  let t := s.fld (TEN_HRQ_CTRL.TENANT q)
  let n := s.fld (TEN_HRQ_CTRL.LEN q) + 1
  let cls := Nat.min 5 (s.fld (TEN_HRQ_CTRL.CLASS q))
  let x := portFor s t
  let s := ((s.setBit (TEN_HRQ_STAT.BUSY q) true).setFld (TEN_HRQ_STAT.RESULT q) 0).setFld (TEN_HRQ_STAT.RSTATUS q) 0
  let s := s.modTh fun h => { h with slots := modAt h.slots q fun _ => (t, x) }
  let a := s.fld (TEN_HRQ_ADDR_LO.ADDR q) / 8 * 8 + 2 ^ 32 * s.fld (TEN_HRQ_ADDR_HI.ADDR q)
  let data := s.bytes (s.fld (TEN_HRQ_BUF.ADDR q) / 8 * 8) (8 * n)
  let lbe := if 2 ≤ n then 0xFF else 0
  let base : Frame := { cls := cls, oid := s.fld (TEN_HRQ_CTRL.OID q), addr := a, fbe := 0xFF, lbe := lbe }
  if !bound s t then endSlot s q 4
  else if portCode s x = 0 then endSlot s q 5
  else if op = 2 then toHost s t { base with ty := 2, payload := data } (.slot q)
  else if op = 3 then
    if s.bit (TEN_T_CFG.FWMSG t) then
      toHost s t { msgFrame 4 cls data (s.fld (TEN_HRQ_AUX.AUX q)) with oid := base.oid } (.slot q)
    else endSlot (s.count (TEN_T_CNT.MSGDROP t)) q 4
  else
    let tag := nextTag s x
    let g : OwnTag := { addr := a, slot := some q, ten := t, rd := op == 0, words := n, oid := base.oid,
                        buf := s.fld (TEN_HRQ_BUF.ADDR q) / 8 * 8, sentAt := s.uptime }
    let s := s.modPort x fun p => { p with tags := SMap.set (fun _ => none) p.tags tag (some g), nextTag := (tag + 1) % 1024 }
    let s := s.setFld (TEN_HRQ_STAT.TAG q) tag
    toHost s t (if op = 0 then { base with ty := 0, tag := tag, aux := n }
      else { base with ty := 3, tag := tag, payload := data }) (.slot q)

/-- A write of TEN_HRQ_q_CTRL by tenant `t`: its status (R467). -/
def hrqWrite (s : State) (t q : Nat) (v : Word) : State × Nat :=
  if t ≠ 7 then (s, 4)
  else if nbit v.toNat 31 then
    if s.bit (TEN_HRQ_STAT.BUSY q) then (s, 4)
    else (hrqGo (s.setWord (TEN_HRQ_CTRL.addr q) (v &&& 0x7FFFFFFF)) q, 0)
  else (s.setWord (TEN_HRQ_CTRL.addr q) v, 0)

/-- One of the node's own tags, changed. -/
def setTag (s : State) (x tag : Nat) (g : OwnTag) : State :=
  s.modPort x fun p => { p with tags := SMap.set (fun _ => none) p.tags tag (some g) }

/-- A completion that breaks Table 14-1 or R433 as the answer to request `g`: its type, its LEN, what it echoes. -/
def cplBad (g : OwnTag) (f : Frame) : Bool :=
  transBad f || f.ty != (if g.rd then 1 else 4) || f.oid != g.oid || f.addr != g.addr ||
    fwords f != (if g.rd && f.status == 0 then g.words else 0) || f.fbe != (if g.rd then 0xFF else 0) ||
    f.lbe != (if g.rd && 2 ≤ g.words then 0xFF else 0)

/-- A completion that ends the request of slot `q` (R468). Read data go to the slot's place in the capture store, none beyond its
end; where they would meet bytes that are write-locked they do not, and the slot shows DENIED (R290, R343). -/
def slotAnswered (s : State) (q : Nat) (g : OwnTag) (f : Frame) : State :=
  let bs := if g.rd then f.payload.take (0x4000000 - g.buf) else []
  let st := if f.status ≠ 0 then f.status
    else if !bs.isEmpty && (imageLocks s g.buf bs.length || entryLocks s g.buf bs.length) then 2 else 0
  if st ≠ 0 then endSlot (s.setFld (TEN_HRQ_STAT.RSTATUS q) st) q 3 else endSlot (s.store g.buf bs) q 1

/-- A completion of the node's own request (R433, R446, R468, Table 14-6). -/
def completion (x : Nat) (f : Frame) (s : State) : State :=
  match SMap.get (fun _ => none) (s.port x).tags f.tag with
  | some g =>
    let s' := setTag s x f.tag { g with out := false, late := false }
    if g.out then
      match cplBad g f, g.slot with
      | true, some q => endSlot (malformed s' x) q 6
      | true, none => malformed s' x
      | false, some q => slotAnswered s' q g f
      | false, none => s'
    else if transBad f then malformed s x
    else if g.late then bark (s'.count (TEN_T_CNT2.LATE g.ten)) Src.LATE
    else unexpected s
  | none => if transBad f then malformed s x else unexpected s
where
  /-- A completion for a tag not outstanding. -/
  unexpected (s : State) : State :=
    let s := match tenantOf s f.src with | some t => s.count (TEN_T_CNT2.UNEXP t) | none => s
    bark s Src.TRK_PROTO

def doCompletionRx (x : Nat) (f : Frame) (s : State) : State :=
  if portOn s x ∧ (f.ty = 1 ∨ f.ty = 4) then completion x f s else s

/-- `uptime` at which the completion of request `g` is overdue (R446). -/
def cplDue (s : State) (g : OwnTag) : Nat := g.sentAt + clampN 10 1000000 (s.fld TEN_CTO.US) * 1000

def doCompletionTimeout (x tag : Nat) (s : State) : State :=
  match SMap.get (fun _ => none) (s.port x).tags tag with
  | some g =>
    if s.running && g.out then
      let s := s.runTo (cplDue s g)
      let s := setTag s x tag { g with out := false, late := true }
      match g.slot with | some q => endSlot s q 2 | none => s
    else s
  | none => s

/-- A posted slot that has waited 10 ms for host credit ends (Table 14-5). -/
def doHrqCreditTimeout (q : Nat) (s : State) : State :=
  let t := (s.th.slots.getD q (0, 0)).1
  let mine := fun (u : Nat) (e : EgFrame) => u == t && e.use == .slot q && !hostCreditOk s t e.f
  let waits := (List.range 2).any fun x => (List.range 6).any fun c => (egQueue s (qkey x t c)).any (mine t)
  if s.running && s.bit (TEN_HRQ_STAT.BUSY q) && waits then
    endSlot (emptyQueues (emptyQueues s 0 mine fun s _ => s) 1 mine fun s _ => s) q 7
  else s

/-! ### Tenant keys (R454) -/

/-- A write of SEC_TKEY_DATA. -/
def tkeyData (s : State) (t : Nat) (v : Word) : State × Nat :=
  if t < 6 then (s, 4)
  else (s.modTh fun h => { h with stag := modAt h.stag (t - 6) fun l => if 8 ≤ l.length then [v] else l ++ [v] }, 0)

/-- A write of SEC_TKEY_CTRL. -/
def tkeyCtrl (s : State) (t : Nat) (v : Word) : State × Nat :=
  if t < 6 then (s, 4)
  else if !nbit v.toNat 31 then (s.setWord SEC_TKEY_CTRL.addr v, 0)
  else if s.bit SEC_TKEY_STAT.BUSY then (s, 4)
  else
    let s := s.setWord SEC_TKEY_CTRL.addr (v &&& 0x7FFFFFFF)
    let h := wordField v 0 2
    let l := s.th.stag.getD (t - 6) []
    if l.length < 8 then (s.setFld SEC_TKEY_STAT.RESULT 3, 0)
    else if s.bitAt HWD_KEYS_LOCK.LOCKED (1 + h) then (s.setFld SEC_TKEY_STAT.RESULT 4, 0)
    else if !s.up fenceHWD || s.hwd.closed then (s.setFld SEC_TKEY_STAT.RESULT 2, 0)
    else
      let s := s.modTh fun m => { m with commit := some (h, (l.map fun w => toLE 4 w.toNat).flatten),
                                         stag := modAt m.stag (t - 6) fun _ => [] }
      ((s.setFld SEC_TKEY_STAT.RESULT 0).setBit SEC_TKEY_STAT.BUSY true, 0)

def doTkeyCommitDone (s : State) : State := finishKeyCommit s

/-! ### Mailboxes (R466) -/

/-- Show the head entry of mailbox `t` (Table 14-11). -/
def showMailbox (s : State) (t : Nat) : State :=
  let q := (tenOf s t).mbox
  let (aux, bs) := q.headD (0, [])
  let s := (s.setFld (TEN_MB_STAT.COUNT t) q.length).setFld (TEN_MB_STAT.LEN t) (bs.length / 8)
  let s := s.setFld (TEN_MB_AUX.AUX t) aux
  (List.range 8).foldl (fun s k => s.setFld (TEN_MB_DATA.DATA t k) (leAt bs (4 * k) 4)) s

/-- A DOORBELL is placed or dropped. -/
def placeDoorbell (s : State) (t : Nat) (f : Frame) : State :=
  if s.bit (TEN_T_CFG.DOORBELL t) && (tenOf s t).mbox.length < 16 then
    tenIrq (showMailbox (s.modTen t fun h => { h with mbox := h.mbox ++ [(f.aux, f.payload)] }) t) TEN_IRQ.MB t
  else s.count (TEN_T_CNT.MSGDROP t)

/-- A mailbox that holds an entry keeps its flag in TEN_IRQ set (R10, R466). -/
def mailboxFlags (s : State) : State :=
  (List.range 4).foldl (fun s t => if (tenOf s t).mbox.isEmpty then s else s.setBitAt TEN_IRQ.MB t true) s

/-- A write of TEN_MB_t_POP: 1 removes the head entry; a mailbox that stays non-empty keeps its flag standing (R10). -/
def popMailbox (s : State) (t : Nat) (v : Word) : State :=
  if nbit v.toNat 0 then showMailbox (s.modTen t fun h => { h with mbox := h.mbox.drop 1 }) t else s

/-! ### Push delivery (R319 to R322) -/

/-- Byte enables of the first `n` bytes of a word, or of all 8. -/
def firstBytes (n : Nat) : Nat := if n = 0 then 0xFF else 2 ^ n - 1

/-- A posted write of up to 256 bytes at an 8-byte aligned address. -/
def postedWrite (cls oid addr : Nat) (bs : List Byte) : Frame :=
  let n := (bs.length + 7) / 8
  let last := firstBytes (bs.length % 8)
  { ty := 2, cls := cls, oid := oid, addr := addr, payload := bs ++ List.replicate (8 * n - bs.length) 0,
    fbe := if n = 1 then last else 0xFF, lbe := if n = 1 then 0 else last }

/-- PUSH_WRITE: the next record of subscription `i` goes out as posted writes, the last of them WPTR's, or is dropped. The
record before it has gone out first. -/
def doPushWrite (i : Nat) (bad : Bool) (s : State) : State :=
  if !s.up fenceREC || s.eng.dlv.any (fun d => d.sub == i && d.sent) then s
  else
    match (if s.bit (REC_SUB_CTL.METHOD i) then none else nextDelivery s i) with
    | none => s
    | some d =>
      let drop := fun (s : State) => setBufOwn (dropDelivery s d) d.chain 15
      if bad then bark ((drop s).count (REC_SUB_CNT.ERR i)) Src.CAP_UNC
      else if !bound s d.tenant then (drop s).count (REC_SUB_CNT.ERR i)
      else
        match pushWrites s i d with
        | none => (drop s).count (REC_SUB_CNT.FULL i)
        | some (ws, w) =>
          let s := s.modEng fun e => { e with dlv := e.dlv.map fun k => if k = d then { k with sent := true } else k }
          let cls := Nat.min 5 (s.fld (REC_SUB_CTL.CLASS i))
          let oid := s.fld (REC_SUB_CTL.OID i)
          (ws.zipIdx).foldl (fun s (p, k) =>
            toHost s d.tenant (postedWrite cls oid p.1 p.2) (.push i (if k + 1 = ws.length then some w else none))) s

end Sys2Proof.Machine
end

