-- ==== Sys2Proof/Machine/CrbCmds.lean ====
section
/-! DEFINITION. The rack bridge's commands: mastership, outbound strobes and their answers, the bus monitor, inbound
cycles, rack interrupts (chapter 16). -/

namespace Sys2Proof.Machine

/-- A protocol violation: counted, and one event of CRB_PROTO (Table 16-4). -/
def crbProto (s : State) : State := bark (s.count CRB_CNT.PROTO) Src.CRB_PROTO

/-- The bus monitor runs (R505, R515): it goes on while CRB is fenced (Table 16-5), and for the strobe that a bridge no
longer active completes (R541). -/
def crbWatching (s : State) : Bool :=
  crbRole s != 0 && s.running && !s.inUnitReset 18 && s.bit CRB_CFG.MON_EN &&
    (s.crb.stopping || (s.pwr.seq == .none && (match s.work with | .run | .survey | .bridge => true | _ => false)))

/-! ### Mastership (R511 to R514) -/

/-- CRB_BREQ_N has been released for 1 µs (R512, R513). -/
def breqFree (s : State) : Bool := match s.crb.relAt with | some u => decide (u + 1000 ≤ s.uptime) | none => true

/-- CRB_BREQ_N is pulled low. -/
def crbAsk (s : State) : State := s.modCrb fun c => { c with breq := true, reqAt := s.uptime }

/-- CRB_DS_N falls, for a cycle of kind `k`. -/
def crbStrobe (s : State) (k : CrbCyc) : State := s.modCrb fun c => { c with cyc := k, dsAt := s.uptime }

def doCrbBusRequest (s : State) : State :=
  if crbActive s && crbMaster s && !s.bit CRB_STATUS.MASTER && !s.bit CRB_STATUS.HUNG && !s.crb.q.isEmpty && breqFree s then
    crbAsk s
  else s

def doCrbGrant (s : State) : State :=
  if crbActive s && s.crb.breq && !s.bit CRB_STATUS.MASTER then
    (s.setBit CRB_STATUS.MASTER true).modCrb fun c => { c with served := 0, lost := false }
  else s

/-- An arbitration failure is counted and raised. -/
def crbArbFail (s : State) : State := bark (crbIrq (s.count CRB_CNT.ARB) CRB_IRQ.ARB) Src.CRB_ARB

/-- R513: ARB_US after it fell the line is released and the head request ends with BUS_ERR. -/
def doCrbArbTimeout (s : State) : State :=
  if crbActive s && s.crb.breq && !s.bit CRB_STATUS.MASTER then
    let s := s.runTo (s.crb.reqAt + Nat.max 1 (s.fld CRB_CFG.ARB_US) * 1000)
    crbArbFail (crbEndHead (s.modCrb fun c => { c with breq := false, relAt := some s.uptime }) 7)
  else s

/-- R514: a strobe in progress is completed first. -/
def doCrbGrantLost (s : State) : State :=
  if s.bit CRB_STATUS.MASTER then
    let s := crbArbFail s
    match s.crb.cyc with
    | .idle => crbRelease (crbEndHead s 7)
    | _ => s.modCrb fun c => { c with lost := true }
  else s

/-! ### Outbound strobes (R508, R509, R521 to R524) -/

/-- The next word of the head request is strobed; one past its deadline ends (R524). -/
def doCrbOutboundCycle (s : State) : State :=
  if crbActive s && s.bit CRB_STATUS.MASTER && !s.bit CRB_STATUS.HUNG && s.crb.cyc == .idle then
    match s.crb.q with
    | r :: _ => if r.cut then crbEndHead s 7 else crbStrobe s .data
    | [] => s
  else s

/-- The request after its head word has been answered with data `d`. -/
def takeRackWord (r : CrbOut) (d : Nat) : CrbOut :=
  match r.words with
  | [] => r
  | w :: rest =>
    let put := fun (bs : List Byte) (o : Option Nat) (v : Nat) =>
      match o with
      | some i => if r.wr then bs else modAt bs i fun _ => BitVec.ofNat 8 v
      | none => bs
    { r with words := rest, data := put (put r.data w.ub (d / 256)) w.lb d }

/-- The word after `a` goes on in the same block (R522). -/
def blockGoesOn (r : CrbOut) (a : Nat) : Bool :=
  r.blk && (match r.words with | w :: _ => w.addr == a + 2 && w.addr / 32 == a / 32 | [] => false)

/-- The head word has been answered with CRB_RDY_N. -/
def crbWordDone (s : State) (d : Nat) : State :=
  match s.crb.q with
  | [] => s.modCrb fun c => { c with cyc := .idle }
  | r :: rest =>
    let a := match r.words with | w :: _ => w.addr | [] => 0
    let r := takeRackWord r d
    let s := s.modCrb fun c => { c with q := r :: rest }
    if r.words.isEmpty then
      let ending := crbEnding s
      let s := crbEndHead s 0
      if ending then crbRelease s else s
    else if crbEnding s then crbRelease (crbEndHead s (crbEndingStatus s))
    else if r.cut then crbEndHead s 7
    else if blockGoesOn r a then crbStrobe s .data
    else s.modCrb fun c => { c with cyc := .idle }

/-- The head request ends with BUS_ERR; mastership goes with a lost grant. -/
def crbWordFailed (s : State) : State :=
  let ending := crbEnding s
  let s := crbEndHead s 7
  if ending then crbRelease s else s

/-- An IACK cycle of level `l` is over: a RORA level waits for its release (R536), and mastership goes where no request
waits. -/
def crbIackOver (s : State) (l : Nat) : State :=
  let s := s.modCrb fun c => { c with cyc := .idle }
  let s := if s.bitAt CRB_IRQ_HANDLE.RORA l then s.modCrb fun c => { c with waitHigh := setBit c.waitHigh l } else s
  if s.crb.q.isEmpty || crbEnding s then crbRelease s else s

/-- Forward vector `v` of level `l` (R535). -/
def crbForward (s : State) (v l : Nat) : State :=
  if !s.bit (CRB_VEC.EN v) then s.count CRB_CNT2.UNMAPPED
  else
    let f := msgFrame 2 (Nat.min 5 (s.fld (CRB_VEC.CLASS v))) (toLE 8 (v + 256 * l) ++ toLE 8 (s.crb.lowAt.getD l 0))
    let hosts := s.fld (CRB_VEC.HOST v)
    let s := (List.range 4).foldl (fun s t =>
      if nbit hosts t && s.bit (TEN_T_CFG.RACK t) then
        if bound s t then toHost s t f .plain else s.count (TEN_T_CNT.MSGDROP t)
      else s) s
    if s.bit (CRB_VEC.LOCAL v) then
      if s.crb.lvec.length < 16 then
        crbIrq (s.modCrb fun c => { c with lvec := c.lvec ++ [(v, l)] }) CRB_IRQ.LVEC
      else s.count CRB_CNT2.LDROP
    else s

/-- A card answers the strobe in progress (R508, Table 16-2, R535). -/
def doCrbSlaveAnswer (rdy berr : Bool) (d : Nat) (s : State) : State :=
  if !rdy && !berr then s
  else
    match s.crb.cyc with
    | .idle => s
    | .foreign => (if rdy && berr then crbProto s else s).modCrb fun c => { c with cyc := .idle }
    | .data =>
      if berr then crbWordFailed (if rdy then crbProto s else s.count CRB_CNT.BERR_OUT) else crbWordDone s d
    | .iack l =>
      if berr then crbIackOver (if rdy then crbProto s else s.count CRB_CNT.BERR_OUT) l
      else crbIackOver (crbForward s (d % 256) l) l

/-- The monitor's time runs out (R515, R537): it answers with CRB_BERR_N. -/
def doCrbMonTimeout (s : State) : State :=
  if crbWatching s && s.crb.cyc != .idle then
    let s := s.runTo (s.crb.dsAt + Nat.max 4 (s.fld CRB_MON_TIMEOUT.US) * 1000)
    let c := s.crb.cyc
    let s := s.modCrb fun c => { c with ans := some (true, 0) }
    let s := bark (s.count CRB_CNT.TIMEOUT) Src.CRB_TIMEOUT
    match c with
    | .data => crbWordFailed s
    | .iack l =>
      let s := bark (crbIrq (s.count CRB_CNT2.SPUR) CRB_IRQ.SPUR) Src.CRB_PROTO
      let s := s.modCrb fun c => { c with spurAt := modAt c.spurAt l fun _ => some s.uptime }
      crbIackOver s l
    | _ => s.modCrb fun c => { c with cyc := .idle }
  else s

/-- Request `k` of the queue reaches its strobe deadline (R524). -/
def doCrbStrobeDeadline (k : Nat) (s : State) : State :=
  match s.crb.q[k]? with
  | none => s
  | some r =>
    if !r.np then s
    else if k = 0 ∧ s.crb.cyc = .data then
      s.modCrb fun c => { c with q := modAt c.q 0 fun r => { r with cut := true } }
    else
      let s := crbAdmit (crbEnd (s.modCrb fun c => { c with q := c.q.eraseIdx k }) r 7)
      if s.crb.q.isEmpty && s.crb.cyc == .idle then crbRelease s else s

/-- An answer line is held, or released again (R517). -/
def doCrbHung (low : Bool) (s : State) : State :=
  if !crbActive s then s
  else if low then
    if s.bit CRB_STATUS.HUNG then s
    else crbRelease (crbEndAll (crbProto (crbIrq (s.setBit CRB_STATUS.HUNG true) CRB_IRQ.HUNG)) 7)
  else s.setBit CRB_STATUS.HUNG false

/-! ### Inbound windows (R526 to R531) -/

/-- Bytes of window `w`. -/
def iwSize (s : State) (w : Nat) : Nat := 65536 * 2 ^ winSize (s.fld (CRB_IW_CFG.SIZE w))

/-- Window `w` acts as disabled (R528, R529). -/
def iwBad (s : State) (w : Nat) : Bool :=
  let own := s.fld (CRB_IW_CFG.OWNER w)
  if s.bit (CRB_IW_CFG.KIND w) then s.fld (CRB_IW_CFG.SIZE w) != 0 || 4 ≤ own
  else own == 4 || own == 5 ||
    !([Row.capture, .heartwood, .l2, .tcm].any fun r => r.holds (65536 * s.fld (CRB_IW_TBASE.TBASE w)) (iwSize s w))

/-- The inbound window that answers rack address `a` (R526). -/
def iwFind (s : State) (a : Nat) : Option Nat :=
  if 0xFFFFF0 ≤ a then none
  else (List.range 8).find? fun w =>
    s.bit (CRB_IW_CFG.EN w) && !iwBad s w && 65536 * s.fld (CRB_IW_RBASE.RBASE w) ≤ a &&
      a < 65536 * s.fld (CRB_IW_RBASE.RBASE w) + iwSize s w

/-- Where rack byte `a` of window `w` lies: an internal address, or an offset in a mailbox window (R528, R529). -/
def iwTarget (s : State) (w a : Nat) : Nat :=
  let o := a - 65536 * s.fld (CRB_IW_RBASE.RBASE w)
  let b := if s.bit (CRB_IW_CFG.KIND w) then 0 else 65536 * s.fld (CRB_IW_TBASE.TBASE w)
  (b + o) ^^^ swapXor (s.fld (CRB_IW_CFG.SWAP w))

/-- A failed inbound access is counted and raised (Table 16-3). -/
def crbInFail (s : State) : State := bark (s.count CRB_CNT2.INFAIL) Src.CRB_PROTO

/-- The status of one internal access of tenant `t` to the bytes at these addresses (R462, R527). -/
def inStatus (s : State) (t : Nat) (as_ : List Nat) (wr : Bool) : Nat :=
  match as_ with
  | [] => 0
  | a :: rest =>
    let lo := rest.foldl Nat.min a
    let n := rest.foldl Nat.max a - lo + 1
    match rowOf lo n with
    | some r => (memJudge s t (winAllows s t lo n wr) r lo n wr).1
    | none => 1

/-- Write bytes of a rack write into the staging area of mailbox window `w`; byte 40 commits it (R529). Answers whether all
went well. -/
def mailboxWrite (s : State) (w t : Nat) (bytes : List (Nat × Byte)) : State × Bool :=
  let st := bytes.foldl (fun st p => modAt st p.1 fun _ => p.2) (s.crb.stag.getD w [])
  let put := fun (s : State) l => s.modCrb fun c => { c with stag := modAt c.stag w fun _ => l }
  if bytes.any fun p => p.1 == 40 then
    let len := Nat.min 4 (leAt st 40 1 % 8)
    let s := put s (List.replicate 44 0)
    let ok := s.bit (TEN_T_CFG.DOORBELL t) && decide ((tenOf s t).mbox.length < 16)
    (placeDoorbell s t { ty := 5, sub := 8, aux := leAt st 0 4, payload := slice st 8 (8 * len) }, ok)
  else (put s st, true)

/-- Perform an inbound write (R527, R528, R529): one internal write of its bytes, whole or not at all. -/
def inPerform (s : State) (i : CrbIn) : State × Bool :=
  let (s, ok) := match i.mbox with
    | some w => mailboxWrite s w i.t i.bytes
    | none =>
      if inStatus s i.t (i.bytes.map fun (p : Nat × Byte) => p.1) true = 0 then
        (i.bytes.foldl (fun (s : State) (p : Nat × Byte) => s.store p.1 [p.2]) s, true)
      else (s, false)
  (if ok then s else crbInFail s, ok)

/-- The oldest posted inbound write is performed (R530). -/
def doCrbInboundPostedPerform (s : State) : State :=
  match s.crb.inb with
  | [] => s
  | i :: rest => if s.running then (inPerform (s.modCrb fun c => { c with inb := rest }) i).1 else s

/-- Every posted inbound write is performed (R531). -/
def crbDrain : Nat → State → State
  | 0, s => s
  | n + 1, s => crbDrain n (doCrbInboundPostedPerform s)

def drainInbound (s : State) : State := crbDrain s.crb.inb.length s

/-- Answer a rack master. -/
def crbAnswer (s : State) (berr : Bool) (d : Nat) : State := s.modCrb fun c => { c with ans := some (berr, d) }

/-- Answer a rack master with data on CRB_AD (R510). -/
def crbGive (s : State) (d : Nat) : State := s.modCrb fun c => { c with ans := some (false, d), drives := true }

/-- A whole inbound write goes to the buffer of 16 (POSTED) or is performed (STRICT), and is answered (R530, Table 16-3). -/
def inWrite (s : State) (w : Nat) (bytes : List (Nat × Byte)) : State :=
  let i : CrbIn := { t := s.fld (CRB_IW_CFG.OWNER w), bytes := bytes,
                     mbox := if s.bit (CRB_IW_CFG.KIND w) then some w else none }
  if s.bit (CRB_IW_CFG.ORD w) then
    let (s, ok) := inPerform (drainInbound s) i
    crbAnswer s (!ok) 0
  else
    let s := if 16 ≤ s.crb.inb.length then doCrbInboundPostedPerform s else s
    crbAnswer (s.modCrb fun c => { c with inb := c.inb ++ [i] }) false 0

/-- The bytes of rack addresses `as_` in window `w`, which come back as `ecc` says, or their refusal (Table 16-3). -/
def inRead (s : State) (w : Nat) (as_ : List Nat) (ecc : List (Fin 3)) : State × Option (List Byte) :=
  let t := s.fld (CRB_IW_CFG.OWNER w)
  if s.bit (CRB_IW_CFG.KIND w) then (s, some (as_.map fun _ => 0))
  else if inStatus s t (as_.map (iwTarget s w)) false = 0 then
    let (s', st) := match as_ with | a :: _ => eccReads s (iwTarget s w a) ecc | [] => (s, 0)
    if st = 0 then (s', some (as_.map fun a => s.byte (iwTarget s w a))) else (crbInFail s', none)
  else (crbInFail s, none)

/-- The word a rack master gets: the bytes of the lanes it enables. -/
def inWord (ub lb : Bool) (hi lo : Byte) : Nat := (if ub then 256 * hi.toNat else 0) + (if lb then lo.toNat else 0)

/-- A read of word `n` of a cycle at `a` in window `w` (R528, R530, R531). -/
def inReadCycle (s : State) (w a n : Nat) (more ub lb : Bool) (ecc : List (Fin 3)) : State :=
  let p := a + 2 * n
  let s := drainInbound s
  let s := if n = 0 then s.modCrb fun c => { c with ahead := none } else s
  match s.crb.ahead with
  | some (lo, bs) => crbGive s (inWord ub lb (bs.getD (p - lo) 0) (bs.getD (p + 1 - lo) 0))
  | none =>
    if n = 0 ∧ more then
      match inRead s w ((List.range (32 - a % 32)).map (a + ·)) ecc with
      | (s, some bs) =>
        crbGive (s.modCrb fun c => { c with ahead := some (a, bs) }) (inWord ub lb (bs.getD 0 0) (bs.getD 1 0))
      | (s, none) => crbAnswer s true 0
    else
      match inRead s w ((if ub then [p] else []) ++ if lb then [p + 1] else []) ecc with
      | (s, some bs) =>
        crbGive s (if ub && lb then inWord ub lb (bs.getD 0 0) (bs.getD 1 0)
          else inWord ub lb (bs.getD 0 0) (bs.getD 0 0))
      | (s, none) => crbAnswer s true 0

/-- A write of word `n`: the words of a block join one internal write. -/
def inWriteCycle (s : State) (w a n : Nat) (more ub lb : Bool) (d : Nat) : State :=
  let p := a + 2 * n
  let s := if n = 0 then s.modCrb fun c => { c with blkIn := [] } else s
  let bytes := s.crb.blkIn ++ (if ub then [(iwTarget s w p, BitVec.ofNat 8 (d / 256))] else []) ++
    (if lb then [(iwTarget s w (p + 1), BitVec.ofNat 8 d)] else [])
  if more then crbAnswer (s.modCrb fun c => { c with blkIn := bytes }) false 0
  else inWrite (s.modCrb fun c => { c with blkIn := [] }) w bytes

/-- The strobe before has ended: its answer is released, and CRB_IACKIN_N is passed on again (R510, R540). -/
def crbNextStrobe (s : State) : State := s.modCrb fun c => { c with ans := none, drives := false, iackPass := true }

/-- A strobe of a rack master (R526 to R533). One that no window answers is left to the rack, and the monitor times it. -/
def doCrbInboundCycle (a n : Nat) (more wr ub lb : Bool) (d : Nat) (ecc : List (Fin 3)) (s : State) : State :=
  let a := a / 2 * 2
  let s := crbNextStrobe s
  if s.bit CRB_STATUS.MASTER then s
  else if !crbActive s || !crbSlave s || (iwFind s a).isNone then
    if crbWatching s then crbStrobe s .foreign else s
  else
    match iwFind s a with
    | none => s
    | some w =>
      if 16 ≤ n ∨ (a + 2 * n) / 32 ≠ a / 32 then
        let bs := s.crb.blkIn
        let s := s.modCrb fun c => { c with blkIn := [] }
        let s := if wr ∧ bs ≠ [] then inWrite s w bs else s
        crbAnswer (crbProto s) true 0
      else if wr then inWriteCycle s w a n more ub lb d
      else inReadCycle s w a n more ub lb ecc

/-! ### Rack interrupts (R534 to R540) -/

/-- The node handles rack interrupts (R505). -/
def crbHandler (s : State) : Bool := crbActive s && 2 ≤ crbRole s

/-- The node raises rack interrupts (R505). -/
def crbInterrupter (s : State) : Bool := crbActive s && crbSlave s

/-- Level `l` may be served now (R534, R536, R537). -/
def levelReady (s : State) (l : Nat) : Bool :=
  s.bitAt CRB_IRQ_HANDLE.EN l && s.bitAt CRB_STATUS.LINES l && decide (s.crb.iacks.getD l 0 < 16) &&
    !nbit s.crb.waitHigh l &&
    (match s.crb.spurAt.getD l none with | some u => u + 1000000 ≤ s.uptime | none => true)

/-- The lines as they read, in every mode (R504); the highest level that may be served gets its IACK cycle, mastership first (R534). -/
def doCrbIrqServe (lines : Nat) (s : State) : State :=
  if !s.running then s
  else
    let was := s.fld CRB_STATUS.LINES
    let low := s.crb.lowAt.zipIdx.map fun (t, l) => if nbit lines l && !nbit was l then s.tim.now else t
    let s := s.modCrb fun c => { c with lowAt := low }
    let s := s.setFld CRB_STATUS.LINES lines
    if !crbHandler s || s.bit CRB_STATUS.HUNG then s
    else
      match [3, 2, 1, 0].find? (levelReady s) with
      | none => s
      | some l =>
        if !s.bit CRB_STATUS.MASTER then (if breqFree s then crbAsk s else s)
        else if s.crb.cyc = .idle then
          (crbStrobe s (.iack l)).modCrb fun c => { c with iacks := modAt c.iacks l (· + 1) }
        else s

/-- The next 1 ms begins (R534). -/
def doCrbIackWindow (s : State) : State := s.modCrb fun c => { c with iacks := [0, 0, 0, 0] }

def doCrbIrqWake (s : State) : State := senseCause s 20

/-- A line has been high for 1 µs (R536). -/
def doCrbIrqLineReleased (l : Nat) (s : State) : State :=
  (s.setBitAt CRB_STATUS.LINES l false).modCrb fun c => { c with waitHigh := clrBit c.waitHigh l }

/-- A write of CRB_OUTIRQ_SET by tenant `t`, with its status (R539). -/
def crbOutirq (s : State) (t : Nat) (v : Word) : State × Nat :=
  if !crbInterrupter s then (s, 0)
  else
    (List.range 4).foldl (fun (s, st) l =>
      let set := nbit v.toNat l
      let clr := nbit v.toNat (4 + l)
      if !set && !clr then (s, st)
      else if s.fld (CRB_OUTIRQ_CFG.OWNER l) ≠ t then (s, 4)
      else if clr then (s.setBitAt CRB_STATUS.OUT l false, st)
      else if s.bitAt CRB_IRQ_HANDLE.EN l then (s, 4)
      else (s.setBitAt CRB_STATUS.OUT l true, st)) (s, 0)

/-- An IACK cycle for level `l` reaches the node (R31, R540). One it does not answer is passed on, in every mode, as long as
VIO_CRB is in range. -/
def doCrbIackRespond (l : Nat) (s : State) : State :=
  if crbInterrupter s && s.bitAt CRB_STATUS.OUT l then
    let s := s.setBitAt CRB_STATUS.OUT l false
    let s := plicRaise (s.setBitAt CRB_IRQ.OUTACK l true) 20
    (crbGive s (s.fld (CRB_OUTIRQ_CFG.VECTOR l))).modCrb fun c => { c with iackPass := false }
  else crbNextStrobe s

/-- A write of CRB_LVEC_POP. -/
def popLvec (s : State) (v : Word) : State :=
  if nbit v.toNat 0 then s.modCrb fun c => { c with lvec := c.lvec.drop 1 } else s

/-- The head of the local vector FIFO as CRB_LVEC shows it (Table 16-10). -/
def lvecWord (s : State) : Word :=
  match s.crb.lvec with
  | (v, l) :: _ => BitVec.ofNat 32 (v + 256 * l + 1024 * s.crb.lvec.length + 32768)
  | [] => 0

/-- CRB_STATUS as it reads: ROLE, ACTIVE, OW_ERR and IW_ERR are conditions (Table 16-7). -/
def crbStatusWord (s : State) : Word :=
  let ow := (List.range 8).foldl (fun n w =>
    let own := s.fld (CRB_OW_CFG.OWNER w)
    if own = 4 ∨ own = 5 then setBit n w else n) 0
  let iw := (List.range 8).foldl (fun n w => if iwBad s w then setBit n w else n) 0
  let s := (s.setFld CRB_STATUS.ROLE (crbRole s)).setBit CRB_STATUS.ACTIVE (crbActive s)
  ((s.setFld CRB_STATUS.OW_ERR ow).setFld CRB_STATUS.IW_ERR iw).word CRB_STATUS.addr

/-- The bridge stops being active (R541). -/
def doCrbBridgeDeactivate (s : State) : State := if crbActive s then s else crbStop s

/-- Another master's strobe, which the monitor times (R515). -/
def doCrbForeignStrobe (s : State) : State :=
  let s := crbNextStrobe s
  if crbWatching s && !s.bit CRB_STATUS.MASTER && s.crb.cyc == .idle then crbStrobe s .foreign
  else s

/-- An answer line falls with no data strobe low (Table 16-4). -/
def doCrbAnswerWithoutStrobe (s : State) : State :=
  if crbActive s && s.crb.cyc == .idle then crbProto s else s

end Sys2Proof.Machine
end

