-- ==== Sys2Proof/Machine/GroveCmds.lean ====
section
/-! DEFINITION. What the commands of the Grove controllers do (chapter 17). -/

namespace Sys2Proof.Machine

/-! ### Routes and breaks (R586) -/

def grvPos (s : State) (i : Nat) : Nat := SMap.get (fun _ => 0) s.groot.pos i

def setGrvPos (s : State) (i n : Nat) : State :=
  { s with groot := { s.groot with pos := SMap.set (fun _ => 0) s.groot.pos i n } }

/-- Give Sapling `i` a route. -/
def grvRoute (s : State) (i port hops : Nat) : State :=
  ((s.setFld (GRV_SAP_INFO.ROUTE i) port).setFld (GRV_SAP_INFO.HOP i) hops).setBit (GRV_SAP_INFO.UNREACH i) false

/-- Saplings on the ring. -/
def grvRingSize (s : State) : Nat := Nat.max (grvPresent s).length (s.fld GRV_EXPECT.COUNT_A)

/-- The ring is whole: every route by GA. -/
def grvIntact (s : State) : State :=
  let s := ((s.setFld GRV_STATUS.RING 1).setFld GRV_STATUS.BREAK_A 0).setFld GRV_STATUS.BREAK_B 0
  (grvPresent s).foldl (fun s i => grvRoute s i 0 (grvPos s i)) s

/-- A break sets on: its flag and its event. -/
def grvBreak (s : State) (x : Nat) : State := bark (grvIrq s x (GRV_IRQ.BREAK x)) Src.GRV_BREAK x

/-- Saplings beyond a break no longer count as missing. -/
def grvTrimMissing (s : State) (x : Nat) : State :=
  s.modGrv x fun g => { g with missing := g.missing.filter fun i => !s.bit (GRV_SAP_INFO.UNREACH i) }

/-- The break located from the reaches `ra` and `rb`. -/
def grvLocate (s : State) (ra rb : Nat) : State :=
  let n := grvRingSize s
  let st := if n ≤ ra + rb then 2 else 3
  let was := s.fld GRV_STATUS.RING
  let onset := was < st || (was == 2 && s.fld GRV_STATUS.BREAK_A != ra)
  let s := ((s.setFld GRV_STATUS.RING st).setFld GRV_STATUS.BREAK_A ra).setFld GRV_STATUS.BREAK_B rb
  let s := (grvPresent s).foldl (fun s i =>
    let p := grvPos s i
    if p ≤ ra then grvRoute s i 0 p
    else if n + 1 - rb ≤ p then grvRoute s i 1 (n + 1 - p)
    else s.setBit (GRV_SAP_INFO.UNREACH i) true) s
  let s := grvTrimMissing s 0
  if onset then grvBreak s 0 else s

/-- CHAINS: Saplings beyond the reach of port `x` cannot be reached; a reach shorter than before, and short of the
Saplings enumerated, is the onset of a break. -/
def grvChainReach (s : State) (x reach : Nat) : State :=
  let mine := (grvPresent s).filter fun i => s.fld (GRV_SAP_INFO.ROUTE i) == x
  let was := mine.any fun i => s.bit (GRV_SAP_INFO.UNREACH i)
  let s := mine.foldl (fun s i => s.setBit (GRV_SAP_INFO.UNREACH i) (decide (reach < s.fld (GRV_SAP_INFO.HOP i)))) s
  let s := grvTrimMissing s x
  if reach < mine.length ∧ !was then grvBreak s x else s

/-! ### Sessions -/

/-- Sleep by AUTO (R574): after the SESSION entry, as soon as nothing is left to send on the port, or on both in RING. -/
def grvAutoSleep (s : State) (x : Nat) : State :=
  if (s.gport x).auto1 && grvState s x == 2 && grvAuto s x &&
      (grvPorts s x).all (fun y => !grvTxWaiting s y && (s.gport y).cur.isNone) then grvSleepStart s x
  else s

/-- The session's check-in is over: ABSENT, the SESSION entry and flag (R567), WAKE entries held back, and sleep by AUTO
(R574). -/
def grvSessionEntry (s : State) (x : Nat) : State :=
  let g := s.gport x
  let s := (grvExpected s x).foldl (fun s i => s.setBit (GRV_SAP_INFO.ABSENT i) (!g.here.contains i)) s
  let s := setGrvState s x 2
  let s := grvEntry s x 0 0 3 0 (toLE 4 (s.word (GRV_SESSION.addr x)).toNat) 0 0 0
  let s := grvIrq s x (GRV_IRQ.SESSION x)
  let s := g.wakes.foldl (fun s w => grvEntry s x 0x48 w.1 2 0 w.2 w.1 0 0) (s.modGrv x fun g => { g with wakes := [] })
  grvAutoSleep (s.modGrv x fun g => { g with auto1 := true }) x

/-- Every expected Sapling has checked in within the window. -/
def grvAllIn (s : State) (x : Nat) : State :=
  if (s.gport x).win = .window ∧ (s.gport x).missing = [] then
    grvSessionEntry (s.modGrv x fun g => { g with win := .late }) x
  else s

/-- A session due during a command starts once the command has ended (Table 17-10); sleep by AUTO follows the last one. -/
def grvCmdEnd (s : State) (x : Nat) : State :=
  let s := s.modGrv x fun g => { g with cur := none }
  let sx := grvSess s x
  if (s.gport sx).due then grvStartSession s sx else grvAutoSleep s sx

/-- A command of GRV_x_CMD or an instant of the schedule starts a session on a port that is not AWAKE: with WAKE_PEND a
tone goes first (R579). -/
def grvWakeOrStart (s : State) (x : Nat) : State :=
  if grvWakePend s x then grvTone s x .session else grvStartSession s x

/-- NEXT arrives, or a retry instant where the port is not AWAKE (R565, R576). -/
def doGroveSessionStart (x : Nat) (s : State) : State :=
  let x := grvSess s x
  if !grvCan s x then s
  else
    match grvState s x with
    | 0 | 4 => grvWakeOrStart (grvClearSent (s.advanceTo (grvInstant s x s.tim.now))) x
    | 2 =>
      if s.tim.now ≤ grvNext s x then
        let s := grvClearSent (s.advanceTo (grvNext s x))
        if (s.gport x).cur.isSome then s.modGrv x fun g => { g with due := true } else grvStartSession s x
      else s
    | _ => s

/-! ### Enumeration (R560 to R564) -/

/-- Start an enumeration: RESET to every Sapling, which also lifts bypasses, and after 2 ms a BEACON. -/
def grvEnumStart (s : State) (x : Nat) : State :=
  let s := setGrvState s x 1
  let s := (grvRange s x).foldl (fun s i =>
    s.setWord (GRV_SAP_INFO.addr i) (s.word (GRV_SAP_INFO.addr i) &&& 0xFFFF2000)) s
  let s := s.modGrv x fun g => { g with steps := [], found := [], win := .shut, missing := [], here := [], drift := [],
                                        cur := none, auto := [], tone := none, broke := none }
  let s := (grvPorts s x).foldl (fun s y => (grvSend s y ⟨15, 63, toLE 1 2 ++ toLE 1 0x52⟩).2) s
  let s := s.advanceTo (s.tim.now + 2000000)
  grvBeaconSend s x

/-- The number of Saplings found on port `x` and those with 8 channels, and whether one has an unknown count. -/
def grvCountFound (s : State) (x : Nat) : Nat × Nat × Bool :=
  let l := (grvRange s x).filter fun i => s.bit (GRV_SAP_INFO.PRESENT i)
  (l.length, (l.filter fun i => s.fld (GRV_SAP_INFO.CHANNELS i) == 8).length,
   l.any fun i => s.fld (GRV_SAP_INFO.CHANNELS i) == 0)

/-- The comparison with GRV_EXPECT (R563): one event in each case. -/
def grvCompare (s : State) (x : Nat) : State :=
  let (n, n8, odd) := grvCountFound s x
  let a := x == 0
  let be := s.bit GRV_EXPECT.BUILD_EN
  let s0 := s
  let s := if n ≠ s0.fld (if a then GRV_EXPECT.COUNT_A else GRV_EXPECT.COUNT_B) then bark s Src.GRV_ENUM x else s
  let s := if be && n8 != s0.fld (if a then GRV_EXPECT.CH8_A else GRV_EXPECT.CH8_B) then bark s Src.GRV_ENUM x else s
  if be && odd then bark s Src.GRV_ENUM x else s

/-- Enumeration ends: ring positions and, where the BEACON of the enumeration found a break, its place (R586); the flag, the
comparison; the port is AWAKE. -/
def grvEnumDone (s : State) (x : Nat) : State :=
  let n := grvRingSize s
  let s := (grvRange s x).foldl (fun s i =>
    if s.bit (GRV_SAP_INFO.PRESENT i) then
      let h := s.fld (GRV_SAP_INFO.HOP i)
      setGrvPos s i (if s.fld (GRV_SAP_INFO.ROUTE i) = 0 then h else n + 1 - h)
    else s) s
  let s := setGrvState s x 2
  let s := match (s.gport x).broke with
    | some (ra, rb) => grvLocate (s.modGrv x fun g => { g with broke := none }) ra rb
    | none => s
  grvCompare (grvIrq s x (GRV_IRQ.ENUM_DONE x)) x

/-- Send the next ENUM, or end the enumeration. -/
def grvEnumNext (s : State) (x : Nat) : State :=
  match (s.gport x).steps with
  | [] => grvEnumDone s x
  | (y, h, a) :: rest =>
    let s := s.modGrv x fun g => { g with steps := rest }
    let f : GFrame := ⟨2, 64 + h, toLE 1 a ++ toLE 1 0⟩
    let (q, s) := grvSend s y f
    s.modGrv y fun g => { g with cur := some { src := .enum a, f := f, seq := q, most := 1 + s.fld (GRV_CFG.RETRY y),
                                                 sentAt := s.uptime } }

/-- The length is known: hops `ra` from GA (or from `x` in CHAINS) and `rb` from GB, with the addresses of R562. -/
def grvEnumLength (s : State) (x ra rb : Nat) : State :=
  let steps :=
    if grvRing s then
      ((List.range (Nat.min ra 62)).map fun h => (0, h + 1, h + 1)) ++
        ((List.range (Nat.min rb (62 - ra))).map fun h => (1, h + 1, 62 - h))
    else (List.range (Nat.min ra 31)).map fun h => (x, h + 1, if x = 0 then h + 1 else 32 + h)
  grvEnumNext (s.modGrv x fun g => { g with steps := steps }) x

/-- An IDENT answers the ENUM in progress (R560, R564). -/
def grvIdent (s : State) (x a : Nat) (f : GFrame) (tries : Nat) : State :=
  let c := (f.payload.getD 2 0).toNat
  let h := match (s.gport x).cur with | some k => hopVal k.f.hop | none => 0
  let i := a - 1
  let s := s.setBit (GRV_SAP_INFO.PRESENT i) true
  let s := s.setFld (GRV_SAP_INFO.CHANNELS i) (if c = 4 ∨ c = 8 then c else 0)
  let s := grvRoute s i x h
  let s := grvEntry s x f.ty f.hop 6 0 f.payload a h tries
  let s := s.modGrv x fun g => { g with cur := none }
  let sx := grvSess s x
  grvEnumNext (s.modGrv sx fun g => { g with found := a :: g.found }) sx

/-- GRV_x_CMD (R560, R570, R574, R579). -/
def grvCommand (s : State) (x op : Nat) : State :=
  let sx := grvSess s x
  if !grvCan s sx then s
  else
    let st := grvState s sx
    let s := grvClearSent s
    match op with
    | 1 => if st = 2 then grvEnumStart s sx else if st = 0 ∨ st = 4 then grvTone s sx .enum else s
    | 2 => if st = 2 then grvSleepStart s sx else s
    | 3 => if st = 0 ∨ st = 2 ∨ st = 4 then grvTone s sx .session else s
    | 4 => if st = 2 then
        (if (s.gport x).cur.isSome then s.modGrv sx fun g => { g with due := true } else grvStartSession s sx) else s
    | _ => s

/-! ### Returns of a BEACON -/

/-- A BEACON came back turned on port `y` with VALUE `v` (R561, R586). -/
def grvTurned (s : State) (y v : Nat) : State :=
  let reach := (v + 1) / 2
  let s := (s.setFld (GRV_STAT.LEN y) reach).setBit (GRV_STAT.TURNED y) true
  if !(s.gport y).wait then s
  else
    let sx := grvSess s y
    if grvRing s then
      if y = 0 then s
      else
        let ra := if s.bit (GRV_STAT.TURNED 0) then s.fld (GRV_STAT.LEN 0) else 0
        let s := s.modGrv 1 fun g => { g with wait := false }
        if grvState s 0 = 1 then grvEnumLength (s.modGrv 0 fun g => { g with broke := some (ra, reach) }) 0 ra reach
        else grvAllIn (grvLocate s ra reach) 0
    else
      let s := s.modGrv y fun g => { g with wait := false }
      if grvState s y = 1 then grvEnumLength s sx reach 0 else grvAllIn (grvChainReach s y reach) y

/-- A BEACON came back unturned on GB with VALUE `v`: the ring is whole. -/
def grvWhole (s : State) (v : Nat) : State :=
  let waited := (s.gport 0).wait
  let s := (s.setFld (GRV_STAT.LEN 0) v).setBit (GRV_STAT.TURNED 0) false
  let s := (List.range 2).foldl (fun s y => s.modGrv y fun g => { g with wait := false }) s
  let s := grvIntact s
  if waited ∧ grvState s 0 = 1 then grvEnumLength s 0 v 0 else s

/-- The return of the BEACON is overdue (R565): first the BEACON goes on GB as well; where GB gives no return either, its
reach is 0. In CHAINS the reach of the port is 0. -/
def doGroveBeaconReturnTimeout (x : Nat) (s : State) : State :=
  let s := grvClearSent s
  if grvRing s then
    if (s.gport 0).wait ∧ (s.gport 1).wait then
      let ra := if s.bit (GRV_STAT.TURNED 0) then s.fld (GRV_STAT.LEN 0) else 0
      let s := (List.range 2).foldl (fun s y => s.modGrv y fun g => { g with wait := false }) s
      let s := (s.setFld (GRV_STAT.LEN 1) 0).setBit (GRV_STAT.TURNED 1) false
      if grvState s 0 = 1 then grvEnumLength (s.modGrv 0 fun g => { g with broke := some (ra, 0) }) 0 ra 0
      else grvAllIn (grvLocate s ra 0) 0
    else if (s.gport 0).wait then grvBeaconOn s 0 1
    else s
  else if (s.gport x).wait then
    let s := (s.modGrv x fun g => { g with wait := false }).setFld (GRV_STAT.LEN x) 0
    if grvState s x = 1 then grvEnumLength s x 0 0 else grvAllIn (grvChainReach s x 0) x
  else s

/-! ### Drift (R584, R585) -/

/-- A miss of Sapling `i` enters the schedule; a fourth within 24 h of the oldest recorded makes it DRIFTY. -/
def grvRecordMiss (s : State) (x i : Nat) : State :=
  let t := Nat.max 1 (s.tim.now / 2 ^ 30 % 2 ^ 32)
  let w := 16 + 4 * i
  let ms := (List.range 4).map fun k => (schedWord s (w + k)).toNat
  let old := ms.foldl Nat.min (2 ^ 32)
  let k := ms.idxOf old
  let s := setSched s (w + k) (BitVec.ofNat 32 t)
  let ms := ms.set k t
  if !ms.contains 0 ∧ t - ms.foldl Nat.min (2 ^ 32) ≤ 86400000000000 / 2 ^ 30 then
    bark (s.setBit (GRV_SAP_INFO.DRIFTY i) true) Src.GRV_SAPLING x
  else s

/-- The missing Sapling of lowest hop on each route (R584 step 4). -/
def grvFirstMissing (s : State) (l : List Nat) (y : Nat) : Option Nat :=
  (l.filter fun i => s.fld (GRV_SAP_INFO.ROUTE i) == y).foldl (fun b i =>
    match b with
    | none => some i
    | some j => if s.fld (GRV_SAP_INFO.HOP i) < s.fld (GRV_SAP_INFO.HOP j) then some i else some j) none

/-- Step 4 for one route. -/
def grvDrift1 (s : State) (x y : Nat) : State :=
  match grvFirstMissing s (s.gport x).drift y with
  | none => s
  | some i =>
    let s := bark s Src.GRV_DRIFT x
    let s := (grvRecordMiss s x i).count (GRV_CNT2.DRIFT x)
    grvEntry s x 0 0 4 0 [] (i + 1) (s.fld (GRV_SAP_INFO.HOP i)) 0

/-- Steps 3 and 4, after the tone and WAKE_ALL: TIME_SET, BEACON of the same session, the misses; then the SESSION
entry. -/
def grvRecoverEnd (s : State) (x : Nat) : State :=
  let s := grvBroadcast s x 8 (toLE 8 s.tim.now)
  let s := grvBeaconSend (s.modGrv x fun g => { g with win := .late }) x
  let s := grvDrift1 (grvDrift1 s x 0) x 1
  grvSessionEntry s x

/-- The window of R567 ends: recovery starts where a Sapling is missing. During the listen of R584 a millisecond ends and
the BEACON goes again; otherwise the window closes. -/
def doGroveCheckinWindowEnd (x : Nat) (s : State) : State :=
  let x := grvSess s x
  if grvState s x = 0 then s
  else
    let s := grvClearSent s
    match (s.gport x).win with
    | .window =>
      if (s.gport x).missing.isEmpty then grvAllIn s x
      else
        let s := s.modGrv x fun g => { g with win := .listen, drift := g.missing, since := s.uptime }
        grvBeaconSend (setGrvState s x 6) x
    | .listen => grvBeaconSend s x
    | .late => s.modGrv x fun g => { g with win := .shut }
    | .shut => s

def doGroveDriftListenEnd (x : Nat) (s : State) : State :=
  let x := grvSess s x
  if (s.gport x).win = .listen then
    grvTone (grvClearSent (s.runTo ((s.gport x).since + 3000 * (s.gport x).g))) x .recover
  else s

/-! ### Commands on the line (R568) -/

/-- Put a command on the line of port `x`; without REPLY nothing is awaited. -/
def grvIssue (s : State) (x : Nat) (c : GCmd) (reply : Bool) : State :=
  let (q, s) := grvSend s x c.f
  if reply then s.modGrv x fun g => { g with cur := some { c with seq := q, sentAt := s.uptime } } else grvCmdEnd s x

/-- The GRV_SAP access that waits for port `x`: a queued write first, else a fetch. -/
def grvSapWork (s : State) (x : Nat) : Option GCmd :=
  let i := s.indSap
  let mk := fun (wa : Nat) (wr : Bool) (pl : List Byte) =>
    let a := wa / 256 % 64
    if s.fld (GRV_SAP_INFO.ROUTE (a - 1)) = x then
      some { src := .sap wr i.no, f := ⟨if wr then 7 else 6, a, pl⟩, most := 1 + s.fld (GRV_CFG.RETRY x) : GCmd }
    else none
  match i.wq with
  | (wa, v, _) :: _ => mk wa true (toLE 1 wa ++ toLE 1 1 ++ toLE 4 v.toNat)
  | [] => if i.fetching then mk (s.fld (indWaddr 0)) false (toLE 1 (s.fld (indWaddr 0)) ++ toLE 1 1) else none

/-- The next transmit entry of port `x` (Table 17-4). -/
def grvTakeEntry (s : State) (x : Nat) : State :=
  let log := grvLog (s.fld (GRV_TXQ_BASE.LOG x))
  let r := s.fld (GRV_TXQ_RPTR.PTR x) % 2 ^ (log + 1)
  let a := grvEntryAt (s.fld (GRV_TXQ_BASE.OFF x)) (r % 2 ^ log)
  let b := fun o => (s.byte (a + o)).toNat
  let n := Nat.min 64 (b 2)
  let f : GFrame := ⟨b 0 % 128, b 1, s.bytes (a + 8) n⟩
  let s := s.setFld (GRV_TXQ_RPTR.PTR x) ((r + 1) % 2 ^ (log + 1))
  grvIssue s x { src := .entry (leNat (s.bytes (a + 4) 4)), f := f, most := 1 + b 3 / 2 % 8 } (nbit (b 3) 0)

/-- The controller takes its next command (R568): cutting off a babbler, a GRV_SAP access, a transmit entry. -/
def doGroveTxEntry (x : Nat) (s : State) : State :=
  if !grvUp s x ∨ grvState s x ≠ 2 ∨ (s.gport x).cur.isSome then s
  else
    let s := grvClearSent s
    match (s.gport x).auto, grvSapWork s x with
    | c :: rest, _ => grvIssue (s.modGrv x fun g => { g with auto := rest }) x c true
    | [], some c => grvIssue s x c true
    | [], none => if grvTxWaiting s x then grvTakeEntry s x else s

/-- Hop of the Sapling a frame goes to (R568). -/
def grvHopOf (s : State) (f : GFrame) : Nat :=
  if hopMode f.hop = 1 then hopVal f.hop
  else if hopVal f.hop = 0 ∨ hopVal f.hop = 63 then 0 else s.fld (GRV_SAP_INFO.HOP (hopVal f.hop - 1))

/-- A GRV_SAP access ends on the line: a queued write, or fetch number `no`, whose answer counts for nothing once the port
has started another or dropped it (R147). -/
def sapDone (s : State) (wr : Bool) (no : Nat) (w : Option Word) : State :=
  if wr then indWritten s 0 w.isSome else if s.indSap.no = no then indFetched s 0 w else s

/-- All attempts went without an answer. -/
def grvTimedOut (s : State) (x : Nat) (c : GCmd) : State :=
  let s := s.count (GRV_CNT.TIMEOUT x)
  let s := s.modGrv x fun g => { g with late := g.late ++ [(c.f.hop, c.f.ty)], cur := none }
  match c.src with
  | .entry tag => grvCmdEnd (grvEntry s x 0 c.f.hop 1 tag [] (if hopMode c.f.hop = 0 then hopVal c.f.hop else 0)
      (grvHopOf s c.f) c.tries) x
  | .sap wr no => grvCmdEnd (sapDone s wr no none) x
  | .enum a =>
    let s := grvEntry s x 0 c.f.hop 6 0 [] a (hopVal c.f.hop) c.tries
    grvEnumNext s (grvSess s x)
  | .bypass => grvCmdEnd s x

/-- `uptime` at which the answer to command `c` on port `x` is overdue (R568). -/
def grvDue (s : State) (x : Nat) (c : GCmd) : Nat :=
  c.sentAt + Nat.max 1 (s.fld (GRV_CFG.RESP_US x)) * 10000 + 2500 * grvHopOf s c.f

def doGroveAnswerTimeout (x : Nat) (s : State) : State :=
  match (s.gport x).cur with
  | none => s
  | some c =>
    if c.burst then s
    else
      let s := grvClearSent (s.runTo (grvDue s x c))
      if c.tries < c.most then
        s.modGrv x fun g => { g with cur := some { c with tries := c.tries + 1, sentAt := s.uptime }, sent := g.sent ++ [c.f] }
      else grvTimedOut s x c

/-! ### Babblers (R587) -/

/-- Saplings beside `i` on the line: by ring position, or by hop on its chain. -/
def grvNeighbours (s : State) (i : Nat) : List Nat :=
  (grvPresent s).filter fun j =>
    let d := if grvRing s then (grvPos s i, grvPos s j) else (s.fld (GRV_SAP_INFO.HOP i), s.fld (GRV_SAP_INFO.HOP j))
    (grvRing s || s.fld (GRV_SAP_INFO.ROUTE i) == s.fld (GRV_SAP_INFO.ROUTE j)) && (d.1 == d.2 + 1 || d.2 == d.1 + 1)

/-- Cut off Sapling `i`: BYPASS to each reachable neighbour on its route. -/
def grvBabble (s : State) (x i : Nat) : State :=
  if s.bit (GRV_SAP_INFO.BYPASSED i) then s
  else
    let s := (grvNeighbours s i).foldl (fun s j =>
      if s.bit (GRV_SAP_INFO.UNREACH j) then s
      else
        let y := s.fld (GRV_SAP_INFO.ROUTE j)
        let c : GCmd := { src := .bypass, f := ⟨14, j + 1, toLE 1 1⟩, most := 1 + s.fld (GRV_CFG.RETRY y) }
        s.modGrv y fun g => { g with auto := g.auto ++ [c] }) s
    let s := s.setBit (GRV_SAP_INFO.BYPASSED i) true
    bark (grvIrq s x (GRV_IRQ.BABBLE x)) Src.GRV_BABBLE x

/-- A frame of address `a` that was not asked for: dropped; 16 of them in 1 ms make a babbler. -/
def grvUnsolicited (s : State) (x a : Nat) : State :=
  let s := s.count (GRV_CNT.UNSOL x)
  let l := ((SMap.get (fun _ => []) (s.gport x).unsol a).filter fun t => s.uptime < t + 1000000) ++ [s.uptime]
  let l' := if 16 ≤ l.length then [] else l
  let s := s.modGrv x fun g => { g with unsol := SMap.set (fun _ => []) g.unsol a l' }
  if 16 ≤ l.length ∧ a ≠ 0 ∧ a < 63 ∧ s.bit (GRV_SAP_INFO.PRESENT (a - 1)) then grvBabble s x (a - 1) else s

/-! ### Frames received -/

/-- SEQ values a receiver accepts from a frame: expected, repeated. A frame of address 0, and an IDENT, which comes from a
Sapling whose counter the port does not know yet, is accepted at any (DESIGN CHOICE, log entry 13). -/
def grvFold (s : State) (x ty hop crc : Nat) (payload : List Byte) : Option (Nat × Bool) :=
  let a := hopVal hop
  let ok := fun q => grvCrc hop q ty payload == crc
  if hopMode hop = 0 ∧ a ≠ 0 ∧ ty ≠ 0x42 then
    let e := SMap.get (fun _ => 0) (s.gport x).rx a
    if ok e then some (e, true) else if ok ((e + 255) % 256) then some (e, false) else none
  else ((List.range 256).find? ok).map fun q => (q, true)

/-- A frame with a good check, not turned: well formed, new, from an enumerated Sapling or one without an address. -/
def grvTakeIn (s : State) (x ty hop q : Nat) (new : Bool) (payload : List Byte) : State :=
  let a := hopVal hop
  if !upLenOk ty payload.length ∨ hopMode hop ≠ 0 ∨ a = 63 then s.count (GRV_CNT.MALF x)
  else if !new then s
  else
    let s := s.modGrv x fun g => { g with rx := if a = 0 then g.rx else SMap.set (fun _ => 0) g.rx a ((q + 1) % 256) }
    let awaited := match (s.gport x).cur with | some c => c.src == .enum a | none => false
    if a ≠ 0 ∧ !awaited ∧ !s.bit (GRV_SAP_INFO.PRESENT (a - 1)) then grvUnsolicited s x a
    else s.modGrv x fun g => { g with handed := some ⟨ty, hop, payload⟩ }

/-- A CRC failure (R552, Table 17-9). -/
def grvCrcFail (s : State) (x : Nat) : State := bark (s.count (GRV_CNT.CRC x)) Src.GRV_CRC x

/-- A frame arrives on port `x`. -/
def doGroveFrameRx (x : Nat) (bad : Bool) (bs : List Byte) (s : State) : State :=
  if !grvUp s x ∨ grvState s x = 0 then s
  else
    let ty := leAt bs 0 1
    let hop := leAt bs 1 1
    let n := leAt bs 2 1
    let pl := slice bs 3 n
    let crc := beNat (slice bs (3 + n) 2)
    if bad ∨ bs.length < 5 ∨ 64 < n ∨ bs.length ≠ 5 + n then grvCrcFail s x
    else if ty % 128 = 1 then
      if grvCrc 0x80 0 1 pl ≠ crc then grvCrcFail s x
      else if 128 ≤ ty then grvTurned ((grvClearSent s).count (GRV_CNT2.TURNED x)) x (hopVal hop)
      else if grvRing s ∧ x = 1 ∧ hopMode hop = 2 then grvWhole (grvClearSent s) (hopVal hop)
      else s.count (GRV_CNT.MALF x)
    else if 128 ≤ ty then s.count (GRV_CNT2.TURNED x)
    else
      match grvFold s x ty hop crc pl with
      | none => grvCrcFail s x
      | some (q, new) => grvTakeIn s x ty hop q new pl

/-- Run `f` on a frame of type `ty` that the port takes in. -/
def grvOn (x : Nat) (tys : List Nat) (f : GFrame) (k : State → State) (s : State) : State :=
  if grvUp s x ∧ grvState s x ≠ 0 ∧ tys.contains f.ty ∧ hopMode f.hop = 0 then
    k ((grvClearSent s).modGrv x fun g => { g with handed := none })
  else s

/-- A CHECKIN (R567, R569, R563, R587). -/
def grvCheckin (s : State) (x : Nat) (f : GFrame) : State :=
  let a := hopVal f.hop
  let fl := leAt f.payload 0 1
  let d := leAt f.payload 1 1
  let sx := grvSess s x
  if a = 0 then
    let s := grvEntry s x f.ty f.hop 5 0 f.payload 0 d 0
    if grvState s sx = 1 then s else bark s Src.GRV_ENUM x
  else if (s.gport sx).win = .shut ∧ grvState s sx ≠ 1 then grvUnsolicited s x a
  else
    let i := a - 1
    let s := s.setBit (GRV_SAP_INFO.ABSENT i) false
    let s := s.modGrv sx fun g => { g with missing := g.missing.erase i, here := if g.here.contains i then g.here else g.here ++ [i] }
    let beside := fun (s : State) (up : Bool) =>
      (grvNeighbours s i).find? fun j =>
        let h := s.fld (GRV_SAP_INFO.HOP j)
        let hi := s.fld (GRV_SAP_INFO.HOP i)
        s.fld (GRV_SAP_INFO.ROUTE j) == s.fld (GRV_SAP_INFO.ROUTE i) && (if up then h + 1 == hi else h == hi + 1)
    let s := if nbit fl 1 then (match beside s true with | some j => grvBabble s x j | none => s) else s
    let s := if nbit fl 2 then (match beside s false with | some j => grvBabble s x j | none => s) else s
    grvAllIn s sx

def doGroveCheckinRx (x : Nat) (f : GFrame) (s : State) : State := grvOn x [0x41] f (fun s => grvCheckin s x f) s

/-- A frame that answers nothing in progress: a late answer (R103), or not asked for. -/
def grvStray (s : State) (x : Nat) (f : GFrame) : State :=
  let a := hopVal f.hop
  match (s.gport x).late.find? fun p => hopMode p.1 ≠ 0 || hopVal p.1 == a with
  | some p =>
    let s := s.modGrv x fun g => { g with late := g.late.erase p }
    bark (s.count (GRV_CNT2.LATE x)) Src.LATE
  | none => grvUnsolicited s x a

/-- The answer type a command takes (Table 17-3). -/
def grvAnswerOf (ty : Nat) : Nat :=
  match ty with
  | 2 => 0x42 | 3 => 0x43 | 4 => 0x44 | 5 => 0x45 | 6 => 0x46 | 7 => 0x47 | 14 => 0x47 | 16 => 0x47 | _ => 0

/-- `f` answers the command `c`: from the Sapling it went to, of its answer type, naming its type in an ACK or NACK. -/
def grvAnswers (c : GCmd) (f : GFrame) : Bool :=
  (hopMode c.f.hop != 0 || hopVal c.f.hop == hopVal f.hop) &&
    (if f.ty = 0x47 ∨ f.ty = 0x4A then
        leAt f.payload 0 1 % 128 == c.f.ty && (f.ty == 0x4A || grvAnswerOf c.f.ty == 0x47)
     else f.ty == grvAnswerOf c.f.ty)

/-- A bypass ended by firmware's BYPASS with ON = 0 and SIDE as sent: what lies on that side is no longer cut off. -/
def grvUnbypass (s : State) (c : GCmd) : State :=
  let on := leAt c.f.payload 0 1
  if c.f.ty = 14 ∧ on % 2 = 0 ∧ hopMode c.f.hop = 0 ∧ hopVal c.f.hop ≠ 0 ∧ hopVal c.f.hop < 63 then
    let j := hopVal c.f.hop - 1
    let h := s.fld (GRV_SAP_INFO.HOP j)
    (grvNeighbours s j).foldl (fun s i =>
      let hi := s.fld (GRV_SAP_INFO.HOP i)
      if (if nbit on 1 then hi + 1 == h else h + 1 == hi) then s.setBit (GRV_SAP_INFO.BYPASSED i) false else s) s
  else s

/-- The command in progress is answered. -/
def grvAnswered (s : State) (x : Nat) (c : GCmd) (f : GFrame) : State :=
  match c.src with
  | .entry tag =>
    let s := if f.ty = 0x47 then grvUnbypass s c else s
    grvCmdEnd (grvEntry s x f.ty f.hop 0 tag f.payload (hopVal f.hop) (grvHopOf s c.f) c.tries) x
  | .sap wr no => grvCmdEnd (sapDone s wr no (if f.ty = 0x4A then none else some (BitVec.ofNat 32 (leAt f.payload 0 4)))) x
  | .bypass => grvCmdEnd s x
  | .enum _ => s

/-- A PONG, REPORT, REG_DATA, ACK or NACK (R568). -/
def doGroveAnswerRx (x : Nat) (f : GFrame) (s : State) : State :=
  grvOn x [0x43, 0x44, 0x46, 0x47, 0x4A] f (fun s =>
    match (s.gport x).cur with
    | some c => if grvAnswers c f then grvAnswered s x c f else grvStray s x f
    | none => grvStray s x f) s

def doGroveIdentRx (x : Nat) (f : GFrame) (s : State) : State :=
  grvOn x [0x42] f (fun s =>
    match (s.gport x).cur with
    | some c =>
      (match c.src with
       | .enum a => if hopVal f.hop = a then grvIdent s x a f c.tries else grvStray s x f
       | _ => if grvAnswers c f then grvAnswered s x c f else grvStray s x f)
    | none => grvStray s x f) s

/-- A BURST_DATA frame: an entry of its own; the slot is free at FINAL (R569). -/
def doGroveBurstDataRx (x : Nat) (f : GFrame) (s : State) : State :=
  grvOn x [0x45] f (fun s =>
    match (s.gport x).cur with
    | some c =>
      if grvAnswers c f then
        (match c.src with
         | .entry tag =>
           let s := grvEntry s x f.ty f.hop 0 tag f.payload (hopVal f.hop) (grvHopOf s c.f) c.tries
           if nbit (leAt f.payload 3 1) 0 then grvCmdEnd s x
           else s.modGrv x fun g => { g with cur := some { c with burst := true } }
         | _ => s)
      else grvStray s x f
    | none => grvStray s x f) s

def doGroveBurstGapTimeout (x : Nat) (s : State) : State :=
  match (s.gport x).cur with
  | some c => if c.burst then grvCmdEnd (grvClearSent s) x else s
  | none => s

/-! ### Waking and sleeping (R574, R579 to R582) -/

/-- Call off the agreement: SLEEP_ABORT in place of COMMIT, or directly after it (R582). -/
def grvCancelSleep (s : State) (x : Nat) : State :=
  if (s.gport x).sleep.commit then s.modGrv x fun g => { g with sleep := { g.sleep with cut := true } }
  else setGrvState (grvBroadcast s x 11 []) x 2

/-- A wake request acts by the state of the port: an agreement is called off; an ASLEEP port is woken. Where no session may
run, the schedule keeps it (R577). -/
def grvWakeAct (s : State) (x : Nat) : State :=
  match grvState s x with
  | 3 => grvCancelSleep s x
  | 4 => if grvCan s x then grvTone s x .session else setWakePend s x true
  | _ => s

/-- The WAKE entry and flag; a running recovery ends first (Table 17-10). -/
def grvWakeEntry (s : State) (x a : Nat) (f : GFrame) : State :=
  let sx := grvSess s x
  let s := if grvState s sx = 6 then s.modGrv sx fun g => { g with wakes := g.wakes ++ [(a, f.payload)] }
    else grvEntry s x f.ty f.hop 2 0 f.payload a (if a = 0 then 0 else s.fld (GRV_SAP_INFO.HOP (a - 1))) 0
  grvIrq s x (GRV_IRQ.WAKE x)

/-- A WAKE_REQ: entry, WAKE_ACK, and its effect; after four in 60 s it wakes no more (Table 17-9). -/
def doGroveWakeReqRx (x : Nat) (f : GFrame) (s : State) : State :=
  grvOn x [0x48] f (fun s =>
    let a := hopVal f.hop
    let sx := grvSess s x
    let l := (SMap.get (fun _ => []) (s.gport x).reqs a).filter fun t => s.uptime < t + 60000000000
    let s := s.modGrv x fun g => { g with reqs := SMap.set (fun _ => []) g.reqs a (l ++ [s.uptime]) }
    let s := grvWakeEntry s x a f
    let s := if 4 ≤ l.length then s.count (GRV_CNT.UNSOL x) else grvWakeAct s sx
    if a = 0 then s else (grvSend s x ⟨13, a, []⟩).2) s

/-- Carrier without SD (R581): Root's wake cause; on an ASLEEP port a wake; on an AWAKE port, also in its sleep agreement, a
WAKE_REQ without a source. In the other states the port is being woken already, or sends no session. -/
def doGroveCarrierWake (x : Nat) (s : State) : State :=
  let sx := grvSess s x
  let s := if sensing s ∧ s.pwr.rootPowered then senseCause (if s.pwr.mode = .root then setWakePend s sx true else s) 19 else s
  if !grvUp s x then s
  else
    let s := (grvClearSent s).setBit (GRV_STAT.CARRIER x) true
    match grvState s sx with
    | 2 | 3 => grvWakeAct (grvWakeEntry s x 0 ⟨0, 0, []⟩) sx
    | 4 => grvWakeAct s sx
    | _ => s

/-- Send SLEEP_COMMIT (Table 17-7). -/
def grvCommitStart (s : State) (x : Nat) : State :=
  let s := grvBroadcast s x 10 (toLE 4 (s.word (GRV_SESSION.addr x)).toNat)
  s.modGrv x fun g => { g with sleep := { g.sleep with commit := true } }

/-- Checked-in Saplings that have not sent SLEEP_OK. -/
def grvNotOk (s : State) (x : Nat) : List Nat :=
  (s.gport x).here.filter fun i => !(s.gport x).sleep.ok.contains i

def doGroveSleepOkRx (x : Nat) (f : GFrame) (s : State) : State :=
  grvOn x [0x49] f (fun s =>
    let sx := grvSess s x
    let a := hopVal f.hop
    if grvState s sx ≠ 3 ∨ a = 0 then grvUnsolicited s x a
    else
      let s := s.modGrv sx fun g => { g with sleep := { g.sleep with ok := (a - 1) :: g.sleep.ok } }
      if grvNotOk s sx = [] ∧ !(s.gport sx).sleep.commit then grvCommitStart s sx else s) s

def doGroveSleepPrepTimeout (x : Nat) (s : State) : State :=
  let x := grvSess s x
  if grvState s x ≠ 3 ∨ (s.gport x).sleep.commit then s
  else
    let s := grvClearSent s
    if (s.gport x).sleep.again ∨ grvNotOk s x = [] then grvCommitStart s x
    else
      let s := s.modGrv x fun g => { g with sleep := { g.sleep with again := true } }
      grvBroadcast s x 9 (toLE 8 (grvNext s x) ++ toLE 4 (s.gport x).g ++ toLE 2 (grvRetryS s x) ++ toLE 2 0)

/-- The last bit of SLEEP_COMMIT has left: ASLEEP, or SLEEP_ABORT where a WAKE_REQ came during COMMIT (R574, R582). -/
def doGroveCommitSent (x : Nat) (s : State) : State :=
  let x := grvSess s x
  if grvState s x ≠ 3 ∨ !(s.gport x).sleep.commit then s
  else
    let s := grvClearSent s
    if (s.gport x).sleep.cut then
      setGrvState (grvBroadcast (s.modGrv x fun g => { g with sleep := {} }) x 11 []) x 2
    else
      let s := s.modGrv x fun g => { g with sleep := {}, win := .shut, here := [] }
      grvIrq (setGrvState s x 4) x (GRV_IRQ.ASLEEP x)

/-- The largest hop that a tone of port `x` has to reach (R579). -/
def grvToneHops (s : State) (x : Nat) : Nat := (grvPorts s x).foldl (fun m y => Nat.max m (grvMaxHop s y)) 0

/-- Tone and settling time are over: WAKE_ALL, then what the tone was for (R579, R560, R584). -/
def doGroveWakeToneEnd (x : Nat) (s : State) : State :=
  let x := grvSess s x
  match (s.gport x).tone with
  | none => s
  | some why =>
    let s := s.runTo ((s.gport x).since + 3000000 + 200000 * grvToneHops s x)
    let s := grvBroadcast (grvClearSent s) x 12 []
    let s := s.modGrv x fun g => { g with tone := none }
    match why with
    | .session => grvStartSession s x
    | .enum => grvEnumStart s x
    | .recover => grvRecoverEnd s x

/-- An apply of group 12 (R141): a port disabled goes idle. -/
def grvApplied (s : State) : State :=
  (List.range 2).foldl (fun s x => if s.bit (GRV_CFG.EN x) then s else grvIdle s x) s

end Sys2Proof.Machine
end

