-- ==== Sys2Proof/Machine/Regs.lean ====
section
/-! DEFINITION. What register words read as: staged values, voted copies, fields that show conditions, 64-bit counters, the
check-value engines; and what a plain write changes (R8 to R14, R131 to R140, R150, R164 to R166). -/

namespace Sys2Proof.Machine

/-! ### Check-value engines (R164 to R166) -/

/-- Width of engine `n`. -/
def crcWidth (s : State) (n : Nat) : Nat :=
  match s.fld (CRC_CFG.WIDTH n) with | 0 => 8 | 1 => 16 | _ => 32

/-- Shift one byte into a running value. -/
def crcByte (w : Nat) (refin : Bool) (poly v b : Nat) : Nat :=
  let v := if refin then v ^^^ b else v ^^^ (b * 2 ^ (w - 8))
  (List.range 8).foldl (fun v _ =>
    if refin then (if nbit v 0 then v / 2 ^^^ reflect w poly else v / 2)
    else (if nbit v (w - 1) then v * 2 % 2 ^ w ^^^ poly else v * 2 % 2 ^ w)) v

/-- Feed the low `k` bytes of `v` into engine `n`, in ascending order. -/
def crcFeed (s : State) (n k : Nat) (v : Word) : State :=
  let w := crcWidth s n
  let poly := s.fld (CRC_POLY.VALUE n) % 2 ^ w
  s.setFld (CRC_VAL.VALUE n) ((toLE k v.toNat).foldl (fun x b => crcByte w (s.bit (CRC_CFG.REFIN n)) poly x b.toNat)
    (s.fld (CRC_VAL.VALUE n) % 2 ^ w))

/-- RESULT of engine `n` (R165). -/
def crcResult (s : State) (n : Nat) : Nat :=
  let w := crcWidth s n
  let v := s.fld (CRC_VAL.VALUE n) % 2 ^ w
  let v := if s.bit (CRC_CFG.REFOUT n) != s.bit (CRC_CFG.REFIN n) then reflect w v else v
  v ^^^ s.fld (CRC_XOROUT.VALUE n) % 2 ^ w

/-! ### Staged words and update groups (R138 to R140) -/

/-- The update group of the register at `a`; 16 where it has none. -/
def groupOf (a : Nat) : Nat :=
  match findReg a with
  | some r => if r.rws = 0 then 16 else r.group a
  | none => 16

/-- SYS_UPD_PEND: the groups in which a value is staged (R140, Table 05-6). -/
def pendMask (s : State) : Nat :=
  (List.range 16).foldl (fun m g => if s.stg.any (fun p => groupOf p.1 == g) then setBit m g else m) 0

/-- The word a register holds: of a voted register the one two copies agree on (R195). -/
def regWord (s : State) (a : Nat) : Word := if votedReg a then majority s a else s.word a

/-- The word with what is staged of it in place of what is effective (R139). -/
def stagedWord (s : State) (r : RegRow) (a : Nat) : Word :=
  match SMap.get (fun _ => none) s.stg a with
  | some v => (regWord s a &&& ~~~ r.rws) ||| (v &&& r.rws)
  | none => regWord s a

/-! ### Fields that show conditions -/

/-- A word with fields replaced. -/
def withFields (w : Word) (l : List (FRef × Nat)) : Word := l.foldl (fun w p => wordSet w p.1.lo p.1.wid p.2) w

/-- What is left of the count of PWR_WTIMER`n`, in 1/1,024 s (Table 03-16). -/
def wtimerLeft (s : State) (n : Nat) : Nat :=
  let since := s.uptime - (if n = 0 then s.pwr.wt0At else s.pwr.wt1At)
  s.fld (PWR_WTIMER.COUNT n) - since * 1024 / 1000000000

/-- The pair of source `src` reads no error. -/
def sourceQuiet (s : State) (src : Nat) : Bool := !s.bitAt (BRK_LIVE.LIVE (src / 32)) (src % 32)

/-- A word `x` that a register shows in place of its word `w`, the RT bits of a row without RW bits kept (R14). -/
def keepRt (r : RegRow) (w x : Word) : Word := (w &&& r.rw) ||| (x &&& ~~~ r.rw)

/-- The registers of SYS and PWR that show the mode controller and the monitors (Tables 03-11, 03-16, 03-28). -/
def modeShown (s : State) (r : RegRow) (a : Nat) (w : Word) : Word :=
  if a = SYS_MODE.addr then
    withFields w [(SYS_MODE.MODE, s.pwr.mode.code),
      (SYS_MODE.BASE, if s.pwr.mode = .degraded then s.pwr.base.code else s.pwr.mode.code),
      (SYS_MODE.SEQ, s.pwr.seq.code), (SYS_MODE.SAFE_LATCH, b2n s.pwr.safeLatch),
      (SYS_MODE.WATCH_CYCLE, b2n s.pwr.watchCycle)]
  else if a = SYS_UPD_PEND.addr then keepRt r w (BitVec.ofNat 32 (pendMask s))
  else if a = PWR_STATUS.addr then
    withFields w [(PWR_STATUS.VIN_OK, b2n s.pwr.vinOk), (PWR_STATUS.VIN_QUAL, b2n s.pwr.vinQual),
      (PWR_STATUS.HOLD_OK, b2n s.pwr.holdOk), (PWR_STATUS.CHARGING, b2n (s.pwr.charging && s.bit PWR_HOLD_CFG.CHG_EN)),
      (PWR_STATUS.VBAK_OK, b2n s.pwr.vbakOk), (PWR_STATUS.VBAK_LOW, b2n s.pwr.vbakLow),
      (PWR_STATUS.VM_OK, b2n s.vmOk), (PWR_STATUS.VM_UV, b2n s.pwr.vmUv), (PWR_STATUS.VM_OV, b2n s.pwr.vmOv)]
  else if a = PWR_WTIMER.addr 0 then BitVec.ofNat 32 (wtimerLeft s 0)
  else if a = PWR_WTIMER.addr 1 then BitVec.ofNat 32 (wtimerLeft s 1)
  else w

/-- AFEn_STATUS, AFEn_CHc_STAT and AFEn_CHc_BIAS (R217, Tables 07-13, 07-17, 07-18). -/
def afeShown (s : State) (r : RegRow) (a : Nat) (w : Word) : Word :=
  let n := a / 0x10000 % 16 - 4
  let o := a % 0x10000
  if o = 0 then
    withFields w [(AFE_STATUS.MODCLK n, b2n (s.bit TIM_STATUS.TB_PLL)), (AFE_STATUS.IEPE_OK n, b2n (sourceQuiet s Src.IEPE_SUP)),
      (AFE_STATUS.REF_OK n, b2n (sourceQuiet s Src.AFE_REF)), (AFE_STATUS.LINK_OK n, b2n (sourceQuiet s (Src.AFE0_LINK + n)))]
  else if 0x100 ≤ o ∧ o < 0x200 ∧ o % 0x10 = 4 then
    let c := (o - 0x100) / 0x10
    let w := withFields w [(AFE_CH_STAT.ACTIVE n c, b2n (afeActive s n c))]
    if iepeOn s n c then w else withFields w [(AFE_CH_STAT.SFLT n c, 3)]
  else if 0x100 ≤ o ∧ o < 0x200 ∧ o % 0x10 = 8 ∧ !iepeOn s n ((o - 0x100) / 0x10) then keepRt r w 0
  else w

/-- Registers of the buffer manager that show owners and results (Tables 10-16 to 10-18). -/
def bufShown (s : State) (t : Nat) (r : RegRow) (a : Nat) (w : Word) : Word :=
  if a = BUF_STATUS.addr then withFields w [(BUF_STATUS.FREE, bufFreeCount s)]
  else if a = BUF_RESULT.addr then keepRt r w (SMap.get (fun _ => 0) s.eng.bufRes t)
  else if a = BUF_OWNER.addr then keepRt r w (BitVec.ofNat 32 (ownerShown s (s.fld BUF_QUERY.BUF)))
  else if a = BUF_RSV.addr then
    keepRt r w (BitVec.ofNat 32 ((List.range 4).foldl (fun m c =>
      match s.rsv.getD c none with | some (lo, _) => if lo < 0x4000000 then setBit m c else m | none => m) 0))
  else if BUF_HELD.addr 0 ≤ a ∧ a < BUF_HELD.addr 8 then
    keepRt r w (BitVec.ofNat 32 (bufHeld s ((a - BUF_HELD.addr 0) / 4)))
  else w

/-- HWD_STATUS and HWD_JFREE (Tables 11-7, 11-8). -/
def hwdShown (s : State) (a : Nat) (w : Word) : Word :=
  if a = HWD_STATUS.addr then
    withFields w [(HWD_STATUS.READONLY, b2n (hwdReadonly s)),
      (HWD_STATUS.JBUSY, b2n (s.hwd.applying.isSome || !s.hwd.queue.isEmpty))]
  else if a = HWD_JFREE.addr then withFields w [(HWD_JFREE.BYTES, 983040 - journalUsed s)]
  else w

/-- The registers of engine `n`: RESULT, and the low bits of its values (R165). -/
def crcShown (s : State) (a : Nat) (w : Word) : Word :=
  let n := a % 0x10000 / 0x40
  let o := a % 0x40
  if o = 0x1C then BitVec.ofNat 32 (crcResult s n)
  else if 4 ≤ o ∧ o ≤ 0xC then BitVec.ofNat 32 (w.toNat % 2 ^ crcWidth s n)
  else w

/-- MOT_n_STAT.STATE and MOT_n_ENCPOS. -/
def motShown (s : State) (a : Nat) (w : Word) : Word :=
  let n := a % 0x10000 / 0x100 - 1
  if a % 0x10000 < 0x100 then w
  else if a = MOT_STAT.addr n then withFields w [(MOT_STAT.STATE n, axShown s n)]
  else if a = MOT_ENCPOS.addr n then BitVec.ofNat 32 (ofSigned 32 (encPos s n))
  else w

/-- DRV_STATUS (Table 19-7): VM_OK, CLK_OK, LINK_OK; LA of DRV_n_LOAD, 0 below LOAD_VMIN (R645), and its present current, 0 while the
axis is not driven; DRV_n_STAT.LOAD_VALID with the present speed. -/
def drvShown (s : State) (a : Nat) (w : Word) : Word :=
  if a = DRV_STATUS.addr then
    withFields w [(DRV_STATUS.VM_OK, b2n s.vmOk), (DRV_STATUS.CLK_OK, b2n (!s.drv.clkLost)),
      (DRV_STATUS.LINK_OK, b2n (match s.drv.linkAt with | some t => t + 1000000 ≤ s.uptime | none => true))]
  else
    let n := (a % 0x10000 - 0x100) / 0x40
    if 0x100 ≤ a % 0x10000 ∧ a = DRV_AX_LOAD.addr n then
      withFields w [(DRV_AX_LOAD.I n, if s.bitAt DRV_STATUS.DRIVEN n then drvCurrent s n else 0),
        (DRV_AX_LOAD.LA n, if loadFast s n then wordField w 0 8 else 0)]
    else if 0x100 ≤ a % 0x10000 ∧ a = DRV_AX_STAT.addr n then
      withFields w [(DRV_AX_STAT.LOAD_VALID n, b2n (s.bit (DRV_AX_STAT.LOAD_VALID n) && loadFast s n))]
    else w

/-- The slots of SEC (Table 09-18). -/
def secShown (s : State) (a : Nat) (w : Word) : Word :=
  if a = SEC_SLOT_ID.addr 0 ∨ a = SEC_SLOT_ID.addr 1 then BitVec.ofNat 32 (slotIdShown s ((a - SEC_SLOT_ID.addr 0) / 8))
  else if a = SEC_SLOT_INFO.addr 0 ∨ a = SEC_SLOT_INFO.addr 1 then
    let x := (a - SEC_SLOT_INFO.addr 0) / 8
    (w &&& 0xFFF0) ||| BitVec.ofNat 32 (slotInfoShown s x)
  else w

/-- BRK_SRC_CFG: COUNT reads 0 once its window is over (R178). -/
def barkShown (s : State) (a : Nat) (w : Word) : Word :=
  let src := (a - BRK_SRC_CFG.addr 0) / 4
  if BRK_SRC_CFG.addr 0 ≤ a ∧ a ≤ BRK_SRC_CFG.addr 95 ∧ windowOver s src then withFields w [(BRK_SRC_CFG.COUNT src, 0)] else w

/-- The word at `a` as tenant `t` reads it. -/
def shownWord (s : State) (t : Nat) (r : RegRow) (a : Nat) : Word :=
  let w := stagedWord s r a
  match blockOf a with
  | 0x00 | 0x01 => modeShown s r a w
  | 0x02 =>
    if a = TIM_STATUS.addr then withFields w [(TIM_STATUS.RSLOW_RC, b2n s.pwr.rslowRc)]
    else if a = TIM_NOW_LO.addr then BitVec.ofNat 32 s.tim.now
    else w
  | 0x03 => barkShown s a w
  | 0x04 | 0x05 => afeShown s r a w
  | 0x06 =>
    if a = TCH_STATUS.addr then
      withFields w [(TCH_STATUS.ACTIVE, (List.range 8).foldl (fun m i => if tchMode s i = 0 then m else setBit m i) 0)]
    else w
  | 0x10 => if a = REC_STATUS.addr then withFields w [(REC_STATUS.QUEUE, s.eng.inq.length)] else w
  | 0x11 => bufShown s t r a w
  | 0x12 => hwdShown s a w
  | 0x1A => if a = TKS_STATUS.addr ∨ a = TKS_GSTAT.addr 0 ∨ a = TKS_GSTAT.addr 1 then (showGates (showGates s 0) 1).word a else w
  | 0x1C => if a = CRB_STATUS.addr then crbStatusWord s else if a = CRB_LVEC.addr then keepRt r w (lvecWord s) else w
  | 0x1E => if a = GRV_STATUS.addr then withFields w [(GRV_STATUS.MODE, s.fld SYS_STRAP.GROVE_MODE)] else w
  | 0x20 => motShown s a w
  | 0x21 => drvShown s a w
  | 0x22 => crcShown s a w
  | 0x23 => secShown s a w
  | _ => w

/-! ### 64-bit counters (R105, R134) -/

/-- The low words of 64-bit counters. -/
def wideLow (a : Nat) : Bool :=
  let o := a % 0x10000
  match blockOf a with
  | 0x02 => o == 0x08
  | 0x06 => 0x114 ≤ o && o < 0x314 && (o - 0x114) % 0x40 == 0
  | 0x18 | 0x19 => o == 0x30 || o == 0x38
  | 0x1A => ((0x1100 ≤ o && o < 0x1130) || (0x2100 ≤ o && o < 0x2130)) && o % 8 == 0
  | _ => false

/-- The high word of the counter whose low word is at `a`. -/
def wideHigh (s : State) (a : Nat) : Word :=
  if a = TIM_NOW_LO.addr then BitVec.ofNat 32 (s.tim.now / 2 ^ 32) else s.word (a + 4)

/-- Snapshot the high word for tenant `t`. -/
def snapWide (s : State) (t a : Nat) : State :=
  { s with snaps := SMap.set (fun _ => (0 : Word)) s.snaps (8 * (a + 4) + t) (wideHigh s a) }

/-! ### Plain reads and writes -/

/-- A read by tenant `t`: RC fields clear (R9), the low word of a 64-bit counter is snapshotted, its high word comes from
the snapshot. -/
def plainRead (s : State) (t a : Nat) (r : RegRow) : State × Word :=
  let w := if wideLow (a - 4) then SMap.get (fun _ => (0 : Word)) s.snaps (8 * a + t) else shownWord s t r a
  let s := if wideLow a then snapWide s t a else s
  (if r.rc = 0 then s else s.setWord a (s.word a &&& ~~~ r.rc), w)

/-- Lock bits: writing 1 sets them, writing 0 is discarded (R150). -/
def lockMask (a : Nat) : Word :=
  if a = BRK_CTRL.addr ∨ a = SEC_CTRL.addr ∨ a = HWD_CTRL.addr ∨ a = CRW_CTRL.addr then 1 else 0

/-- The word a write of `v` leaves effective: RW and RT bits as written, RWL bits while their lock bit is clear, W1C bits
cleared by a 1, lock bits only set, all else unchanged (R8, R14, R150, Table 00-4). -/
def writtenWord (s : State) (r : RegRow) (a : Nat) (v : Word) : Word :=
  let old := regWord s a
  let m := if nbit (regWord s r.lock.1).toNat r.lock.2 then r.rw else r.rw ||| r.rwl
  (old &&& ~~~ m &&& ~~~ (r.w1c &&& v)) ||| (v &&& m) ||| (old &&& lockMask a)

/-- Set a register in all its copies (R195). -/
def setCopies (s : State) (a : Nat) (w : Word) : State :=
  let s := s.setWord a w
  if votedReg a then { s with brk := { s.brk with voteB := SMap.erase s.brk.voteB a, voteC := SMap.erase s.brk.voteC a } }
  else s

/-- A write to a register without behaviour of its own: RWS bits are staged (R138), the rest takes effect. -/
def plainWrite (s : State) (r : RegRow) (a : Nat) (v : Word) : State :=
  let s := setCopies s a (writtenWord s r a v)
  if r.rws = 0 then s else { s with stg := SMap.set (fun _ => none) s.stg a (some (v &&& r.rws)) }

end Sys2Proof.Machine
end

