-- ==== Sys2Proof/Machine/Apply.lean ====
section
/-! DEFINITION. Applying update groups, timed applies, unit and node resets by register (R141 to R146, R154 to R156). -/

namespace Sys2Proof.Machine

/-! ### Applies -/

/-- The block that governs the apply of a group (Table 05-3). -/
def groupBlock (g : Nat) : Nat :=
  [0x04, 0x05, 0x08, 0x09, 0x0A, 0x0B, 0x0C, 0x20, 0x21, 0x1A, 0x1A, 0x1C, 0x1E, 0x1B, 0x02, 0x14].getD g 0

/-- No fence or unit reset holds the group's unit (R142). -/
def groupUp (s : State) (g : Nat) : Bool :=
  if g = 12 then s.up (fenceGRV 0) && s.up (fenceGRV 1)
  else match blockFence (groupBlock g) with
    | some f => s.up f
    | none => true

/-- Every staged value of group `g` becomes effective (R139). -/
def commitGroup (s : State) (g : Nat) : State :=
  let mine := s.stg.filter fun p => groupOf p.1 == g
  let s := { s with stg := s.stg.filter fun p => groupOf p.1 != g }
  mine.foldl (fun (s : State) (p : Nat × Option Word) =>
    match p.2, findReg p.1 with
    | some v, some r => s.setWord p.1 ((s.word p.1 &&& ~~~ r.rws) ||| (v &&& r.rws))
    | _, _ => s) s

/-- What the unit of group `g` does when values take effect; `old` is the state before. -/
def groupTakes (old s : State) (g : Nat) : State :=
  match g with
  | 0 | 1 => (List.range 16).foldl (fun s c =>
      if old.word (AFE_CH_CFG.addr g c) = s.word (AFE_CH_CFG.addr g c) then s
      else afeChApplied s g c (old.word (AFE_CH_CFG.addr g c))) s
  | 2 | 3 | 4 | 5 => tuningApplied old s (g - 2)
  | 6 => ingestApplied old s
  | 7 => payOwed (motionApplied old s)
  | 8 => driveApplied old s
  | 9 | 10 => portApplied s old (g - 9)
  | 12 => grvApplied s
  | 13 =>
    let s := (List.range 4).foldl (fun s t => hostApplied s old t) (settlePolicers s old)
    discardRetargeted old s
  | 14 => if old.word TIM_MASTER.addr = s.word TIM_MASTER.addr then s else masterChanged s
  | 15 => plicRaise s plicUPD15
  | _ => s

/-- A graft runs in the bough of group `g` (R296). -/
def graftHolds (s : State) (g : Nat) : Bool := 2 ≤ g && g ≤ 5 && s.bit (CNP_STATUS.GRAFT (g - 2))

/-- Apply one group, or skip it (R142, R296); `may` says that the tenant's permission lets it. -/
def applyGroup (s : State) (may : Bool) (g : Nat) : State :=
  if may && groupUp s g && !graftHolds s g then groupTakes s (commitGroup s g) g
  else s.setBitAt SYS_UPD_STAT.SKIPPED g true

/-- The groups that tenant `t` may apply, as the permissions stand (R142). -/
def mayApply (s : State) (t : Nat) : Nat := (List.range 16).foldl (fun m g => if s.perm t (groupBlock g) = 3 then setBit m g else m) 0

/-- Apply every group named in `mask` for tenant `t` (R141). The permissions are those before the apply: one of group 13
counts from the next request on (R463). -/
def applyGroups (s : State) (t mask : Nat) : State :=
  let may := mayApply s t
  (List.range 16).foldl (fun s g => if nbit mask g then applyGroup s (nbit may g) g else s) s

/-! ### Timed applies (R143, R144) -/

/-- The armed instant. -/
def atTime (s : State) : Nat := (s.word SYS_UPD_AT_LO.addr).toNat + 2 ^ 32 * (s.word SYS_UPD_AT_HI.addr).toNat

/-- A write of SYS_UPD_AT_MASK, the mask stored. The instant armed is the one the registers hold then; the model keeps it
as the value at the write (`sys.atTime`). The present instant counts as past (DEDUCED, log entry 24). -/
def armApply (s : State) (t : Nat) : State :=
  if s.fld SYS_UPD_AT_MASK.MASK = 0 then s.setBit SYS_UPD_STAT.ARMED false
  else
    let s := { s with sys := { s.sys with atTenant := t, atTime := atTime s } }
    let s := s.setBit SYS_UPD_STAT.ARMED true
    if atTime s ≤ s.tim.now then s.setBit SYS_UPD_STAT.LATE_ARM true else s

/-- The armed apply fires (R124, R144): at its instant, or in the next TIME cycle where that is past. -/
def doTimedApplyFire (s : State) : State :=
  if s.running && s.bit SYS_UPD_STAT.ARMED then
    let s := s.advanceTo s.sys.atTime
    let m := s.fld SYS_UPD_AT_MASK.MASK
    let s := (s.setFld SYS_UPD_AT_MASK.MASK 0).setBit SYS_UPD_STAT.ARMED false
    applyGroups (s.setBit SYS_SVC_IRQ.UPD true) s.sys.atTenant m
  else s

/-! ### Resets by register (R154 to R156) -/

/-- A commit is in progress in Heartwood. -/
def commitOpen (s : State) : Bool := s.hwd.applying.isSome || !s.hwd.queue.isEmpty

/-- A 1 written to bit `u` of SYS_URST: nothing where that reset runs or waits; HWD waits for its commit, a port for the
completion of the request that it carries. -/
def urstBit (s : State) (u : Nat) : State :=
  if s.inUnitReset u || nbit s.sys.rstWait u then s
  else if u = 10 ∧ commitOpen s then { s with sys := { s.sys with rstWait := setBit s.sys.rstWait u } }
  else match s.sys.carrier with
    | some (x, id) =>
      if x < 2 ∧ u = 15 + x then
        { s with sys := { s.sys with rstWait := setBit s.sys.rstWait u, carry := s.sys.carry ++ [⟨u, x, id, false⟩] } }
      else payOwed (startUnitReset s u)
    | none => payOwed (startUnitReset s u)

/-- A write of SYS_URST. -/
def writeUrst (s : State) (v : Word) : State :=
  (List.range 23).foldl (fun s u => if nbit v.toNat u then urstBit s u else s) s

/-- A write of SYS_NODE_RST (R156): only the key requests a reset, after the completion of the write has left. -/
def writeNodeRst (s : State) (v : Word) : State :=
  if v ≠ 0x4E52 then s
  else match s.sys.carrier with
    | some (x, id) => { s with sys := { s.sys with carry := s.sys.carry ++ [⟨31, x, id, false⟩] } }
    | none => requestNodeReset s false

/-- A waiting reset of HWD starts once its commits have closed. -/
def releaseHwdReset (s : State) : State :=
  if nbit s.sys.rstWait 10 && !commitOpen s then
    startUnitReset { s with sys := { s.sys with rstWait := clrBit s.sys.rstWait 10 } } 10
  else s

/-- Resets that waited start: those that `p` picks. -/
def releaseWaiting (s : State) (p : Carried → Bool) : State :=
  let go := s.sys.carry.filter p
  let s := { s with sys := { s.sys with carry := s.sys.carry.filter fun c => !p c } }
  go.foldl (fun (s : State) (c : Carried) =>
    if c.unit = 31 then requestNodeReset s false
    else startUnitReset { s with sys := { s.sys with rstWait := clrBit s.sys.rstWait c.unit } } c.unit) s

/-- The completion of trunk request `id` has left the port: resets that waited for it start (R154, R156). -/
def releaseCarried (s : State) (id : Nat) : State := payOwed (releaseWaiting s fun c => c.port < 2 && c.id == id)

/-- Resets whose completion has been discarded, or whose service frame has ended, start. -/
def releaseGone (s : State) : State := payOwed (releaseWaiting s Carried.gone)

/-- A port may select again after its frame; resets that waited for the frame start. -/
def afterSend (s : State) (x : Nat) : State :=
  match (s.port x).tx with
  | some e => (match e.use with | .cpl _ _ id => releaseCarried s id | _ => s)
  | none => s

/-- Bits of SYS_URST_STAT at the end of the reset of unit `u`: GRV stays while another of its resets runs. -/
def endReset (s : State) (u : Nat) : State :=
  if u < 23 then s.setWord SYS_URST_STAT.addr (BitVec.ofNat 32 (clrBit (s.word SYS_URST_STAT.addr).toNat u))
  else if u = 25 ∨ u = 26 then
    s.setBit SYS_URST_STAT.GRV (nbit s.sys.unfencing (if u = 25 then 20 else 19))
  else s

/-- The fence that the reset of unit `u` lifts (R188). -/
def fenceOfReset (u : Nat) : Option Nat := (List.range 25).find? fun f => fenceToReset f == u

/-- The reset of a unit ends (R154); where it lifts a fence, the fence opens (R186). A port's lanes start again. -/
def doUnitResetEnd (u : Nat) (s : State) : State :=
  let lifts := (fenceOfReset u).any fun f => nbit s.sys.unfencing f
  if !s.running || !(if u < 23 then s.inUnitReset u else lifts) then s
  else
    let s := endReset s u
    let s := if lifts then (match fenceOfReset u with | some f => liftFence s f | none => s) else s
    if u = 15 ∨ u = 16 then restartPort s (u - 15)
    else if u = 24 then s.setWord SYS_SVC_CNT.addr 0 else s

end Sys2Proof.Machine
end

