-- ==== Sys2Proof/Machine/Bus.lean ====
section
/-! DEFINITION. Register accesses by a tenant: who may make them and when (R99, R130 to R136, R714), and what registers
with behaviour of their own do when they are read or written. -/

namespace Sys2Proof.Machine

/-! ### Judging an access -/

/-- The Grove block has one gate for the unit and one for the registers of each controller. -/
def grvGate (s : State) (o : Nat) : Bool :=
  if s.inUnitReset 19 && !s.grvResetsOne then false
  else if 0x1000 ≤ o && o < 0x2000 then s.up (fenceGRV 0)
  else if 0x2000 ≤ o && o < 0x3000 then s.up (fenceGRV 1)
  else true

/-- The unit of block `b` takes an access at offset `o`: neither fenced nor in reset (R99, R130). -/
def blockUp (s : State) (b o : Nat) : Bool :=
  match blockFence b with
  | some f => s.up f
  | none => if b = 0x1E then grvGate s o else true

/-- What may be read of the registers in SAFE (R354, R714). -/
def safeReg (a : Nat) : Bool :=
  let b := blockOf a
  b == 0 || b == 1 || b == 3 || a == HWD_STATUS.addr || a == HWD_EVT_HEAD.addr || a == HWD_EVT_SEQ.addr ||
    a == HWD_EVT_CNT.addr

/-- The permission entry of tenant `t` lets it read or write the block of `a` (R135). -/
def permits (s : State) (t a : Nat) (wr : Bool) : Bool :=
  let p := s.perm t (blockOf a)
  if wr then p == 3 else p != 0

/-- The status of an access at `a` in the unit register space (Table 14-2), and whether a refusal is raised; `ok` is the
judgement of the permission entry, `whole` that all four bytes of a word are enabled (R131). The tenant's permission is
judged first (R136), then what SAFE lets through (R714), the unit's gates (R130), and last the offset. An unassigned block
has no unit and takes no permission. DEDUCED, log entry 23. -/
def regJudge (s : State) (ok : Bool) (a : Nat) (wr : Bool) (whole : Bool := true) : Nat × Bool :=
  let b := blockOf a
  let known := !(blockRows b).isEmpty
  if !s.running then (3, false)
  else if known && !ok then (2, true)
  else if s.pwr.mode = .safe && (wr || !safeReg a) then (2, false)
  else if !blockUp s b (a % 0x10000) then (3, false)
  else if !known || !whole || a % 4 ≠ 0 || (findReg a).isNone then (1, true)
  else (0, false)

/-! ### Writes with behaviour of their own -/

/-- A field of a word that is being written. -/
def refField (f : FRef) (v : Word) : Nat := wordField v f.lo f.wid

/-- SYS and PWR. -/
def writeMode (s : State) (t a : Nat) (r : RegRow) (v : Word) : State :=
  if a = SYS_MODE_REQ.addr then
    let code := wordField v 0 4
    if code = 0 then plainWrite s r a (wordSet v 0 4 (s.fld SYS_MODE_REQ.TARGET)) else requestMode (plainWrite s r a v) t code
  else if a = SYS_UPD_APPLY.addr then applyGroups (plainWrite s r a v) t (wordField v 0 16)
  else if a = SYS_UPD_AT_MASK.addr then armApply (plainWrite s r a v) t
  else if a = SYS_URST.addr then writeUrst (plainWrite s r a v) v
  else if a = SYS_NODE_RST.addr then writeNodeRst s v
  else if a = PWR_WTIMER.addr 0 then (plainWrite s r a v).modPwr fun p => { p with wt0At := s.uptime }
  else if a = PWR_WTIMER.addr 1 then (plainWrite s r a v).modPwr fun p => { p with wt1At := s.uptime }
  else plainWrite s r a v

/-- The address in PWR_RMEM_ADDR moves on after an access (Table 03-26). -/
def rmemNext (s : State) : State :=
  if s.bit PWR_RMEM_ADDR.AUTOINC then s.setFld PWR_RMEM_ADDR.WADDR (s.fld PWR_RMEM_ADDR.WADDR + 1) else s

/-- The byte address of the Root memory word in hand. -/
def rmemByte (s : State) : Nat := 4 * s.fld PWR_RMEM_ADDR.WADDR

/-- A write of PWR_RMEM_DATA (R62). -/
def rmemWrite (s : State) (v : Word) : State :=
  rmemNext (if 0x19000 ≤ rmemByte s then s.setRword (rmemByte s) v else s)

/-- Bark. -/
def writeBrk (s : State) (a : Nat) (r : RegRow) (v : Word) : State :=
  let o := a % 0x10000
  if 0x10 ≤ o ∧ o < 0x1C then writeSticky (plainWrite s r a (v &&& r.rw)) ((o - 0x10) / 4) v
  else if a = BRK_UNFENCE.addr then payOwed (writeUnfence (plainWrite s r a v) v)
  else if a = BRK_INJ.addr then writeInj s v
  else if 0x100 ≤ o ∧ nbit (regWord s a).toNat 18 then setCopies s a ((regWord s a &&& ~~~ r.rw) ||| (v &&& r.rw))
  else plainWrite s r a v

/-- AFEn: a sticky sensor fault sets again while it lasts (R10). -/
def writeAfe (s : State) (n a : Nat) (r : RegRow) (v : Word) : State :=
  let s := plainWrite s r a v
  if a = AFE_SFLT_STICKY.addr n then
    (List.range 16).foldl (fun s c =>
      let f := s.fld (AFE_CH_STAT.SFLT n c)
      if f = 1 ∨ f = 2 then s.setBitAt (AFE_SFLT_STICKY.CH n) c true else s) s
  else s

/-- TCH: a write of an input's configuration (R231). -/
def writeTch (s : State) (a : Nat) (r : RegRow) (v : Word) : State :=
  let o := a % 0x10000
  let i := (o - 0x100) / 0x40
  if 0x100 ≤ o ∧ (o % 0x40 = 0 ∨ o % 0x40 = 4) then
    tachCfgWritten (plainWrite s r a v) i (s.word (TCH_CFG.addr i)) (s.word (TCH_DIV.addr i))
  else plainWrite s r a v

/-- A bough: parameter words that tuning may not change are discarded and counted (R233, R270), the alarm tile's AACK. -/
def writeBough (s : State) (b a : Nat) (r : RegRow) (v : Word) : State :=
  if r.rws ≠ 0 ∧ tuneRejected s a then s.count (CNP_TUNE_REJ.COUNT b)
  else if a = CNP_T_AACK.addr b 14 then writeAack s b v
  else plainWrite s r a v

/-- The record engine. -/
def writeRec (s : State) (t a : Nat) (r : RegRow) (v : Word) : State × Nat :=
  if a = REC_POST.addr then (if t ≠ 7 then (s, 4) else (postRecord (plainWrite s r a v) t (wordField v 0 14), 0))
  else if a = REC_CAP_TRIG.addr then
    ((List.range 32).foldl (fun s n => if nbit v.toNat n then triggerCapture s n else s) (plainWrite s r a v), 0)
  else (plainWrite s r a v, 0)

/-- BUF_CMD by tenant `t` (R308, R310); a refused free is one event of its source. -/
def bufCommand (s : State) (t op count buf : Nat) : State :=
  match op with
  | 1 => (bufAllocate s t (count + 1)).2
  | 2 | 3 =>
    let (st, s) := bufRelease s t buf (op == 3)
    if st = 2 then bark s Src.BUF_FOREIGN_FREE t else if st = 3 then bark s Src.BUF_DOUBLE_FREE t else s
  | _ => setBufResult s t 6 0 0

/-- The buffer manager. -/
def writeBuf (s : State) (t a : Nat) (r : RegRow) (v : Word) : State :=
  if a = BUF_PART.addr then (if nbit v.toNat 0 then partitionApply (plainWrite s r a v) (imgBusy s) else plainWrite s r a v)
  else if a = BUF_CMD.addr then bufCommand (plainWrite s r a v) t (wordField v 0 3) (wordField v 3 9) (wordField v 16 14)
  else plainWrite s r a v

/-- The transaction set that offset `o` of HWD lies in. -/
def txnSet (o : Nat) : Option Nat := if 0x100 ≤ o ∧ o < 0x200 then some ((o - 0x100) / 0x20) else none

/-- A write to the transaction registers of tenant `u`, which are its own. -/
def writeTxn (s : State) (u a : Nat) (r : RegRow) (v : Word) : State :=
  let s := plainWrite s r a v
  if a = HWD_TXN_CTRL.addr u then
    (match wordField v 0 2 with | 1 => doTxnOpen s u | 2 => doTxnCommit s u | 3 => doTxnAbort s u | _ => s)
  else if a = HWD_JE_GO.addr u ∧ nbit v.toNat 0 then doEntrySubmit s u
  else s

/-- Heartwood. -/
def writeHwd (s : State) (t a : Nat) (r : RegRow) (v : Word) : State × Nat :=
  match txnSet (a % 0x10000) with
  | some u => if u ≠ t then (s, 4) else (writeTxn s u a r v, 0)
  | none =>
    if a = HWD_KEYS_LOCK_SET.addr then
      (if s.bitAt HWD_WPERM.KEYLOCK t then (lockKeys (plainWrite s r a v) v, 0) else (s, 4))
    else if a = HWD_CONF_IADDR.addr then indAddrWrite s 2 t v
    else if a = HWD_CONF_IDATA.addr then indDataWrite s 2 t v
    else (plainWrite s r a v, 0)

/-- The crew cores (R368, R371). -/
def writeCrw (s : State) (a : Nat) (r : RegRow) (v : Word) : State × Nat :=
  let o := a % 0x10000
  let n := (o - 0x100) / 0x40
  if o < 0x100 then (plainWrite s r a v, 0)
  else match o % 0x40 with
    | 0x00 =>
      if !nbit v.toNat 0 then (plainWrite s r a v, 0)
      else if coreState s n = 0 && !s.fenced (fenceCRW n) && !s.inUnitReset (11 + n) && bootAddrOk n (s.fld (CRW_BOOT_ADDR.ADDR n)) then (startCore (plainWrite s r a v) n, 0)
      else (s, 4)
    | 0x04 => (plainWrite s r a (v &&& 0xFFFFFFFE), 0)
    | 0x0C =>
      let u := plainWrite s r a v
      (if !s.bit (CRW_WDOG.EN n) && u.bit (CRW_WDOG.EN n) then wdogNote u n 0 else u, 0)
    | 0x10 => (if v = 0x4B49 then wdogNote s n 0 else s, 0)
    | _ => (plainWrite s r a v, 0)

/-- A trunk port: its enable and RETRAIN (R420), its lanes (R401). -/
def writeTk (s : State) (x a : Nat) (r : RegRow) (v : Word) : State :=
  let s' := plainWrite s r a v
  if a = TK_CTRL.addr x then
    let s' := if s'.bit (TK_CTRL.EN x) = s.bit (TK_CTRL.EN x) then s' else portEnChanged s' x
    if nbit v.toNat 1 && portOn s' x then retrain s' x else s'
  else if a = TK_LANE_CFG.addr x 0 ∨ a = TK_LANE_CFG.addr x 1 then
    if s'.word a = s.word a then s' else laneCfgChanged s' x (if a = TK_LANE_CFG.addr x 0 then 0 else 1)
  else s'

/-- Tenants: mailboxes (R466), request slots (R467). -/
def writeTen (s : State) (t a : Nat) (r : RegRow) (v : Word) : State × Nat :=
  let o := a % 0x10000
  if 0x400 ≤ o ∧ o < 0x500 ∧ o % 0x40 = 0x28 then (popMailbox (plainWrite s r a v) ((o - 0x400) / 0x40) v, 0)
  else if 0x800 ≤ o ∧ o < 0x880 then
    if o % 0x20 = 0 then hrqWrite s t ((o - 0x800) / 0x20) v
    else if t ≠ 7 then (s, 4) else (plainWrite s r a v, 0)
  else if a = TEN_IRQ.addr then (mailboxFlags (plainWrite s r a v), 0)
  else (plainWrite s r a v, 0)

/-- The rack bridge. -/
def writeCrb (s : State) (t a : Nat) (r : RegRow) (v : Word) : State × Nat :=
  if a = CRB_LVEC_POP.addr then (popLvec (plainWrite s r a v) v, 0)
  else if a = CRB_OUTIRQ_SET.addr then crbOutirq (plainWrite s r a v) t v
  else (plainWrite s r a v, 0)

/-- The Grove. -/
def writeGrv (s : State) (t a : Nat) (r : RegRow) (v : Word) : State × Nat :=
  if a = GRV_SAP_IADDR.addr then indAddrWrite s 0 t v
  else if a = GRV_SAP_IDATA.addr then indDataWrite s 0 t v
  else if a = GRV_SCHED_IADDR.addr then indAddrWrite s 1 t v
  else if a = GRV_SCHED_IDATA.addr then indDataWrite s 1 t v
  else if a = GRV_CMD.addr 0 then (grvCommand (plainWrite s r a v) 0 (refField (GRV_CMD.OP 0) v), 0)
  else if a = GRV_CMD.addr 1 then (grvCommand (plainWrite s r a v) 1 (refField (GRV_CMD.OP 1) v), 0)
  else (plainWrite s r a v, 0)

/-- The motion controller. -/
def writeMot (s : State) (a : Nat) (r : RegRow) (v : Word) : State :=
  let n := a % 0x10000 / 0x100 - 1
  if 0x100 ≤ a % 0x10000 ∧ a = MOT_CMD.addr n then motCommand (plainWrite s r a v) n (refField (MOT_CMD.OP n) v)
  else plainWrite s r a v

/-- The drive stage. -/
def writeDrv (s : State) (t a : Nat) (r : RegRow) (v : Word) : State × Nat :=
  if a = DRV_FAULT.addr then (payOwed (writeDrvFault (plainWrite s r a (v &&& r.rw)) v), 0)
  else if a = DRV_TRIP_CLR.addr then
    (if nbit v.toNat DRV_TRIP_CLR.STOP.lo then tripClear (plainWrite s r a v) DRV_TRIP.STOP else plainWrite s r a v, 0)
  else if a = DRV_TBL_IADDR.addr then indAddrWrite s 3 t v
  else if a = DRV_TBL_IDATA.addr then indDataWrite s 3 t v
  else (plainWrite s r a v, 0)

/-- The check-value engines: DATA8, DATA16, DATA32 (R164). -/
def writeCrc (s : State) (a : Nat) (r : RegRow) (v : Word) : State :=
  let n := a % 0x10000 / 0x40
  match a % 0x40 with
  | 0x10 => crcFeed s n 1 v
  | 0x14 => crcFeed s n 2 v
  | 0x18 => crcFeed s n 4 v
  | _ => plainWrite s r a v

/-- The enclave. -/
def writeSec (s : State) (t a : Nat) (r : RegRow) (v : Word) : State × Nat :=
  if a = SEC_IMG_CTRL.addr then
    let s := plainWrite s r a v
    (if nbit v.toNat 31 then startImgOp s t (wordField v 0 4) (wordField v 4 2) (wordField v 8 3) else s, 0)
  else if a = SEC_TKEY_DATA.addr then tkeyData s t v
  else if a = SEC_TKEY_CTRL.addr then tkeyCtrl s t v
  else (plainWrite s r a v, 0)

/-- A write that is let through, with the status the target answers. -/
def writeReg (s : State) (t a : Nat) (r : RegRow) (v : Word) : State × Nat :=
  match blockOf a with
  | 0x00 => (writeMode s t a r v, 0)
  | 0x01 => (if a = PWR_RMEM_DATA.addr then rmemWrite s v else writeMode s t a r v, 0)
  | 0x02 => (if a = TIM_CTRL.addr then timCtrlWritten (plainWrite s r a v) v else plainWrite s r a v, 0)
  | 0x03 => (writeBrk s a r v, 0)
  | 0x04 => (writeAfe s 0 a r v, 0)
  | 0x05 => (writeAfe s 1 a r v, 0)
  | 0x06 => (writeTch s a r v, 0)
  | 0x08 => (writeBough s 0 a r v, 0)
  | 0x09 => (writeBough s 1 a r v, 0)
  | 0x0A => (writeBough s 2 a r v, 0)
  | 0x0B => (writeBough s 3 a r v, 0)
  | 0x10 => writeRec s t a r v
  | 0x11 => (writeBuf s t a r v, 0)
  | 0x12 => writeHwd s t a r v
  | 0x14 => writeCrw s a r v
  | 0x18 => (writeTk s 0 a r v, 0)
  | 0x19 => (writeTk s 1 a r v, 0)
  | 0x1B => writeTen s t a r v
  | 0x1C => writeCrb s t a r v
  | 0x1E => writeGrv s t a r v
  | 0x20 => (writeMot s a r v, 0)
  | 0x21 => writeDrv s t a r v
  | 0x22 => (writeCrc s a r v, 0)
  | 0x23 => writeSec s t a r v
  | _ => (plainWrite s r a v, 0)

/-! ### Reads with behaviour of their own -/

/-- The indirect port whose IADDR (false) or IDATA (true) is at `a`. -/
def portAt (a : Nat) : Option (Nat × Bool) :=
  if a = GRV_SAP_IADDR.addr then some (0, false) else if a = GRV_SAP_IDATA.addr then some (0, true)
  else if a = GRV_SCHED_IADDR.addr then some (1, false) else if a = GRV_SCHED_IDATA.addr then some (1, true)
  else if a = HWD_CONF_IADDR.addr then some (2, false) else if a = HWD_CONF_IDATA.addr then some (2, true)
  else if a = DRV_TBL_IADDR.addr then some (3, false) else if a = DRV_TBL_IDATA.addr then some (3, true)
  else none

/-- A read that is let through: the word, and the status the target answers. -/
def readReg (s : State) (t a : Nat) (r : RegRow) : State × Nat × Word :=
  match portAt a with
  | some (p, true) =>
    let (s, w, st) := indDataRead s p t
    (s, st, w)
  | some (p, false) => if indForeign s p t then (s, 4, 0) else let (s, w) := plainRead s t a r; (s, 0, w)
  | none =>
    if a = PWR_RMEM_DATA.addr then (rmemNext s, 0, s.rword (rmemByte s))
    else if (a = SEC_TKEY_DATA.addr ∨ a = SEC_TKEY_CTRL.addr) ∧ t < 6 then (s, 4, 0)
    else if (blockOf a = 0x12 && (txnSet (a % 0x10000)).any (· != t)) then (s, 4, 0)
    else let (s, w) := plainRead s t a r; (s, 0, w)

/-! ### The register interface -/

/-- An access of fewer than four bytes: nothing is performed (R131). -/
def regPart (s : State) (t : Nat) (ok : Bool) (a : Nat) (wr : Bool) : State × Nat :=
  let j := regJudge s ok a wr false
  (if j.2 then raiseRefusal s t j.1 else s, j.1)

/-- A 32-bit write of the register at `a` for tenant `t`, permitted or not, with its status. -/
def regWrite (s : State) (t : Nat) (ok : Bool) (a : Nat) (v : Word) : State × Nat :=
  let j := regJudge s ok a true
  if j.1 ≠ 0 then (if j.2 then raiseRefusal s t j.1 else if ok then refusedTxn s t a v else s, j.1)
  else match findReg a with
    | some r =>
      let x := writeReg s t a r v
      (wakeCores x.1, x.2)
    | none => (s, 1)

/-- A 32-bit read of the register at `a` for tenant `t`; where it fails the word is 0 and nothing clears (R130, R136). -/
def regRead (s : State) (t : Nat) (ok : Bool) (a : Nat) : State × Nat × Word :=
  let j := regJudge s ok a false
  if j.1 ≠ 0 then (if j.2 then raiseRefusal s t j.1 else s, j.1, 0)
  else match findReg a with
    | some r => readReg s t a r
    | none => (s, 1, 0)

/-- A write by tenant `t`, judged now (R131 to R136). -/
def busWrite (s : State) (t a : Nat) (v : Word) : State × Nat := regWrite s t (permits s t a true) a v

/-- A read by tenant `t`, judged now. -/
def busRead (s : State) (t a : Nat) : State × Nat × Word := regRead s t (permits s t a false) a

/-- Leave the answer of an access where commands leave it. -/
def State.answer (s : State) (t st : Nat) (d : List Word) : State :=
  { s with rsp := { tenant := t, status := st, data := d } }

/-- A register write as a command. -/
def doWrite (s : State) (t a : Nat) (v : Word) : State :=
  let x := busWrite s t a v
  x.1.answer t x.2 []

/-- A register read as a command. -/
def doRead (s : State) (t a : Nat) : State :=
  let x := busRead s t a
  x.1.answer t x.2.1 [x.2.2]

end Sys2Proof.Machine
end

