-- ==== Sys2Proof/Machine/Service.lean ====
section
/-! DEFINITION. The service port: frames of words, reached as tenant SVC (R158 to R163). -/

namespace Sys2Proof.Machine

/-- Status of a word access by tenant `t` at internal address `a`, to a register or to memory (R128, R462); a word of memory
comes back as `ecc` says. The rack outbound window space is not reached here. -/
def wordRead (s : State) (t a ecc : Nat) : State × Nat × Word :=
  match rowOf a 4 with
  | some .regs => busRead s t a
  | some .rack => (s, 0, 0)
  | some r =>
    if !s.running then (s, 3, 0)
    else
      let (s, st, bs) := memReadEcc s t (winAllows s t a 4 false) r a 4 [Fin.ofNat 3 ecc]
      (s, st, BitVec.ofNat 32 (leNat bs))
  | none => let (s, st) := decodeRefusal s t; (s, st, 0)

def wordWrite (s : State) (t a : Nat) (v : Word) : State × Nat :=
  match rowOf a 4 with
  | some .regs => busWrite s t a v
  | some .rack => (s, 0)
  | some r =>
    if !s.running then (s, 3)
    else memWrite s t (winAllows s t a 4 true) r a ((toLE 4 v.toNat).map fun b => (true, b))
  | none => decodeRefusal s t

/-- The service port is active: enabled by its strap, not fenced, in a mode with the rails on, before the commit point of a
HOLDUP (Table 02-5). -/
def svcActive (s : State) : Bool :=
  s.bit SYS_STRAP.SVC_EN && s.up fenceSVCP && !(s.pwr.mode == .holdup && s.pwr.committed)

/-- A fall of SVC_CS_N while the port is active: it listens again (R161), and a frame in hand has been abandoned. -/
def svcListen (s : State) : State :=
  let s := if s.sys.svc.isSome then bark ((svcRelease s).modMot fun m => { m with owed := s.mot.owed }) Src.SVC_PROTO else s
  { s with sys := { s.sys with svcIgnored := false, svcNo := s.sys.svcNo + 1 } }

/-- Addresses of the words of a frame (R158). -/
def svcAddrs (fixed : Bool) (a n : Nat) : List Nat := (List.range n).map fun i => if fixed then a else a + 4 * i

/-- The address lies in the rack outbound window space. -/
def onRack (a : Nat) : Bool := 0x100000000 ≤ a && a < 0x101000000

/-- What an access of a frame comes to: performed with its status and word, or waiting at the rack bridge. -/
inductive SvcAns where
  | ended (st : Nat) (w : Word)
  | waits
  deriving DecidableEq, Repr

/-- One word of a frame: `v` to write or none to read. A write of SYS_NODE_RST waits for the frame's status byte (R156). -/
def svcWord (s : State) (a : Nat) (v : Option Word) (ecc : Nat) : State × SvcAns :=
  if onRack a then
    if s.pwr.mode = .safe then (s, .ended 2 0)
    else if !winAllows s 6 a 4 v.isSome then (raiseRefusal s 6 2, .ended 2 0)
    else
      let (s, ans) := crbSubmit s (.svc s.sys.svcNo) 6 (a - 0x100000000) true (List.replicate 4 true) (v.map fun w => toLE 4 w.toNat)
      match ans with
      | .refused st => (raiseRefusal s 6 st, .ended st 0)
      | .performed => (s, .ended 0 0)
      | .waits => (s, .waits)
  else match v with
    | some w =>
      let (s, st) := wordWrite { s with sys := { s.sys with carrier := some (2, s.sys.svcNo) } } 6 a w
      ({ s with sys := { s.sys with carrier := none } }, .ended st 0)
    | none => let (s, st, w) := wordRead s 6 a ecc; (s, .ended st w)

/-- The words of a frame in order, each a read (none) or a write with the outcome of its memory word; `data` holds what has been read. From the first that fails on
nothing more is performed (R132, R160); a word that waits at the bridge leaves the rest for later. -/
def svcGo (s : State) (wr : Bool) (data : List Word) : List (Nat × Option Word) → List (Fin 3) → State
  | [], _ => svcFinish s wr data 0 0
  | (a, v) :: rest, ecc =>
    match svcWord s a v (ecc.headD 0).val with
    | (s, .ended st w) =>
      if st ≠ 0 then svcFinish s wr data (rest.length + 1) st
      else svcGo s wr (if wr then data else data ++ [w]) rest ecc.tail
    | (s, .waits) => { s with sys := { s.sys with svc := some { wr := wr, left := rest, data := data } } }

/-- The frame in hand goes on once its word at the bridge has ended (log entry 26). -/
def svcTick (s : State) : State :=
  match s.sys.svc with
  | some f =>
    if s.crb.q.any fun r => r.src == .svc s.sys.svcNo then s
    else svcGo { s with sys := { s.sys with svc := none } } f.wr f.data f.left []
  | none => s

/-- An invalid frame (R161): nothing is performed, ERR counts it. -/
def doSvcInvalidFrame (s : State) : State :=
  if svcActive s then bark ((svcListen s).count SYS_SVC_CNT.ERR) Src.SVC_PROTO else s

/-- What becomes of each word of a frame: corrected where `cor` has its bit, lost where `lost` has (R335). -/
def eccMasks (cor lost : BitVec 32) : List (Fin 3) :=
  (List.range 32).map fun k => if lost.getLsbD k then 2 else if cor.getLsbD k then 1 else 0

/-- A READ frame of `n` words (R159), each word of memory coming back as its entry of `ecc` says. -/
def doSvcReadFrame (fixed : Bool) (a n : Nat) (ecc : List (Fin 3)) (s : State) : State :=
  if !svcActive s then s
  else if a % 4 ≠ 0 then doSvcInvalidFrame s
  else svcGo (svcListen s) false [] ((svcAddrs fixed a n).map fun a => (a, none)) ecc

/-- The words of a WRITE frame. -/
def svcPairs (fixed : Bool) (a : Nat) (ws : List Word) : List (Nat × Option Word) :=
  (svcAddrs fixed a ws.length).zip (ws.map some)

/-- A WRITE frame of 1 to 32 words (R159). -/
def doSvcWriteFrame (fixed : Bool) (a : Nat) (ws : List Word) (s : State) : State :=
  if !svcActive s then s
  else if a % 4 ≠ 0 then doSvcInvalidFrame s
  else svcGo (svcListen s) true [] (svcPairs fixed a ws) []

/-- Accesses of a frame that is then cut short: in order, up to the first that fails or waits at the bridge. -/
def svcPart (s : State) : List (Nat × Option Word) → State
  | [] => s
  | (a, v) :: rest =>
    match svcWord s a v 0 with
    | (s, .ended st _) => if st ≠ 0 then s else svcPart s rest
    | (s, .waits) => s

/-- A valid frame ends before its status byte (R161): the accesses already performed stand, `ws` of a WRITE or the first
`n` words of a READ; ABORT counts it. A frame in hand at the rack bridge is the one that ends. Where the port is not active
nothing has been received. -/
def doSvcFrameAbort (fixed : Bool) (a : Nat) (part : SvcPart) (s : State) : State :=
  if !svcActive s || a % 4 ≠ 0 then s
  else if s.sys.svc.isSome then svcListen s
  else
    let l := match part with
      | .reads n => (svcAddrs fixed a n.val).map fun a => (a, none)
      | .writes ws => svcPairs fixed a (ws.take 32)
    let s := svcPart (svcListen s) l
    let c := s.sys.carry.map fun c => if c.port = 2 then { c with gone := true } else c
    bark ({ s with sys := { s.sys with carry := c } }.count SYS_SVC_CNT.ABORT) Src.SVC_PROTO

end Sys2Proof.Machine
end

