-- ==== Sys2Proof/Machine/CrewBus.lean ====
section
/-! DEFINITION. What a crew core reaches (Table 12-2), its posted stores, error-corrected words, debug triggers. -/

namespace Sys2Proof.Machine

/-! ### The core address map -/

/-- What a row of Table 12-2 reaches. -/
inductive Reach where
  | memory | heartwood | registers | rack | plic | aclint
  deriving DecidableEq, Repr

/-- A row of Table 12-2: first address, length, what it reaches. -/
structure CoreRow where
  lo : Nat
  len : Nat
  dest : Reach
  deriving DecidableEq, Repr

def coreRows : List CoreRow :=
  [⟨0, 0x4000000, .memory⟩, ⟨0x10000000, 0x1000000, .heartwood⟩, ⟨0x20000000, 0x100000, .memory⟩] ++
  ((List.range 4).flatMap fun n => [⟨itcm n, 0x10000, .memory⟩, ⟨dtcm n, 0x10000, .memory⟩]) ++
  [⟨0x40000000, 0x400000, .registers⟩, ⟨0x80000000, 0x1000000, .rack⟩, ⟨0xC0000000, 0x4000000, .plic⟩,
   ⟨0xC4000000, 0x4000, .aclint⟩, ⟨0xC4004000, 0x8000, .aclint⟩]

/-- The row that holds address `a`. -/
def coreRow (a : Nat) : Option CoreRow := coreRows.find? fun r => r.lo ≤ a && a < r.lo + r.len

/-- The privilege of data accesses: MPRV takes MPP's, but not in Debug Mode. -/
def dataUser (s : State) (n : Nat) : Bool :=
  if csrFld s n csrMstatus 17 1 = 1 ∧ !(coreOf s n).user ∧ (coreOf s n).prog.isNone then csrFld s n csrMstatus 11 2 != 3 else (coreOf s n).user

/-- The accesses that a load or store of `len` bytes at `a` is performed as: two where it is misaligned, split at the next
multiple of its length (R362, log entry 42). -/
def accessParts (a len : Nat) : List (Nat × Nat) :=
  let b := (a / len + 1) * len
  if a % len = 0 then [(a, len)] else [(a, b - a), (b, a + len - b)]

/-- What a load or store of `len` bytes at `a` meets before it is performed: the row, or the exception (R362, R363,
R395). -/
def dataCheck (s : State) (n a len : Nat) (wr : Bool) : Except Nat CoreRow :=
  match coreRow a with
  | none => .error (if wr then 7 else 5)
  | some r =>
    if r.dest ≠ .memory ∧ a % len ≠ 0 then .error (if wr then 6 else 4)
    else if r.lo + r.len < a + len ∨ !((accessParts a len).all fun p => pmpAllows s n p.1 p.2 (b2n wr) (dataUser s n)) then
      .error (if wr then 7 else 5)
    else .ok r

/-- The same for LR (`wr` false), SC and AMO, which reach memory alone. An AMO needs both permissions. -/
def atomCheck (s : State) (n a : Nat) (rd wr : Bool) : Except Nat CoreRow :=
  if a % 4 ≠ 0 then .error (if wr then 6 else 4)
  else match coreRow a with
    | none => .error (if wr then 7 else 5)
    | some r =>
      if r.dest ≠ .memory ∨ (rd ∧ !pmpAllows s n a 4 0 (dataUser s n)) ∨ (wr ∧ !pmpAllows s n a 4 1 (dataUser s n)) then
        .error (if wr then 7 else 5)
      else .ok r

/-! ### Memory as a core reaches it -/

/-- `a` lies in a TCM of core `n`. -/
def ownTcm (n a : Nat) : Bool := itcm n ≤ a && a < itcm n + 0x20000

/-- One access that reads `len` bytes of memory: its own TCMs directly, the rest over the interconnect as LOCAL (R363). -/
def coreRead1 (s : State) (n a len : Nat) : State × Nat × List Byte :=
  if ownTcm n a then (s, 0, s.bytes a len)
  else match rowOf a len with
    | some r => memRead s 7 (winAllows s 7 a len false) r a len
    | none => (s, 1, List.replicate len 0)

def coreWrite1 (s : State) (n a : Nat) (bs : List Byte) : State × Nat :=
  if ownTcm n a then (s.store a bs, 0)
  else match rowOf a bs.length with
    | some r => memWrite s 7 (winAllows s 7 a bs.length true) r a (bs.map fun b => (true, b))
    | none => (s, 1)

/-- Accesses in order up to the first that fails. -/
def coreReads (s : State) (n : Nat) : List (Nat × Nat) → State × Nat × List Byte
  | [] => (s, 0, [])
  | (a, len) :: rest =>
    let (s, st, bs) := coreRead1 s n a len
    if st ≠ 0 then (s, st, [])
    else
      let (s, st, more) := coreReads s n rest
      (s, st, bs ++ more)

def coreWrites (s : State) (n : Nat) (bs : List Byte) : List (Nat × Nat) → State × Nat
  | [] => (s, 0)
  | (a, len) :: rest =>
    let (s, st) := coreWrite1 s n a (bs.take len)
    if st ≠ 0 then (s, st) else coreWrites s n (bs.drop len) rest

/-- A load's read of `len` bytes, and a store's write (R362). -/
def coreMemRead (s : State) (n a len : Nat) : State × Nat × List Byte := coreReads s n (accessParts a len)

def coreMemWrite (s : State) (n a : Nat) (bs : List Byte) : State × Nat := coreWrites s n bs (accessParts a bs.length)

/-! ### Posted stores (R391, R392) -/

/-- A core's I/O store is performed, with its status; `none` where it waits at the rack bridge. -/
def ioStore (s : State) (n : Nat) (pc : Word) (a : Nat) (bs : List Byte) : State × Option Nat :=
  let v : Word := BitVec.ofNat 32 (leNat bs)
  match coreRow a with
  | none => let (s, st) := decodeRefusal s 7; (s, some st)
  | some r =>
    match r.dest with
    | .registers =>
      if bs.length = 4 then
        let (s, st) := busWrite s 7 a v
        (s, some st)
      else let (s, st) := regPart s 7 (permits s 7 a true) a true; (s, some st)
    | .heartwood | .memory =>
      let (s, st) := coreMemWrite s n a bs
      (s, some st)
    | .plic => if bs.length = 4 then (wakeCores (plicWrite s (a - 0xC0000000) v), some 0) else (s, some 1)
    | .aclint => if bs.length = 4 then (aclintWrite s (a - 0xC4000000) v, some 0) else (s, some 1)
    | .rack =>
      if s.pwr.mode = .safe then (s, some 2)
      else if !winAllows s 7 (a + 0x80000000) bs.length true then (raiseRefusal s 7 2, some 2)
      else
        let (s, ans) := crbSubmit s (.store n pc a) 7 (a - 0x80000000) false (List.replicate bs.length true) (some bs)
        match ans with
        | .refused st => (raiseRefusal s 7 st, some st)
        | .performed => (s, some 0)
        | .waits => (s, none)

/-- Perform the oldest posted store; the Bool says that the core takes a fault for it. -/
def drainOne (s : State) (n : Nat) : State × Bool :=
  match (coreOf s n).sb with
  | [] => (s, false)
  | (pc, a, bs) :: rest =>
    let (s, st) := ioStore (modCore s n fun c => { c with sb := rest }) n pc a bs
    match st with
    | some st => if st ≠ 0 then (postedFault s n pc a, coreState s n == 1 || coreState s n == 2) else (s, false)
    | none => (s, false)

/-- Perform posted stores until none is left or one faults. -/
def drainStores : Nat → State → Nat → State × Bool
  | 0, s, _ => (s, false)
  | fuel + 1, s, n =>
    if (coreOf s n).sb.isEmpty then (s, false)
    else
      let (s, f) := drainOne s n
      if f then (s, true) else drainStores fuel s n

/-- Drain the whole buffer, which holds 8 stores. -/
def drainAll (s : State) (n : Nat) : State × Bool := drainStores 8 s n

/-- A store of core `n` has reached the rack bridge and is not answered. -/
def storeAtRack (s : State) (n : Nat) : Bool :=
  s.crb.q.any fun r => !r.performed && (match r.src with | .store m _ _ => m == n | _ => false)

/-- A load of core `n` waits at the rack bridge. -/
def loadAtRack (s : State) (n : Nat) : Bool :=
  s.crb.q.any fun r => match r.src with | .load m _ _ _ _ => m == n | _ => false

/-- Between commands each core's oldest posted store is performed. -/
def storesTick (s : State) : State :=
  if s.running then (List.range 4).foldl (fun s n => if coreState s n = 4 then s else (drainOne s n).1) s else s

/-! ### Debug Mode and triggers (R396) -/

/-- Enter Debug Mode for `cause`; posted stores are performed first. -/
def debugEnter (s : State) (n cause : Nat) : State :=
  let s := noteCycles (drainAll s n).1 n
  setCoreState (modCore s n fun c => { c with dpc := c.pc, dcause := cause }) n 3

/-- A trigger fires: Debug Mode, or the breakpoint exception. -/
def trigFire (s : State) (n act a : Nat) : State :=
  if act = 1 then debugEnter s n 2 else raiseExc s n 3 (BitVec.ofNat 32 a)

/-! ### Executing an instruction -/

/-- The line of the prefetch buffer that holds address `a`. -/
def prefLine (s : State) (n a : Nat) : Option (List Byte) :=
  ((coreOf s n).pref.find? fun p => p.1 == a / 32 * 32).map (·.2)

/-- The byte at `a` as core `n` fetches it: a line of L2 in its prefetch buffer stands until FENCE.I (R364). -/
def fetchByte (s : State) (n a : Nat) : Byte :=
  match prefLine s n a with
  | some bs => bs.getD (a % 32) 0
  | none => s.byte a

def fetchBytes (s : State) (n a k : Nat) : List Byte := (List.range k).map fun i => fetchByte s n (a + i)

/-- The line of L2 around `a` is in the prefetch buffer of 8 lines, or is read into it as LOCAL; its words come back as `ecc`
says. -/
def fetchLine (s : State) (n a ecc : Nat) : State × Bool :=
  if (prefLine s n a).isSome then (s, true)
  else
    let l := a / 32 * 32
    let (s, st, bs) := memReadEcc s 7 (winAllows s 7 l 32 false) .l2 l 32 [Fin.ofNat 3 ecc]
    if st ≠ 0 then (s, false) else (modCore s n fun c => { c with pref := ((l, bs) :: c.pref).take 8 }, true)

/-- A fetch of `len` bytes at pc is possible (R364, R395): the core's own I-TCM, or L2 as LOCAL. What is read comes back as
`ecc` says. -/
def fetchAt (s : State) (n len ecc : Nat) : State × Bool :=
  let s := modCore s n fun c => { c with ilen := len }
  let a := (coreOf s n).pc.toNat
  if !((List.range (len / 2)).all fun i => pmpAllows s n (a + 2 * i) 2 2 (coreOf s n).user) then (s, false)
  else if itcm n ≤ a ∧ a + len ≤ dtcm n then
    let (s, st) := eccRead s a ecc
    (s, st == 0)
  else if Row.l2.holds a len then
    let (s, ok) := fetchLine s n a ecc
    if ok then fetchLine s n (a + len - 1) 0 else (s, false)
  else (s, false)

/-- A halt that has waited for a load at the rack enters Debug Mode; before any interrupt (Table 12-7). -/
def haltNow (s : State) (n : Nat) : State :=
  match (coreOf s n).halt with
  | some c =>
    if wdogRuns s n && !loadAtRack s n then
      let s := modCore s n fun k => { k with halt := none }
      if s.bitAt CRW_DBG.EN n then debugEnter s n c else s
    else s
  | none => s

/-- Core `n` runs and no load of it waits at the rack. -/
def coreRuns (s : State) (n : Nat) : Bool := s.running && coreState s n == 1 && !loadAtRack s n

/-- With dcsr.step the core halts after one instruction; one that waits at the rack halts it once it has ended. -/
def stepHalt (s : State) (n : Nat) : State :=
  if stepping s n && wdogRuns s n then
    if loadAtRack s n then modCore s n fun c => { c with halt := some 4 } else debugEnter s n 4
  else s

/-- The bytes of an instruction: 2 for a compressed one (R360). -/
def instrLen (c : Bool) : Nat := if c then 2 else 4

/-- Core `n` executes an instruction of `len` bytes: fetch, triggers on its address and on its bytes, then `f`. -/
def onCore (n len : Nat) (s : State) (f : State → State) (ecc : Nat := 0) : State :=
  let s := haltNow s n
  if !coreRuns s n then s
  else
    let (s, ok) := fetchAt s n len ecc
    let pc := (coreOf s n).pc
    stepHalt (if !ok then raiseExc s n 1 pc
      else match trigHit s n 2 pc.toNat (some (leNat (fetchBytes s n pc.toNat len))) with
        | some act => trigFire s n act pc.toNat
        | none => f s) n

/-- The current instruction is illegal. -/
def illegal (s : State) (n : Nat) : State := raiseExc s n 2 0

/-- The address of a load or store. -/
def coreAddr (s : State) (n rs1 : Nat) (imm : BitVec 12) : Nat := (xreg s n rs1 + imm.signExtend 32).toNat

/-- A loaded value goes to its register. -/
def loadDone (s : State) (n rd len : Nat) (uns : Bool) (bs : List Byte) : State :=
  let v := leNat (bs.take len)
  retire (setX s n rd (BitVec.ofNat 32 (if uns then v else ofSigned 32 (toSigned (8 * len) v)))) n

/-- A load or its failure: an access fault for any other status (R99, R130). -/
def loadEnd (s : State) (n rd a len : Nat) (uns : Bool) (st : Nat) (bs : List Byte) : State :=
  if st ≠ 0 then raiseExc s n 5 (BitVec.ofNat 32 a)
  else match trigHit s n 0 a (some (leNat bs)) with
    | some act => trigFire s n act a
    | none => loadDone s n rd len uns bs

/-- A load from memory or the Heartwood window. -/
def memLoad (s : State) (n rd a len : Nat) (uns : Bool) (ecc : Nat) : State :=
  let (s, st, bs) := coreMemRead s n a len
  if st ≠ 0 then loadEnd s n rd a len uns st bs
  else
    let (s, st) := eccRead s a ecc
    loadEnd s n rd a len uns st bs

/-- A load from the I/O region, earlier posted stores performed first (R391). -/
def ioLoad (s : State) (n rd a k : Nat) (uns : Bool) (ecc : Nat) (r : CoreRow) : State :=
  let len := 2 ^ k
  let (s, faulted) := drainAll s n
  if faulted then s
  else match r.dest with
    | .registers =>
      if len = 4 then
        let (s, st, w) := busRead s 7 a
        loadEnd s n rd a len uns st (toLE 4 w.toNat)
      else let (s, st) := regPart s 7 (permits s 7 a false) a false; loadEnd s n rd a len uns st []
    | .heartwood | .memory => memLoad s n rd a len uns ecc
    | .plic =>
      if len = 4 then
        let (w, s) := plicRead s (a - 0xC0000000)
        loadEnd s n rd a len uns 0 (toLE 4 w.toNat)
      else loadEnd s n rd a len uns 1 []
    | .aclint =>
      if len = 4 then loadEnd s n rd a len uns 0 (toLE 4 (aclintRead s (a - 0xC4000000)).toNat)
      else loadEnd s n rd a len uns 1 []
    | .rack =>
      if s.pwr.mode = .safe then loadEnd s n rd a len uns 2 []
      else if !winAllows s 7 (a + 0x80000000) len false then loadEnd (raiseRefusal s 7 2) n rd a len uns 2 []
      else
        let (s, ans) := crbSubmit s (.load n rd k uns a) 7 (a - 0x80000000) true (List.replicate len true) none
        match ans with
        | .refused st => loadEnd (raiseRefusal s 7 st) n rd a len uns st []
        | _ => s

end Sys2Proof.Machine
end

