-- ==== Sys2Proof/Machine/CrewCmds.lean ====
section
/-! DEFINITION. The crew cores' commands (chapter 12). -/

namespace Sys2Proof.Machine

/-! ### Loads, stores and fences -/

/-- R363, R365: load 2^`k` bytes. -/
def loadAt (n k : Nat) (uns : Bool) (rd rs1 : Nat) (imm : BitVec 12) (ecc : Nat) (s : State) : State :=
  let a := coreAddr s n rs1 imm
  let len := 2 ^ k
  match trigHit s n 0 a none with
  | some act => trigFire s n act a
  | none =>
    match dataCheck s n a len false with
    | .error c => raiseExc s n c (BitVec.ofNat 32 a)
    | .ok r => if r.dest = .memory then memLoad s n rd a len uns ecc else ioLoad s n rd a k uns ecc r

def doCoreLoad (n : Nat) (c : Bool) (k : Nat) (uns : Bool) (rd rs1 : Nat) (imm : BitVec 12) (ecc : Nat) (s : State) : State :=
  onCore n (instrLen c) s (loadAt n k uns rd rs1 imm ecc)

/-- Post a store; the buffer holds 8, and the oldest is performed for a ninth. -/
def postStore (s : State) (n a : Nat) (bs : List Byte) : State :=
  let (s, faulted) := if 8 ≤ (coreOf s n).sb.length then drainOne s n else (s, false)
  if faulted then s
  else
    let pc := (coreOf s n).pc
    retire (modCore s n fun c => { c with sb := c.sb ++ [(pc, a, bs)] }) n

/-- R390, R391: store the low 2^`k` bytes. -/
def storeAt (n k rs1 rs2 : Nat) (imm : BitVec 12) (s : State) : State :=
  let a := coreAddr s n rs1 imm
  let bs := toLE (2 ^ k) (xreg s n rs2).toNat
  match trigHit s n 1 a (some (leNat bs)) with
  | some act => trigFire s n act a
  | none =>
    match dataCheck s n a bs.length true with
    | .error c => raiseExc s n c (BitVec.ofNat 32 a)
    | .ok r =>
      if r.dest = .memory then
        let (s, st) := coreMemWrite s n a bs
        if st ≠ 0 then raiseExc s n 7 (BitVec.ofNat 32 a) else retire s n
      else postStore s n a bs

def doCoreStore (n : Nat) (c : Bool) (k rs1 rs2 : Nat) (imm : BitVec 12) (s : State) : State :=
  onCore n (instrLen c) s (storeAt n k rs1 rs2 imm)

/-- The store buffer drains, and a fence on outputs waits for stores at the rack (Table 12-6). -/
def fenceDrain (s : State) (n : Nat) (io : Bool) : State :=
  let (s, faulted) := drainAll s n
  if faulted || (io && storeAtRack s n) then s else retire s n

/-- Table 12-6. -/
def fenceAt (n : Nat) (tso : Bool) (pred succ : BitVec 4) (s : State) : State :=
  if tso then retire s n
  else if pred.getLsbD 3 || pred.getLsbD 2 then fenceDrain s n true
  else if pred.getLsbD 0 && succ.getLsbD 1 then fenceDrain s n false
  else retire s n

def doCoreFence (n : Nat) (tso : Bool) (pred succ : BitVec 4) (s : State) : State :=
  onCore n 4 s (fenceAt n tso pred succ)

/-- FENCE.I drains the store buffer and clears the prefetch buffer (Table 12-6). -/
def fenceIAt (n : Nat) (s : State) : State := fenceDrain (modCore s n fun c => { c with pref := [] }) n false

def doCoreFenceI (n : Nat) (s : State) : State := onCore n 4 s (fenceIAt n)

/-! ### Reservations and atomics (R393, R394) -/

/-- The granule of a reservation at `a`. -/
def granule (a : Nat) : Nat × Nat := if a < 0x4000000 then (a / 4096 * 4096, 4096) else (a / 64 * 64, 64)

/-- LR meets triggers on its address and on what it loads. -/
def lrAt (n rd rs1 ecc : Nat) (s : State) : State :=
  let a := (xreg s n rs1).toNat
  match trigHit s n 0 a none, atomCheck s n a true false with
  | some act, _ => trigFire s n act a
  | none, .error c => raiseExc s n c (BitVec.ofNat 32 a)
  | none, .ok _ =>
    let (s, st, bs) := coreMemRead s n a 4
    let (s, st) := if st ≠ 0 then (s, st) else eccRead s a ecc
    if st ≠ 0 then raiseExc s n 5 (BitVec.ofNat 32 a)
    else match trigHit s n 0 a (some (leNat bs)) with
      | some act => trigFire s n act a
      | none => loadDone { s with rsv := modAt s.rsv n fun _ => some (granule a) } n rd 4 false bs

def doCoreLr (n rd rs1 ecc : Nat) (s : State) : State :=
  onCore n 4 s (lrAt n rd rs1 ecc)

/-- An SC succeeds only while the core's reservation holds on its granule; it gives the reservation up either way. -/
def scAt (n rd rs1 rs2 : Nat) (s : State) : State :=
  let a := (xreg s n rs1).toNat
  match trigHit s n 1 a (some (xreg s n rs2).toNat), atomCheck s n a false true with
  | some act, _ => trigFire s n act a
  | none, .error c => raiseExc s n c (BitVec.ofNat 32 a)
  | none, .ok _ =>
    if s.rsv.getD n none = some (granule a) then
      let (s, st) := coreMemWrite s n a (toLE 4 (xreg s n rs2).toNat)
      if st ≠ 0 then raiseExc s n 7 (BitVec.ofNat 32 a) else retire (setX (dropRsv s n) n rd 0) n
    else retire (setX (dropRsv s n) n rd 1) n

def doCoreSc (n rd rs1 rs2 : Nat) (s : State) : State :=
  onCore n 4 s (scAt n rd rs1 rs2)

/-- The value an AMO stores: 0 SWAP, 1 ADD, 2 XOR, 3 AND, 4 OR, 5 MIN, 6 MAX, 7 MINU, 8 MAXU. -/
def amoOp (op : Nat) (m x : Word) : Word :=
  match op with
  | 0 => x
  | 1 => m + x
  | 2 => m ^^^ x
  | 3 => m &&& x
  | 4 => m ||| x
  | 5 => if m.slt x then m else x
  | 6 => if m.slt x then x else m
  | 7 => if m.ult x then m else x
  | _ => if m.ult x then x else m

/-- The trigger that an AMO meets: a load's or a store's, on its address, or on what it has loaded and will store. -/
def amoTrig (s : State) (n a : Nat) (ld st : Option Nat) : Option Nat :=
  match trigHit s n 0 a ld with
  | some act => some act
  | none => trigHit s n 1 a st

def amoAt (n op rd rs1 rs2 ecc : Nat) (s : State) : State :=
  let a := (xreg s n rs1).toNat
  match amoTrig s n a none none, atomCheck s n a true true with
  | some act, _ => trigFire s n act a
  | none, .error c => raiseExc s n c (BitVec.ofNat 32 a)
  | none, .ok _ =>
    let (s, st, bs) := coreMemRead s n a 4
    let (s, st) := if st ≠ 0 then (s, st) else eccRead s a ecc
    if st ≠ 0 then raiseExc s n 7 (BitVec.ofNat 32 a)
    else
      let m : Word := BitVec.ofNat 32 (leNat bs)
      let v := amoOp op m (xreg s n rs2)
      match amoTrig s n a (some m.toNat) (some v.toNat) with
      | some act => trigFire s n act a
      | none =>
        let (s, st) := coreMemWrite s n a (toLE 4 v.toNat)
        if st ≠ 0 then raiseExc s n 7 (BitVec.ofNat 32 a) else retire (setX s n rd m) n

def doCoreAmo (n op rd rs1 rs2 ecc : Nat) (s : State) : State :=
  onCore n 4 s (amoAt n op rd rs1 rs2 ecc)

/-! ### Interrupts and returns -/

/-- What is left of the watchdog's count of core `n`, in ns; MS = 0 acts as 1 (Table 12-12). -/
def wdogLeft (s : State) (n : Nat) : Nat := Nat.max 1 (s.fld (CRW_WDOG.MS n)) * 1000000 - wdogSpent s n

/-- R371: the watchdog of a running core counts out: the clock runs on to that instant, and the watchdog reloads. -/
def doWdogExpiry (n : Nat) (s : State) : State :=
  if s.running && s.bit (CRW_WDOG.EN n) && wdogRuns s n then
    let s := s.advanceTo (s.tim.now + wdogLeft s n)
    bark ((wdogNote s n 0).count (CRW_CNT.WDOG n)) Src.CRW_WDOG n
  else s

/-- R371: a core's write of mlkwdkick. -/
def doWdogKickCsr (n : Nat) (v : Word) (s : State) : State :=
  onCore n 4 s fun s => if (coreOf s n).user then illegal s n else csrWrite (retire s n) n csrWdkick v

/-- R372: sources 25 to 31 never pend. -/
def doPlicSourceEvent (i : Nat) (s : State) : State :=
  if s.running && 0 < i && i < 25 then plicRaise s i else s

/-- R375: MTIME runs on to mtimecmp. -/
def doMtimerInterrupt (n : Nat) (s : State) : State :=
  let c := s.crw.acl.cmp.getD n 0
  if s.running then wakeCores (if mtime s < c then setMtime s c else s) else s

/-- The word of the vector table that an entry now reads, where its checks pass. -/
def feVecRead (s : State) (n : Nat) : Option Nat :=
  match feNext s n with
  | some e => if (spCheck s n (feSp s n)).isNone then some (feVecAddr s n e.2.1) else none
  | none => none

/-- R381 to R389: an entry; a stack fault while SF = 1 halts the core. The vector's word comes back as `ecc` says: where it is
lost the entry is not made, and the core takes a load access fault (R366; DEDUCED, log entry 42). -/
def xlkfeAt (n ecc : Nat) (s : State) : State :=
  let (s, st) := match feVecRead s n with | some a => eccRead s a ecc | none => (s, 0)
  if st ≠ 0 then raiseExc (setCoreState s n 1) n 5 (BitVec.ofNat 32 ((feVecRead s n).getD 0))
  else
    let (s, double) := feEntry s n
    if double then
      let s := bark s Src.CREW_DOUBLE_FAULT n
      if coreState s n = 4 then s else setCoreState s n 0
    else s

def doXlkfeEntry (n ecc : Nat) (s : State) : State :=
  let s := haltNow s n
  if !s.running || loadAtRack s n || (feNext s n).isNone then s else stepHalt (xlkfeAt n ecc s) n

/-- The interrupt that traps through mtvec: pending, enabled, of a kind mlkfecfg leaves alone; external, software, timer. -/
def plainIrq (s : State) (n : Nat) : Option Nat :=
  let p := mipOf s n &&& (csrRaw s n csrMie).toNat
  let cfg := (csrRaw s n csrFecfg).toNat
  if nbit p 11 && !nbit cfg 0 then some 11
  else if nbit p 3 && !nbit cfg 2 then some 3
  else if nbit p 7 && !nbit cfg 1 then some 7
  else none

/-- R377: a standard trap on an interrupt. -/
def doTrapEntry (n : Nat) (s : State) : State :=
  let s := haltNow s n
  if !s.running || loadAtRack s n || !takesIrq s n then s
  else match plainIrq s n with
    | some c => stepHalt (takeTrap (setCoreState s n 1) n (coreOf s n).pc c true 0) n
    | none => s

/-- MRET as FRAME says (R383, R393); `ecc` is of what it reads: the frame it reloads, or the vector's word of the event it
enters instead (R384). -/
def mretAs (s : State) (n ecc : Nat) : State :=
  if (coreOf s n).user then illegal s n
  else if feFrame s n then
    let a := match feTail s n with | some e => feVecAddr s n e.2.1 | none => feBase s n
    let (s, st) := eccRead s a ecc
    if st ≠ 0 then raiseExc s n 5 (BitVec.ofNat 32 a) else frameMret (noteRetired s n) n
  else plainMret (noteRetired s n) n

def doXlkfeMret (n ecc : Nat) (s : State) : State := onCore n 4 s fun s => mretAs s n ecc

def doCoreMret (n : Nat) (s : State) : State := onCore n 4 s fun s => mretAs s n 0

/-- R371: WFI; it ends at once while an enabled interrupt pends or the core is stepped. TW = 1 makes it illegal in user mode. -/
def wfiAt (n : Nat) (s : State) : State :=
  if (coreOf s n).user && csrFld s n csrMstatus 21 1 == 1 then illegal s n
  else
    let s := retire s n
    if (mipOf s n &&& (csrRaw s n csrMie).toNat) ≠ 0 || stepping s n then s else setCoreState s n 2

def doCoreWfi (n : Nat) (s : State) : State :=
  onCore n 4 s (wfiAt n)

/-! ### CSRs -/

/-- R388, Table 12-13: a write of a CSR; unknown, read-only and machine-mode CSRs of a user are illegal. -/
def doCustomCsrWrite (n c : Nat) (v : Word) (s : State) : State :=
  onCore n 4 s fun s =>
    if ((coreOf s n).user && c / 256 % 4 != 0) || c / 1024 == 3 || (csrMask c).isNone then illegal s n
    else csrWrite (retire s n) n c v

/-- R376: mill time, at most 24 ns behind. -/
def doMlkmtloRead (n rd : Nat) (s : State) : State :=
  onCore n 4 s fun s =>
    if (coreOf s n).user then illegal s n
    else
      let (w, s) := mtLoRead s n
      retire (setX s n rd w) n

end Sys2Proof.Machine
end

