-- ==== Sys2Proof/Machine/Rv.lean ====
section
/-! DEFINITION. The instructions that a crew core fetches (R360): RV32I with M, A, C, Zicsr, Zifencei, Zba and Zbb as the
standards of Table 00-6 encode them; one instruction of each running core between commands, and the program buffer
(R396). DEDUCED, log entry 42. -/

namespace Sys2Proof.Machine

/-! ### Arithmetic -/

/-- The bits of a word that is counted, lowest first. -/
def bitsUp (a : Word) : List Bool := (List.range 32).map a.getLsbD

/-- Zeros before the first one of a list of bits. -/
def zerosBefore : List Bool → Nat
  | [] => 0
  | b :: bs => if b then 0 else zerosBefore bs + 1

/-- Each byte becomes 0xFF unless it is 0 (ORC.B). -/
def orcb (a : Word) : Word :=
  BitVec.ofNat 32 (leNat ((toLE 4 a.toNat).map fun b => if b = 0 then 0 else 0xFF))

/-- The bytes in reverse order (REV8). -/
def rev8 (a : Word) : Word := BitVec.ofNat 32 (leNat (toLE 4 a.toNat).reverse)

/-- The upper word of a product. -/
def mulHigh (a b : Int) : Word := BitVec.ofInt 32 (a * b / 2 ^ 32)

/-- RV32I's operations of opcode OP, `f3` as the standard numbers them. -/
def baseOp (f3 : Nat) (a b : Word) : Word :=
  let k := b.toNat % 32
  match f3 with
  | 0 => a + b
  | 1 => a <<< k
  | 2 => if a.slt b then 1 else 0
  | 3 => if a.ult b then 1 else 0
  | 4 => a ^^^ b
  | 5 => a >>> k
  | 6 => a ||| b
  | _ => a &&& b

/-- M: products, quotients and remainders; a quotient by 0 is all ones and its remainder the dividend. -/
def mulDiv (f3 : Nat) (a b : Word) : Word :=
  match f3 with
  | 0 => a * b
  | 1 => mulHigh a.toInt b.toInt
  | 2 => mulHigh a.toInt b.toNat
  | 3 => mulHigh a.toNat b.toNat
  | 4 => if b = 0 then 0xFFFFFFFF else BitVec.ofInt 32 (a.toInt.tdiv b.toInt)
  | 5 => if b = 0 then 0xFFFFFFFF else a / b
  | 6 => if b = 0 then a else BitVec.ofInt 32 (a.toInt.tmod b.toInt)
  | _ => if b = 0 then a else a % b

/-- An operation of opcode OP by funct7 and funct3; `none` where there is none. `r2` is the number of rs2. -/
def regOp (f7 f3 r2 : Nat) (a b : Word) : Option Word :=
  let k := b.toNat % 32
  match f7, f3 with
  | 0x00, _ => some (baseOp f3 a b)
  | 0x01, _ => some (mulDiv f3 a b)
  | 0x20, 0 => some (a - b)
  | 0x20, 5 => some (a.sshiftRight k)
  | 0x20, 4 => some (~~~ (a ^^^ b))
  | 0x20, 6 => some (a ||| ~~~ b)
  | 0x20, 7 => some (a &&& ~~~ b)
  | 0x10, 2 => some ((a <<< 1) + b)
  | 0x10, 4 => some ((a <<< 2) + b)
  | 0x10, 6 => some ((a <<< 3) + b)
  | 0x05, 4 => some (if a.slt b then a else b)
  | 0x05, 5 => some (if a.ult b then a else b)
  | 0x05, 6 => some (if a.slt b then b else a)
  | 0x05, 7 => some (if a.ult b then b else a)
  | 0x30, 1 => some (a.rotateLeft k)
  | 0x30, 5 => some (a.rotateRight k)
  | 0x04, 4 => if r2 = 0 then some (a &&& 0xFFFF) else none
  | _, _ => none

/-- An operation of opcode OP-IMM, `imm` its 12 bits. -/
def immOp (f3 : Nat) (imm : BitVec 12) (a : Word) : Option Word :=
  let f7 := imm.toNat / 32
  let k := imm.toNat % 32
  match f3, f7 with
  | 1, 0x00 => some (a <<< k)
  | 1, 0x30 => match k with
    | 0 => some (BitVec.ofNat 32 (zerosBefore (bitsUp a).reverse))
    | 1 => some (BitVec.ofNat 32 (zerosBefore (bitsUp a)))
    | 2 => some (BitVec.ofNat 32 ((bitsUp a).countP id))
    | 4 => some ((a.truncate 8).signExtend 32)
    | 5 => some ((a.truncate 16).signExtend 32)
    | _ => none
  | 1, _ => none
  | 5, 0x00 => some (a >>> k)
  | 5, 0x20 => some (a.sshiftRight k)
  | 5, 0x30 => some (a.rotateRight k)
  | 5, 0x14 => if k = 7 then some (orcb a) else none
  | 5, 0x34 => if k = 24 then some (rev8 a) else none
  | 5, _ => none
  | _, _ => some (baseOp f3 a (imm.signExtend 32))

/-! ### Control transfer and CSRs -/

/-- Whether a branch is taken; `none` for the two codes that are no branch. -/
def branchTaken (f3 : Nat) (a b : Word) : Option Bool :=
  match f3 with
  | 0 => some (a == b)
  | 1 => some (a != b)
  | 4 => some (a.slt b)
  | 5 => some (!a.slt b)
  | 6 => some (a.ult b)
  | 7 => some (!a.ult b)
  | _ => none

/-- The instruction retires and the pc goes to `t`, its link in x`rd`. In the program buffer a control transfer is
illegal. -/
def jumpTo (s : State) (n rd : Nat) (t : Word) : State :=
  if (coreOf s n).prog.isSome then illegal s n
  else
    let link := (coreOf s n).pc + BitVec.ofNat 32 (coreOf s n).ilen
    modCore (retire (setX s n rd link) n) n fun c => { c with pc := t }

/-- A CSR that instructions reach, `w` where it is written: its privilege, the read-only quarter, mcounteren for the user's
counters, dcsr and dpc in Debug Mode alone. -/
def csrReach (s : State) (n c : Nat) (w : Bool) : Bool :=
  let user := (coreOf s n).user
  if c = 0x7B0 ∨ c = 0x7B1 then (coreOf s n).prog.isSome
  else
    (csrMask c).isSome && !(user && c / 256 % 4 != 0) && !(w && c / 1024 == 3) &&
      !(user && c / 256 == 0xC && !nbit (csrRaw s n 0x306).toNat (c % 128))

/-- dcsr: version 4, the bits a core holds, cause, the privilege at entry. -/
def dcsrMask : Word := 0x00009C04

def dcsrRead (s : State) (n : Nat) (user : Bool) : Word :=
  0x40000000 ||| csrRaw s n 0x7B0 ||| BitVec.ofNat 32 ((coreOf s n).dcause * 64 + if user then 0 else 3)

/-- A CSR read by an instruction: mlkmtlo holds mlkmthi, and a cycle counter that counts has a free value. -/
def csrTake (s : State) (n c : Nat) : Word × State :=
  if c = csrMtLo then mtLoRead s n
  else if c = 0x7B0 then (dcsrRead s n (((coreOf s n).prog.map (·.2)).getD false), s)
  else if c = 0x7B1 then ((coreOf s n).dpc, s)
  else
    let s := if c = 0xB00 ∨ c = 0xB80 ∨ c = 0xC00 ∨ c = 0xC80 then noteCycles s n else s
    (csrRead s n c, s)

/-- A CSR written by an instruction. -/
def csrPut (s : State) (n c : Nat) (v : Word) : State :=
  if c = 0x7B0 then
    modCore (setCsr s n 0x7B0 (v &&& dcsrMask)) n fun k => { k with prog := k.prog.map fun p => (p.1, v.toNat % 4 != 3) }
  else if c = 0x7B1 then modCore s n fun k => { k with dpc := v &&& 0xFFFFFFFE }
  else if (coreOf s n).prog.isSome ∧ (c = 0x7A1 ∨ c = 0x7A2) then trigWrite s n c v true
  else csrWrite s n c v

/-- CSRRW, CSRRS, CSRRC (`f3` 1 to 3) and their immediate forms (5 to 7): CSRRW to x0 does not read, the others with x0 or
immediate 0 do not write. -/
def csrOp (s : State) (n f3 c rd r1 : Nat) : State :=
  let src : Word := if 4 ≤ f3 then BitVec.ofNat 32 r1 else xreg s n r1
  let wr := f3 % 4 == 1 || r1 != 0
  if !csrReach s n c wr then illegal s n
  else
    let (old, s) := if f3 % 4 = 1 ∧ rd = 0 then (0, s) else csrTake s n c
    let s := retire (setX s n rd old) n
    if wr then csrPut s n c (match f3 % 4 with | 1 => src | 2 => old ||| src | _ => old &&& ~~~ src) else s

/-- EBREAK: Debug Mode where dcsr.ebreakm or ebreaku says so, else a breakpoint exception. -/
def ebreakAt (s : State) (n : Nat) : State :=
  let pc := (coreOf s n).pc
  if csrFld s n 0x7B0 (if (coreOf s n).user then 12 else 15) 1 = 1 ∧ s.bitAt CRW_DBG.EN n then debugEnter s n 1
  else raiseExc s n 3 pc

/-- ECALL, EBREAK, MRET and WFI by their 12-bit code. In the program buffer WFI does nothing and MRET is illegal. -/
def systemOp (s : State) (n code ecc : Nat) : State :=
  match code with
  | 0x000 => raiseExc s n (if (coreOf s n).user then 8 else 11) 0
  | 0x001 => ebreakAt s n
  | 0x302 => if (coreOf s n).prog.isSome then illegal s n else mretAs s n ecc
  | 0x105 => if (coreOf s n).prog.isSome then retire s n else wfiAt n s
  | _ => illegal s n

/-! ### One instruction -/

/-- The operation of `amoOp` that funct5 names. -/
def amoOf (f5 : Nat) : Option Nat :=
  match f5 with
  | 0x01 => some 0 | 0x00 => some 1 | 0x04 => some 2 | 0x0C => some 3 | 0x08 => some 4
  | 0x10 => some 5 | 0x14 => some 6 | 0x18 => some 7 | 0x1C => some 8
  | _ => none

/-- LR.W, SC.W and the AMOs. -/
def atomicOp (s : State) (n f5 rd r1 r2 ecc : Nat) : State :=
  if f5 = 2 then (if r2 = 0 then lrAt n rd r1 ecc s else illegal s n)
  else if f5 = 3 then scAt n rd r1 r2 s
  else match amoOf f5 with
    | some op => amoAt n op rd r1 r2 ecc s
    | none => illegal s n

/-- A value for x`rd`, or no such instruction. -/
def aluDone (s : State) (n rd : Nat) (v : Option Word) : State :=
  match v with
  | some v => retire (setX s n rd v) n
  | none => illegal s n

/-- The displacement of a branch. -/
def immB (w : Word) : Word :=
  (BitVec.ofNat 13 (4096 * wordField w 31 1 + 2048 * wordField w 7 1 + 32 * wordField w 25 6 + 2 * wordField w 8 4)).signExtend 32

/-- The displacement of JAL. -/
def immJ (w : Word) : Word :=
  (BitVec.ofNat 21 (2 ^ 20 * wordField w 31 1 + 4096 * wordField w 12 8 + 2048 * wordField w 20 1 +
    2 * wordField w 21 10)).signExtend 32

/-- FENCE, with FENCE.TSO, and FENCE.I. -/
def fenceOp (s : State) (n f3 : Nat) (w : Word) : State :=
  if f3 = 0 then
    fenceAt n (wordField w 20 12 == 0x833) (BitVec.ofNat 4 (wordField w 24 4)) (BitVec.ofNat 4 (wordField w 20 4)) s
  else if f3 = 1 then fenceIAt n s
  else illegal s n

/-- Core `n` executes the 32-bit instruction `w`; one of 16 bits stands as the one it expands to. A word it loads comes back as
`ecc` says. -/
def rvRun (s : State) (n : Nat) (w : Word) (ecc : Nat) : State :=
  let rd := wordField w 7 5
  let f3 := wordField w 12 3
  let r1 := wordField w 15 5
  let r2 := wordField w 20 5
  let f7 := wordField w 25 7
  let imm : BitVec 12 := BitVec.ofNat 12 (wordField w 20 12)
  let upper := w &&& 0xFFFFF000
  let pc := (coreOf s n).pc
  match wordField w 0 7 with
  | 0x37 => retire (setX s n rd upper) n
  | 0x17 => if (coreOf s n).prog.isSome then illegal s n else retire (setX s n rd (pc + upper)) n
  | 0x6F => jumpTo s n rd (pc + immJ w)
  | 0x67 => if f3 = 0 then jumpTo s n rd ((xreg s n r1 + imm.signExtend 32) &&& 0xFFFFFFFE) else illegal s n
  | 0x63 =>
    match branchTaken f3 (xreg s n r1) (xreg s n r2) with
    | none => illegal s n
    | some t =>
      if t then jumpTo s n 0 (pc + immB w)
      else if (coreOf s n).prog.isSome then illegal s n else retire s n
  | 0x03 =>
    if f3 < 3 then loadAt n f3 false rd r1 imm ecc s
    else if f3 = 4 ∨ f3 = 5 then loadAt n (f3 - 4) true rd r1 imm ecc s
    else illegal s n
  | 0x23 => if f3 < 3 then storeAt n f3 r1 r2 (BitVec.ofNat 12 (32 * f7 + rd)) s else illegal s n
  | 0x13 => aluDone s n rd (immOp f3 imm (xreg s n r1))
  | 0x33 => aluDone s n rd (regOp f7 f3 r2 (xreg s n r1) (xreg s n r2))
  | 0x0F => fenceOp s n f3 w
  | 0x2F => if f3 = 2 then atomicOp s n (f7 / 4) rd r1 r2 ecc else illegal s n
  | 0x73 =>
    if f3 = 0 then (if rd = 0 ∧ r1 = 0 then systemOp s n imm.toNat ecc else illegal s n)
    else if f3 = 4 then illegal s n
    else csrOp s n f3 imm.toNat rd r1
  | _ => illegal s n

/-! ### Compressed instructions -/

def encI (imm r1 f3 rd op : Nat) : Nat := imm % 4096 * 2 ^ 20 + r1 * 2 ^ 15 + f3 * 2 ^ 12 + rd * 2 ^ 7 + op

def encR (f7 r2 r1 f3 rd : Nat) : Nat := f7 * 2 ^ 25 + r2 * 2 ^ 20 + r1 * 2 ^ 15 + f3 * 2 ^ 12 + rd * 2 ^ 7 + 0x33

def encS (imm r2 r1 f3 : Nat) : Nat :=
  imm / 32 % 128 * 2 ^ 25 + r2 * 2 ^ 20 + r1 * 2 ^ 15 + f3 * 2 ^ 12 + imm % 32 * 2 ^ 7 + 0x23

def encB (imm r1 f3 : Nat) : Nat :=
  imm / 4096 % 2 * 2 ^ 31 + imm / 32 % 64 * 2 ^ 25 + r1 * 2 ^ 15 + f3 * 2 ^ 12 + imm / 2 % 16 * 2 ^ 8 + imm / 2048 % 2 * 2 ^ 7 + 0x63

def encJ (imm rd : Nat) : Nat :=
  imm / 2 ^ 20 % 2 * 2 ^ 31 + imm / 2 % 1024 * 2 ^ 21 + imm / 2048 % 2 * 2 ^ 20 + imm / 4096 % 256 * 2 ^ 12 + rd * 2 ^ 7 + 0x6F

/-- A number of `k` bits as a signed one of 24 bits. -/
def widen (k v : Nat) : Nat := if v / 2 ^ (k - 1) % 2 = 1 then v + 2 ^ 24 - 2 ^ k else v

/-- Bits of a half word. -/
def hb (h lo wid : Nat) : Nat := h / 2 ^ lo % 2 ^ wid

/-- The signed 6-bit immediate of quadrant 1. -/
def cImm (h : Nat) : Nat := widen 6 (32 * hb h 12 1 + hb h 2 5)

/-- Offset of C.LW and C.SW. -/
def cOff (h : Nat) : Nat := 8 * hb h 10 3 + 4 * hb h 6 1 + 64 * hb h 5 1

/-- Displacement of C.J and C.JAL. -/
def cJump (h : Nat) : Nat :=
  widen 12 (2048 * hb h 12 1 + 16 * hb h 11 1 + 256 * hb h 9 2 + 1024 * hb h 8 1 + 64 * hb h 7 1 + 128 * hb h 6 1 +
    2 * hb h 3 3 + 32 * hb h 2 1)

/-- Displacement of C.BEQZ and C.BNEZ. -/
def cBranch (h : Nat) : Nat :=
  widen 9 (256 * hb h 12 1 + 8 * hb h 10 2 + 64 * hb h 5 2 + 2 * hb h 3 2 + 32 * hb h 2 1)

def expand0 (h : Nat) : Option Nat :=
  let r := 8 + hb h 2 3
  let b := 8 + hb h 7 3
  let imm := 16 * hb h 11 2 + 64 * hb h 7 4 + 4 * hb h 6 1 + 8 * hb h 5 1
  match hb h 13 3 with
  | 0 => if imm = 0 then none else some (encI imm 2 0 r 0x13)
  | 2 => some (encI (cOff h) b 2 r 0x03)
  | 6 => some (encS (cOff h) r b 2)
  | _ => none

/-- C.SRLI, C.SRAI, C.ANDI, C.SUB, C.XOR, C.OR, C.AND. -/
def expandAlu (h : Nat) : Option Nat :=
  let r := 8 + hb h 7 3
  let q := 8 + hb h 2 3
  match hb h 10 2, hb h 12 1 with
  | 0, 0 => some (encI (hb h 2 5) r 5 r 0x13)
  | 1, 0 => some (encI (0x400 + hb h 2 5) r 5 r 0x13)
  | 2, _ => some (encI (cImm h) r 7 r 0x13)
  | 3, 0 =>
    match hb h 5 2 with
    | 0 => some (encR 0x20 q r 0 r)
    | 1 => some (encR 0 q r 4 r)
    | 2 => some (encR 0 q r 6 r)
    | _ => some (encR 0 q r 7 r)
  | _, _ => none

def expand1 (h : Nat) : Option Nat :=
  let rd := hb h 7 5
  let sp := widen 10 (512 * hb h 12 1 + 16 * hb h 6 1 + 64 * hb h 5 1 + 128 * hb h 3 2 + 32 * hb h 2 1)
  match hb h 13 3 with
  | 0 => some (encI (cImm h) rd 0 rd 0x13)
  | 1 => some (encJ (cJump h) 1)
  | 2 => some (encI (cImm h) 0 0 rd 0x13)
  | 3 =>
    if rd = 2 then (if sp = 0 then none else some (encI sp 2 0 2 0x13))
    else if cImm h = 0 then none
    else some (cImm h % 2 ^ 20 * 2 ^ 12 + rd * 2 ^ 7 + 0x37)
  | 4 => expandAlu h
  | 5 => some (encJ (cJump h) 0)
  | 6 => some (encB (cBranch h) (8 + hb h 7 3) 0)
  | _ => some (encB (cBranch h) (8 + hb h 7 3) 1)

def expand2 (h : Nat) : Option Nat :=
  let rd := hb h 7 5
  let r := hb h 2 5
  match hb h 13 3 with
  | 0 => if hb h 12 1 = 0 then some (encI r rd 1 rd 0x13) else none
  | 2 => if rd = 0 then none else some (encI (32 * hb h 12 1 + 4 * hb h 4 3 + 64 * hb h 2 2) 2 2 rd 0x03)
  | 4 =>
    if hb h 12 1 = 0 then
      if r = 0 then (if rd = 0 then none else some (encI 0 rd 0 0 0x67)) else some (encR 0 r 0 0 rd)
    else if r = 0 then (if rd = 0 then some 0x00100073 else some (encI 0 rd 0 1 0x67))
    else some (encR 0 r rd 0 rd)
  | 6 => some (encS (4 * hb h 9 4 + 64 * hb h 7 2) r 2 2)
  | _ => none

/-- The 32-bit instruction that a 16-bit one stands for (C extension); `none` where it is reserved or not implemented. -/
def rvExpand (h : Nat) : Option Word :=
  (match h % 4 with | 0 => expand0 h | 1 => expand1 h | 2 => expand2 h | _ => none).map (BitVec.ofNat 32)

/-- Execute the instruction that `bs`, 4 bytes, begins with. -/
def rvBytes (s : State) (n : Nat) (bs : List Byte) (ecc : Nat) : State :=
  if leNat (bs.take 2) % 4 = 3 then rvRun s n (BitVec.ofNat 32 (leNat bs)) ecc
  else match rvExpand (leNat (bs.take 2)) with
    | some w => rvRun s n w ecc
    | none => illegal s n

/-! ### Between commands -/

/-- What a running core does next: the interrupt that it takes, an Xlkfe entry before a trap through mtvec, or the
instruction at its pc. What it fetches comes back as `fe` says, what it then reads as `de`. -/
def coreCycle (s : State) (n fe de : Nat) : State :=
  let s := haltNow s n
  if loadAtRack s n then s
  else if (feNext s n).isSome then doXlkfeEntry n de s
  else if takesIrq s n && (plainIrq s n).isSome then doTrapEntry n s
  else
    let a := (coreOf s n).pc.toNat
    onCore n (if leNat (fetchBytes s n a 2) % 4 = 3 then 4 else 2) s (fun s => rvBytes s n (fetchBytes s n a 4) de) fe

/-- Bytes of the program buffer from `o` on; EBREAK follows it. -/
def progBytes (s : State) (o : Nat) : List Byte :=
  ((s.crw.dm.prog.flatMap fun w => toLE 4 w.toNat) ++ toLE 4 0x00100073).drop o |>.take 4

/-- One instruction of the program buffer, once the one before it has retired, which moved pc from 0; EBREAK ends it. -/
def progStep (s : State) (n ecc : Nat) : State :=
  match (coreOf s n).prog with
  | none => s
  | some (o, user) =>
    if loadAtRack s n then s
    else
      let o := o + (coreOf s n).pc.toNat
      let bs := progBytes s o
      let h := leNat (bs.take 2)
      let s := modCore s n fun c =>
        { c with prog := some (o, user), user := false, pc := 0, ilen := if h % 4 = 3 then 4 else 2 }
      if h = 0x9002 ∨ leNat bs = 0x00100073 then progEnd s n 0 else rvBytes s n bs ecc

/-- The program buffer runs until its end, or until a load or fence waits at the rack. A word that its loads read comes back
as `ecc` says. -/
def progRun (s : State) (n ecc : Nat) : State := (List.range 5).foldl (fun s _ => progStep s n ecc) s

/-- Start the program buffer on a core in Debug Mode. -/
def progStart (s : State) (n ecc : Nat) : State :=
  progRun (modCore s n fun c => { c with prog := some (0, c.user), pc := 0 }) n ecc

/-- Core `n` goes on between commands: by one instruction, or with a program buffer that waited. How the words it reads come
back is a free value (R366). -/
def coreTick (s : State) (n : Nat) : State :=
  if !wdogRuns s n && (coreOf s n).prog.isNone then s
  else
    let (fe, s) := s.fresh
    let (de, s) := s.fresh
    if (coreOf s n).prog.isSome then progRun s n (de % 3) else coreCycle s n (fe % 3) (de % 3)

/-- Between commands each running core goes on by one instruction, and program buffers that waited go on. DESIGN CHOICE,
log entry 42. -/
def coresTick (s : State) : State := if s.running then (List.range 4).foldl coreTick s else s

end Sys2Proof.Machine
end

