-- ==== Sys2Proof/Machine/Debug.lean ====
section
/-! DEFINITION. The debug module and the JTAG port (R396, R397, R683, R684). -/

namespace Sys2Proof.Machine

def State.dm (s : State) : Dm := s.crw.dm

def State.modDm (s : State) (f : Dm → Dm) : State := { s with crw := { s.crw with dm := f s.crw.dm } }

/-! ### Run control -/

/-- Core `n` is available to the debug module (R397). -/
def dbgAvail (s : State) (n : Nat) : Bool := s.running && n < 4 && s.bitAt CRW_DBG.EN n

/-- Core `n` is halted: in Debug Mode, or fenced, which keeps its registers for debug reads (R370). -/
def dbgHalted (s : State) (n : Nat) : Bool := coreState s n == 3 || coreState s n == 4

/-- R397: halt a running core; the request stands while a load of it waits at the rack, or until the core leaves reset. -/
def doDebugHaltReq (n : Nat) (s : State) : State :=
  if dbgAvail s n && coreState s n < 3 then haltNow (modCore s n fun c => { c with halt := some 3 }) n else s

/-- A halt request that still stands is withdrawn. -/
def haltWithdraw (s : State) (n : Nat) : State := modCore s n fun c => { c with halt := c.halt.filter (· != 3) }

/-- R397: resume a core in Debug Mode at dpc. -/
def doDebugResumeReq (n : Nat) (s : State) : State :=
  if dbgAvail s n && coreState s n == 3 && (coreOf s n).prog.isNone then
    setCoreState ((modCore s n fun c => { c with pc := c.dpc }).modDm fun d => { d with ack := setBit d.ack n }) n 1
  else s

/-! ### Abstract commands -/

/-- A CSR as the debugger reads it; `none` where there is none. -/
def dbgCsr (s : State) (n c : Nat) : Option Word :=
  if c = 0x7B0 then some (dcsrRead s n (coreOf s n).user)
  else if c = 0x7B1 then some (coreOf s n).dpc
  else if (csrMask c).isSome then some (csrRead s n c)
  else none

/-- A CSR written by the debugger. -/
def dbgSetCsr (s : State) (n c : Nat) (v : Word) : State :=
  if c = 0x7B0 then
    modCore (setCsr s n 0x7B0 (v &&& dcsrMask)) n fun k => { k with user := v.toNat % 4 != 3 }
  else if c = 0x7B1 then modCore s n fun k => { k with dpc := v &&& 0xFFFFFFFE }
  else if c = 0x7A1 ∨ c = 0x7A2 then trigWrite s n c v true
  else csrWrite s n c v

/-- A command failed with `e`, unless one already has. -/
def dmFail (s : State) (e : Nat) : State := s.modDm fun d => { d with cmderr := if d.cmderr = 0 then e else d.cmderr }

/-- Access Register (R396): register 0x1000 on are x0 to x31, below are CSRs. A held core's are reached too (HALT_CREW sets
triggers before RELEASE). -/
def accessRegister (s : State) (n r : Nat) (wr : Bool) : State :=
  if s.dm.cmderr ≠ 0 then s
  else if (coreOf s n).prog.isSome then dmFail s 1
  else if !(dbgAvail s n && (dbgHalted s n || coreState s n == 0)) then dmFail s 4
  else if 0x1000 ≤ r ∧ r < 0x1020 then
    if wr then setX s n (r - 0x1000) s.dm.data0 else s.modDm fun d => { d with data0 := xreg s n (r - 0x1000) }
  else if 0x1000 ≤ r then dmFail s 3
  else if r = csrMtLo ∧ !wr then
    let (w, s) := mtLoRead s n
    s.modDm fun d => { d with data0 := w }
  else match dbgCsr s n r with
    | none => dmFail s 3
    | some w =>
      if wr then (if r / 1024 = 3 then dmFail s 3 else dbgSetCsr s n r s.dm.data0) else s.modDm fun d => { d with data0 := w }

/-- The program buffer follows a transfer that did not fail (postexec); the core must be in Debug Mode. -/
def postexec (s : State) (n ecc : Nat) : State :=
  if s.dm.cmderr ≠ 0 then s
  else if dbgAvail s n && coreState s n == 3 then progStart s n ecc
  else dmFail s 4

def doDebugAbstractCmd (n r : Nat) (wr post : Bool) (ecc : Nat) (s : State) : State :=
  if s.running && s.dm.cmderr == 0 then
    let s := accessRegister s n r wr
    if post then postexec s n ecc else s
  else s

/-! ### System bus access (R396, R397) -/

/-- The outcome of an access: sberror 2 for an address that decodes nowhere, 7 for any other failure. -/
def sbEnd (s : State) (st : Nat) (w : Option Word) : State :=
  s.modDm fun d =>
    if st = 0 then { d with sbdata := w.getD d.sbdata, sbaddr := if d.autoInc then (d.sbaddr + 4) % 2 ^ 40 else d.sbaddr }
    else { d with sberror := if st = 1 then 2 else 7 }

/-- A 32-bit access of the debug module as LOCAL at `sbaddr`; nothing while an error stands. -/
def sbAccess (s : State) (v : Option Word) (ecc : Nat) : State :=
  let a := s.dm.sbaddr
  if s.dm.sberror ≠ 0 then s
  else if !s.bit CRW_DBG.SBA then s.modDm fun d => { d with sberror := 2 }
  else if a % 4 ≠ 0 then s.modDm fun d => { d with sberror := 3 }
  else if onRack a then
    if s.pwr.mode = .safe then sbEnd s 2 none
    else if !winAllows s 7 a 4 v.isSome then sbEnd (raiseRefusal s 7 2) 2 none
    else
      let (s, ans) := crbSubmit s .dbg 7 (a - 0x100000000) true (List.replicate 4 true) (v.map fun w => toLE 4 w.toNat)
      match ans with
      | .refused st => sbEnd (raiseRefusal s 7 st) st none
      | _ => sbEnd s 0 none
  else match v with
    | some w =>
      let (s, st) := wordWrite s 7 a w
      sbEnd s st none
    | none =>
      let (s, st, w) := wordRead s 7 a ecc
      sbEnd s st (some w)

def doDebugSysbusAccess (a : Nat) (v : Option Word) (ecc : Nat) (s : State) : State :=
  if s.running then sbAccess (s.modDm fun d => { d with sbaddr := a }) v ecc else s

/-! ### Registers of the debug module (External Debug Support 0.13.2) -/

/-- Bits [9:8] and so on of dmstatus: any and all of the one selected hart. -/
def both (b : Bool) (lo : Nat) : Nat := b2n b * 3 * 2 ^ lo

def dmStatus (s : State) : Nat :=
  let n := s.dm.hart
  let av := dbgAvail s n
  2 + 2 ^ 5 + 2 ^ 7 + 2 ^ 22 + both (av && dbgHalted s n) 8 +
    both (av && (coreState s n == 1 || coreState s n == 2)) 10 +
    both (n < 4 && !(av && coreState s n != 0)) 12 + both (4 ≤ n) 14 + both (nbit s.dm.ack n) 16 +
    both (av && (coreOf s n).haveReset) 18

/-- An abstract command runs: the program buffer of the selected hart has not ended. -/
def dmBusy (s : State) : Bool := (coreOf s s.dm.hart).prog.isSome

/-- A read of DMI address `a`. -/
def dmRead (s : State) (a ecc : Nat) : State × Word :=
  let d := s.dm
  match a with
  | 0x04 => (s, d.data0)
  | 0x10 => (s, BitVec.ofNat 32 (b2n d.active + d.hart * 2 ^ 16 + b2n (nbit d.inReset d.hart) * 2 ^ 29))
  | 0x11 => (s, BitVec.ofNat 32 (dmStatus s))
  | 0x12 => (s, BitVec.ofNat 32 Config.hartInfo)
  | 0x16 => (s, BitVec.ofNat 32 (1 + d.cmderr * 256 + b2n (dmBusy s) * 4096 + 2 * 2 ^ 24))
  | 0x20 => (s, d.prog.getD 0 0)
  | 0x21 => (s, d.prog.getD 1 0)
  | 0x38 => (s, BitVec.ofNat 32 (4 + 40 * 32 + d.sberror * 2 ^ 12 + b2n d.onData * 2 ^ 15 + b2n d.autoInc * 2 ^ 16 +
      2 * 2 ^ 17 + b2n d.onAddr * 2 ^ 20 + 2 ^ 29))
  | 0x39 => (s, BitVec.ofNat 32 d.sbaddr)
  | 0x3A => (s, BitVec.ofNat 32 (d.sbaddr / 2 ^ 32))
  | 0x3C => (if d.onData then sbAccess s none ecc else s, d.sbdata)
  | 0x40 => (s, BitVec.ofNat 32 (((List.range 4).map fun n => if dbgAvail s n && dbgHalted s n then 2 ^ n else 0).sum))
  | _ => (s, 0)

/-- hartreset of core `n`: held while it is set, started anew at its boot address when it clears; a held or fenced core
stays as it is. -/
def hartReset (s : State) (n : Nat) (on : Bool) : State :=
  let st := coreState s n
  if on then
    if dbgAvail s n && st != 0 && st != 4 then (holdCore s n).modDm fun d => { d with inReset := setBit d.inReset n } else s
  else if nbit s.dm.inReset n then
    let s := s.modDm fun d => { d with inReset := clrBit d.inReset n }
    if coreState s n = 0 ∧ dbgAvail s n then startCore s n else s
  else s

/-- A write of dmcontrol. -/
def dmControl (s : State) (v : Nat) : State :=
  if !nbit v 0 then s.modDm fun _ => {}
  else
    let n := v / 2 ^ 16 % 1024 + v / 64 % 1024 * 1024
    let s := s.modDm fun d => { d with active := true, hart := n }
    let s := if nbit v 28 then modCore s n fun c => { c with haveReset := false } else s
    let s := if nbit v 2 then modCore s n fun c => { c with resetHalt := false }
      else if nbit v 3 && dbgAvail s n then modCore s n fun c => { c with resetHalt := true } else s
    let s := if n < 4 then hartReset s n (nbit v 29) else s
    let s := if nbit v 31 then doDebugHaltReq n s
      else let s := haltWithdraw s n
      if nbit v 30 then doDebugResumeReq n (s.modDm fun d => { d with ack := clrBit d.ack n }) else s
    s

/-- A write of command: Access Register of 32 bits, and the program buffer; every other command fails with cmderr 2, one
while a command runs with 1. -/
def dmCommand (s : State) (v ecc : Nat) : State :=
  if s.dm.cmderr ≠ 0 then s
  else if dmBusy s then dmFail s 1
  else if v / 2 ^ 24 ≠ 0 ∨ v / 2 ^ 20 % 8 ≠ 2 then dmFail s 2
  else
    let s := if nbit v 17 then accessRegister s s.dm.hart (v % 2 ^ 16) (nbit v 16) else s
    if nbit v 18 then postexec s s.dm.hart ecc else s

/-- A write of sbcs; sberror is cleared by ones. -/
def sbControl (s : State) (v : Nat) : State :=
  s.modDm fun d => { d with onAddr := nbit v 20, autoInc := nbit v 16, onData := nbit v 15,
                            sberror := if v / 2 ^ 12 % 8 = 7 then 0 else d.sberror &&& (7 - v / 2 ^ 12 % 8) }

/-- A write of DMI address `a`. -/
def dmWrite (s : State) (a : Nat) (v : Word) (ecc : Nat) : State :=
  let n := v.toNat
  if a = 0x10 then dmControl s n
  else if !s.dm.active then s
  else if dmBusy s ∧ (a = 0x04 ∨ a = 0x16 ∨ a = 0x20 ∨ a = 0x21) then dmFail s 1
  else match a with
    | 0x04 => s.modDm fun d => { d with data0 := v }
    | 0x16 => s.modDm fun d => { d with cmderr := d.cmderr &&& (7 - n / 256 % 8) }
    | 0x17 => dmCommand s n ecc
    | 0x20 => s.modDm fun d => { d with prog := modAt d.prog 0 fun _ => v }
    | 0x21 => s.modDm fun d => { d with prog := modAt d.prog 1 fun _ => v }
    | 0x38 => sbControl s n
    | 0x39 =>
      let s := s.modDm fun d => { d with sbaddr := d.sbaddr / 2 ^ 32 * 2 ^ 32 + n }
      if s.dm.onAddr then sbAccess s none ecc else s
    | 0x3A => s.modDm fun d => { d with sbaddr := d.sbaddr % 2 ^ 32 + n % 256 * 2 ^ 32 }
    | 0x3C => sbAccess (s.modDm fun d => { d with sbdata := v }) (some v) ecc
    | _ => s

/-! ### The port -/

def State.modJtag (s : State) (f : Jtag → Jtag) : State := { s with jtag := f s.jtag }

/-- Bits of a number, least significant first, as they leave TDO. -/
def toBits (w n : Nat) : List Bool := (List.range w).map fun i => nbit n i

/-- What the instruction register captures, and so shifts out before any instruction of the five rows (R683). -/
def irScanOut : List Bool := toBits 5 1

/-- The scanned lands are cut off from their units (R684). -/
def landsCut (s : State) : Bool := s.jtag.ir == 0x00 || s.jtag.ir == 0x07

/-- An event on scanned lands: nothing reaches its unit while they are cut off. -/
def fromLands (s : State) (f : State → State) : State := if landsCut s then s else f s

def doJtagExtest (sampled drive : List Bool) (s : State) : State :=
  s.modJtag fun j => { j with ir := 0x00, tdo := sampled, bsr := drive }

def doJtagSamplePreload (sampled preload : List Bool) (s : State) : State :=
  s.modJtag fun j => { j with ir := 0x02, tdo := sampled, bsr := preload }

def doJtagHighz (s : State) : State := s.modJtag fun j => { j with ir := 0x07, tdo := [false] }

/-- The codes of R683 that select another register. -/
def listedCode (c : BitVec 5) : Bool := c == 0x00 || c == 0x02 || c == 0x07 || c == 0x10 || c == 0x11

/-- BYPASS, and every unlisted code: one bit that captures 0. A listed code is its own instruction's. -/
def doJtagBypass (code : BitVec 5) (s : State) : State :=
  if listedCode code then s else s.modJtag fun j => { j with ir := code, tdo := [false] }

/-- DTMCS: version 1 (0.13), 7 address bits; dmireset and dmihardreset clear the status. -/
def doJtagDtmcs (v : Word) (s : State) : State :=
  let out := 1 + 7 * 16 + s.jtag.dmistat * 1024 + Config.dtmIdle % 8 * 4096
  s.modJtag fun j => { j with ir := 0x10, tdo := toBits 32 out,
                              dmistat := if v.getLsbD 16 || v.getLsbD 17 then 0 else j.dmistat }

/-- DMI: the scan shifts out the last access and its status, then performs the new one; after a failure nothing is performed
until dmireset. The module needs the node running. -/
def doJtagDmi (op a : Nat) (v : Word) (ecc : Nat) (s : State) : State :=
  let j := s.jtag
  let s := s.modJtag fun j => { j with ir := 0x11, tdo := toBits 41 (j.dmistat + j.dmiData.toNat * 4 + j.dmiAddr * 2 ^ 34) }
  if j.dmistat ≠ 0 ∨ op = 0 then s
  else if op = 3 ∨ !s.running then s.modJtag fun j => { j with dmistat := 2 }
  else if op = 1 then
    let (s, w) := dmRead s a ecc
    s.modJtag fun j => { j with dmiData := w, dmiAddr := a }
  else (dmWrite s a v ecc).modJtag fun j => { j with dmiData := v, dmiAddr := a }

end Sys2Proof.Machine
end

