-- ==== Sys2Proof/Machine/ImageCmds.lean ====
section
/-! DEFINITION. The ends of image operations, boot verification, the record engine's and Heartwood's own steps
(chapters 09 to 11), where they raise Bark sources. -/

namespace Sys2Proof.Machine

/-! ### Boot (R286, R287) -/

/-- The Bark source of a verification failure (R283). -/
def verifyBark (s : State) (res : Nat) : State :=
  if res = resROLLBACK then bark s Src.SEC_ROLLBACK
  else if 2 ≤ res ∧ res ≤ 8 then bark s Src.SEC_AUTH
  else s

/-- The slot in hand fails: the other valid slot that BOOT_SEL allows, else held in LOAD (R286). -/
def bootSlotFailed (s : State) : State :=
  match (slotOrder s).filter (· != s.pwr.slot) with
  | x :: _ =>
    if s.pwr.fallback then holdNoImage s
    else (s.setBit SYS_BOOT_STAT.FALLBACK true).modPwr fun p => { p with slot := x, fallback := true }
  | [] => holdNoImage s

/-- The outcome of verifying the slot in hand, whose words come back as `ecc` says: RESULT and SECT (R283). Of a slot that
cannot be read (R335, R359) it is READ_ERR (DEDUCED, log entry 40). -/
def verifySlot (s : State) (ecc : List (Fin 3)) : State × Nat × Nat :=
  let x := s.pwr.slot
  if !s.up fenceHWD then (s, resREADERR, 0)
  else
    let (s', st) := eccReads s (slotBase x) ecc
    if st = 0 then (s', verifyImage s (slotImage s x) (slotDesc s x).len [1]) else (s', resREADERR, 0)

/-- The boot verification of the slot in hand ends (R64, R283, R286). -/
def doSignatureCheckDone (ecc : List (Fin 3)) (s : State) : State :=
  if s.running && s.pwr.mode == .load && s.pwr.phase == .verify then
    let x := s.pwr.slot
    let (s, res, sect) := verifySlot s ecc
    if s.pwr.mode ≠ .load then s
    else if res = resOK then
      let s := (s.setFld SYS_BOOT_STAT.SLOT x).modImg fun i => { i with booted := some x }
      s.modPwr fun p => { p with phase := .apply, verif := some (bootWriteCounter s) }
    else
      let s := verifyBark ((s.setFld SEC_IMG_STAT.RESULT res).setFld SEC_IMG_STAT.SECT sect) res
      if s.pwr.mode = .load then bootSlotFailed s else s
  else s

/-- Image apply ends, and with it LOAD (R287, R58). -/
def doImageApply (s : State) : State :=
  if s.running && s.pwr.mode == .load && s.pwr.phase == .apply then
    payOwed (finishLoad (applyImage s (slotImage s (s.img.booted.getD 0))))
  else s

/-! ### Operations (R283 to R295) -/

/-- Verification of the image of operation `o` has passed: VERIFY ends, an install and a graft go on. -/
def verifiedNext (s : State) (o : ImgOp) (m : Img) : State :=
  match o.op with
  | 2 => installBegin (s.modImg fun i => { i with op := some { o with step := 1 } }) 0
  | 3 => installBegin (s.modImg fun i => { i with op := some { o with step := 1 } }) 1
  | 4 =>
    if !(m.ofType tyBOUGH).any (fun x => x.idx == o.bough) || !graftMode s || s.fenced (3 + o.bough) then
      endImgOp s resREFUSED 0
    else graftBegin (s.modImg fun i => { i with op := some { o with step := 2 } }) o.bough
  | _ => endImgOp s resOK 0

/-- Kinds of image that an operation takes: VERIFY both, an install FULL, a graft GRAFT. -/
def kindsFor (op : Nat) : List Nat := if op = 4 then [2] else if op = 1 then [1, 2] else [1]

/-- Heartwood takes the enclave's writes and commits: an install needs it. -/
def hwdTakes (s : State) : Bool := hwdCommits s

def doImageVerifyDone (readErr : Bool) (s : State) : State :=
  match s.img.op with
  | none => s
  | some o =>
    if !s.running || o.step != 0 || ((o.op == 2 || o.op == 3) && !hwdTakes s) then s
    else if readErr then bark (endImgOp s resREADERR 0) Src.CAP_UNC
    else
      let m := stagedImage s o
      let (res, sect) := verifyImage s m o.len (kindsFor o.op)
      if res = resOK then verifiedNext s o m else verifyBark (endImgOp s res sect) res

/-- An install ends. `readErr`: the staged image could not be read (R290); the slot stays invalid. -/
def doImageInstallDone (readErr : Bool) (s : State) : State :=
  match s.img.op with
  | some o =>
    if s.running && o.step == 1 && hwdTakes s then
      if readErr then bark (endImgOp s resREADERR 0) Src.CAP_UNC
      else endImgOp (installFinish s (if o.op = 2 then 0 else 1) (stagedImage s o)) resOK 0
    else s
  | none => s

/-- A graft ends. `readErr`: the staged image could not be read (R290); the bough is left inactive (DEDUCED, log entry
40). -/
def doGraftEnd (readErr : Bool) (s : State) : State :=
  match s.img.op with
  | some o =>
    if s.running && o.step == 2 then
      if readErr then bark (graftLost s o.bough resREADERR) Src.CAP_UNC
      else endImgOp (graftFinish s o.bough (stagedImage s o)) resOK 0
    else s
  | none => s

/-! ### Records (R315, R325, R327) -/

def doRecordCopy (bad : Bool) (s : State) : State :=
  if !s.up fenceREC then s
  else
    let lost := bad && (match s.eng.inq with | (_, _, _ :: _) :: _ => true | _ => false)
    let s := copyNext s bad
    if lost then bark s Src.CAP_UNC else s

/-- A descriptor for LOCAL raises the PLIC source REC (Table 12-4). -/
def doPullDescriptorWrite (i : Nat) (bad : Bool) (s : State) : State :=
  if !s.up fenceREC then s
  else
    let had := (nextPull s i).isSome
    let w := s.fld (REC_SUB_WPTR.OFF i)
    let s := pullNext s i bad
    if had && bad then bark s Src.CAP_UNC
    else if s.fld (REC_SUB_WPTR.OFF i) ≠ w ∧ s.fld (REC_SUB_CTL.TENANT i) = 7 then plicRaise s plicREC
    else s

/-! ### Heartwood (R335, R336, R344, R345) -/

/-- The oldest queued write of the HWD_CONF port joins its tenant's open transaction (R344). A fence of HWD turns it away with
RESULT ABORTED (R359). -/
def confPortWrite (s : State) : State :=
  match (s.ind 2).wq with
  | [] => s
  | (wa, v, t) :: _ =>
    if s.fenced fenceHWD then indWritten (s.setFld (HWD_TXN_STAT.RESULT t) 8) 2 false
    else if txState s t = txOPEN ∨ txState s t = txCOMMITTING then
      let (why, s) := submitEntry s t { off := 4 * wa, len := 4, data := toLE 4 v.toNat }
      indWritten s 2 (why == 0)
    else indWritten s 2 false

def doHwdConfPortWrite (s : State) : State := if s.running then confPortWrite s else s

/-- Raise source `src` `k` times. -/
def barkTimes : Nat → State → Nat → State
  | 0, s, _ => s
  | k + 1, s, src => barkTimes k (bark s src) src

/-- A row is read: `one` and `two` words with 1 and 2 bits corrected, `unc` uncorrectable (R335, R336). -/
def doHwdScrub (one two unc : Nat) (s : State) : State :=
  if s.up fenceHWD then
    let s := (s.count HWD_CNT.COR (one + two)).count HWD_CNT.UNC unc
    barkTimes unc (barkTimes (one + two) s Src.HWD_COR) Src.HWD_UNC
  else s

/-- Entries that held an uncorrectable word raise HWD_UNC (R358). -/
def doHwdReplayDone (bad : List Nat) (s : State) : State :=
  if s.running && s.bit HWD_STATUS.REPLAY then
    let n := match s.hwd.applying with
      | some (_, log) => (bad.eraseDups.filter fun k => log.any fun x => x.ent == some k).length
      | none => 0
    releaseHwdReset (barkTimes n ((replayDone bad s).count HWD_CNT.UNC n) Src.HWD_UNC)
  else s

/-! ### Indirect ports (R147, R148) -/

/-- The Grove controllers' access for GRV_SAP is over. -/
def sapAccessOver (s : State) : State :=
  (List.range 2).foldl (fun (s : State) x =>
    match (s.gport x).cur with
    | some c => (match c.src with | .sap _ _ => grvCmdEnd s x | _ => s)
    | none => s) s

/-- The CONF word at word address `wa`, which comes back as `ecc` says (R335, R344). -/
def confFetch (s : State) (wa ecc : Nat) : State × Option Word :=
  if !s.up fenceHWD then (s, none)
  else
    let a := hwdBase + confOff + 4 * (wa % 65536)
    let (s', st) := eccRead s a ecc
    (s', if st = 0 then some (s.mword a) else none)

/-- The fetch of port `p` completes with its target's word; a word of CONF comes back as `ecc` says. -/
def doIndirectFetchDone (p : Nat) (answer : Option Word) (ecc : Nat) (s : State) : State :=
  if !(s.ind p).fetching || !s.running then s
  else
    let wa := s.fld (indWaddr p)
    match p with
    | 0 => sapAccessOver (indFetched s 0 answer)
    | 1 => indFetched s 1 (some (schedWord s wa))
    | 2 => let (s, w) := confFetch s wa ecc; indFetched s 2 w
    | _ => indFetched s 3 (if s.up fenceDRV then some (BitVec.ofNat 32 (tblEntry s (wa / 256 % 2) (wa % 256))) else none)

/-- The oldest queued write of port `p` reaches its target. -/
def doIndirectQueueWriteDone (p : Nat) (acked : Bool) (s : State) : State :=
  if !s.running then s
  else match p, (s.ind p).wq with
    | _, [] => s
    | 0, _ => sapAccessOver (indWritten s 0 acked)
    | 1, (wa, v, _) :: _ => indWritten (setSched s wa v) 1 true
    | 2, _ => confPortWrite s
    | _, (wa, v, _) :: _ =>
      let (s, ok) := if s.up fenceDRV then tblWrite s wa v.toNat else (s, false)
      indWritten s 3 ok

end Sys2Proof.Machine
end

