-- ==== Sys2Proof/Machine/ExecAnalog.lean ====
section
/-! DEFINITION. What each command of analog channels, the Root watch path and tach inputs (chapter 07) does: one definition per row, over the operations of the unit. -/

namespace Sys2Proof.Machine

/-- R221: A watch comparator's RMS value rises above THRESH while armed; this is a comparator wake cause in ROOT. -/
def execWatchCmpCross (c : Fin 8) (k : Fin 2) (s : State) : Host.Outcome State Fault Refusal :=
  .next (doWatchCmpCross c.val k.val s)

/-- R220: In ROOT each enabled watch channel converts a sample at 1.6 kS/s, updates its comparators and writes the
history ring. -/
def execWatchSample (data : List (BitVec 24)) (clip sflt : BitVec 8) (s : State) : Host.Outcome State Fault Refusal :=
  .next (doWatchSample data clip.toNat sflt.toNat s)

/-- R209: An enabled AFE channel produces a sample word with SETTLE, CLIP, SFLT, MARK and SEQ, which also enters its
raw ring. -/
def execAfeSample (n : Fin 2) (c : Fin 16) (inst : BitVec 64) (data : BitVec 24) (ovr : Bool) (s : State) : Host.Outcome State Fault Refusal :=
  .next (doAfeSample n.val c.val inst.toNat data.toNat ovr s)

/-- R217: With IEPE on, the bias stays above 22 V or below 1 V for 10 ms; the channel reports OPEN or SHORT. -/
def execSensorFaultOnset (n : Fin 2) (c : Fin 16) (isShort : Bool) (s : State) : Host.Outcome State Fault Refusal :=
  .next (doSensorOnset n.val c.val isShort s)

/-- R217: The bias stays between 1 V and 22 V for 100 ms; the fault clears and a SETTLE count follows. -/
def execSensorFaultClear (n : Fin 2) (c : Fin 16) (s : State) : Host.Outcome State Fault Refusal :=
  .next (doSensorClear n.val c.val s)

/-- R217: Every 1 ms each channel's bias voltage is reported in AFEn_CHc_BIAS. -/
def execBiasMonitorUpdate (n : Fin 2) (c : Fin 16) (mv : BitVec 16) (s : State) : Host.Outcome State Fault Refusal :=
  .next (doBias n.val c.val mv.toNat s)

/-- R228: An accepted edge on a tach or encoder input is counted and stamped, and the stamp is queued for delivery. -/
def execTachEdge (i : Fin 8) (a b z : Bool) (stamp : BitVec 64) (s : State)
    (held : BitVec 32 := 0xFFFFFFFF) :
    Host.Outcome State Fault Refusal :=
  .next (fromLands s (doTachEdge i.val a b z stamp.toNat held.toNat))

/-- R230: No counted edge arrives for TIMEOUT ms; STOPPED sets and PERIOD reads 0. -/
def execTachStopped (i : Fin 8) (s : State) : Host.Outcome State Fault Refusal :=
  .next (doTachStopped i.val s)

/-- R231: A write to TCH_i_CFG or TCH_i_DIV takes effect next TACH cycle, clearing counts and queue when MODE or
COUNTS changes. -/
def execTachCfgWrite (t : Fin 8) (i : Fin 8) (div : Bool) (v : Word) (s : State) : Host.Outcome State Fault Refusal :=
  .next (doWrite s t.val (if div then TCH_DIV.addr i.val else TCH_CFG.addr i.val) v)

end Sys2Proof.Machine
end

