-- ==== Sys2Proof/Machine/ExecBark.lean ====
section
/-! DEFINITION. What each command of Bark (chapter 06) does: one definition per row, over the operations of the unit. -/

namespace Sys2Proof.Machine

/-- R169: A source's dual-rail pair changes to error; Bark sets the sticky bit, counts, escalates and reacts by acting
class. -/
def execBarkSourceEvent (src : Fin 96) (inst : Fin 32) (stays : Bool) (s : State) : Host.Outcome State Fault Refusal :=
  .next (doBarkSourceEvent src.val inst.val stays s)

/-- R168: A source pair has read 0b00 or 0b11 for 4 cycles; it counts as an error of that source. -/
def execBarkPairBroken (src : Fin 96) (inst : Fin 32) (stays : Bool) (s : State) : Host.Outcome State Fault Refusal :=
  .next (doBarkPairBroken src.val inst.val stays s)

/-- R178: A source's escalation window expires before its count reaches N; the count returns to 0. -/
def execBarkWindowExpiry (src : Fin 96) (s : State) : Host.Outcome State Fault Refusal :=
  .next (doBarkWindowExpiry src.val s)

/-- R196: Bark's voted register copies differ; BRK_VOTE acts and the node enters SAFE at once. -/
def execBrkVoteMismatch (copy : Fin 3) (a : BitVec 40) (v : Word) (s : State) : Host.Outcome State Fault Refusal :=
  .next (doVoteMismatch copy.val a.toNat v s)

/-- R179: A W1C write to BRK_STICKY clears sticky bits, returning each source to its base class with count 0. -/
def execStickyClear (t : Fin 8) (k : Fin 3) (v : Word) (s : State) : Host.Outcome State Fault Refusal :=
  .next (doWrite s t.val (BRK_STICKY.addr k.val) v)

/-- R186: A write of 1 to a BRK_UNFENCE bit lifts the fence when no fencing source is set, resetting the unit first,
or sets UNFENCE_REF. -/
def execUnfence (t : Fin 8) (v : Word) (s : State) : Host.Outcome State Fault Refusal :=
  .next (doWrite s t.val BRK_UNFENCE.addr v)

/-- R197: A write of BRK_INJ with GO = 1 starts a fault injection into a source's checker or pair, or is refused. -/
def execFaultInject (t : Fin 8) (v : Word) (s : State) : Host.Outcome State Fault Refusal :=
  .next (doWrite s t.val BRK_INJ.addr v)

/-- R199: A LINE00 or LINE11 injection ends after 8 cycles of the source's domain. -/
def execInjectLineRelease (s : State) : Host.Outcome State Fault Refusal :=
  .next (doInjectLineRelease s)

end Sys2Proof.Machine
end

