-- ==== Sys2Proof/Machine/ExecCanopy.lean ====
section
/-! DEFINITION. What each command of Canopy (chapter 08) does: one definition per row, over the operations of the unit. -/

namespace Sys2Proof.Machine

/-- R240: A sample word reaches a bough's ingest port and is passed on, with TIME pair and IVL where needed, or
dropped when full. -/
def execIngestSample (b : Fin 4) (p : Fin 16) (n : Fin 2) (c : Fin 16) (s : State) : Host.Outcome State Fault Refusal :=
  .next (doIngestSample b.val p.val (16 * n.val + c.val) s)

/-- R243: A stamp's three words reach a stamp ingest port and update the bough's reference path. -/
def execStampIngest (i : Fin 8) (s : State) : Host.Outcome State Fault Refusal :=
  .next (doStampIngest i.val s)

/-- R238: A stream word fails parity on entry to a bough; it is dropped and the next word carries GAP. -/
def execLaneParityDrop (b : Fin 4) (t : Fin 16) (k : Fin 32) (s : State) : Host.Outcome State Fault Refusal :=
  .next (if s.up (3 + b.val) then bark (laneDrop b.val t.val k.val s) (45 + b.val) else s)

/-- R247: A FILT context takes an input word and emits every DEC-th filtered result. -/
def execFiltInput (b : Fin 4) (t : Fin 16) (k : Fin 8) (s : State) : Host.Outcome State Fault Refusal :=
  .next (if tileTypeOf t.val = 0 then doFiltInput b.val t.val k.val s else s)

/-- R247: An ENV context takes an input word, band-passes, rectifies, low-passes and decimates. -/
def execEnvInput (b : Fin 4) (t : Fin 16) (k : Fin 8) (s : State) : Host.Outcome State Fault Refusal :=
  .next (if tileTypeOf t.val = 2 then doFiltInput b.val t.val k.val s else s)

/-- R249: A reference event reaches an RSMP tile; a completed revolution is resampled and emitted. -/
def execRsmpRefEvent (b : Fin 4) (s : State) : Host.Outcome State Fault Refusal :=
  .next (doRsmpRefEvent b.val s)

/-- R253: No reference event arrives for 4 revolution periods; RSMP emits GAPN and abandons the revolution. -/
def execRsmpRefTimeout (b : Fin 4) (s : State) : Host.Outcome State Fault Refusal :=
  .next (doRsmpRefTimeout b.val s)

/-- R254: An FFT context completes a windowed frame, queued for transform. -/
def execFftFrameComplete (b : Fin 4) (t : Fin 16) (k : Fin 4) (s : State) : Host.Outcome State Fault Refusal :=
  .next (doFftFrameComplete b.val t.val k.val s)

/-- R258: A transform completes; the result is averaged and an output set is emitted. -/
def execFftTransformDone (b : Fin 4) (t : Fin 16) (s : State) : Host.Outcome State Fault Refusal :=
  .next (doFftTransformDone b.val t.val s)

/-- R260: A STAT block ends; the enabled statistics are emitted as a set. -/
def execStatBlockEnd (b : Fin 4) (t : Fin 16) (k : Fin 16) (s : State) : Host.Outcome State Fault Refusal :=
  .next (doStatBlockEnd b.val t.val k.val s)

/-- R262: An ALRM point takes a value and updates its level persistence and state. -/
def execAlarmValue (b : Fin 4) (k : Fin 32) (s : State) : Host.Outcome State Fault Refusal :=
  .next (doAlarmValue b.val k.val s)

/-- R263: A write of 1 to a Tt_AACK bit releases a latched alarm point. -/
def execAlarmAck (t : Fin 8) (b : Fin 4) (v : Word) (s : State) : Host.Outcome State Fault Refusal :=
  .next (doWrite s t.val (CNP_T_AACK.addr b.val 14) v)

/-- R265: A PACK context closes a record, fills its header and hands it to the record engine. -/
def execPackRecordClose (b : Fin 4) (k : Fin 16) (s : State) : Host.Outcome State Fault Refusal :=
  .next (doPackRecordClose b.val k.val s)

end Sys2Proof.Machine
end

