-- ==== Sys2Proof/Machine/ExecCrew.lean ====
section
/-! DEFINITION. What each command of the crew cores (chapter 12) does: one definition per row, over the operations of the unit. -/

namespace Sys2Proof.Machine

/-- R368: A write of 1 to CRW_CORE_CTL_n.RELEASE starts a HELD core at its boot address. -/
def execCoreRelease (t : Fin 8) (n : Fin 4) (v : Word) (s : State) : Host.Outcome State Fault Refusal :=
  .next (doWrite s t.val (CRW_CORE_CTL.addr n.val) v)

/-- R371: A core watchdog counts out; CRW_WDOG is raised and the watchdog reloads. -/
def execWdogExpiry (n : Fin 4) (s : State) : Host.Outcome State Fault Refusal :=
  .next (doWdogExpiry n.val s)

/-- R371: A write of 0x0000_4B49 to CRW_WDOG_KICK_n reloads the watchdog. -/
def execWdogKick (t : Fin 8) (n : Fin 4) (v : Word) (s : State) : Host.Outcome State Fault Refusal :=
  .next (doWrite s t.val (CRW_WDOG_KICK.addr n.val) v)

/-- R371: A core's write of 0x4B49 to mlkwdkick reloads its watchdog. -/
def execWdogKickCsr (n : Fin 4) (v : Word) (s : State) : Host.Outcome State Fault Refusal :=
  .next (doWdogKickCsr n.val v s)

/-- R372: A unit raises its PLIC source; the request pends at the gateway. -/
def execPlicSourceEvent (i : Fin 32) (s : State) : Host.Outcome State Fault Refusal :=
  .next (doPlicSourceEvent i.val s)

/-- R375: MTIME reaches a core's mtimecmp and the timer interrupt pends. -/
def execMtimerInterrupt (n : Fin 4) (s : State) : Host.Outcome State Fault Refusal :=
  .next (doMtimerInterrupt n.val s)

/-- R381: A core takes an Xlkfe interrupt, checking sp, stacking the frame and entering the vectored handler. -/
def execXlkfeEntry (n : Fin 4) (s : State) (ecc : Fin 3 := 0) : Host.Outcome State Fault Refusal :=
  .next (doXlkfeEntry n.val ecc.val s)

/-- R383: MRET with FRAME = 1 completes the source, reloads the frame and returns. -/
def execXlkfeMret (n : Fin 4) (ecc : Fin 3) (s : State) : Host.Outcome State Fault Refusal :=
  .next (doXlkfeMret n.val ecc.val s)

/-- R363: A core load is decoded by the core map and served by its target. -/
def execCoreLoad (n : Fin 4) (c : Bool) (k : Fin 3) (uns : Bool) (rd rs1 : Fin 32) (imm : BitVec 12) (ecc : Fin 3) (s : State) : Host.Outcome State Fault Refusal :=
  .next (doCoreLoad n.val c k.val uns rd.val rs1.val imm ecc.val s)

/-- R391: A core store is performed, to memory under RVTSO or to I/O through the store buffer. -/
def execCoreStore (n : Fin 4) (c : Bool) (k : Fin 3) (rs1 rs2 : Fin 32) (imm : BitVec 12) (s : State) : Host.Outcome State Fault Refusal :=
  .next (doCoreStore n.val c k.val rs1.val rs2.val imm s)

/-- R391: A FENCE waits for earlier I/O accesses or drains the store buffer as its sets require. -/
def execCoreFence (n : Fin 4) (tso : Bool) (pred succ : BitVec 4) (s : State) : Host.Outcome State Fault Refusal :=
  .next (doCoreFence n.val tso pred succ s)

/-- R391: FENCE.I drains the store buffer and clears the prefetch buffer. -/
def execCoreFenceI (n : Fin 4) (s : State) : Host.Outcome State Fault Refusal :=
  .next (doCoreFenceI n.val s)

/-- R393: LR loads and sets the core's reservation on its granule. -/
def execCoreLr (n : Fin 4) (rd rs1 : Fin 32) (ecc : Fin 3) (s : State) : Host.Outcome State Fault Refusal :=
  .next (doCoreLr n.val rd.val rs1.val ecc.val s)

/-- R393: SC stores only while the core's reservation holds. -/
def execCoreSc (n : Fin 4) (rd rs1 rs2 : Fin 32) (s : State) : Host.Outcome State Fault Refusal :=
  .next (doCoreSc n.val rd.val rs1.val rs2.val s)

/-- R394: An AMO is performed atomically in L2, a TCM or the capture store. -/
def execCoreAmo (n : Fin 4) (op : Fin 9) (rd rs1 rs2 : Fin 32) (ecc : Fin 3) (s : State) : Host.Outcome State Fault Refusal :=
  .next (doCoreAmo n.val op.val rd.val rs1.val rs2.val ecc.val s)

/-- R376: A read of CSR mlkmtlo returns mill time bits [31:0] and snapshots the upper word. -/
def execMlkmtloRead (n : Fin 4) (rd : Fin 32) (s : State) : Host.Outcome State Fault Refusal :=
  .next (doMlkmtloRead n.val rd.val s)

/-- R397: The debug module halts a core, only while its CRW_DBG.EN bit is set. -/
def execDebugHaltReq (n : Fin 4) (s : State) : Host.Outcome State Fault Refusal :=
  .next (doDebugHaltReq n.val s)

/-- R397: The debug module resumes a halted core. -/
def execDebugResumeReq (n : Fin 4) (s : State) : Host.Outcome State Fault Refusal :=
  .next (doDebugResumeReq n.val s)

/-- R396: An Access Register abstract command reads or writes a halted core's register or CSR and, with `post`, then runs
the program buffer. -/
def execDebugAbstractCmd (n : Fin 4) (r : BitVec 16) (wr post : Bool) (s : State) (ecc : Fin 3 := 0) :
    Host.Outcome State Fault Refusal :=
  .next (doDebugAbstractCmd n.val r.toNat wr post ecc.val s)

/-- R397: A system bus access by the debug module acts as LOCAL, only while CRW_DBG.SBA = 1. -/
def execDebugSysbusAccess (a : BitVec 40) (v : Option Word) (ecc : Fin 3) (s : State) : Host.Outcome State Fault Refusal :=
  .next (doDebugSysbusAccess a.toNat v ecc.val s)

/-- R377: A core takes an interrupt not enabled for Xlkfe and traps through mtvec, breaking its reservation. -/
def execTrapEntry (n : Fin 4) (s : State) : Host.Outcome State Fault Refusal :=
  .next (doTrapEntry n.val s)

/-- R393: A core executes MRET with mlkfestat.FRAME = 0, returning as a standard MRET and breaking its reservation. -/
def execCoreMret (n : Fin 4) (s : State) : Host.Outcome State Fault Refusal :=
  .next (doCoreMret n.val s)

/-- R371: A core executes WFI and enters the WFI state until an interrupt is pending. -/
def execCoreWfi (n : Fin 4) (s : State) : Host.Outcome State Fault Refusal :=
  .next (doCoreWfi n.val s)

/-- R388: A core writes an Xlkfe custom CSR, such as mlkfecfg, mlkfevt, mlkfesfv or mlkfestat, where writing 0 clears
SF. -/
def execCustomCsrWrite (n : Fin 4) (c : BitVec 12) (v : Word) (s : State) : Host.Outcome State Fault Refusal :=
  .next (doCustomCsrWrite n.val c.toNat v s)

end Sys2Proof.Machine
end

