-- ==== Sys2Proof/Machine/ExecDrive.lean ====
section
/-! DEFINITION. What each command of the drive stage (chapter 19) does: one definition per row, over the operations of the unit. -/

namespace Sys2Proof.Machine

/-- R651: TRIP_N is low for at least 30 ns; the trip path turns every bridge off within 120 ns. -/
def execTripNLow (s : State) : Host.Outcome State Fault Refusal :=
  .next (doTripNLow s)

/-- R652: The last trip input is released; each enabled axis re-enters standstill after re-energising. -/
def execTripRelease (s : State) : Host.Outcome State Fault Refusal :=
  .next (doTripRelease s)

/-- R631: Each chopper period every driven coil is measured and regulated and its pulse applied under the minimum-
pulse carry. -/
def execChopperPeriod (mA : List Int) (s : State) : Host.Outcome State Fault Refusal :=
  .next (doChopperPeriod mA s)

/-- R648: A moving coil stays below 25 % of target at full on-time for 16 periods; OPEN is raised. -/
def execDrvOpenDetect (n : Fin 4) (s : State) : Host.Outcome State Fault Refusal :=
  .next (doDrvOpenDetect n.val s)

/-- R641: No microstep for STBY_MS; the axis holds FULL or parks. -/
def execStandstillEntry (n : Fin 4) (s : State) : Host.Outcome State Fault Refusal :=
  .next (doStandstillEntry n.val s)

/-- R643: The 500 µs energising of a parked or newly enabled axis ends; the first microstep may be taken. -/
def execEnergiseEnd (n : Fin 4) (s : State) : Host.Outcome State Fault Refusal :=
  .next (doEnergiseEnd n.val s)

/-- R645: Once per full step under LOAD the drive stage estimates the load angle. -/
def execLoadAngleStep (n : Fin 4) (la : BitVec 8) (s : State) : Host.Outcome State Fault Refusal :=
  .next (doLoadAngleStep n.val la.toNat s)

/-- R648: A switch carries over 4.0 A for 250 ns; the axis's gates turn off and the trip path acts. -/
def execDrvOcp (n : Fin 4) (s : State) : Host.Outcome State Fault Refusal :=
  .next (doDrvOcp n.val s)

/-- R648: The P-die passes 135 °C; the temperature warning sets, clearing below 125 °C. -/
def execDrvOtw (temp : BitVec 8) (s : State) : Host.Outcome State Fault Refusal :=
  .next (doDrvOtw temp.toNat s)

/-- R648: The P-die passes 155 °C; OTP sets and the trip path acts. -/
def execDrvOtp (temp : BitVec 8) (s : State) : Host.Outcome State Fault Refusal :=
  .next (doDrvOtp temp.toNat s)

/-- R648: A die link frame fails CRC at the P-die; it is ignored and the trip path acts. -/
def execDrvLinkCrc (s : State) : Host.Outcome State Fault Refusal :=
  .next (doDrvLinkCrc s)

/-- R648: The DRIVE clock is absent for 1 µs at the P-die; all gates turn off. -/
def execDrvClockLoss (lost : Bool) (s : State) : Host.Outcome State Fault Refusal :=
  .next (doDrvClockLoss lost s)

/-- R650: A write of 1 to DRV_TRIP_CLR.STOP clears the STOP trip latch. -/
def execStopLatchClear (t : Fin 8) (s : State) : Host.Outcome State Fault Refusal :=
  .next (doWrite s t.val DRV_TRIP_CLR.addr 1)

end Sys2Proof.Machine
end

