-- ==== Sys2Proof/Machine/ExecEgress.lean ====
section
/-! DEFINITION. What each command of trunk egress (chapter 15) does: one definition per row, over the operations of the unit. -/

namespace Sys2Proof.Machine

/-- R475: At each frame boundary the port selects the next frame by strict priority, DRR, shapers and gates, or sends
idle. -/
def execSchedulerSelect (x : Fin 2) (s : State) : Host.Outcome State Fault Refusal :=
  .next (afterSend (doSchedulerSelect x.val (s.modPort x.val fun p => { p with tx := none, line := [] })) x.val)

/-- R481: A gate-list cycle starts at BASE + m × CYCLE, taking a waiting new list into effect. -/
def execGateCycleStart (x : Fin 2) (s : State) : Host.Outcome State Fault Refusal :=
  .next (doGateCycleStart x.val s)

/-- R482: A gate entry's duration ends and the next entry sets which classes are open. -/
def execGateEntryChange (x : Fin 2) (s : State) : Host.Outcome State Fault Refusal :=
  .next (doGateEntryChange x.val s)

end Sys2Proof.Machine
end

