-- ==== Sys2Proof/Machine/Sapling.lean ====
section
/-! DEFINITION. What a compatible satellite does (chapter 17). A Sapling is known by its place in the installation; ports
are 0 and 1. -/

namespace Sys2Proof.Machine

def sapOf (s : State) (p : Nat) : Sap := SMap.get (fun _ => ({} : Sap)) s.saps p

def setSap (s : State) (p : Nat) (x : Sap) : State := { s with saps := SMap.set (fun _ => ({} : Sap)) s.saps p x }

/-- Channels of the build (R590). -/
def sapChannels (p : Nat) : Nat := if Config.saplingWide p then 8 else 4

/-- The IDENT payload (Table 17-3). -/
def sapIdent (p : Nat) : List Byte :=
  (List.range 16).map fun i =>
    if i = 2 then BitVec.ofNat 8 (sapChannels p) else if 14 ≤ i then 0 else BitVec.ofNat 8 (Config.saplingIdent p i)

/-- The sleep that SLEEP_COMMIT has started begins 200 µs after it (R575). -/
def Sap.settleSleep (x : Sap) (now : Nat) : Sap :=
  match x.commitAt with
  | some t => if t + 200000 ≤ now then { x with mode := .asleep, commitAt := none, tryN := 0 } else x
  | none => x

/-- A command's turn on a Sapling: its sleep settled, its last frames gone. -/
def sapTurn (s : State) (p : Nat) : Sap := { (sapOf s p).settleSleep s.uptime with sent := [], tones := 0 }

def sapRun (s : State) (p : Nat) (k : Sap → Sap) : State := setSap s p (k (sapTurn s p))

/-- Port `q` is link-up: carrier has been seen on it, and it is not bypassed (R549). -/
def Sap.linkUp (x : Sap) (q : Nat) : Bool := nbit x.link q && !nbit x.bypass q

/-- Its receivers are on. -/
def Sap.hears (x : Sap) : Bool := x.mode != .asleep

/-- Send a frame of its own on port `q`: its counter goes on. -/
def Sap.emit (x : Sap) (q ty : Nat) (pl : List Byte) : Sap :=
  { x with sent := x.sent ++ [(q, ⟨ty, x.addr, pl⟩)], up := (x.up + 1) % 256 }

/-- What it has sent is the stored answer (R554). -/
def Sap.stored (x : Sap) (q : Nat) : Sap := { x with answer := some (q, x.sent.map (·.2)) }

/-- NACK with a reason of Table 17-3. -/
def Sap.nack (x : Sap) (q ty why : Nat) : Sap := x.emit q 0x4A (toLE 1 ty ++ toLE 1 why)

def Sap.ack (x : Sap) (q ty : Nat) : Sap := x.emit q 0x47 (toLE 1 ty)

/-- How a frame stands to a Sapling: not for it, or failing its check; new; a repeat. -/
inductive SapTake where
  | skip
  | fresh
  | again
  deriving DecidableEq, Repr

/-- Whether it takes frame `f`, which folds `seq`, on port `q`, and its counters then (R553 to R555, R589). -/
def Sap.take (x : Sap) (q : Nat) (f : GFrame) (seq : Nat) : SapTake × Sap :=
  if !x.hears || nbit x.jam q || nbit x.bypass q then (.skip, x)
  else
    let x := { x with link := setBit x.link q }
    match hopMode f.hop with
    | 0 =>
      if hopVal f.hop = 63 then
        if foldsZero f.ty then (.fresh, x)
        else if seq = x.bdown then (.fresh, { x with bdown := (x.bdown + 1) % 256 })
        else if seq = (x.bdown + 255) % 256 then (.again, x) else (.skip, x)
      else if x.addr ≠ 0 ∧ hopVal f.hop = x.addr then
        if seq = x.down then (.fresh, { x with down := (x.down + 1) % 256 })
        else if seq = (x.down + 255) % 256 then (.again, x) else (.skip, x)
      else (.skip, x)
    | 1 => if hopVal f.hop = 1 ∧ (x.hops.getD q none).isSome then (.fresh, x) else (.skip, x)
    | _ => (.skip, x)

/-- A downstream frame has the HOP MODE that Table 17-3 gives its type: broadcast, by hop, addressed. -/
def sapForm (f : GFrame) : Bool :=
  match f.ty with
  | 2 => hopMode f.hop == 1
  | 3 | 6 => hopMode f.hop == 1 || (hopMode f.hop == 0 && hopVal f.hop != 63)
  | 8 | 9 | 10 | 11 | 12 => hopMode f.hop == 0 && hopVal f.hop == 63
  | 15 => hopMode f.hop == 0
  | _ => hopMode f.hop == 0 && hopVal f.hop != 63

/-- A frame of type `ty` arrives: a new one of right length is acted on, one of wrong length refused, a repeat answered with
the stored answer. One whose HOP MODE is not its type's counts and does nothing (log entry 55). -/
def Sap.act (x : Sap) (q ty : Nat) (f : GFrame) (seq : Nat) (lenOk : Nat → Bool) (k : Sap → Sap) : Sap :=
  if f.ty ≠ ty then x
  else
    match x.take q f seq with
    | (.skip, _) => x
    | (.again, x) =>
      (match x.answer with
       | some (q', fs) => { x with sent := fs.map fun g => (q', g) }
       | none => x)
    | (.fresh, x) =>
      if !sapForm f then x
      else if lenOk f.payload.length then (k x).stored q
      else if hopMode f.hop = 0 ∧ hopVal f.hop ≠ 63 then (x.nack q ty 2).stored q
      else x

def pay (f : GFrame) (o n : Nat) : Nat := leAt f.payload o n

/-! ### Time and sessions (R566) -/

/-- Its time is set so that the arrival of the frame reads `t` + d × 1.1 µs. -/
def Sap.setTime (x : Sap) (now t d : Nat) : Sap := { x with tBase := t + d * 1100, tAt := now }

/-- Its time, in ns. -/
def Sap.time (x : Sap) (now : Nat) : Nat := x.tBase + (now - x.tAt)

/-- Flags of a CHECKIN sent on port `q`. -/
def Sap.checkinFlags (x : Sap) (q : Nat) : Nat :=
  b2n x.wakeReq.isSome + 2 * b2n (nbit x.jabber q) + 4 * b2n (nbit x.jabber (1 - q)) + 8 * b2n (x.linkUp (1 - q)) +
    16 * b2n (x.bypass != 0)

def Sap.sendWakeReq (x : Sap) (q : Nat) : Sap :=
  match x.wakeReq with
  | some (c, ch, rms) => x.emit q 0x48 (toLE 1 c ++ toLE 1 ch ++ toLE 2 rms)
  | none => x

/-- It takes a BEACON: hop distance, counters, time, CHECKIN; a WAKE_REQ outstanding follows (R566, R580). -/
def Sap.beacon (x : Sap) (now q : Nat) (f : GFrame) : Sap :=
  if !x.hears || f.ty ≠ 1 || hopMode f.hop ≠ 2 || nbit x.jam q || nbit x.bypass q || f.payload.length ≠ 16 then x
  else
    let d := Nat.min 63 (hopVal f.hop + 1)
    let x := { x with mode := .awake, commitAt := none, committed := false, hops := x.hops.set q (some d), home := q,
                      link := setBit x.link q, down := 0, bdown := 0, up := 0, session := pay f 8 4, beaconAt := now,
                      answer := none }
    let x := x.setTime now (pay f 0 8) d
    let x := x.emit q 0x41 (toLE 1 (x.checkinFlags q) ++ toLE 1 d ++ toLE 2 0)
    x.sendWakeReq q

def doSaplingBeacon (p q : Nat) (f : GFrame) (s : State) : State := sapRun s p fun x => x.beacon s.uptime q f

def doSaplingTimeSet (p q : Nat) (f : GFrame) (s : State) : State :=
  sapRun s p fun x => x.act q 8 f 0 (· == 8) fun x => x.setTime s.uptime (pay f 0 8) ((x.hops.getD q none).getD 0)

/-! ### Relaying (R549, R555, R557) -/

/-- Downstream and upstream types of Table 17-3. -/
def downType (ty : Nat) : Bool := 1 ≤ ty && ty ≤ 16
def upType (ty : Nat) : Bool := 0x41 ≤ ty && ty ≤ 0x4A

/-- Send a relayed frame out the other port, or turned back where that port is link-down. -/
def Sap.forward (x : Sap) (q : Nat) (f : GFrame) : Sap :=
  let far := 1 - q
  let fr := if x.linkUp far then (far, f) else (q, { f with ty := f.ty % 128 + 128 })
  { x with sent := x.sent ++ [fr] }

/-- What it does with a frame on its line: forwarded, turned, or kept; an addressed frame of unlisted type is refused; one of
HOP MODE 3 is malformed and goes nowhere. -/
def Sap.relay (x : Sap) (q : Nat) (f : GFrame) : Sap :=
  if !x.hears || nbit x.jam q || nbit x.bypass q then x
  else
    let x := { x with link := setBit x.link q }
    match hopMode f.hop with
    | 1 =>
      if 128 ≤ f.ty then x.forward q f
      else if (x.hops.getD q none).isNone ∨ hopVal f.hop ≤ 1 then x
      else x.forward q { f with hop := f.hop - 1 }
    | 2 => x.forward q { f with hop := 128 + Nat.min 63 (hopVal f.hop + 1) }
    | 3 => x
    | _ =>
      if f.ty < 128 ∧ !upType f.ty ∧ x.addr ≠ 0 ∧ hopVal f.hop = x.addr then
        (if downType f.ty then x else { (x.nack q f.ty 1).stored q with down := (x.down + 1) % 256 })
      else x.forward q f

def doSaplingRelay (p q : Nat) (f : GFrame) (s : State) : State := sapRun s p fun x => x.relay q f

def doSaplingJabber (p q : Nat) (s : State) : State :=
  sapRun s p fun x => if x.hears then { x with jam := setBit x.jam q, jabber := setBit x.jabber q } else x

def doSaplingJabberEnd (p q : Nat) (s : State) : State := sapRun s p fun x => { x with jam := clrBit x.jam q }

def doSaplingLinkDown (p q : Nat) (s : State) : State :=
  sapRun s p fun x => if x.hears then { x with link := clrBit x.link q } else x

/-! ### Answers -/

def doSaplingEnum (p q : Nat) (f : GFrame) (s : State) : State :=
  sapRun s p fun x => x.act q 2 f 0 (· == 2) fun x =>
    let a := pay f 0 1
    if 1 ≤ a ∧ a ≤ 62 then ({ x with addr := a }).emit q 0x42 (sapIdent p) else x

def doSaplingPing (p q : Nat) (f : GFrame) (seq : Nat) (s : State) : State :=
  sapRun s p fun x => x.act q 3 f seq (· ≤ 64) fun x => x.emit q 0x43 f.payload

/-- Channel `c` is enabled. -/
def Sap.chOn (x : Sap) (p c : Nat) : Bool := c < sapChannels p && nbit (x.chCfg.getD c 0).toNat 0

/-- The REPORT of POLL (Table 17-5). -/
def Sap.report (x : Sap) (p q mask : Nat) : Sap :=
  let chs := (List.range 8).filter fun c => nbit mask c && x.chOn p c
  let m := chs.foldl (fun n c => setBit n c) 0
  let vals := chs.flatMap fun c =>
    let r := x.results.getD c (0, 0, 0)
    toLE 2 r.1 ++ toLE 2 r.2.1 ++ toLE 2 r.2.2
  let x := x.emit q 0x44 (toLE 4 x.endT ++ toLE 1 m ++ toLE 1 x.sflt ++ toLE 1 x.clipRep ++ toLE 1 (b2n (!x.fresh)) ++ vals)
  { x with clipRep := 0, fresh := false }

def doSaplingPoll (p q : Nat) (f : GFrame) (seq : Nat) (s : State) : State :=
  sapRun s p fun x => x.act q 4 f seq (· == 1) fun x => x.report p q (pay f 0 1)

/-! ### Bursts (R572) -/

/-- A 24-bit sample at either end of its range. -/
def sapClip (w : BitVec 24) : Bool := w == 0x7FFFFF#24 || w == 0x800000#24

/-- One BURST_DATA frame; `settle` samples of it and after are still settling. -/
def Sap.burstFrame (x : Sap) (q : Nat) (b : SapBurst) (ws : List (BitVec 24)) (final short : Bool) : Sap :=
  let fl := b2n final + 2 * b2n (ws.any sapClip) + 4 * b2n (x.settle.getD b.ch 0 != 0) + 8 * b2n (nbit x.sflt b.ch) + 16 * b2n short
  x.emit q 0x45 (toLE 2 b.part ++ toLE 1 ws.length ++ toLE 1 fl ++ ws.flatMap fun w => toLE 3 w.toNat)

/-- Send what a burst holds in frames of 20; the last samples wait until it is known whether they are final. -/
def Sap.burstSend (x : Sap) (q : Nat) : Nat → SapBurst → Bool → Bool → Sap
  | 0, b, _, _ => { x with burst := some b }
  | k + 1, b, final, short =>
    if b.held.length ≤ 20 then
      if final then { x.burstFrame q b b.held true short with burst := none } else { x with burst := some b }
    else (x.burstFrame q b (b.held.take 20) false false).burstSend q k { b with held := b.held.drop 20, part := b.part + 1 } final short

/-- End the burst in hand. -/
def Sap.burstEnd (x : Sap) (q : Nat) (short : Bool) : Sap :=
  match x.burst with
  | some b => x.burstSend q (b.held.length + 1) b true short
  | none => x

def doSaplingBurstReq (p q : Nat) (f : GFrame) (seq : Nat) (data : List (BitVec 24)) (s : State) : State :=
  sapRun s p fun x => x.act q 5 f seq (· == 8) fun x =>
    let c := pay f 0 1
    let n := pay f 2 4
    if x.burst.isSome then x.nack q 5 4
    else if !x.chOn p c || 7 < pay f 1 1 || n = 0 || 32768 < n then x.nack q 5 5
    else
      let ws := data.take n
      let b : SapBurst := { ch := c, k := pay f 1 1, left := n - ws.length, held := ws }
      x.burstSend q (ws.length + 1) b (ws.length == n) false

def doSaplingBurstAbort (p q : Nat) (f : GFrame) (seq : Nat) (s : State) : State :=
  sapRun s p fun x => x.act q 16 f seq (· == 0) fun x => (x.burstEnd q false).ack q 16

/-! ### Registers (R590, Table 17-8) -/

/-- STATUS. -/
def Sap.status (x : Sap) : Nat :=
  x.sflt + 0x10000 * b2n x.wakeReq.isSome + 0x20000 * (x.jabber % 4) + 0x80000 * (x.bypass % 4) +
    0x200000 * b2n (x.linkUp 0) + 0x400000 * b2n (x.linkUp 1)

/-- The word of register `w`, none outside the table or above the build's channels. -/
def Sap.reg (x : Sap) (p w : Nat) : Option Nat :=
  if w < 4 then some (leAt (sapIdent p) (4 * w) 4)
  else if w = 4 then some x.status
  else if w = 5 then some x.clip
  else if w = 6 then some x.ctrl.toNat
  else if 8 ≤ w ∧ w < 8 + sapChannels p then some (x.chCfg.getD (w - 8) 0).toNat
  else if 16 ≤ w ∧ w < 16 + sapChannels p then some (x.chWake.getD (w - 16) 0).toNat
  else none

/-- SETTLE count after a change of CH_CFG (R590 with Table 07-6, WIDE). -/
def sapSettle (old new : Word) : Nat :=
  let fs := 51200 / 2 ^ Nat.min 7 (wordField new 6 4)
  let iepe := 8 * fs
  let on := wordField new 0 1 = 1 ∧ wordField old 0 1 = 0
  Nat.max (if wordField old 4 2 ≠ wordField new 4 2 ∨ (on ∧ wordField new 4 2 ≠ 0) then Nat.max 80 iepe else 0)
    (if wordField old 1 3 ≠ wordField new 1 3 ∨ wordField old 6 4 ≠ wordField new 6 4 ∨ on then 80 else 0)

/-- Write register `w`. A burst of a channel that is disabled or changed ends early. -/
def Sap.setReg (x : Sap) (q w v : Nat) : Sap :=
  if w = 6 then { x with ctrl := BitVec.ofNat 32 (v % 0x20000) }
  else if 8 ≤ w ∧ w < 16 then
    let c := w - 8
    let old := x.chCfg.getD c 0
    let new : Word := BitVec.ofNat 32 (v % 0x1000)
    let x := match x.burst with
      | some b => if b.ch = c ∧ old ≠ new then x.burstEnd q true else x
      | none => x
    { x with chCfg := x.chCfg.set c new, settle := modAt x.settle c (Nat.max (sapSettle old new)) }
  else if 16 ≤ w ∧ w < 24 then { x with chWake := x.chWake.set (w - 16) (BitVec.ofNat 32 (v % 0x20000)) }
  else x

def doSaplingRegRd (p q : Nat) (f : GFrame) (seq : Nat) (s : State) : State :=
  sapRun s p fun x => x.act q 6 f seq (· == 2) fun x =>
    let w := pay f 0 1
    let n := pay f 1 1
    let vs := (List.range n).map fun i => x.reg p (w + i)
    if n = 0 ∨ 16 < n ∨ vs.any Option.isNone then x.nack q 6 3
    else
      let x := x.emit q 0x46 (vs.flatMap fun v => toLE 4 (v.getD 0))
      if w ≤ 5 ∧ 5 < w + n then { x with clip := 0 } else x

def doSaplingRegWr (p q : Nat) (f : GFrame) (seq : Nat) (s : State) : State :=
  sapRun s p fun x => x.act q 7 f seq (fun l => 6 ≤ l && l ≤ 62 && l == 2 + 4 * pay f 1 1) fun x =>
    let w := pay f 0 1
    let n := pay f 1 1
    if (List.range n).any fun i => (x.reg p (w + i)).isNone then x.nack q 7 3
    else ((List.range n).foldl (fun x i => x.setReg q (w + i) (pay f (2 + 4 * i) 4)) x).ack q 7

/-! ### Bypass and reset (R587, R589) -/

def doSaplingBypass (p q : Nat) (f : GFrame) (seq : Nat) (s : State) : State :=
  sapRun s p fun x => x.act q 14 f seq (· == 1) fun x =>
    let side := if nbit (pay f 0 1) 1 then q else 1 - q
    let x := x.ack q 14
    { x with bypass := if nbit (pay f 0 1) 0 then setBit x.bypass side else clrBit x.bypass side }

/-- A restart: registers, bypasses, hop distances and counters go; the address goes with payload 2. -/
def doSaplingReset (p q : Nat) (f : GFrame) (seq : Nat) (s : State) : State :=
  sapRun s p fun x => x.act q 15 f seq (· == 2) fun y =>
    if pay f 1 1 = 0x52 ∧ (pay f 0 1 = 1 ∨ pay f 0 1 = 2) then { addr := if pay f 0 1 = 1 then y.addr else 0, link := y.link }
    else y

/-! ### Sleep and wake (R574 to R583) -/

def doSaplingSleepPrep (p q : Nat) (f : GFrame) (seq : Nat) (s : State) : State :=
  sapRun s p fun x => x.act q 9 f seq (· == 16) fun x =>
    let x := { x with prep := some (pay f 0 8, pay f 8 4, pay f 12 2) }
    if x.wakeReq.isSome then x.sendWakeReq q else x.emit q 0x49 []

/-- It relays COMMIT and sleeps 200 µs later, unless a WAKE_REQ is outstanding. COMMIT has no answer to store. -/
def doSaplingSleepCommit (p q : Nat) (f : GFrame) (seq : Nat) (s : State) : State :=
  sapRun s p fun x =>
    let y := x.act q 10 f seq (· == 4) fun x =>
      if x.wakeReq.isSome then { x with committed := true } else { x with commitAt := some s.uptime }
    if f.ty = 10 ∧ y.hears ∧ !nbit y.jam q ∧ !nbit y.bypass q then y.forward q f else y

def doSaplingSleepAbort (p q : Nat) (f : GFrame) (s : State) : State :=
  sapRun s p fun x => x.act q 11 f 0 (· == 0) fun x => { x with commitAt := none }

/-- The RETRY_S in force (R576). -/
def Sap.retryS (x : Sap) : Nat := match x.prep with | some (_, _, r) => r | none => 60

/-- T_WAKE: of the last SLEEP_PREP, before any the time it fell asleep (log entry 55). -/
def Sap.wakeBase (x : Sap) : Nat := match x.prep with | some (t, _, _) => t | none => x.slept

/-- The instant of the wake window it sleeps for, by its own time (R575). -/
def Sap.wakeInstant (x : Sap) : Nat := x.wakeBase + x.tryN * x.retryS * 1000000000

/-- The guard of that window in ns: G, with S extended by the retries (R575). -/
def Sap.guardNs (x : Sap) : Nat :=
  1000 * (match x.prep with | some (_, g, _) => g | none => 0) + x.tryN * x.retryS * 200000

/-- `uptime` at which its own time reads `t`. -/
def Sap.uptimeAt (x : Sap) (t : Nat) : Nat := x.tAt + (t - x.tBase)

/-- It falls asleep at `now` by itself (R576, R578): the next window is the first retry instant not yet past. -/
def Sap.fallAsleep (x : Sap) (now : Nat) : Sap :=
  let x := { x with mode := .asleep, commitAt := none, slept := x.time now }
  let r := x.retryS * 1000000000
  { x with tryN := if x.wakeBase ≤ x.slept ∧ 0 < r then (x.slept - x.wakeBase) / r + 1 else 0 }

/-- `uptime` at which its wake window opens, the guard before T_WAKE, and at which the listen ends (R575). -/
def Sap.opens (x : Sap) : Nat := x.uptimeAt (x.wakeInstant - x.guardNs)
def Sap.closes (x : Sap) : Nat := x.uptimeAt (x.wakeInstant + 2 * x.guardNs + 5000000)

def doSaplingWakeWindow (p : Nat) (s : State) : State :=
  let x := sapTurn s p
  if x.mode = .asleep then setSap (s.runTo x.opens) p { x with mode := .listen } else setSap s p x

def doSaplingListenEnd (p : Nat) (s : State) : State :=
  let x := sapTurn s p
  if x.mode = .listen then setSap (s.runTo x.closes) p { x with mode := .asleep, tryN := x.tryN + 1 } else setSap s p x

/-- A wake tone on port `q`: a sleeping Sapling, listening or not, sends its own out the other port and waits for WAKE_ALL;
one that is awake or woken already passes the carrier on. -/
def doSaplingWakeDetect (p q : Nat) (s : State) : State :=
  sapRun s p fun x =>
    let x := { x with tones := 2 ^ (1 - q), link := setBit x.link q }
    if x.mode = .asleep ∨ x.mode = .listen then { x with mode := .toned } else x

def doSaplingWakeAll (p q : Nat) (f : GFrame) (s : State) : State :=
  sapRun s p fun x => x.act q 12 f 0 (· == 0) fun x => { x with mode := .awake }

def doSaplingWakeWaitEnd (p : Nat) (s : State) : State :=
  sapRun s p fun x => if x.mode = .toned then x.fallAsleep s.uptime else x

def doSaplingNodeSilence (p : Nat) (s : State) : State :=
  sapRun s p fun x => if x.mode = .awake then x.fallAsleep s.uptime else x

/-- The comparator of channel `ch` crosses at `rms`: asleep it sends a tone on both ports and wakes, and WAKE_REQ follows the
next BEACON; awake it sends WAKE_REQ at once, and a COMMIT it has taken puts it to sleep no more (R583). -/
def doSaplingWakeComparator (p ch rms : Nat) (s : State) : State :=
  sapRun s p fun x =>
    let w := x.chWake.getD ch 0
    if !(nbit x.ctrl.toNat 16 && nbit w.toNat 16 && ch < sapChannels p && wordField w 0 16 < rms) then x
    else
      let x := { x with wakeReq := some (1, ch, rms), committed := x.committed || x.commitAt.isSome, commitAt := none }
      match x.mode with
      | .asleep | .listen => { x with mode := .toned, tones := 3 }
      | .toned => x
      | .awake => if (x.hops.getD x.home none).isSome then x.sendWakeReq x.home else x

def doSaplingWakeReqRepeat (p : Nat) (s : State) : State :=
  sapRun s p fun x => if x.mode = .awake ∧ (x.hops.getD x.home none).isSome then x.sendWakeReq x.home else x

def doSaplingWakeAck (p q : Nat) (f : GFrame) (seq : Nat) (s : State) : State :=
  sapRun s p fun x => x.act q 13 f seq (· == 0) fun x => { x with wakeReq := none, committed := false }

/-- 2 ms after COMMIT without WAKE_ACK: a tone on both ports. -/
def doSaplingCommitWakeTimeout (p : Nat) (s : State) : State :=
  sapRun s p fun x => if x.committed && x.wakeReq.isSome then { x with committed := false, tones := 3 } else x

/-! ### Blocks (R571) -/

/-- RMS and PEAK of valid samples in binary16; a block with none reports quiet NaN. -/
def sapRms (ws : List (BitVec 24)) : Nat :=
  if ws.isEmpty then 0x7E00 else f16OfSqrt ((ws.map fun w => w.toInt.natAbs ^ 2).sum) (ws.length * 2 ^ 46)

def sapPeak (ws : List (BitVec 24)) : Nat :=
  if ws.isEmpty then 0x7E00 else
    let m := (ws.map fun w => w.toInt.natAbs).foldl Nat.max 0
    f16OfSqrt (m * m) (2 ^ 46)

/-- Samples of channel `c` in a block of BLOCK_MS, at most (R571, R590). -/
def Sap.blockLen (x : Sap) (c : Nat) : Nat :=
  let k := 2 ^ Nat.min 7 (wordField (x.chCfg.getD c 0) 6 4)
  (clampN 10 60000 (wordField x.ctrl 0 16) * 51200 + 1000 * k - 1) / (1000 * k)

/-- A block of BLOCK_MS completes; samples beyond it belong to the next. ENV is a free value: the spec gives no envelope filter (log entry 16). -/
def doSaplingBlockEnd (p : Nat) (data : List SapChan) (sflt : Nat) (s : State) : State :=
  let (envs, s) := s.freshList 8 65536
  sapRun s p fun x =>
    let on := (List.range 8).filter (x.chOn p)
    let valid := fun c => (((data.getD c {}).samples).take (x.blockLen c)).drop (x.settle.getD c 0)
    let res := (List.range 8).map fun c =>
      if on.contains c then
        (sapRms (valid c), sapPeak (valid c), if (valid c).isEmpty then 0x7E00 else envs.getD c 0)
      else x.results.getD c (0x7E00, 0x7E00, 0x7E00)
    let clip := on.foldl (fun n c => if (data.getD c {}).clip then setBit n c else n) 0
    { x with results := res, endT := (s.uptime - x.beaconAt) * 32768 / 1000000000 % 2 ^ 32, clip := x.clip ||| clip,
             clipRep := x.clipRep ||| clip, sflt := sflt, fresh := true,
             settle := (List.range 8).map fun c => x.settle.getD c 0 - Nat.min (x.blockLen c) ((data.getD c {}).samples).length }

end Sys2Proof.Machine
end

