-- ==== Sys2Proof/Machine/ExecGrove.lean ====
section
/-! DEFINITION. What each command of the Grove and its satellites (chapter 17) does: one definition per row, over the operations of the unit. -/

namespace Sys2Proof.Machine

/-- R560: GRV_x_CMD OP = ENUM resets, beacons and enumerates the port's Saplings. -/
def execGroveEnum (t : Fin 8) (x : Fin 2) (s : State) : Host.Outcome State Fault Refusal :=
  .next (doWrite s t.val (GRV_CMD.addr x.val) 1)

/-- R574: GRV_x_CMD OP = SLEEP starts the sleep agreement on the port. -/
def execGroveSleep (t : Fin 8) (x : Fin 2) (s : State) : Host.Outcome State Fault Refusal :=
  .next (doWrite s t.val (GRV_CMD.addr x.val) 2)

/-- R579: GRV_x_CMD OP = WAKE sends a wake tone on the port. -/
def execGroveWake (t : Fin 8) (x : Fin 2) (s : State) : Host.Outcome State Fault Refusal :=
  .next (doWrite s t.val (GRV_CMD.addr x.val) 3)

/-- R570: GRV_x_CMD OP = BEACON starts a session at once on an awake port. -/
def execGroveBeacon (t : Fin 8) (x : Fin 2) (s : State) : Host.Outcome State Fault Refusal :=
  .next (doWrite s t.val (GRV_CMD.addr x.val) 4)

/-- R565: The schedule's NEXT instant arrives; the controller sends a BEACON with a new SESSION. -/
def execGroveSessionStart (x : Fin 2) (s : State) : Host.Outcome State Fault Refusal :=
  .next (doGroveSessionStart x.val s)

/-- R565: In RING a BEACON does not return unturned on GB in 200 µs; it is sent on GB and the break is located. -/
def execGroveBeaconReturnTimeout (x : Fin 2) (s : State) : Host.Outcome State Fault Refusal :=
  .next (doGroveBeaconReturnTimeout x.val s)

/-- R567: The 1 ms check-in window ends; a SESSION entry is written or drift recovery starts. -/
def execGroveCheckinWindowEnd (x : Fin 2) (s : State) : Host.Outcome State Fault Refusal :=
  .next (doGroveCheckinWindowEnd x.val s)

/-- R584: The 3 × G listen of drift recovery ends; tone, WAKE_ALL, TIME_SET and BEACON follow and misses are recorded.
-/
def execGroveDriftListenEnd (x : Fin 2) (s : State) : Host.Outcome State Fault Refusal :=
  .next (doGroveDriftListenEnd x.val s)

/-- R568: On an awake port the controller takes the next transmit entry and sends its frame. -/
def execGroveTxEntry (x : Fin 2) (s : State) : Host.Outcome State Fault Refusal :=
  .next (doGroveTxEntry x.val s)

/-- R568: No answer within the timeout; the frame is resent or a TIMEOUT entry is written. -/
def execGroveAnswerTimeout (x : Fin 2) (s : State) : Host.Outcome State Fault Refusal :=
  .next (doGroveAnswerTimeout x.val s)

/-- R552: An upstream Grove frame arrives and is checked against its fold, type and length. -/
def execGroveFrameRx (x : Fin 2) (bad : Bool) (bs : List Byte) (s : State) : Host.Outcome State Fault Refusal :=
  .next (doGroveFrameRx x.val bad bs s)

/-- R567: A CHECKIN arrives during a session and marks the Sapling checked in. -/
def execGroveCheckinRx (x : Fin 2) (f : GFrame) (s : State) : Host.Outcome State Fault Refusal :=
  .next (doGroveCheckinRx x.val f s)

/-- R560: An IDENT answers ENUM and is recorded in GRV_SAP_a_INFO. -/
def execGroveIdentRx (x : Fin 2) (f : GFrame) (s : State) : Host.Outcome State Fault Refusal :=
  .next (doGroveIdentRx x.val f s)

/-- R568: A PONG, REPORT, REG_DATA, ACK or NACK answering an entry writes a REPLY receive entry. -/
def execGroveAnswerRx (x : Fin 2) (f : GFrame) (s : State) : Host.Outcome State Fault Refusal :=
  .next (doGroveAnswerRx x.val f s)

/-- R569: A BURST_DATA frame gets its own receive entry. -/
def execGroveBurstDataRx (x : Fin 2) (f : GFrame) (s : State) : Host.Outcome State Fault Refusal :=
  .next (doGroveBurstDataRx x.val f s)

/-- R569: No BURST_DATA arrives for 10 ms; the burst slot is freed. -/
def execGroveBurstGapTimeout (x : Fin 2) (s : State) : Host.Outcome State Fault Refusal :=
  .next (doGroveBurstGapTimeout x.val s)

/-- R582: A WAKE_REQ arrives; it cancels a sleep agreement or wakes the Grove and is acknowledged. -/
def execGroveWakeReqRx (x : Fin 2) (f : GFrame) (s : State) : Host.Outcome State Fault Refusal :=
  .next (doGroveWakeReqRx x.val f s)

/-- R574: A SLEEP_OK from a checked-in Sapling is recorded during the agreement. -/
def execGroveSleepOkRx (x : Fin 2) (f : GFrame) (s : State) : Host.Outcome State Fault Refusal :=
  .next (doGroveSleepOkRx x.val f s)

/-- R574: The 2 ms wait for SLEEP_OK ends; PREP is resent or SLEEP_COMMIT sent. -/
def execGroveSleepPrepTimeout (x : Fin 2) (s : State) : Host.Outcome State Fault Refusal :=
  .next (doGroveSleepPrepTimeout x.val s)

/-- R574: The last bit of SLEEP_COMMIT leaves; the port is ASLEEP. -/
def execGroveCommitSent (x : Fin 2) (s : State) : Host.Outcome State Fault Refusal :=
  .next (doGroveCommitSent x.val s)

/-- R579: The wake tone and its settling time end; WAKE_ALL and a BEACON are sent. -/
def execGroveWakeToneEnd (x : Fin 2) (s : State) : Host.Outcome State Fault Refusal :=
  .next (doGroveWakeToneEnd x.val s)

/-- R581: Carrier of 100 µs without SD on a receive pair is a wake request. -/
def execGroveCarrierWake (x : Fin 2) (s : State) : Host.Outcome State Fault Refusal :=
  .next (doGroveCarrierWake x.val s)

/-- R566: A Sapling takes a BEACON, records its hop distance, sets its time and checks in. -/
def execSaplingBeacon (p : Fin 62) (q : Fin 2) (f : GFrame) (s : State) : Host.Outcome State Fault Refusal :=
  .next (doSaplingBeacon p.val q.val f s)

/-- R555: An awake Sapling relays, takes or turns a frame on its ports. -/
def execSaplingRelay (p : Fin 62) (q : Fin 2) (f : GFrame) (s : State) : Host.Outcome State Fault Refusal :=
  .next (doSaplingRelay p.val q.val f s)

/-- R557: Carrier lasts over 40 µs after an SD; the Sapling stops relaying from that pair. -/
def execSaplingJabber (p : Fin 62) (q : Fin 2) (s : State) : Host.Outcome State Fault Refusal :=
  .next (doSaplingJabber p.val q.val s)

/-- R589: A Sapling takes ENUM, adopts its address and answers IDENT. -/
def execSaplingEnum (p : Fin 62) (q : Fin 2) (f : GFrame) (s : State) : Host.Outcome State Fault Refusal :=
  .next (doSaplingEnum p.val q.val f s)

/-- R571: A Sapling answers POLL with REPORT of its last completed block. -/
def execSaplingPoll (p : Fin 62) (q : Fin 2) (f : GFrame) (seq : BitVec 8) (s : State) : Host.Outcome State Fault Refusal :=
  .next (doSaplingPoll p.val q.val f seq.toNat s)

/-- R572: A Sapling captures and sends the requested raw burst. -/
def execSaplingBurstReq (p : Fin 62) (q : Fin 2) (f : GFrame) (seq : BitVec 8) (data : List (BitVec 24)) (s : State) : Host.Outcome State Fault Refusal :=
  .next (doSaplingBurstReq p.val q.val f seq.toNat data s)

/-- R572: A Sapling ends its burst at once with FINAL. -/
def execSaplingBurstAbort (p : Fin 62) (q : Fin 2) (f : GFrame) (seq : BitVec 8) (s : State) : Host.Outcome State Fault Refusal :=
  .next (doSaplingBurstAbort p.val q.val f seq.toNat s)

/-- R590: A Sapling answers REG_RD with REG_DATA or NACK. -/
def execSaplingRegRd (p : Fin 62) (q : Fin 2) (f : GFrame) (seq : BitVec 8) (s : State) : Host.Outcome State Fault Refusal :=
  .next (doSaplingRegRd p.val q.val f seq.toNat s)

/-- R590: A Sapling performs REG_WR and answers ACK or NACK. -/
def execSaplingRegWr (p : Fin 62) (q : Fin 2) (f : GFrame) (seq : BitVec 8) (s : State) : Host.Outcome State Fault Refusal :=
  .next (doSaplingRegWr p.val q.val f seq.toNat s)

/-- R558: A Sapling answers PING with PONG echoing the payload. -/
def execSaplingPing (p : Fin 62) (q : Fin 2) (f : GFrame) (seq : BitVec 8) (s : State) : Host.Outcome State Fault Refusal :=
  .next (doSaplingPing p.val q.val f seq.toNat s)

/-- R587: A Sapling acks BYPASS, then bypasses or restores the named port. -/
def execSaplingBypass (p : Fin 62) (q : Fin 2) (f : GFrame) (seq : BitVec 8) (s : State) : Host.Outcome State Fault Refusal :=
  .next (doSaplingBypass p.val q.val f seq.toNat s)

/-- R589: A Sapling restarts within 10 ms, keeping or clearing its address. -/
def execSaplingReset (p : Fin 62) (q : Fin 2) (f : GFrame) (seq : BitVec 8) (s : State) : Host.Outcome State Fault Refusal :=
  .next (doSaplingReset p.val q.val f seq.toNat s)

/-- R566: A Sapling sets its time from TIME_SET. -/
def execSaplingTimeSet (p : Fin 62) (q : Fin 2) (f : GFrame) (s : State) : Host.Outcome State Fault Refusal :=
  .next (doSaplingTimeSet p.val q.val f s)

/-- R574: A Sapling takes SLEEP_PREP and answers SLEEP_OK or WAKE_REQ. -/
def execSaplingSleepPrep (p : Fin 62) (q : Fin 2) (f : GFrame) (seq : BitVec 8) (s : State) : Host.Outcome State Fault Refusal :=
  .next (doSaplingSleepPrep p.val q.val f seq.toNat s)

/-- R575: A Sapling relays SLEEP_COMMIT and sleeps 200 µs later unless a wake is pending. -/
def execSaplingSleepCommit (p : Fin 62) (q : Fin 2) (f : GFrame) (seq : BitVec 8) (s : State) : Host.Outcome State Fault Refusal :=
  .next (doSaplingSleepCommit p.val q.val f seq.toNat s)

/-- R575: At G before T_WAKE, or a retry instant, a sleeping Sapling wakes its receivers and listens. -/
def execSaplingWakeWindow (p : Fin 62) (s : State) : Host.Outcome State Fault Refusal :=
  .next (doSaplingWakeWindow p.val s)

/-- R575: No BEACON arrives by the listen end; the Sapling sleeps for RETRY_S. -/
def execSaplingListenEnd (p : Fin 62) (s : State) : Host.Outcome State Fault Refusal :=
  .next (doSaplingListenEnd p.val s)

/-- R578: A sleeping Sapling detects carrier, sends its own tone and wakes. -/
def execSaplingWakeDetect (p : Fin 62) (q : Fin 2) (s : State) : Host.Outcome State Fault Refusal :=
  .next (doSaplingWakeDetect p.val q.val s)

/-- R580: A Sapling's wake comparator crosses; it sends a tone or WAKE_REQ. -/
def execSaplingWakeComparator (p : Fin 62) (ch : Fin 8) (rms : BitVec 16) (s : State) : Host.Outcome State Fault Refusal :=
  .next (doSaplingWakeComparator p.val ch.val rms.toNat s)

/-- R580: Every 1 ms without WAKE_ACK a Sapling resends WAKE_REQ. -/
def execSaplingWakeReqRepeat (p : Fin 62) (s : State) : Host.Outcome State Fault Refusal :=
  .next (doSaplingWakeReqRepeat p.val s)

/-- R580: A Sapling takes WAKE_ACK and clears WAKE_PEND. -/
def execSaplingWakeAck (p : Fin 62) (q : Fin 2) (f : GFrame) (seq : BitVec 8) (s : State) : Host.Outcome State Fault Refusal :=
  .next (doSaplingWakeAck p.val q.val f seq.toNat s)

/-- R571: A Sapling completes a BLOCK_MS block of RMS, PEAK and ENV values. -/
def execSaplingBlockEnd (p : Fin 62) (data : List SapChan) (sflt : BitVec 8) (s : State) : Host.Outcome State Fault Refusal :=
  .next (doSaplingBlockEnd p.val data sflt.toNat s)

/-- R549: A Sapling port receives no carrier for 100 µs and becomes link-down, so frames for it are turned. -/
def execSaplingLinkDown (p : Fin 62) (q : Fin 2) (s : State) : Host.Outcome State Fault Refusal :=
  .next (doSaplingLinkDown p.val q.val s)

/-- R557: A jabbering pair stays without carrier for 10 µs; the Sapling resumes relaying from it. -/
def execSaplingJabberEnd (p : Fin 62) (q : Fin 2) (s : State) : Host.Outcome State Fault Refusal :=
  .next (doSaplingJabberEnd p.val q.val s)

/-- R578: An awake Sapling takes WAKE_ALL and stays awake awaiting a BEACON. -/
def execSaplingWakeAll (p : Fin 62) (q : Fin 2) (f : GFrame) (s : State) : Host.Outcome State Fault Refusal :=
  .next (doSaplingWakeAll p.val q.val f s)

/-- R582: A Sapling takes SLEEP_ABORT within its hold-off and cancels its pending sleep. -/
def execSaplingSleepAbort (p : Fin 62) (q : Fin 2) (f : GFrame) (s : State) : Host.Outcome State Fault Refusal :=
  .next (doSaplingSleepAbort p.val q.val f s)

/-- R578: A Sapling woken by a tone receives no WAKE_ALL or BEACON within 100 ms and sleeps again. -/
def execSaplingWakeWaitEnd (p : Fin 62) (s : State) : Host.Outcome State Fault Refusal :=
  .next (doSaplingWakeWaitEnd p.val s)

/-- R576: An awake Sapling hears nothing from the node for 1 s, sleeps and retries at RETRY_S. -/
def execSaplingNodeSilence (p : Fin 62) (s : State) : Host.Outcome State Fault Refusal :=
  .next (doSaplingNodeSilence p.val s)

/-- R583: A Sapling with a WAKE_REQ outstanding has no WAKE_ACK 2 ms after SLEEP_COMMIT and sends a tone on both
ports. -/
def execSaplingCommitWakeTimeout (p : Fin 62) (s : State) : Host.Outcome State Fault Refusal :=
  .next (doSaplingCommitWakeTimeout p.val s)

end Sys2Proof.Machine
end

