-- ==== Sys2Proof/Machine/ExecHeartwood.lean ====
section
/-! DEFINITION. What each command of Heartwood (chapter 11) does: one definition per row, over the operations of the unit. -/

namespace Sys2Proof.Machine

/-- R341: HWD_TXN_CTRL OP = OPEN opens a transaction for the tenant, or gives BUSY. -/
def execHwdTxnOpen (t : Fin 8) (u : Fin 8) (s : State) : Host.Outcome State Fault Refusal :=
  .next (doWrite s t.val (HWD_TXN_CTRL.addr u.val) 1)

/-- R345: HWD_TXN_CTRL OP = COMMIT moves an OPEN transaction to COMMITTING. -/
def execHwdTxnCommit (t : Fin 8) (u : Fin 8) (s : State) : Host.Outcome State Fault Refusal :=
  .next (doWrite s t.val (HWD_TXN_CTRL.addr u.val) 2)

/-- R346: HWD_TXN_CTRL OP = ABORT discards an OPEN or FAILED transaction. -/
def execHwdTxnAbort (t : Fin 8) (u : Fin 8) (s : State) : Host.Outcome State Fault Refusal :=
  .next (doWrite s t.val (HWD_TXN_CTRL.addr u.val) 3)

/-- R342: A write of HWD_JE_GO submits a journal entry, or fails the transaction. -/
def execHwdEntrySubmit (t : Fin 8) (u : Fin 8) (s : State) : Host.Outcome State Fault Refusal :=
  .next (doWrite s t.val (HWD_JE_GO.addr u.val) 1)

/-- R344: A queued write through HWD_CONF joins the claiming tenant's transaction as a 4-byte CONF entry. -/
def execHwdConfPortWrite (s : State) : Host.Outcome State Fault Refusal :=
  .next (doHwdConfPortWrite s)

/-- R343: An entry is copied into JOURNAL; its source lock ends. -/
def execHwdEntryStaged (t : Fin 8) (bad : Bool) (s : State) : Host.Outcome State Fault Refusal :=
  .next (releaseHwdReset (doEntryStaged t.val bad s))

/-- R345: The commit record is written: the commit instant, after which entries are applied. -/
def execHwdCommitRecord (s : State) : Host.Outcome State Fault Refusal :=
  .next (releaseHwdReset (doCommitRecord s))

/-- R345: A commit's entries are applied; the transaction becomes DONE with OK. -/
def execHwdCommitDone (s : State) : Host.Outcome State Fault Refusal :=
  .next (releaseHwdReset (doCommitDone s))

/-- R358: The background apply of an unfinished commit after boot ends; REPLAY clears. -/
def execHwdReplayDone (bad : List Nat) (s : State) : Host.Outcome State Fault Refusal :=
  .next (doHwdReplayDone bad s)

/-- R336: Each row is read once per 7 days and its words corrected or reported. -/
def execHwdScrub (one two unc : Fin 9) (s : State) : Host.Outcome State Fault Refusal :=
  .next (doHwdScrub one.val two.val unc.val s)

/-- R353: Pending event-log entries are committed within 10 ms of their events. -/
def execHwdEventCommit (s : State) : Host.Outcome State Fault Refusal :=
  .next (commitEvents s)

/-- R355: A write to HWD_KEYS_LOCK_SET with KEY 0x4C4B permanently locks the named key blocks. -/
def execKeysLockSet (t : Fin 8) (v : Word) (s : State) : Host.Outcome State Fault Refusal :=
  .next (doWrite s t.val HWD_KEYS_LOCK_SET.addr v)

end Sys2Proof.Machine
end

