-- ==== Sys2Proof/Machine/ExecImage.lean ====
section
/-! DEFINITION. What each command of images and grafting (chapter 09) does: one definition per row, over the operations of the unit. -/

namespace Sys2Proof.Machine

/-- R283: SEC_IMG_CTRL OP = VERIFY with GO starts verification of a staged image. -/
def execImageVerify (t : Fin 8) (s : State) : Host.Outcome State Fault Refusal :=
  .next (doWrite s t.val SEC_IMG_CTRL.addr 0x80000001)

/-- R291: SEC_IMG_CTRL OP = INSTALL_A with GO verifies a FULL image and installs it in BOOT_A. -/
def execImageInstallA (t : Fin 8) (s : State) : Host.Outcome State Fault Refusal :=
  .next (doWrite s t.val SEC_IMG_CTRL.addr 0x80000002)

/-- R291: SEC_IMG_CTRL OP = INSTALL_B with GO verifies a FULL image and installs it in BOOT_B. -/
def execImageInstallB (t : Fin 8) (s : State) : Host.Outcome State Fault Refusal :=
  .next (doWrite s t.val SEC_IMG_CTRL.addr 0x80000003)

/-- R294: SEC_IMG_CTRL OP = GRAFT with GO verifies a GRAFT image for one bough. -/
def execImageGraft (t : Fin 8) (b : Fin 4) (s : State) : Host.Outcome State Fault Refusal :=
  .next (doWrite s t.val SEC_IMG_CTRL.addr (wordSet 0x80000004 4 2 b.val))

/-- R293: SEC_IMG_CTRL OP = ARB_RAISE with GO raises anti-rollback counter ARB_ID. -/
def execArbRaise (t : Fin 8) (k : Fin 8) (s : State) : Host.Outcome State Fault Refusal :=
  .next (doWrite s t.val SEC_IMG_CTRL.addr (wordSet 0x80000005 8 3 k.val))

/-- R284: Image verification completes with a RESULT; a graft or install then proceeds, or the operation ends. -/
def execImageVerifyDone (readErr : Bool) (s : State) : Host.Outcome State Fault Refusal :=
  .next (doImageVerifyDone readErr s)

/-- R292: An install writes the slot, re-reads it and commits its descriptor VALID. -/
def execImageInstallDone (s : State) (readErr : Bool := false) : Host.Outcome State Fault Refusal :=
  .next (doImageInstallDone readErr s)

/-- R295: The graft sequence completes; the bough runs the new structure and ports reopen. -/
def execGraftEnd (s : State) (readErr : Bool := false) : Host.Outcome State Fault Refusal :=
  .next (doGraftEnd readErr s)

end Sys2Proof.Machine
end

