-- ==== Sys2Proof/Machine/ExecJtag.lean ====
section
/-! DEFINITION. What each command of the JTAG port (chapters 12 and 21) does: one definition per row, over the operations of the unit. -/

namespace Sys2Proof.Machine

/-- R684: EXTEST in the instruction register cuts the scanned lands off from their units and drives them from the
register. -/
def execJtagExtest (sampled drive : List Bool) (s : State) : Host.Outcome State Fault Refusal :=
  .next (doJtagExtest sampled drive s)

/-- R683: SAMPLE/PRELOAD captures and preloads the boundary-scan register. -/
def execJtagSamplePreload (sampled preload : List Bool) (s : State) : Host.Outcome State Fault Refusal :=
  .next (doJtagSamplePreload sampled preload s)

/-- R684: HIGHZ sets the scanned lands high-impedance. -/
def execJtagHighz (s : State) : Host.Outcome State Fault Refusal :=
  .next (doJtagHighz s)

/-- R683: BYPASS, or any unlisted code, selects the one-bit bypass register. -/
def execJtagBypass (code : BitVec 5) (s : State) : Host.Outcome State Fault Refusal :=
  .next (doJtagBypass code s)

/-- R396: DTMCS accesses the debug transport control and status. -/
def execJtagDtmcs (v : Word) (s : State) : Host.Outcome State Fault Refusal :=
  .next (doJtagDtmcs v s)

/-- R396: DMI performs a debug module interface access. -/
def execJtagDmi (op : Fin 4) (a : Fin 128) (v : Word) (ecc : Fin 3) (s : State) : Host.Outcome State Fault Refusal :=
  .next (doJtagDmi op.val a.val v ecc.val s)

end Sys2Proof.Machine
end

