-- ==== Sys2Proof/Machine/ExecMotion.lean ====
section
/-! DEFINITION. What each command of motion (chapter 18) does: one definition per row, over the operations of the unit. -/

namespace Sys2Proof.Machine

/-- R598: Every 1 µs the generator advances each moving axis's velocity and position and emits microsteps. -/
def execMotionTick (s : State) : Host.Outcome State Fault Refusal :=
  .next (doMotionTick s)

/-- R604: MOT_n_CMD OP = STOP ramps an axis or group to rest, keeping its distance. -/
def execAxisStop (t : Fin 8) (n : Fin 4) (s : State) : Host.Outcome State Fault Refusal :=
  .next (doWrite s t.val (MOT_CMD.addr n.val) 1)

/-- R603: MOT_n_CMD OP = RESUME continues a stopped or halted axis toward its kept target, or is refused. -/
def execAxisResume (t : Fin 8) (n : Fin 4) (s : State) : Host.Outcome State Fault Refusal :=
  .next (doWrite s t.val (MOT_CMD.addr n.val) 2)

/-- R600: MOT_n_CMD OP = HALT ends emission within 50 ns, keeping the distance. -/
def execAxisHalt (t : Fin 8) (n : Fin 4) (s : State) : Host.Outcome State Fault Refusal :=
  .next (doWrite s t.val (MOT_CMD.addr n.val) 3)

/-- R605: MOT_n_CMD OP = HOME starts the homing method on the axis. -/
def execAxisHome (t : Fin 8) (n : Fin 4) (s : State) : Host.Outcome State Fault Refusal :=
  .next (doWrite s t.val (MOT_CMD.addr n.val) 4)

/-- R624: MOT_n_CMD OP = SETPOS sets an idle axis's position and target. -/
def execAxisSetpos (t : Fin 8) (n : Fin 4) (s : State) : Host.Outcome State Fault Refusal :=
  .next (doWrite s t.val (MOT_CMD.addr n.val) 5)

/-- R604: MOT_n_CMD OP = CLEAR discards the kept distance and makes the axis IDLE. -/
def execAxisClear (t : Fin 8) (n : Fin 4) (s : State) : Host.Outcome State Fault Refusal :=
  .next (doWrite s t.val (MOT_CMD.addr n.val) 6)

/-- R606: The filtered HOME input changes during homing; the phase ends or the position is latched. -/
def execHomeInputEdge (n : Fin 4) (high : Bool) (s : State) : Host.Outcome State Fault Refusal :=
  .next (fromLands s (doHomeInputEdge n.val high))

/-- R612: A counted master edge updates a geared axis's locked position or commanded velocity. -/
def execGearMasterEdge (n : Fin 4) (dt : Nat) (s : State) : Host.Outcome State Fault Refusal :=
  .next (fromLands s (doGearMasterEdge n.val dt))

/-- R617: A rising STEP_IN edge adds IN_MULT microsteps to a following axis's target. -/
def execFollowStepIn (n : Fin 4) (dir : Bool) (s : State) : Host.Outcome State Fault Refusal :=
  .next (fromLands s (doFollowStepIn n.val dir))

/-- R621: The encoder deviation exceeds DEV for FILT_MS; the axis halts FOLLOWING. -/
def execEncoderDeviationHalt (n : Fin 4) (s : State) : Host.Outcome State Fault Refusal :=
  .next (doEncoderDeviationHalt n.val s)

/-- R622: LIMIT becomes active while the axis moves toward its side; the axis halts LIMIT. -/
def execLimitActive (n : Fin 4) (high : Bool) (s : State) : Host.Outcome State Fault Refusal :=
  .next (fromLands s (doLimitActive n.val high))

/-- R623: Every 100 µs of mill time each axis position enters the history. -/
def execPositionHistorySample (s : State) : Host.Outcome State Fault Refusal :=
  .next (doPositionHistorySample s)

end Sys2Proof.Machine
end

