-- ==== Sys2Proof/Machine/ExecPower.lean ====
section
/-! DEFINITION. What each command of supplies, boot, modes and resets (chapters 02 and 03) does: one definition per row, over the operations of the unit. -/

namespace Sys2Proof.Machine

/-- R64: VIN rises through 17.0 V; with Root lost this starts a cold boot (POR, Root-up step). -/
def execVinValid (s : State) : Host.Outcome State Fault Refusal :=
  .next (doVinValid s)

/-- R713: Root becomes powered after being unpowered, from VIN or VBAK; Root is cleared and the node stays in OFF
until VIN is valid. -/
def execRootPor (s : State) : Host.Outcome State Fault Refusal :=
  .next (doRootPor s)

/-- R80: VIN falls through 16.0 V for 10 µs; the node enters HOLDUP, or OFF from ROOT or SAFE, under Table 03-2. -/
def execVinFail (holdLow : Bool) (s : State) : Host.Outcome State Fault Refusal :=
  .next (doVinFail holdLow s)

/-- R76: VIN has stayed at or above 17.0 V for 10 ms; VIN_QUAL sets and a warm return or warm wake may follow. -/
def execVinQualified (s : State) : Host.Outcome State Fault Refusal :=
  .next (doVinQualified s)

/-- R76: HOLD reaches 17.0 V and HOLD_OK sets. -/
def execHoldReady (s : State) : Host.Outcome State Fault Refusal :=
  .next (doHoldReady s)

/-- R84: HOLD falls through 14.0 V before the commit point; the sequence ends at once and the previous journal commit
stands. -/
def execHoldExhausted (s : State) : Host.Outcome State Fault Refusal :=
  .next (doHoldExhausted s)

/-- R76: VBAK crosses 2.5 V and VBAK_OK changes. -/
def execVbakPresent (present : Bool) (s : State) : Host.Outcome State Fault Refusal :=
  .next (doVbakPresent present s)

/-- R76: VBAK falls below 2.6 V and VBAK_LOW sets. -/
def execVbakLow (s : State) : Host.Outcome State Fault Refusal :=
  .next (doVbakLow s)

/-- R78: VM rises through 11.0 V; VM_OK sets and any VM_UV clears. -/
def execVmRiseOk (s : State) : Host.Outcome State Fault Refusal :=
  .next (doVmRise s)

/-- R78: VM falls through 10.5 V while VM_OK = 1; VM_UV sets and the drive stage faults. -/
def execVmUndervoltage (s : State) : Host.Outcome State Fault Refusal :=
  .next (doVmUnder s)

/-- R76: VM rises through 56 V (clearing below 54 V); VM_OV sets and the drive stage faults. -/
def execVmOvervoltage (ovr : Bool) (s : State) : Host.Outcome State Fault Refusal :=
  .next (doVmOver ovr s)

/-- R76: Every 100 µs the supply monitors update PWR_VMON0 and PWR_VMON1. -/
def execVmonUpdate (vin hold vm vbak : BitVec 16) (s : State) : Host.Outcome State Fault Refusal :=
  .next (doVmon vin.toNat hold.toNat vm.toNat vbak.toNat s)

/-- R36: VIO_GEN comes within range while the Root-up step waits for it; the straps are then sampled and the boot
proceeds. -/
def execVioGenInRange (straps : BitVec 8) (vio18 : Bool) (s : State) : Host.Outcome State Fault Refusal :=
  .next (doVioGenInRange straps.toNat vio18 s)

/-- R64: The 5 ms Root-up step of a cold boot ends; the straps are sampled and the node enters WAKING. -/
def execRootUpEnd (straps : BitVec 8) (vio18 vioOk : Bool) (s : State) : Host.Outcome State Fault Refusal :=
  .next (doRootUpEnd straps.toNat vio18 vioOk s)

/-- R64: The rails step ends and the PLL step starts. -/
def execRailsStepEnd (s : State) : Host.Outcome State Fault Refusal :=
  .next (doRailsStepEnd s)

/-- R64: The PLL step ends and the M-die-ready step starts. -/
def execPllStepEnd (s : State) : Host.Outcome State Fault Refusal :=
  .next (doPllStepEnd s)

/-- R66: A rail or PLL is not in range 2 ms after its step; PWR_SEQ raises GRAVE and the node enters SAFE. -/
def execBootStepTimeout (s : State) : Host.Outcome State Fault Refusal :=
  .next (doBootStepTimeout s)

/-- R64: The M-die-ready step ends; the node enters LOAD, or SAFE when the SAFE latch is set. -/
def execMdieReadyEnd (s : State) : Host.Outcome State Fault Refusal :=
  .next (doMdieReadyEnd s)

/-- R67: The M-die is not ready 5 ms after its step began; MDIE_FAIL and NO_IMAGE set and the node holds in LOAD. -/
def execMdieReadyTimeout (s : State) : Host.Outcome State Fault Refusal :=
  .next (doMdieReadyTimeout s)

/-- R65: Boot verification of the selected slot ends; on failure the node falls back to the other slot or holds in
LOAD. -/
def execSignatureCheckDone (s : State) (ecc : List (Fin 3) := []) : Host.Outcome State Fault Refusal :=
  .next (doSignatureCheckDone ecc s)

/-- R287: Image apply loads sections and registers, clears tile state, releases cores with START = 1, and LOAD ends in
the target mode. -/
def execImageApply (s : State) : Host.Outcome State Fault Refusal :=
  .next (doImageApply s)

/-- R56: A write of SYS_MODE_REQ.TARGET requests a mode; it is accepted, latched for a safe point, or refused. -/
def execModeRequest (t : Fin 8) (v : Word) (s : State) : Host.Outcome State Fault Refusal :=
  .next (doWrite s t.val SYS_MODE_REQ.addr v)

/-- R75: An orderly power-down to ROOT reaches its commit point; the main rails turn off and the node enters ROOT, or
acts on a latched request. -/
def execPowerdownCommit (s : State) : Host.Outcome State Fault Refusal :=
  .next (doPowerdownCommit s)

/-- R82: The HOLDUP firmware window ends; open Heartwood transactions are aborted and later entries refused. -/
def execHoldupFwWindowEnd (s : State) : Host.Outcome State Fault Refusal :=
  .next (doHoldupFwWindowEnd s)

/-- R80: 10 ms into HOLDUP, the bridges of any axis still moving are turned off and its AXCUT bit is set. -/
def execHoldupAxisCut (s : State) : Host.Outcome State Fault Refusal :=
  .next (doHoldupAxisCut s)

/-- R87: The HOLDUP sequence reaches its commit point; it makes a warm return, a latched reset, waits, or goes on to
end. -/
def execHoldupCommit (s : State) : Host.Outcome State Fault Refusal :=
  .next (doHoldupCommit s)

/-- R88: The return wait expires without qualified VIN; the sequence ends. -/
def execHoldupReturnWaitEnd (s : State) : Host.Outcome State Fault Refusal :=
  .next (doHoldupReturnWaitEnd s)

/-- R80: The HOLDUP sequence ends; the main rails turn off and the node enters OFF. -/
def execHoldupEnd (s : State) : Host.Outcome State Fault Refusal :=
  .next (doHoldupEnd s)

/-- R70: PWR_WTIMER0 or PWR_WTIMER1 counts to zero and sets its wake cause. -/
def execWakeTimerExpiry (n : Fin 2) (s : State) : Host.Outcome State Fault Refusal :=
  .next (doWakeTimerExpiry n.val s)

/-- R70: A non-zero write to PWR_WTIMER0 or PWR_WTIMER1 starts a one-shot count; 0 stops it. -/
def execWakeTimerWrite (t : Fin 8) (n : Fin 2) (v : Word) (s : State) : Host.Outcome State Fault Refusal :=
  .next (doWrite s t.val (PWR_WTIMER.addr n.val) v)

/-- R71: A watch-cycle instant T0 + n × PWR_WATCH_PERIOD arrives; the node warm-wakes into WATCH or skips the
snapshot. -/
def execWatchPeriodInstant (s : State) : Host.Outcome State Fault Refusal :=
  .next (doWatchPeriodInstant s)

/-- R72: The WATCH snapshot's records have left, or 100 ms after acquisition have passed; the node powers down to
ROOT. -/
def execWatchSnapEnd (s : State) : Host.Outcome State Fault Refusal :=
  .next (doWatchSnapEnd s)

/-- R62: An access to PWR_RMEM_DATA reads or writes the Root memory word at WADDR, with auto-increment; writes below
0x1_9000 are discarded. -/
def execRmemDataAccess (t : Fin 8) (v : Option Word) (s : State) : Host.Outcome State Fault Refusal :=
  .next (match v with | some w => doWrite s t.val PWR_RMEM_DATA.addr w | none => doRead s t.val PWR_RMEM_DATA.addr)

/-- R47: RST_N reads low in 4 consecutive ROOT_FAST samples; the node enters node reset, or latches it in HOLDUP or
power-down, or ignores it in SAFE. -/
def execRstNLow (s : State) : Host.Outcome State Fault Refusal :=
  .next (fromLands s doRstLow)

/-- R48: RST_N is released after a node reset; the node boots without Root-up wait or strap sampling. -/
def execRstNRelease (s : State) : Host.Outcome State Fault Refusal :=
  .next (fromLands s doRstRelease)

/-- R156: A write of 0x0000_4E52 to SYS_NODE_RST requests a node reset, acted on as RST_N. -/
def execNodeResetRequest (t : Fin 8) (v : Word) (s : State) : Host.Outcome State Fault Refusal :=
  .next (doWrite s t.val SYS_NODE_RST.addr v)

/-- R77: VIN falls below 17.0 V without failing; VIN_QUAL clears and the 10 ms qualification restarts. -/
def execVinExcursion (s : State) : Host.Outcome State Fault Refusal :=
  .next (doVinExcursion s)

/-- R79: HOLD reaches VIN − 0.5 V, the charger stops drawing current and PWR_STATUS.CHARGING clears. -/
def execHoldChargeComplete (s : State) : Host.Outcome State Fault Refusal :=
  .next (doHoldChargeComplete s)

/-- R72: PWR_WATCH_SNAP.MS of acquisition elapse in WATCH; acquisition stops and the 100 ms egress limit starts. -/
def execWatchAcquisitionEnd (s : State) : Host.Outcome State Fault Refusal :=
  .next (doWatchAcquisitionEnd s)

end Sys2Proof.Machine
end

