-- ==== Sys2Proof/Machine/ExecRack.lean ====
section
/-! DEFINITION. What each command of the rack bridge (chapter 16) does: one definition per row, over the operations of the unit. -/

namespace Sys2Proof.Machine

/-- R511: An outbound request without mastership pulls CRB_BREQ_N low. -/
def execCrbBusRequest (s : State) : Host.Outcome State Fault Refusal :=
  .next (doCrbBusRequest s)

/-- R511: CRB_BGNT_N falls and the bus is idle; the node takes mastership. -/
def execCrbGrant (s : State) : Host.Outcome State Fault Refusal :=
  .next (fromLands s doCrbGrant)

/-- R513: No grant within ARB_US; the head request ends BUS_ERR. -/
def execCrbArbTimeout (s : State) : Host.Outcome State Fault Refusal :=
  .next (doCrbArbTimeout s)

/-- R514: CRB_BGNT_N rises while the node holds mastership; the block ends and the request fails BUS_ERR. -/
def execCrbGrantLost (s : State) : Host.Outcome State Fault Refusal :=
  .next (fromLands s doCrbGrantLost)

/-- R508: The bridge drives a single or block cycle for the head outbound request. -/
def execCrbOutboundCycle (s : State) : Host.Outcome State Fault Refusal :=
  .next (doCrbOutboundCycle s)

/-- R508: A card answers a strobe with CRB_RDY_N or CRB_BERR_N; data are latched and the cycle ends. -/
def execCrbSlaveAnswer (rdy berr : Bool) (d : BitVec 16) (s : State) : Host.Outcome State Fault Refusal :=
  .next (fromLands s (doCrbSlaveAnswer rdy berr d.toNat))

/-- R515: No answer within CRB_MON_TIMEOUT of a data strobe; the monitor drives CRB_BERR_N. -/
def execCrbMonTimeout (s : State) : Host.Outcome State Fault Refusal :=
  .next (doCrbMonTimeout s)

/-- R524: A non-posted request reaches 19 µs with words not started; it ends BUS_ERR. -/
def execCrbStrobeDeadline (k : Fin 32) (s : State) : Host.Outcome State Fault Refusal :=
  .next (doCrbStrobeDeadline k.val s)

/-- R517: An answer line stays low over 1 µs after CRB_DS_N rises; HUNG sets, or clears after 1 µs released. -/
def execCrbHung (low : Bool) (s : State) : Host.Outcome State Fault Refusal :=
  .next (fromLands s (doCrbHung low))

/-- R526: A rack master strobe in an enabled inbound window is performed as the window's owner and answered. -/
def execCrbInboundCycle (a : BitVec 24) (n : Fin 64) (blk wr ub lb : Bool) (d : BitVec 16) (ecc : List (Fin 3)) (s : State) : Host.Outcome State Fault Refusal :=
  .next (fromLands s (doCrbInboundCycle a.toNat n.val blk wr ub lb d.toNat ecc))

/-- R530: A buffered posted inbound write is performed internally. -/
def execCrbInboundPostedPerform (s : State) : Host.Outcome State Fault Refusal :=
  .next (doCrbInboundPostedPerform s)

/-- R534: A handled rack interrupt level is low; the node runs an IACK cycle. -/
def execCrbIrqServe (lines : BitVec 4) (s : State) : Host.Outcome State Fault Refusal :=
  .next (fromLands s (doCrbIrqServe lines.toNat))

/-- R534: Each 1 ms, the 16-IACK-per-level limit renews and waiting cycles may run. -/
def execCrbIackWindow (s : State) : Host.Outcome State Fault Refusal :=
  .next (doCrbIackWindow s)

/-- R538: In ROOT a rack interrupt line low for 4 ROOT_FAST samples is the rack wake cause. -/
def execCrbIrqWake (s : State) : Host.Outcome State Fault Refusal :=
  .next (fromLands s doCrbIrqWake)

/-- R539: A SET bit in CRB_OUTIRQ_SET by the level's owner pulls CRB_IRQL_N low. -/
def execCrbOutirqSet (t : Fin 8) (L : Fin 4) (s : State) : Host.Outcome State Fault Refusal :=
  .next (doWrite s t.val CRB_OUTIRQ_SET.addr (wordSet 0 L.val 1 1))

/-- R539: A CLEAR bit in CRB_OUTIRQ_SET by the level's owner releases CRB_IRQL_N. -/
def execCrbOutirqClear (t : Fin 8) (L : Fin 4) (s : State) : Host.Outcome State Fault Refusal :=
  .next (doWrite s t.val CRB_OUTIRQ_SET.addr (wordSet 0 (4 + L.val) 1 1))

/-- R540: An IACK cycle for a level the node holds low is answered with its vector, or passed down the chain. -/
def execCrbIackRespond (L : Fin 4) (s : State) : Host.Outcome State Fault Refusal :=
  .next (fromLands s (doCrbIackRespond L.val))

/-- R535: A write of 1 to CRB_LVEC_POP removes the head entry of the local vector FIFO. -/
def execCrbLvecPop (t : Fin 8) (v : Word) (s : State) : Host.Outcome State Fault Refusal :=
  .next (doWrite s t.val CRB_LVEC_POP.addr v)

/-- R541: The bridge stops being active; queued requests end UNIT_ERR and lines are released. -/
def execCrbBridgeDeactivate (s : State) : Host.Outcome State Fault Refusal :=
  .next (doCrbBridgeDeactivate s)

/-- R536: A handled rack interrupt line is seen high for at least 1 µs, re-arming a RORA level for service. -/
def execCrbIrqLineReleased (L : Fin 4) (s : State) : Host.Outcome State Fault Refusal :=
  .next (fromLands s (doCrbIrqLineReleased L.val))

/-- R515: Another master lowers CRB_DS_N outside the node's inbound windows; the bus monitor starts timing it. -/
def execCrbForeignStrobe (s : State) : Host.Outcome State Fault Refusal :=
  .next (fromLands s doCrbForeignStrobe)

/-- R543: A card pulls CRB_RDY_N or CRB_BERR_N with no data strobe; the node ignores it and counts CRB_PROTO. -/
def execCrbAnswerWithoutStrobe (s : State) : Host.Outcome State Fault Refusal :=
  .next (fromLands s doCrbAnswerWithoutStrobe)

end Sys2Proof.Machine
end

