-- ==== Sys2Proof/Machine/ExecRecords.lean ====
section
/-! DEFINITION. What each command of records and the capture store (chapter 10) does: one definition per row, over the operations of the unit. -/

namespace Sys2Proof.Machine

/-- R303: A write of 1 to BUF_PART.APPLY applies BUF_RING values, or is refused. -/
def execPartitionApply (t : Fin 8) (v : Word) (s : State) : Host.Outcome State Fault Refusal :=
  .next (doWrite s t.val BUF_PART.addr v)

/-- R308: BUF_CMD OP = ALLOC allocates COUNT contiguous free pool buffers to the writing tenant within quota. -/
def execBufAlloc (t : Fin 8) (n : Fin 512) (s : State) : Host.Outcome State Fault Refusal :=
  .next (doWrite s t.val BUF_CMD.addr (wordSet 1 3 9 n.val))

/-- R310: BUF_CMD OP = FREE frees one buffer, judged by owner. -/
def execBufFree (t : Fin 8) (u : Fin 16384) (s : State) : Host.Outcome State Fault Refusal :=
  .next (doWrite s t.val BUF_CMD.addr (wordSet 2 16 14 u.val))

/-- R310: BUF_CMD OP = FREE_CHAIN frees a buffer chain by NEXT links, stopping at the first refused buffer. -/
def execBufFreeChain (t : Fin 8) (u : Fin 16384) (s : State) : Host.Outcome State Fault Refusal :=
  .next (doWrite s t.val BUF_CMD.addr (wordSet 3 16 14 u.val))

/-- R301: A LOCAL write of REC_POST passes a record chain to the record engine for delivery. -/
def execRecPost (t : Fin 8) (v : Word) (s : State) : Host.Outcome State Fault Refusal :=
  .next (doWrite s t.val REC_POST.addr v)

/-- R314: The record engine accepts a record into its input queue and matches subscriptions, or refuses it. -/
def execRecordAccept (s : State) : Host.Outcome State Fault Refusal :=
  .next (doRecordAccept s)

/-- R315: The record engine copies a record into REC-owned buffers charged to a matched subscription's tenant. -/
def execRecordCopy (bad : Bool) (s : State) : Host.Outcome State Fault Refusal :=
  .next (doRecordCopy bad s)

/-- R322: A push record is written into the host ring as posted writes followed by the WPTR write, or dropped when the
ring is full. -/
def execPushWrite (sub : Fin 256) (bad : Bool) (s : State) : Host.Outcome State Fault Refusal :=
  .next (doPushWrite sub.val bad s)

/-- R322: The last write of a push record has left the port; its buffers are freed. -/
def execPushBuffersFree (sub : Fin 256) (s : State) : Host.Outcome State Fault Refusal :=
  .next (doPushBuffersFree sub.val s)

/-- R325: A pull record gets a descriptor in its ring and WPTR advances. -/
def execPullDescriptorWrite (sub : Fin 256) (bad : Bool) (s : State) : Host.Outcome State Fault Refusal :=
  .next (doPullDescriptorWrite sub.val bad s)

/-- R323: A write of REC_SUB_s_RDPTR frees ring space for later records. -/
def execRdptrWrite (t : Fin 8) (sub : Fin 256) (v : Word) (s : State) : Host.Outcome State Fault Refusal :=
  .next (doWrite s t.val (REC_SUB_RDPTR.addr sub.val) v)

/-- R328: A write of 1 to a REC_CAP_TRIG bit starts a raw capture of that channel, or is ignored. -/
def execCaptureTrigger (t : Fin 8) (v : Word) (s : State) : Host.Outcome State Fault Refusal :=
  .next (doWrite s t.val REC_CAP_TRIG.addr v)

/-- R329: A capture part's samples are in the ring; a TYPE 0xE1 record leaves. -/
def execCapturePart (n : Fin 32) (s : State) : Host.Outcome State Fault Refusal :=
  .next (doCapturePart n.val s)

/-- R330: A capture ends early on channel disable, AFE fence or rate change, with SHORT and GAP. -/
def execCaptureShortEnd (n : Fin 32) (s : State) : Host.Outcome State Fault Refusal :=
  .next (doCaptureShortEnd n.val s)

end Sys2Proof.Machine
end

