-- ==== Sys2Proof/Machine/ExecRegs.lean ====
section
/-! DEFINITION. What each command of register access and the service port (chapter 05) does: one definition per row, over the operations of the unit. -/

namespace Sys2Proof.Machine

/-- R138: A write to an RWS field stages its value and sets the group's PEND bit. -/
def execRwsStageWrite (t : Fin 8) (a : BitVec 40) (v : Word) (s : State) : Host.Outcome State Fault Refusal :=
  .next (doWrite s t.val a.toNat v)

/-- R141: A write to SYS_UPD_APPLY.MASK makes the staged values of each permitted, unfenced group effective. -/
def execUpdateApply (t : Fin 8) (v : Word) (s : State) : Host.Outcome State Fault Refusal :=
  .next (doWrite s t.val SYS_UPD_APPLY.addr v)

/-- R143: A write to SYS_UPD_AT_MASK arms a timed apply at SYS_UPD_AT, or disarms with 0. -/
def execTimedApplyArm (t : Fin 8) (v : Word) (s : State) : Host.Outcome State Fault Refusal :=
  .next (doWrite s t.val SYS_UPD_AT_MASK.addr v)

/-- R124: Mill time reaches the armed instant, or a step passes over it; the named groups are applied. -/
def execTimedApplyFire (s : State) : Host.Outcome State Fault Refusal :=
  .next (doTimedApplyFire s)

/-- R147: A write to an xx_IADDR claims the indirect port, sets the address and starts a fetch. -/
def execIndirectAddrWrite (t : Fin 8) (p : Fin 4) (v : Word) (s : State) : Host.Outcome State Fault Refusal :=
  .next (doWrite s t.val (indBase p.val) (wordSet v 31 1 0))

/-- R149: A write to xx_IADDR with RELEASE = 1 releases the port without writing the address or fetching. -/
def execIndirectRelease (t : Fin 8) (p : Fin 4) (s : State) : Host.Outcome State Fault Refusal :=
  .next (doWrite s t.val (indBase p.val) 0x80000000)

/-- R147: A read of xx_IDATA returns the held word and advances, or underruns when no word is ready. -/
def execIndirectDataRead (t : Fin 8) (p : Fin 4) (s : State) : Host.Outcome State Fault Refusal :=
  .next (doRead s t.val (indBase p.val + 4))

/-- R148: A write to xx_IDATA enters the 16-word write queue, or overflows. -/
def execIndirectDataWrite (t : Fin 8) (p : Fin 4) (v : Word) (s : State) : Host.Outcome State Fault Refusal :=
  .next (doWrite s t.val (indBase p.val + 4) v)

/-- R147: A fetch at the indirect target completes; READY sets, or ERR on failure. -/
def execIndirectFetchDone (p : Fin 4) (answer : Option Word) (s : State) (ecc : Fin 3 := 0) :
    Host.Outcome State Fault Refusal :=
  .next (doIndirectFetchDone p.val answer ecc.val s)

/-- R148: A queued indirect write completes at its target; a failure sets ERR and discards the rest of the queue. -/
def execIndirectQueueWriteDone (p : Fin 4) (acked : Bool) (s : State) : Host.Outcome State Fault Refusal :=
  .next (doIndirectQueueWriteDone p.val acked s)

/-- R149: An indirect port's owner makes no access for 100 ms; the port is released. -/
def execIndirectClaimTimeout (p : Fin 4) (s : State) : Host.Outcome State Fault Refusal :=
  .next (if s.running then indClaimTimeout s p.val else s)

/-- R150: A write of 1 to a lock bit sets it; its governed RWL fields then discard writes. -/
def execLockBitSet (t : Fin 8) (a : BitVec 40) (v : Word) (s : State) : Host.Outcome State Fault Refusal :=
  .next (doWrite s t.val a.toNat v)

/-- R154: A write of 1 to a SYS_URST bit starts a unit reset, deferred for an HWD commit or an outgoing completion. -/
def execUnitReset (t : Fin 8) (v : Word) (s : State) : Host.Outcome State Fault Refusal :=
  .next (doWrite s t.val SYS_URST.addr v)

/-- R154: A unit reset ends; the unit leaves reset and, when it lifts a fence, its gates reopen. -/
def execUnitResetEnd (u : Fin 32) (s : State) : Host.Outcome State Fault Refusal :=
  .next (doUnitResetEnd u.val s)

/-- R133: A write to a register without behaviour of its own replaces the whole register, subject to permission,
decode and lock rules. -/
def execRegisterWrite (t : Fin 8) (a : BitVec 40) (v : Word) (s : State) : Host.Outcome State Fault Refusal :=
  .next (doWrite s t.val a.toNat v)

/-- R9: A permitted read of an RC field returns its value and clears it. -/
def execRcRead (t : Fin 8) (a : BitVec 40) (s : State) : Host.Outcome State Fault Refusal :=
  .next (doRead s t.val a.toNat)

/-- R134: A read of the low word of a 64-bit counter snapshots its high word for the reading tenant. -/
def execCounter64LowRead (t : Fin 8) (a : BitVec 40) (s : State) : Host.Outcome State Fault Refusal :=
  .next (doRead s t.val a.toNat)

/-- R159: A service-port READ frame is taken whole; its word reads are performed before 0x5A, then data and status are
sent. -/
def execSvcReadFrame (fixed : Bool) (a : BitVec 40) (n : Fin 32) (cor lost : BitVec 32) (s : State) :
    Host.Outcome State Fault Refusal :=
  .next (fromLands s (doSvcReadFrame fixed a.toNat (n.val + 1) (eccMasks cor lost)))

/-- R159: A service-port WRITE frame is taken whole; its words are written as they arrive, then 0x5A and status are
sent. -/
def execSvcWriteFrame (fixed : Bool) (a : BitVec 40) (ws : List Word) (s : State) : Host.Outcome State Fault Refusal :=
  .next (fromLands s (doSvcWriteFrame fixed a.toNat (ws.take 32)))

/-- R161: A service frame with OP 0b10 or 0b11 or an unaligned address performs nothing and is counted in ERR. -/
def execSvcInvalidFrame (s : State) : Host.Outcome State Fault Refusal :=
  .next (fromLands s doSvcInvalidFrame)

/-- R161: SVC_CS_N rises before the status byte, or the port is fenced or deactivated; performed writes stand and
ABORT counts. -/
def execSvcFrameAbort (fixed : Bool) (a : BitVec 40) (part : SvcPart) (s : State) : Host.Outcome State Fault Refusal :=
  .next (fromLands s (doSvcFrameAbort fixed a.toNat part))

/-- R164: A write to CRC_n_DATA8 feeds one byte into the engine. -/
def execCrcData8Write (t : Fin 8) (n : Fin 4) (v : Word) (s : State) : Host.Outcome State Fault Refusal :=
  .next (doWrite s t.val (CRC_DATA8.addr n.val) v)

/-- R164: A write to CRC_n_DATA16 feeds two bytes into the engine. -/
def execCrcData16Write (t : Fin 8) (n : Fin 4) (v : Word) (s : State) : Host.Outcome State Fault Refusal :=
  .next (doWrite s t.val (CRC_DATA16.addr n.val) v)

/-- R164: A write to CRC_n_DATA32 feeds four bytes into the engine. -/
def execCrcData32Write (t : Fin 8) (n : Fin 4) (v : Word) (s : State) : Host.Outcome State Fault Refusal :=
  .next (doWrite s t.val (CRC_DATA32.addr n.val) v)

end Sys2Proof.Machine
end

