-- ==== Sys2Proof/Machine/TrunkReq.lean ====
section
/-! DEFINITION. Requests of host tenants: receipt, ordering, performance and completion (R430 to R451, R462 to R466). -/

namespace Sys2Proof.Machine

/-! ### The words of a request -/

/-- Words of 8 bytes that a request names: RLEN of a read, the payload of a write. -/
def reqWords (f : Frame) : Nat := if f.ty = 0 then f.aux % 64 else fwords f

/-- The byte enables of its bytes in order (R413). -/
def reqEnables (f : Frame) : List Bool :=
  let n := reqWords f
  (List.range (8 * n)).map fun i =>
    if i < 8 then nbit f.fbe i else if 8 * (n - 1) ≤ i then nbit f.lbe (i % 8) else true

/-- The register words (halves of the words) that a request names: the place of the word, its address, and whether it is
enabled whole. Halves with no byte enabled are left out (R131, R132). -/
def reqHalves (f : Frame) : List (Nat × Nat × Bool) :=
  let en := reqEnables f
  (List.range (2 * reqWords f)).filterMap fun h =>
    let e := slice en (4 * h) 4
    if e.any id then some (h, f.addr + 4 * h, e.all id) else none

/-- The word of the payload at half `h`. -/
def payHalf (f : Frame) (h : Nat) : Word := BitVec.ofNat 32 (leAt f.payload (4 * h) 4)

/-! ### Performing on registers -/

/-- Reads in ascending order up to the first that fails: status, the 8-byte word that failed, and the halves read. -/
def halfReads (s : State) (t : Nat) (ok : Bool) : List (Nat × Nat × Bool) → State × Nat × Nat × List (Nat × Word)
  | [] => (s, 0, 0, [])
  | (h, a, whole) :: rest =>
    if !whole then let (s, st) := regPart s t ok a false; (s, st, h / 2, [])
    else
      let (s, st, w) := regRead s t ok a
      if st ≠ 0 then (s, st, h / 2, [])
      else
        let (s, st, i, ws) := halfReads s t ok rest
        (s, st, i, (h, w) :: ws)

/-- Writes in ascending order up to the first that fails: status and the 8-byte word that failed. -/
def halfWrites (s : State) (t : Nat) (ok : Bool) (f : Frame) : List (Nat × Nat × Bool) → State × Nat × Nat
  | [] => (s, 0, 0)
  | (h, a, whole) :: rest =>
    if !whole then let (s, st) := regPart s t ok a true; (s, st, h / 2)
    else
      let (s, st) := regWrite s t ok a (payHalf f h)
      if st ≠ 0 then (s, st, h / 2) else halfWrites s t ok f rest

/-- The payload that halves read make up; bytes not enabled read 0. -/
def halvesBytes (n : Nat) (ws : List (Nat × Word)) : List Byte :=
  ((List.range (2 * n)).map fun h => toLE 4 (((ws.find? fun (p : Nat × Word) => p.1 == h).map (fun (p : Nat × Word) => p.2)).getD 0).toNat).flatten

/-- The OK result word of a WR_NP (R436). -/
def resultWord (s : State) (r : Req) : Nat :=
  if (reqHalves r.f).any (fun h => h.2.1 == BUF_CMD.addr) then (SMap.get (fun _ => (0 : Word)) s.eng.bufRes r.t).toNat else 0

/-- Perform a request on registers. The write of a non-posted request is carried by its port until its completion leaves
(R154, R156). -/
def performRegs (s : State) (r : Req) : State :=
  if r.kind = 0 then
    let (s, st, i, ws) := halfReads s r.t r.allowed (reqHalves r.f)
    finishReq s r.id st (halvesBytes (reqWords r.f) ws) (if st = 0 then 0 else i)
  else
    let c := if r.kind = 2 then some (r.x, r.id) else none
    let (s, st, i) := halfWrites { s with sys := { s.sys with carrier := c } } r.t r.allowed r.f (reqHalves r.f)
    let s := { s with sys := { s.sys with carrier := none } }
    finishReq s r.id st [] (if st ≠ 0 then i else if r.kind = 2 then resultWord s r else 0)

/-! ### Performing elsewhere -/

/-- Perform a request on the rack outbound window space (R519, R532): it waits at the bridge, is refused, or counts as
performed. -/
def performRack (s : State) (r : Req) : State :=
  if !r.allowed then finishReq (raiseRefusal s r.t 2) r.id 2 [] 0
  else if s.pwr.mode = .safe then finishReq s r.id 2 [] 0
  else
    let (s, ans) := crbTake s (match r.ow with | some o => .ok o | none => .error r.owSt)
    match ans with
    | .refused st => finishReq (raiseRefusal s r.t st) r.id st [] 0
    | .performed => finishReq s r.id 0 [] 0
    | .waits => s

/-- The first word that comes back lost (R436). -/
def firstLost (ecc : List (Fin 3)) : Nat := let i := ecc.findIdx (· == 2); if i < ecc.length then i else 0

/-- Perform a request on memory (R435). -/
def performMem (s : State) (r : Req) (row : Row) (ecc : List (Fin 3)) : State :=
  if r.kind = 0 then
    let (s, st, bs) := memReadEcc s r.t r.allowed row r.f.addr (8 * reqWords r.f) ecc
    finishReq s r.id st bs (if st = 3 then firstLost ecc else 0)
  else
    let (s, st) := memWrite s r.t r.allowed row r.f.addr ((reqEnables r.f).zip r.f.payload)
    finishReq s r.id st [] 0

/-- The row of Table 05-1 that holds a request; a request to registers lies within one block (R434). -/
def reqRow (f : Frame) : Option Row :=
  let n := 8 * reqWords f
  match rowOf f.addr n with
  | some .regs => if f.addr / 65536 = (f.addr + n - 1) / 65536 then some .regs else none
  | r => r

/-- Perform a request: mark it started, and answer it where it ends at once. A read of memory comes back as `ecc` says. -/
def performReq (s : State) (r : Req) (ecc : List (Fin 3) := []) : State :=
  let s := s.modTh fun h => { h with reqs := h.reqs.map fun q => if q.id = r.id then { q with started := true } else q }
  if r.kind = 3 then finishReq (placeDoorbell s r.t r.f) r.id 0 [] 0
  else match reqRow r.f with
    | none => let (s, st) := decodeRefusal s r.t; finishReq s r.id st [] 0
    | some .regs => performRegs s r
    | some .rack => performRack s r
    | some row => performMem s r row ecc

/-! ### Ordering (R447 to R451) -/

/-- Requests before `r` in its order. -/
def earlier (s : State) (r : Req) : List Req :=
  (s.th.reqs.takeWhile fun q => q.id != r.id).filter r.sameOrder

/-- The ordering rules let `r` be performed: an ORDERED one once every earlier request of its order has completed, a RELAXED
one once those to the same target have (R448, R449). -/
def mayRun (s : State) (r : Req) : Bool :=
  (earlier s r).all fun q => q.ans.isSome || (!r.ordered && q.target != r.target)

/-- The target of a request, and whether it is ORDERED. A mailbox counts as an ORDERED target. -/
def reqTarget (s : State) (t kind : Nat) (f : Frame) : (Nat × Nat) × Bool :=
  let n := 8 * reqWords f
  let attr := match winFor s t f.addr n with | some w => s.bit (TEN_WIN_LIM.ATTR t w) | none => true
  if kind = 3 then ((3, t), true)
  else match reqRow f with
    | some .regs => ((0, blockOf f.addr), s.bit (TEN_T_CFG.REGORD t))
    | some .capture => ((1, 0), attr)
    | some .heartwood => ((1, 1), attr)
    | some .l2 => ((1, 2), attr)
    | some .tcm => ((1, 3), attr)
    | some .rack => ((2, ((List.range 8).find? fun w => owCovers s w (f.addr - 0x100000000) n).getD 8), attr)
    | none => ((4, 0), true)

/-- The judgement at receipt (R463). -/
def reqAllowed (s : State) (t kind : Nat) (f : Frame) : Bool :=
  match reqRow f with
  | some .regs => permits s t f.addr (kind != 0)
  | some _ => winAllows s t f.addr (8 * reqWords f) (kind != 0)
  | none => true

/-! ### Receipt -/

/-- A tag is outstanding, and one NPH credit in use (R438, R439). -/
def holdTag (s : State) (t tag : Nat) : State :=
  (s.modTen t fun h => { h with tags := tag :: h.tags }).setFld (TEN_T_CRED.NP t) (s.fld (TEN_T_CRED.NP t) + 1)

/-- A request beyond credit is to be answered BUSY: its tag is outstanding until then, and it holds no credit (R438, R441). -/
def busyTag (s : State) (t tag : Nat) : State :=
  s.modTen t fun h => { h with tags := tag :: h.tags, busyTags := tag :: h.busyTags }

/-- A request to the rack as the outbound windows judge it at its receipt (R463, Table 16-5). -/
def rackJudged (s : State) (r : Req) : Req :=
  if reqRow r.f = some .rack then
    match crbJudge s (.req r.id) r.t (r.f.addr - 0x100000000) r.np (reqEnables r.f)
        (if r.kind = 0 then none else some r.f.payload) with
    | .ok o => { r with ow := some o }
    | .error st => { r with owSt := st }
  else r

/-- Put a request at the end of the list. -/
def addReq (s : State) (r : Req) : State := s.modTh fun h => { h with reqs := h.reqs ++ [r], nextId := h.nextId + 1 }

/-- A request of kind 0 RD_REQ, 1 WR_POST, 2 WR_NP or 3 DOORBELL arrives on port `x` (R433, R438, R441, R460). -/
def takeReq (kind x : Nat) (ecc : List (Fin 3)) (f : Frame) (s : State) : State :=
  match tenantOf s f.src with
  | none => unbound x f s
  | some t =>
    let np := kind == 0 || kind == 2
    let need := creditNeed f
    if np && (tenOf s t).tags.contains f.tag then reqViolation (consume s t need) (TEN_T_CNT.TAGDUP t)
    else if overCredit s t need then
      let s := reqViolation (consume s t need) (TEN_T_CNT.CREDIT t)
      if np then
        let r : Req := { id := s.th.nextId, t := t, x := x, kind := kind, f := f }
        finishReq (addReq (busyTag s t f.tag) r) r.id 6 [] 0
      else s
    else
      let (target, ordered) := reqTarget s t kind f
      let r : Req := { id := s.th.nextId, t := t, x := x, kind := kind, f := f, target := target, ordered := ordered,
                       allowed := reqAllowed s t kind f }
      let r := rackJudged s r
      let s := consume s t need
      let s := addReq (if np then holdTag s t f.tag else holdPosted s t (fwords f)) r
      if mayRun s r then performReq s r ecc else s

def doRdReqRx (x : Nat) (f : Frame) (ecc : List (Fin 3)) (s : State) : State := onFrame x { f with ty := 0 } s (takeReq 0 x ecc)

def doWrPostRx (x : Nat) (f : Frame) (s : State) : State := onFrame x { f with ty := 2 } s (takeReq 1 x [])

def doWrNpRx (x : Nat) (f : Frame) (s : State) : State := onFrame x { f with ty := 3 } s (takeReq 2 x [])

def doDoorbellRx (x : Nat) (f : Frame) (s : State) : State := onFrame x { f with ty := 5, sub := 8 } s (takeReq 3 x [])

/-- STOP (R465, R452): the trip path acts at once. -/
def takeStop (x : Nat) (f : Frame) (s : State) : State :=
  match tenantOf s f.src with
  | none => unbound x f s
  | some t =>
    let need := creditNeed f
    let ovr := overCredit s t need
    let s := consume s t need
    if ovr then reqViolation s (TEN_T_CNT.CREDIT t)
    else if s.bit (TEN_T_CFG.STOP_EN t) then trunkStop s t (leAt f.payload 0 2)
    else bark (s.count (TEN_T_CNT.MSGDROP t)) Src.TEN_PERM t

def doStopRx (x : Nat) (f : Frame) (s : State) : State := onFrame x { f with ty := 5, sub := 9 } s (takeStop x)

/-- The first waiting request of an order that the rules let run (R448). -/
def doRequestPerform (t x oid : Nat) (ecc : List (Fin 3)) (s : State) : State :=
  match s.th.reqs.find? fun r => r.t == t && r.x == x && r.f.oid == oid && !r.started && r.ans.isNone && mayRun s r with
  | some r => if s.running then performReq s r ecc else s
  | none => s

end Sys2Proof.Machine
end

