-- ==== Sys2Proof/Machine/ExecTenants.lean ====
section
/-! DEFINITION. What each command of trunk transactions and tenants (chapter 14) does: one definition per row, over the operations of the unit. -/

namespace Sys2Proof.Machine

/-- R435: A read request from a bound tenant is checked for credit, tag, permission and ordering. -/
def execRdReqRx (x : Fin 2) (f : Frame) (ecc : List (Fin 3)) (s : State) : Host.Outcome State Fault Refusal :=
  .next (doRdReqRx x.val f ecc s)

/-- R435: A posted write from a bound tenant is checked and performed without answer. -/
def execWrPostRx (x : Fin 2) (f : Frame) (s : State) : Host.Outcome State Fault Refusal :=
  .next (doWrPostRx x.val f s)

/-- R435: A non-posted write from a bound tenant is checked and performed, answered by WR_ACK. -/
def execWrNpRx (x : Fin 2) (f : Frame) (s : State) : Host.Outcome State Fault Refusal :=
  .next (doWrNpRx x.val f s)

/-- R448: A request waiting under the ordering rules is performed and its completion queued. -/
def execRequestPerform (t : Fin 4) (x : Fin 2) (oid : Fin 64) (ecc : List (Fin 3)) (s : State) : Host.Outcome State Fault Refusal :=
  .next (doRequestPerform t.val x.val oid.val ecc s)

/-- R460: A request from an unbound node is answered NO_TENANT or dropped, rate-limited. -/
def execUnboundRequestRx (x : Fin 2) (f : Frame) (s : State) : Host.Outcome State Fault Refusal :=
  .next (doUnboundRequestRx x.val f s)

/-- R446: An RD_CPL or WR_ACK for the node's own request arrives and ends it, or is dropped as unexpected or LATE. -/
def execCompletionRx (x : Fin 2) (f : Frame) (s : State) : Host.Outcome State Fault Refusal :=
  .next (doCompletionRx x.val f s)

/-- R446: The node's own non-posted request reaches TEN_CTO; it completes to its issuer with TIMEOUT. -/
def execCompletionTimeout (x : Fin 2) (tag : Fin 1024) (s : State) : Host.Outcome State Fault Refusal :=
  .next (doCompletionTimeout x.val tag.val s)

/-- R443: A host CREDIT frame sets the posted limits for node writes and messages to that tenant. -/
def execCreditRx (x : Fin 2) (f : Frame) (s : State) : Host.Outcome State Fault Refusal :=
  .next (doCreditRx x.val f s)

/-- R442: The node sends a CREDIT frame after binding, on quarter-grant advance, or each 1 ms. -/
def execCreditTx (t : Fin 4) (s : State) : Host.Outcome State Fault Refusal :=
  .next (doCreditTx t.val s)

/-- R455: A BIND_REQ arrives; it is accepted with BIND_CHAL, refused, BUSY or dropped. -/
def execBindReqRx (x : Fin 2) (f : Frame) (s : State) : Host.Outcome State Fault Refusal :=
  .next (doBindReqRx x.val f s)

/-- R457: A BIND_PROOF arrives; a correct Mh binds the tenant, a wrong one gives DENIED and a 100 ms lockout. -/
def execBindProofRx (x : Fin 2) (f : Frame) (s : State) : Host.Outcome State Fault Refusal :=
  .next (doBindProofRx x.val f s)

/-- R457: No BIND_PROOF arrives within 10 ms of BIND_CHAL; the exchange is abandoned. -/
def execBindProofTimeout (t : Fin 4) (s : State) : Host.Outcome State Fault Refusal :=
  .next (doBindProofTimeout t.val s)

/-- R457: The 100 ms lockout after a wrong proof ends. -/
def execBindLockoutEnd (t : Fin 4) (s : State) : Host.Outcome State Fault Refusal :=
  .next (doBindLockoutEnd t.val s)

/-- R459: An UNBIND ends the binding of its tenant, or is refused. -/
def execUnbindRx (x : Fin 2) (f : Frame) (s : State) : Host.Outcome State Fault Refusal :=
  .next (doUnbindRx x.val f s)

/-- R459: No accepted frame arrives from a bound node for IDLE_S seconds; the binding ends. -/
def execTenantIdleTimeout (t : Fin 4) (s : State) : Host.Outcome State Fault Refusal :=
  .next (doTenantIdleTimeout t.val s)

/-- R465: A STOP from a bound tenant with STOP_EN drives the trip path and halts every axis. -/
def execStopRx (x : Fin 2) (f : Frame) (s : State) : Host.Outcome State Fault Refusal :=
  .next (doStopRx x.val f s)

/-- R466: A DOORBELL enters the tenant's mailbox, or is dropped. -/
def execDoorbellRx (x : Fin 2) (f : Frame) (s : State) : Host.Outcome State Fault Refusal :=
  .next (doDoorbellRx x.val f s)

/-- R466: A write of 1 to TEN_MB_t_POP removes the mailbox head entry. -/
def execMailboxPop (t : Fin 8) (m : Fin 4) (v : Word) (s : State) : Host.Outcome State Fault Refusal :=
  .next (doWrite s t.val (TEN_MB_POP.addr m.val) v)

/-- R454: A write of SEC_TKEY_DATA by SVC or LOCAL adds four key bytes to its staging. -/
def execTkeyDataWrite (t : Fin 8) (v : Word) (s : State) : Host.Outcome State Fault Refusal :=
  .next (doWrite s t.val SEC_TKEY_DATA.addr v)

/-- R454: A write of SEC_TKEY_CTRL with GO commits the writer's staged key, or ends INCOMPLETE, LOCKED or REFUSED. -/
def execTkeyCommit (t : Fin 8) (h : Fin 4) (s : State) : Host.Outcome State Fault Refusal :=
  .next (doWrite s t.val SEC_TKEY_CTRL.addr (wordSet 0x80000000 0 2 h.val))

/-- R454: A key commit completes; the new key stands and the tenant is unbound. -/
def execTkeyCommitDone (s : State) : Host.Outcome State Fault Refusal :=
  .next (doTkeyCommitDone s)

/-- R467: TEN_HRQ_q_CTRL OP = READ with GO issues an RD_REQ to a bound host. -/
def execHrqRead (t : Fin 8) (q : Fin 4) (v : Word) (s : State) : Host.Outcome State Fault Refusal :=
  .next (doWrite s t.val (TEN_HRQ_CTRL.addr q.val) (wordSet (wordSet v 0 2 0) 31 1 1))

/-- R467: TEN_HRQ_q_CTRL OP = WRITE_NP with GO issues a WR_NP to a bound host. -/
def execHrqWriteNp (t : Fin 8) (q : Fin 4) (v : Word) (s : State) : Host.Outcome State Fault Refusal :=
  .next (doWrite s t.val (TEN_HRQ_CTRL.addr q.val) (wordSet (wordSet v 0 2 1) 31 1 1))

/-- R467: TEN_HRQ_q_CTRL OP = WRITE_POST with GO issues a WR_POST to a bound host. -/
def execHrqWritePost (t : Fin 8) (q : Fin 4) (v : Word) (s : State) : Host.Outcome State Fault Refusal :=
  .next (doWrite s t.val (TEN_HRQ_CTRL.addr q.val) (wordSet (wordSet v 0 2 2) 31 1 1))

/-- R467: TEN_HRQ_q_CTRL OP = MSG with GO issues a FWMSG to a bound host. -/
def execHrqMsg (t : Fin 8) (q : Fin 4) (v : Word) (s : State) : Host.Outcome State Fault Refusal :=
  .next (doWrite s t.val (TEN_HRQ_CTRL.addr q.val) (wordSet (wordSet v 0 2 3) 31 1 1))

/-- R468: A posted slot waits 10 ms for host credit and ends NO_CREDIT. -/
def execHrqCreditTimeout (q : Fin 4) (s : State) : Host.Outcome State Fault Refusal :=
  .next (doHrqCreditTimeout q.val s)

end Sys2Proof.Machine
end

