-- ==== Sys2Proof/Machine/ExecTime.lean ====
section
/-! DEFINITION. What each command of clocks and mill time (chapter 04) does: one definition per row, over the operations of the unit. -/

namespace Sys2Proof.Machine

/-- R32: At each mill-time second boundary with the timebase locked and PPS enabled, TIME_PPS pulses high for 100 µs.
-/
def execPpsSecond (s : State) : Host.Outcome State Fault Refusal :=
  .next (doPps s)

/-- R96: The 32.768 kHz crystal stops or drifts beyond ±2,000 ppm; ROOT_SLOW switches to its RC fallback. -/
def execRootSlowFallback (s : State) : Host.Outcome State Fault Refusal :=
  .next (doRootSlowFallback s)

/-- R97: A clock monitor sees a PLL or synthesiser lose lock, or SYS_REF out of tolerance, and raises its Bark source.
-/
def execPllLockLoss (which : Fin 5) (s : State) : Host.Outcome State Fault Refusal :=
  .next (doPllLoss which.val s)

/-- R108: A SYNC TIME frame arrives from the named master; its arrival is stamped t2 and an exchange starts. -/
def execTimeSyncRx (t : Fin 4) (p : Fin 2) (tag : Fin 1024) (t1 : BitVec 64) (s : State) : Host.Outcome State Fault Refusal :=
  .next (doSyncRx t.val p.val tag.val t1.toNat s)

/-- R108: At an instant of its choosing within interval ÷ 4 of t2, the node sends DELAY_REQ and stamps t3. -/
def execTimeDelayReqTx (s : State) : Host.Outcome State Fault Refusal :=
  .next (doDelayReqTx s)

/-- R109: DELAY_RESP arrives; the node computes delay and offset, applies the checks and updates the discipline loop.
-/
def execTimeDelayRespRx (t : Fin 4) (p : Fin 2) (tag : Fin 1024) (t4 : BitVec 64) (s : State) : Host.Outcome State Fault Refusal :=
  .next (doDelayRespRx t.val p.val tag.val t4.toNat s)

/-- R110: No DELAY_RESP arrives within one sync interval of t3; the exchange is discarded and counted in MISS. -/
def execTimeExchangeMiss (s : State) : Host.Outcome State Fault Refusal :=
  .next (doExchangeMiss s)

/-- R112: No exchange is accepted for 8 sync intervals in ACQUIRE or LOCKED; the timebase enters HOLDOVER. -/
def execTimebaseHoldover (s : State) : Host.Outcome State Fault Refusal :=
  .next (doHoldover s)

/-- R114: A write of 1 to TIM_CTRL.SET loads TIM_SET into mill time, accepted only in FREE or HOLDOVER. -/
def execTimeSetCmd (t : Fin 8) (v : Word) (s : State) : Host.Outcome State Fault Refusal :=
  .next (doWrite s t.val TIM_CTRL.addr v)

/-- R105: A read of TIM_NOW_LO snapshots the whole 64-bit mill time for the following TIM_NOW_HI read. -/
def execTimNowLoRead (t : Fin 8) (s : State) : Host.Outcome State Fault Refusal :=
  .next (doRead s t.val TIM_NOW_LO.addr)

/-- R120: At the first whole mill-time second after a step, the modulators realign to the new grid and SETTLE marking
starts. -/
def execAfeRealign (s : State) : Host.Outcome State Fault Refusal :=
  .next (doAfeRealign s)

end Sys2Proof.Machine
end

