-- ==== Sys2Proof/Machine/ExecTrunk.lean ====
section
/-! DEFINITION. What each command of trunk lanes and frames (chapter 13) does: one definition per row, over the operations of the unit. -/

namespace Sys2Proof.Machine

/-- R401: A change of TKx_LANEl_CFG, including EN, restarts the lane's bring-up. -/
def execLaneCfgWrite (t : Fin 8) (x l : Fin 2) (v : Word) (s : State) : Host.Outcome State Fault Refusal :=
  .next (doWrite s t.val (TK_LANE_CFG.addr x.val l.val) v)

/-- R401: An SFI lane in WAIT_MOD sees MODABS and LOS low and moves on. -/
def execLaneModulePresent (x l : Fin 2) (s : State) : Host.Outcome State Fault Refusal :=
  .next (fromLands s (doLaneModulePresent x.val l.val))

/-- R400: MODABS rises on an SFI lane; TXDIS goes high and the lane leaves service. -/
def execLaneModabsRise (x l : Fin 2) (s : State) : Host.Outcome State Fault Refusal :=
  .next (fromLands s (doLaneModabsRise x.val l.val))

/-- R400: LOS goes high on an SFI lane and is taken as loss of signal. -/
def execLaneLos (x l : Fin 2) (s : State) : Host.Outcome State Fault Refusal :=
  .next (fromLands s (doLaneLos x.val l.val))

/-- R401: Clause 72 training completes at both ends of a KR lane. -/
def execLaneTrainDone (x l : Fin 2) (s : State) : Host.Outcome State Fault Refusal :=
  .next (doLaneTrainDone x.val l.val s)

/-- R401: TRAIN does not complete in 500 ms; the lane restarts and TKA_LANE or TKB_LANE is raised. -/
def execLaneTrainTimeout (x l : Fin 2) (s : State) : Host.Outcome State Fault Refusal :=
  .next (doLaneTrainTimeout x.val l.val s)

/-- R401: A lane gains Clause 49 block lock and leaves LOCK. -/
def execLaneBlockLock (x l : Fin 2) (s : State) : Host.Outcome State Fault Refusal :=
  .next (doLaneBlockLock x.val l.val s)

/-- R401: A lane gains Clause 74 FEC block lock and leaves FEC. -/
def execLaneFecLock (x l : Fin 2) (s : State) : Host.Outcome State Fault Refusal :=
  .next (doLaneFecLock x.val l.val s)

/-- R401: LOCK, FEC or HELLO does not complete in its timeout; the lane returns to its first state. -/
def execLaneStateTimeout (x l : Fin 2) (s : State) : Host.Outcome State Fault Refusal :=
  .next (doLaneStateTimeout x.val l.val s)

/-- R401: A lane in a later state loses block or FEC lock and returns to its first state. -/
def execLaneLockLoss (x l : Fin 2) (fec : Bool) (s : State) : Host.Outcome State Fault Refusal :=
  .next (doLaneLockLoss x.val l.val fec s)

/-- R402: Every 100 µs a lane in HELLO, or outside the transmit stripe set, sends a lane HELLO. -/
def execLaneHelloTx (x l : Fin 2) (s : State) : Host.Outcome State Fault Refusal :=
  .next (doLaneHelloTx x.val l.val s)

/-- R425: Every 1 ms an up port sends a HELLO on its stream. -/
def execPortHelloTx (x : Fin 2) (s : State) : Host.Outcome State Fault Refusal :=
  .next (doPortHelloTx x.val s)

/-- R403: A HELLO arrives; the lane may reach UP, bond, be held with MISMATCH, or the port retrains on a partner
change. -/
def execHelloRx (x : Fin 2) (via : Option (Fin 2)) (w : BitVec 64) (s : State) : Host.Outcome State Fault Refusal :=
  .next (doHelloRx x.val (via.map fun i => i.val) w.toNat s)

/-- R407: A partner MASK arrives; the node restripes onto the named lanes at the next marker pair. -/
def execMaskRx (x : Fin 2) (lanes : BitVec 2) (s : State) : Host.Outcome State Fault Refusal :=
  .next (doMaskRx x.val lanes.toNat s)

/-- R404: After 4,096 blocks per lane, or a stripe change, the port inserts an alignment marker pair at the next frame
boundary. -/
def execMarkerInsert (x : Fin 2) (s : State) : Host.Outcome State Fault Refusal :=
  .next (doMarkerInsert x.val s)

/-- R405: A marker pair arrives; lanes are deskewed, and a stripe mask change may start decoding or send a RESYNC REQ.
-/
def execMarkerRx (x : Fin 2) (mask : BitVec 2) (c0 c1 : BitVec 8) (skew : BitVec 16) (late1 : Bool) (s : State) : Host.Outcome State Fault Refusal :=
  .next (doMarkerRx x.val mask.toNat c0.toNat c1.toNat skew.toNat late1 s)

/-- R417: A trunk frame is received whole and checked in order: framing, CRC, header, policer, then handed to the
transaction layer. -/
def execFrameRx (x : Fin 2) (via : Option (Fin 2)) (fec : List (Fin 2 × BitVec 2112)) (r : RxLine) (s : State) :
    Host.Outcome State Fault Refusal :=
  .next (doFrameRx x.val (via.map fun i => i.val) fec r s)

/-- R420: No matching RESYNC ACK arrives in 20 µs; the REQ is resent, and after 8 the port retrains. -/
def execResyncRetry (x : Fin 2) (s : State) : Host.Outcome State Fault Refusal :=
  .next (doResyncRetry x.val s)

/-- R420: A write of 1 to TKx_CTRL.RETRAIN retrains the port. -/
def execPortRetrainCmd (t : Fin 8) (x : Fin 2) (s : State) : Host.Outcome State Fault Refusal :=
  .next (doWrite s t.val (TK_CTRL.addr x.val) (wordSet 2 0 1 (s.fld (TK_CTRL.EN x.val))))

/-- R420: The 1 ms idle of a retrain ends and each lane returns to its first state. -/
def execPortRetrainEnd (x : Fin 2) (s : State) : Host.Outcome State Fault Refusal :=
  .next (doPortRetrainEnd x.val s)

/-- R421: A RESYNC REQ arrives; the node finishes its frame, sends RESYNC ACK and replays from NEXT_SEQ. -/
def execResyncReqRx (x : Fin 2) (next rseq : BitVec 16) (s : State) : Host.Outcome State Fault Refusal :=
  .next (doResyncReqRx x.val next.toNat rseq.toNat s)

/-- R422: A RESYNC ACK with the latest RSEQ arrives; recovery ends and LOST is counted, or it is ignored. -/
def execResyncAckRx (x : Fin 2) (next rseq lost : BitVec 16) (s : State) : Host.Outcome State Fault Refusal :=
  .next (doResyncAckRx x.val next.toNat rseq.toNat lost.toNat s)

/-- R419: An ACK_SEQ arrives; acknowledged frames are freed from the replay buffer. -/
def execLinkAckRx (x : Fin 2) (ack : BitVec 16) (s : State) : Host.Outcome State Fault Refusal :=
  .next (doLinkAckRx x.val ack.toNat s)

/-- R419: Within 2 µs of unacknowledged received frames, the node sends a LINK ACK. -/
def execLinkAckTx (x : Fin 2) (s : State) : Host.Outcome State Fault Refusal :=
  .next (doLinkAckTx x.val s)

/-- R410: In ROOT a wake-enabled lane detects signal for 200 µs to 2 ms after 1 ms of silence; this is the trunk wake
cause. -/
def execTrunkWakePattern (x l : Fin 2) (s : State) : Host.Outcome State Fault Refusal :=
  .next (doTrunkWakePattern x.val l.val s)

/-- R407: No marker pair naming only decoded lanes arrives within 20 µs of the node's MASK; the node retrains the
port. -/
def execMaskMarkerTimeout (x : Fin 2) (s : State) : Host.Outcome State Fault Refusal :=
  .next (doMaskMarkerTimeout x.val s)

end Sys2Proof.Machine
end

