-- ==== Sys2Proof/Machine/Dispatch.lean ====
section
/-! DEFINITION. One arm per command, each one direct call of its meaning. -/

namespace Sys2Proof.Machine

def exec (i : Instr) (s : State) : Host.Outcome State Fault Refusal :=
  match i with
  | .vinValid => Sys2Proof.Machine.execVinValid s
  | .rootPor => Sys2Proof.Machine.execRootPor s
  | .vinFail holdLow => Sys2Proof.Machine.execVinFail holdLow s
  | .vinQualified => Sys2Proof.Machine.execVinQualified s
  | .holdReady => Sys2Proof.Machine.execHoldReady s
  | .holdExhausted => Sys2Proof.Machine.execHoldExhausted s
  | .vbakPresent present => Sys2Proof.Machine.execVbakPresent present s
  | .vbakLow => Sys2Proof.Machine.execVbakLow s
  | .vmRiseOk => Sys2Proof.Machine.execVmRiseOk s
  | .vmUndervoltage => Sys2Proof.Machine.execVmUndervoltage s
  | .vmOvervoltage ovr => Sys2Proof.Machine.execVmOvervoltage ovr s
  | .vmonUpdate vin hold vm vbak => Sys2Proof.Machine.execVmonUpdate vin hold vm vbak s
  | .vioGenInRange straps vio18 => Sys2Proof.Machine.execVioGenInRange straps vio18 s
  | .rootUpEnd straps vio18 vioOk => Sys2Proof.Machine.execRootUpEnd straps vio18 vioOk s
  | .railsStepEnd => Sys2Proof.Machine.execRailsStepEnd s
  | .pllStepEnd => Sys2Proof.Machine.execPllStepEnd s
  | .bootStepTimeout => Sys2Proof.Machine.execBootStepTimeout s
  | .mdieReadyEnd => Sys2Proof.Machine.execMdieReadyEnd s
  | .mdieReadyTimeout => Sys2Proof.Machine.execMdieReadyTimeout s
  | .signatureCheckDone ecc => Sys2Proof.Machine.execSignatureCheckDone s ecc
  | .imageApply => Sys2Proof.Machine.execImageApply s
  | .modeRequest t v => Sys2Proof.Machine.execModeRequest t v s
  | .powerdownCommit => Sys2Proof.Machine.execPowerdownCommit s
  | .holdupFwWindowEnd => Sys2Proof.Machine.execHoldupFwWindowEnd s
  | .holdupAxisCut => Sys2Proof.Machine.execHoldupAxisCut s
  | .holdupCommit => Sys2Proof.Machine.execHoldupCommit s
  | .holdupReturnWaitEnd => Sys2Proof.Machine.execHoldupReturnWaitEnd s
  | .holdupEnd => Sys2Proof.Machine.execHoldupEnd s
  | .wakeTimerExpiry n => Sys2Proof.Machine.execWakeTimerExpiry n s
  | .wakeTimerWrite t n v => Sys2Proof.Machine.execWakeTimerWrite t n v s
  | .watchPeriodInstant => Sys2Proof.Machine.execWatchPeriodInstant s
  | .watchSnapEnd => Sys2Proof.Machine.execWatchSnapEnd s
  | .rmemDataAccess t v => Sys2Proof.Machine.execRmemDataAccess t v s
  | .rstNLow => Sys2Proof.Machine.execRstNLow s
  | .rstNRelease => Sys2Proof.Machine.execRstNRelease s
  | .nodeResetRequest t v => Sys2Proof.Machine.execNodeResetRequest t v s
  | .vinExcursion => Sys2Proof.Machine.execVinExcursion s
  | .holdChargeComplete => Sys2Proof.Machine.execHoldChargeComplete s
  | .watchAcquisitionEnd => Sys2Proof.Machine.execWatchAcquisitionEnd s
  | .ppsSecond => Sys2Proof.Machine.execPpsSecond s
  | .rootSlowFallback => Sys2Proof.Machine.execRootSlowFallback s
  | .pllLockLoss which => Sys2Proof.Machine.execPllLockLoss which s
  | .timeSyncRx t p tag t1 => Sys2Proof.Machine.execTimeSyncRx t p tag t1 s
  | .timeDelayReqTx => Sys2Proof.Machine.execTimeDelayReqTx s
  | .timeDelayRespRx t p tag t4 => Sys2Proof.Machine.execTimeDelayRespRx t p tag t4 s
  | .timeExchangeMiss => Sys2Proof.Machine.execTimeExchangeMiss s
  | .timebaseHoldover => Sys2Proof.Machine.execTimebaseHoldover s
  | .timeSetCmd t v => Sys2Proof.Machine.execTimeSetCmd t v s
  | .timNowLoRead t => Sys2Proof.Machine.execTimNowLoRead t s
  | .afeRealign => Sys2Proof.Machine.execAfeRealign s
  | .rwsStageWrite t a v => Sys2Proof.Machine.execRwsStageWrite t a v s
  | .updateApply t v => Sys2Proof.Machine.execUpdateApply t v s
  | .timedApplyArm t v => Sys2Proof.Machine.execTimedApplyArm t v s
  | .timedApplyFire => Sys2Proof.Machine.execTimedApplyFire s
  | .indirectAddrWrite t p v => Sys2Proof.Machine.execIndirectAddrWrite t p v s
  | .indirectRelease t p => Sys2Proof.Machine.execIndirectRelease t p s
  | .indirectDataRead t p => Sys2Proof.Machine.execIndirectDataRead t p s
  | .indirectDataWrite t p v => Sys2Proof.Machine.execIndirectDataWrite t p v s
  | .indirectFetchDone p answer ecc => Sys2Proof.Machine.execIndirectFetchDone p answer s ecc
  | .indirectQueueWriteDone p acked => Sys2Proof.Machine.execIndirectQueueWriteDone p acked s
  | .indirectClaimTimeout p => Sys2Proof.Machine.execIndirectClaimTimeout p s
  | .lockBitSet t a v => Sys2Proof.Machine.execLockBitSet t a v s
  | .unitReset t v => Sys2Proof.Machine.execUnitReset t v s
  | .unitResetEnd u => Sys2Proof.Machine.execUnitResetEnd u s
  | .registerWrite t a v => Sys2Proof.Machine.execRegisterWrite t a v s
  | .rcRead t a => Sys2Proof.Machine.execRcRead t a s
  | .counter64LowRead t a => Sys2Proof.Machine.execCounter64LowRead t a s
  | .svcReadFrame fixed a n cor lost => Sys2Proof.Machine.execSvcReadFrame fixed a n cor lost s
  | .svcWriteFrame fixed a ws => Sys2Proof.Machine.execSvcWriteFrame fixed a ws s
  | .svcInvalidFrame => Sys2Proof.Machine.execSvcInvalidFrame s
  | .svcFrameAbort fixed a part => Sys2Proof.Machine.execSvcFrameAbort fixed a part s
  | .crcData8Write t n v => Sys2Proof.Machine.execCrcData8Write t n v s
  | .crcData16Write t n v => Sys2Proof.Machine.execCrcData16Write t n v s
  | .crcData32Write t n v => Sys2Proof.Machine.execCrcData32Write t n v s
  | .barkSourceEvent src inst stays => Sys2Proof.Machine.execBarkSourceEvent src inst stays s
  | .barkPairBroken src inst stays => Sys2Proof.Machine.execBarkPairBroken src inst stays s
  | .barkWindowExpiry src => Sys2Proof.Machine.execBarkWindowExpiry src s
  | .brkVoteMismatch copy a v => Sys2Proof.Machine.execBrkVoteMismatch copy a v s
  | .stickyClear t k v => Sys2Proof.Machine.execStickyClear t k v s
  | .unfence t v => Sys2Proof.Machine.execUnfence t v s
  | .faultInject t v => Sys2Proof.Machine.execFaultInject t v s
  | .injectLineRelease => Sys2Proof.Machine.execInjectLineRelease s
  | .watchCmpCross c k => Sys2Proof.Machine.execWatchCmpCross c k s
  | .watchSample data clip sflt => Sys2Proof.Machine.execWatchSample data clip sflt s
  | .afeSample n c inst data ovr => Sys2Proof.Machine.execAfeSample n c inst data ovr s
  | .sensorFaultOnset n c isShort => Sys2Proof.Machine.execSensorFaultOnset n c isShort s
  | .sensorFaultClear n c => Sys2Proof.Machine.execSensorFaultClear n c s
  | .biasMonitorUpdate n c mv => Sys2Proof.Machine.execBiasMonitorUpdate n c mv s
  | .tachEdge inp a b z stamp held => Sys2Proof.Machine.execTachEdge inp a b z stamp s held
  | .tachStopped inp => Sys2Proof.Machine.execTachStopped inp s
  | .tachCfgWrite t inp div v => Sys2Proof.Machine.execTachCfgWrite t inp div v s
  | .ingestSample b p n c => Sys2Proof.Machine.execIngestSample b p n c s
  | .stampIngest inp => Sys2Proof.Machine.execStampIngest inp s
  | .laneParityDrop b t k => Sys2Proof.Machine.execLaneParityDrop b t k s
  | .filtInput b t k => Sys2Proof.Machine.execFiltInput b t k s
  | .envInput b t k => Sys2Proof.Machine.execEnvInput b t k s
  | .rsmpRefEvent b => Sys2Proof.Machine.execRsmpRefEvent b s
  | .rsmpRefTimeout b => Sys2Proof.Machine.execRsmpRefTimeout b s
  | .fftFrameComplete b t k => Sys2Proof.Machine.execFftFrameComplete b t k s
  | .fftTransformDone b t => Sys2Proof.Machine.execFftTransformDone b t s
  | .statBlockEnd b t k => Sys2Proof.Machine.execStatBlockEnd b t k s
  | .alarmValue b k => Sys2Proof.Machine.execAlarmValue b k s
  | .alarmAck t b v => Sys2Proof.Machine.execAlarmAck t b v s
  | .packRecordClose b k => Sys2Proof.Machine.execPackRecordClose b k s
  | .imageVerify t => Sys2Proof.Machine.execImageVerify t s
  | .imageInstallA t => Sys2Proof.Machine.execImageInstallA t s
  | .imageInstallB t => Sys2Proof.Machine.execImageInstallB t s
  | .imageGraft t b => Sys2Proof.Machine.execImageGraft t b s
  | .arbRaise t k => Sys2Proof.Machine.execArbRaise t k s
  | .imageVerifyDone readErr => Sys2Proof.Machine.execImageVerifyDone readErr s
  | .imageInstallDone readErr => Sys2Proof.Machine.execImageInstallDone s readErr
  | .graftEnd readErr => Sys2Proof.Machine.execGraftEnd s readErr
  | .partitionApply t v => Sys2Proof.Machine.execPartitionApply t v s
  | .bufAlloc t n => Sys2Proof.Machine.execBufAlloc t n s
  | .bufFree t u => Sys2Proof.Machine.execBufFree t u s
  | .bufFreeChain t u => Sys2Proof.Machine.execBufFreeChain t u s
  | .recPost t v => Sys2Proof.Machine.execRecPost t v s
  | .recordAccept => Sys2Proof.Machine.execRecordAccept s
  | .recordCopy bad => Sys2Proof.Machine.execRecordCopy bad s
  | .pushWrite sub bad => Sys2Proof.Machine.execPushWrite sub bad s
  | .pushBuffersFree sub => Sys2Proof.Machine.execPushBuffersFree sub s
  | .pullDescriptorWrite sub bad => Sys2Proof.Machine.execPullDescriptorWrite sub bad s
  | .rdptrWrite t sub v => Sys2Proof.Machine.execRdptrWrite t sub v s
  | .captureTrigger t v => Sys2Proof.Machine.execCaptureTrigger t v s
  | .capturePart n => Sys2Proof.Machine.execCapturePart n s
  | .captureShortEnd n => Sys2Proof.Machine.execCaptureShortEnd n s
  | .hwdTxnOpen t u => Sys2Proof.Machine.execHwdTxnOpen t u s
  | .hwdTxnCommit t u => Sys2Proof.Machine.execHwdTxnCommit t u s
  | .hwdTxnAbort t u => Sys2Proof.Machine.execHwdTxnAbort t u s
  | .hwdEntrySubmit t u => Sys2Proof.Machine.execHwdEntrySubmit t u s
  | .hwdConfPortWrite => Sys2Proof.Machine.execHwdConfPortWrite s
  | .hwdEntryStaged t bad => Sys2Proof.Machine.execHwdEntryStaged t bad s
  | .hwdCommitRecord => Sys2Proof.Machine.execHwdCommitRecord s
  | .hwdCommitDone => Sys2Proof.Machine.execHwdCommitDone s
  | .hwdReplayDone bad => Sys2Proof.Machine.execHwdReplayDone bad s
  | .hwdScrub one two unc => Sys2Proof.Machine.execHwdScrub one two unc s
  | .hwdEventCommit => Sys2Proof.Machine.execHwdEventCommit s
  | .keysLockSet t v => Sys2Proof.Machine.execKeysLockSet t v s
  | .coreRelease t n v => Sys2Proof.Machine.execCoreRelease t n v s
  | .wdogExpiry n => Sys2Proof.Machine.execWdogExpiry n s
  | .wdogKick t n v => Sys2Proof.Machine.execWdogKick t n v s
  | .wdogKickCsr n v => Sys2Proof.Machine.execWdogKickCsr n v s
  | .plicSourceEvent src => Sys2Proof.Machine.execPlicSourceEvent src s
  | .mtimerInterrupt n => Sys2Proof.Machine.execMtimerInterrupt n s
  | .xlkfeEntry n ecc => Sys2Proof.Machine.execXlkfeEntry n s ecc
  | .xlkfeMret n ecc => Sys2Proof.Machine.execXlkfeMret n ecc s
  | .coreLoad n c k uns rd rs1 imm ecc => Sys2Proof.Machine.execCoreLoad n c k uns rd rs1 imm ecc s
  | .coreStore n c k rs1 rs2 imm => Sys2Proof.Machine.execCoreStore n c k rs1 rs2 imm s
  | .coreFence n tso pred succ => Sys2Proof.Machine.execCoreFence n tso pred succ s
  | .coreFenceI n => Sys2Proof.Machine.execCoreFenceI n s
  | .coreLr n rd rs1 ecc => Sys2Proof.Machine.execCoreLr n rd rs1 ecc s
  | .coreSc n rd rs1 rs2 => Sys2Proof.Machine.execCoreSc n rd rs1 rs2 s
  | .coreAmo n op rd rs1 rs2 ecc => Sys2Proof.Machine.execCoreAmo n op rd rs1 rs2 ecc s
  | .mlkmtloRead n rd => Sys2Proof.Machine.execMlkmtloRead n rd s
  | .debugHaltReq n => Sys2Proof.Machine.execDebugHaltReq n s
  | .debugResumeReq n => Sys2Proof.Machine.execDebugResumeReq n s
  | .debugAbstractCmd n r wr post ecc => Sys2Proof.Machine.execDebugAbstractCmd n r wr post s ecc
  | .debugSysbusAccess a v ecc => Sys2Proof.Machine.execDebugSysbusAccess a v ecc s
  | .trapEntry n => Sys2Proof.Machine.execTrapEntry n s
  | .coreMret n => Sys2Proof.Machine.execCoreMret n s
  | .coreWfi n => Sys2Proof.Machine.execCoreWfi n s
  | .customCsrWrite n c v => Sys2Proof.Machine.execCustomCsrWrite n c v s
  | .laneCfgWrite t x l v => Sys2Proof.Machine.execLaneCfgWrite t x l v s
  | .laneModulePresent x l => Sys2Proof.Machine.execLaneModulePresent x l s
  | .laneModabsRise x l => Sys2Proof.Machine.execLaneModabsRise x l s
  | .laneLos x l => Sys2Proof.Machine.execLaneLos x l s
  | .laneTrainDone x l => Sys2Proof.Machine.execLaneTrainDone x l s
  | .laneTrainTimeout x l => Sys2Proof.Machine.execLaneTrainTimeout x l s
  | .laneBlockLock x l => Sys2Proof.Machine.execLaneBlockLock x l s
  | .laneFecLock x l => Sys2Proof.Machine.execLaneFecLock x l s
  | .laneStateTimeout x l => Sys2Proof.Machine.execLaneStateTimeout x l s
  | .laneLockLoss x l fec => Sys2Proof.Machine.execLaneLockLoss x l fec s
  | .laneHelloTx x l => Sys2Proof.Machine.execLaneHelloTx x l s
  | .portHelloTx x => Sys2Proof.Machine.execPortHelloTx x s
  | .helloRx x via w => Sys2Proof.Machine.execHelloRx x via w s
  | .maskRx x lanes => Sys2Proof.Machine.execMaskRx x lanes s
  | .markerInsert x => Sys2Proof.Machine.execMarkerInsert x s
  | .markerRx x mask c0 c1 skew late1 => Sys2Proof.Machine.execMarkerRx x mask c0 c1 skew late1 s
  | .frameRx x via fec r => Sys2Proof.Machine.execFrameRx x via fec r s
  | .resyncRetry x => Sys2Proof.Machine.execResyncRetry x s
  | .portRetrainCmd t x => Sys2Proof.Machine.execPortRetrainCmd t x s
  | .portRetrainEnd x => Sys2Proof.Machine.execPortRetrainEnd x s
  | .resyncReqRx x next rseq => Sys2Proof.Machine.execResyncReqRx x next rseq s
  | .resyncAckRx x next rseq lost => Sys2Proof.Machine.execResyncAckRx x next rseq lost s
  | .linkAckRx x ack => Sys2Proof.Machine.execLinkAckRx x ack s
  | .linkAckTx x => Sys2Proof.Machine.execLinkAckTx x s
  | .trunkWakePattern x l => Sys2Proof.Machine.execTrunkWakePattern x l s
  | .maskMarkerTimeout x => Sys2Proof.Machine.execMaskMarkerTimeout x s
  | .schedulerSelect x => Sys2Proof.Machine.execSchedulerSelect x s
  | .gateCycleStart x => Sys2Proof.Machine.execGateCycleStart x s
  | .gateEntryChange x => Sys2Proof.Machine.execGateEntryChange x s
  | .rdReqRx x f ecc => Sys2Proof.Machine.execRdReqRx x f ecc s
  | .wrPostRx x f => Sys2Proof.Machine.execWrPostRx x f s
  | .wrNpRx x f => Sys2Proof.Machine.execWrNpRx x f s
  | .requestPerform t x oid ecc => Sys2Proof.Machine.execRequestPerform t x oid ecc s
  | .unboundRequestRx x f => Sys2Proof.Machine.execUnboundRequestRx x f s
  | .completionRx x f => Sys2Proof.Machine.execCompletionRx x f s
  | .completionTimeout x tag => Sys2Proof.Machine.execCompletionTimeout x tag s
  | .creditRx x f => Sys2Proof.Machine.execCreditRx x f s
  | .creditTx t => Sys2Proof.Machine.execCreditTx t s
  | .bindReqRx x f => Sys2Proof.Machine.execBindReqRx x f s
  | .bindProofRx x f => Sys2Proof.Machine.execBindProofRx x f s
  | .bindProofTimeout t => Sys2Proof.Machine.execBindProofTimeout t s
  | .bindLockoutEnd t => Sys2Proof.Machine.execBindLockoutEnd t s
  | .unbindRx x f => Sys2Proof.Machine.execUnbindRx x f s
  | .tenantIdleTimeout t => Sys2Proof.Machine.execTenantIdleTimeout t s
  | .stopRx x f => Sys2Proof.Machine.execStopRx x f s
  | .doorbellRx x f => Sys2Proof.Machine.execDoorbellRx x f s
  | .mailboxPop t m v => Sys2Proof.Machine.execMailboxPop t m v s
  | .tkeyDataWrite t v => Sys2Proof.Machine.execTkeyDataWrite t v s
  | .tkeyCommit t h => Sys2Proof.Machine.execTkeyCommit t h s
  | .tkeyCommitDone => Sys2Proof.Machine.execTkeyCommitDone s
  | .hrqRead t q v => Sys2Proof.Machine.execHrqRead t q v s
  | .hrqWriteNp t q v => Sys2Proof.Machine.execHrqWriteNp t q v s
  | .hrqWritePost t q v => Sys2Proof.Machine.execHrqWritePost t q v s
  | .hrqMsg t q v => Sys2Proof.Machine.execHrqMsg t q v s
  | .hrqCreditTimeout q => Sys2Proof.Machine.execHrqCreditTimeout q s
  | .crbBusRequest => Sys2Proof.Machine.execCrbBusRequest s
  | .crbGrant => Sys2Proof.Machine.execCrbGrant s
  | .crbArbTimeout => Sys2Proof.Machine.execCrbArbTimeout s
  | .crbGrantLost => Sys2Proof.Machine.execCrbGrantLost s
  | .crbOutboundCycle => Sys2Proof.Machine.execCrbOutboundCycle s
  | .crbSlaveAnswer rdy berr d => Sys2Proof.Machine.execCrbSlaveAnswer rdy berr d s
  | .crbMonTimeout => Sys2Proof.Machine.execCrbMonTimeout s
  | .crbStrobeDeadline k => Sys2Proof.Machine.execCrbStrobeDeadline k s
  | .crbHung low => Sys2Proof.Machine.execCrbHung low s
  | .crbInboundCycle a n blk wr ub lb d ecc => Sys2Proof.Machine.execCrbInboundCycle a n blk wr ub lb d ecc s
  | .crbInboundPostedPerform => Sys2Proof.Machine.execCrbInboundPostedPerform s
  | .crbIrqServe lines => Sys2Proof.Machine.execCrbIrqServe lines s
  | .crbIackWindow => Sys2Proof.Machine.execCrbIackWindow s
  | .crbIrqWake => Sys2Proof.Machine.execCrbIrqWake s
  | .crbOutirqSet t L => Sys2Proof.Machine.execCrbOutirqSet t L s
  | .crbOutirqClear t L => Sys2Proof.Machine.execCrbOutirqClear t L s
  | .crbIackRespond L => Sys2Proof.Machine.execCrbIackRespond L s
  | .crbLvecPop t v => Sys2Proof.Machine.execCrbLvecPop t v s
  | .crbBridgeDeactivate => Sys2Proof.Machine.execCrbBridgeDeactivate s
  | .crbIrqLineReleased L => Sys2Proof.Machine.execCrbIrqLineReleased L s
  | .crbForeignStrobe => Sys2Proof.Machine.execCrbForeignStrobe s
  | .crbAnswerWithoutStrobe => Sys2Proof.Machine.execCrbAnswerWithoutStrobe s
  | .groveEnum t x => Sys2Proof.Machine.execGroveEnum t x s
  | .groveSleep t x => Sys2Proof.Machine.execGroveSleep t x s
  | .groveWake t x => Sys2Proof.Machine.execGroveWake t x s
  | .groveBeacon t x => Sys2Proof.Machine.execGroveBeacon t x s
  | .groveSessionStart x => Sys2Proof.Machine.execGroveSessionStart x s
  | .groveBeaconReturnTimeout x => Sys2Proof.Machine.execGroveBeaconReturnTimeout x s
  | .groveCheckinWindowEnd x => Sys2Proof.Machine.execGroveCheckinWindowEnd x s
  | .groveDriftListenEnd x => Sys2Proof.Machine.execGroveDriftListenEnd x s
  | .groveTxEntry x => Sys2Proof.Machine.execGroveTxEntry x s
  | .groveAnswerTimeout x => Sys2Proof.Machine.execGroveAnswerTimeout x s
  | .groveFrameRx x bad bs => Sys2Proof.Machine.execGroveFrameRx x bad bs s
  | .groveCheckinRx x f => Sys2Proof.Machine.execGroveCheckinRx x f s
  | .groveIdentRx x f => Sys2Proof.Machine.execGroveIdentRx x f s
  | .groveAnswerRx x f => Sys2Proof.Machine.execGroveAnswerRx x f s
  | .groveBurstDataRx x f => Sys2Proof.Machine.execGroveBurstDataRx x f s
  | .groveBurstGapTimeout x => Sys2Proof.Machine.execGroveBurstGapTimeout x s
  | .groveWakeReqRx x f => Sys2Proof.Machine.execGroveWakeReqRx x f s
  | .groveSleepOkRx x f => Sys2Proof.Machine.execGroveSleepOkRx x f s
  | .groveSleepPrepTimeout x => Sys2Proof.Machine.execGroveSleepPrepTimeout x s
  | .groveCommitSent x => Sys2Proof.Machine.execGroveCommitSent x s
  | .groveWakeToneEnd x => Sys2Proof.Machine.execGroveWakeToneEnd x s
  | .groveCarrierWake x => Sys2Proof.Machine.execGroveCarrierWake x s
  | .saplingBeacon p q f => Sys2Proof.Machine.execSaplingBeacon p q f s
  | .saplingRelay p q f => Sys2Proof.Machine.execSaplingRelay p q f s
  | .saplingJabber p q => Sys2Proof.Machine.execSaplingJabber p q s
  | .saplingEnum p q f => Sys2Proof.Machine.execSaplingEnum p q f s
  | .saplingPoll p q f seq => Sys2Proof.Machine.execSaplingPoll p q f seq s
  | .saplingBurstReq p q f seq data => Sys2Proof.Machine.execSaplingBurstReq p q f seq data s
  | .saplingBurstAbort p q f seq => Sys2Proof.Machine.execSaplingBurstAbort p q f seq s
  | .saplingRegRd p q f seq => Sys2Proof.Machine.execSaplingRegRd p q f seq s
  | .saplingRegWr p q f seq => Sys2Proof.Machine.execSaplingRegWr p q f seq s
  | .saplingPing p q f seq => Sys2Proof.Machine.execSaplingPing p q f seq s
  | .saplingBypass p q f seq => Sys2Proof.Machine.execSaplingBypass p q f seq s
  | .saplingReset p q f seq => Sys2Proof.Machine.execSaplingReset p q f seq s
  | .saplingTimeSet p q f => Sys2Proof.Machine.execSaplingTimeSet p q f s
  | .saplingSleepPrep p q f seq => Sys2Proof.Machine.execSaplingSleepPrep p q f seq s
  | .saplingSleepCommit p q f seq => Sys2Proof.Machine.execSaplingSleepCommit p q f seq s
  | .saplingWakeWindow p => Sys2Proof.Machine.execSaplingWakeWindow p s
  | .saplingListenEnd p => Sys2Proof.Machine.execSaplingListenEnd p s
  | .saplingWakeDetect p q => Sys2Proof.Machine.execSaplingWakeDetect p q s
  | .saplingWakeComparator p ch rms => Sys2Proof.Machine.execSaplingWakeComparator p ch rms s
  | .saplingWakeReqRepeat p => Sys2Proof.Machine.execSaplingWakeReqRepeat p s
  | .saplingWakeAck p q f seq => Sys2Proof.Machine.execSaplingWakeAck p q f seq s
  | .saplingBlockEnd p data sflt => Sys2Proof.Machine.execSaplingBlockEnd p data sflt s
  | .saplingLinkDown p q => Sys2Proof.Machine.execSaplingLinkDown p q s
  | .saplingJabberEnd p q => Sys2Proof.Machine.execSaplingJabberEnd p q s
  | .saplingWakeAll p q f => Sys2Proof.Machine.execSaplingWakeAll p q f s
  | .saplingSleepAbort p q f => Sys2Proof.Machine.execSaplingSleepAbort p q f s
  | .saplingWakeWaitEnd p => Sys2Proof.Machine.execSaplingWakeWaitEnd p s
  | .saplingNodeSilence p => Sys2Proof.Machine.execSaplingNodeSilence p s
  | .saplingCommitWakeTimeout p => Sys2Proof.Machine.execSaplingCommitWakeTimeout p s
  | .motionTick => Sys2Proof.Machine.execMotionTick s
  | .axisStop t n => Sys2Proof.Machine.execAxisStop t n s
  | .axisResume t n => Sys2Proof.Machine.execAxisResume t n s
  | .axisHalt t n => Sys2Proof.Machine.execAxisHalt t n s
  | .axisHome t n => Sys2Proof.Machine.execAxisHome t n s
  | .axisSetpos t n => Sys2Proof.Machine.execAxisSetpos t n s
  | .axisClear t n => Sys2Proof.Machine.execAxisClear t n s
  | .homeInputEdge n high => Sys2Proof.Machine.execHomeInputEdge n high s
  | .gearMasterEdge n dt => Sys2Proof.Machine.execGearMasterEdge n dt s
  | .followStepIn n dir => Sys2Proof.Machine.execFollowStepIn n dir s
  | .encoderDeviationHalt n => Sys2Proof.Machine.execEncoderDeviationHalt n s
  | .limitActive n high => Sys2Proof.Machine.execLimitActive n high s
  | .positionHistorySample => Sys2Proof.Machine.execPositionHistorySample s
  | .tripNLow => Sys2Proof.Machine.execTripNLow s
  | .tripRelease => Sys2Proof.Machine.execTripRelease s
  | .chopperPeriod mA => Sys2Proof.Machine.execChopperPeriod mA s
  | .drvOpenDetect n => Sys2Proof.Machine.execDrvOpenDetect n s
  | .standstillEntry n => Sys2Proof.Machine.execStandstillEntry n s
  | .energiseEnd n => Sys2Proof.Machine.execEnergiseEnd n s
  | .loadAngleStep n la => Sys2Proof.Machine.execLoadAngleStep n la s
  | .drvOcp n => Sys2Proof.Machine.execDrvOcp n s
  | .drvOtw temp => Sys2Proof.Machine.execDrvOtw temp s
  | .drvOtp temp => Sys2Proof.Machine.execDrvOtp temp s
  | .drvLinkCrc => Sys2Proof.Machine.execDrvLinkCrc s
  | .drvClockLoss lost => Sys2Proof.Machine.execDrvClockLoss lost s
  | .stopLatchClear t => Sys2Proof.Machine.execStopLatchClear t s
  | .jtagExtest sampled drive => Sys2Proof.Machine.execJtagExtest sampled drive s
  | .jtagSamplePreload sampled preload => Sys2Proof.Machine.execJtagSamplePreload sampled preload s
  | .jtagHighz => Sys2Proof.Machine.execJtagHighz s
  | .jtagBypass code => Sys2Proof.Machine.execJtagBypass code s
  | .jtagDtmcs v => Sys2Proof.Machine.execJtagDtmcs v s
  | .jtagDmi op a v ecc => Sys2Proof.Machine.execJtagDmi op a v ecc s

end Sys2Proof.Machine
end

