-- ==== Sys2Proof/Machine/Idle.lean ====
section
/-! DEFINITION. What happens while no command waits: a pending fault injection meets its checker, windows and frames in hand go
on, stores are performed, cores execute, and time passes (log entries 2 and 42). -/

namespace Sys2Proof.Machine

/-- An instance that an injection into `src` does not name (R197): any of the source's `n`. -/
def anyInst (s : State) (n : Nat) : Nat × State :=
  let (v, s) := s.fresh
  (v % n, s)

/-- The context whose word an injected lane error hits: any of bough `b`. -/
def injectLane (s : State) (b : Nat) : State :=
  let ks := (s.cnp.desc.filter fun p => p.1 / 512 == b).map (·.1)
  let (i, s) := anyInst s (Nat.max 1 ks.length)
  match ks.drop i with
  | key :: _ => laneDrop b (key / 32 % 16) (key % 32) s
  | [] => s.count (CNP_DROP.LANE b)

/-- What the unit of checker `src` does with the error beside raising it, as it does with a real one: its counters (Tables
08-11, 11-7, 12-22, 13-6), and for a comparator of the P-die its fault bit, flag and trip input (R199, R648). -/
def injectEffect (s : State) (src inst : Nat) : State :=
  match src with
  | 45 | 46 | 47 | 48 => injectLane s (src - 45)
  | 58 => s.count HWD_CNT.UNC
  | 59 => s.count HWD_CNT.COR
  | 61 => s.count HWD_CNT.LINK
  | 63 => s.count (CRW_CNT.TCM_UNC (inst % 4))
  | 64 => s.count CRW_L2_CNT.UNC
  | 68 | 69 => s.count (TK_CNT.CRC (src - 68))
  | 90 =>
    let (n, s) := anyInst s 4
    if s.up fenceDRV then drvFault s DRV_FAULT.OCP n src else s
  | 91 => if s.up fenceDRV then drvFault s DRV_FAULT.OTP 0 src else s
  | 92 =>
    let (n, s) := anyInst s 4
    if s.up fenceDRV then drvFault s DRV_FAULT.OPEN n src else s
  | 93 =>
    let (n, s) := anyInst s 4
    if s.up fenceDRV then declareStall s n else s
  | 94 => if s.up fenceDRV then drvFault s DRV_FAULT.VM_UV 0 src else s
  | 95 => if s.up fenceDRV then drvFault s DRV_FAULT.LINK 0 src else s
  | _ => s

/-- The checker that an injection waits for makes its next check (R197): it raises its error, and STATUS reads DONE. The drive
stage raises its own sources with their faults. -/
def injectionMet (s : State) : State :=
  match s.brk.inj with
  | none => s
  | some (src, inst) =>
    if !s.railsOn then s
    else
      let s := injectEffect (injectionDone s src) src inst
      if 90 ≤ src ∧ s.up fenceDRV then s else bark s src inst

/-- What happens on an empty queue, before the cores and the clock go on. -/
def unitsTick (s : State) : State :=
  let s := releaseGone (svcTick (injectionMet s))
  storesTick (closeWindows s)

end Sys2Proof.Machine
end

