-- ==== Sys2Proof/Machine/Step.lean ====
section
/-! DEFINITION. One step: the command at the front of the queue is performed with the rest of the queue waiting. -/

namespace Sys2Proof.Machine

/-- On an empty queue what is in hand goes on and time passes: a pending injection meets its checker, the service frame and
resets that waited for their completion go on, words move in Canopy, each core's oldest posted store is performed, each running
core executes an instruction, and one cycle of the running clock goes by. DESIGN CHOICE, log entries 2 and 42. -/
def step (s : State) : Host.Outcome State Fault Refusal :=
  match s.pending with
  | [] => .next (coresTick (canopySettle (unitsTick (idleTick s))))
  | c :: rest => exec c { s with pending := rest }

/-- The state with the command that a word spells at the front of its queue; no word spells one. -/
def State.withFetchWord (s : State) (nbits w : Nat) : State :=
  match decodeTableWord nbits w with
  | some c => { s with pending := c :: s.pending }
  | none => s

end Sys2Proof.Machine
end

