-- ==== Sys2Proof/Safety.lean ====
section
/-! DEFINITION. What claims say of a command: the accesses that are let through, what they leave, and the canonical form of the
sparse maps. -/

namespace Sys2Proof.Machine

/-- The canonical form of a map of bytes: addresses strictly rising, no byte equal to what an unlisted address reads as. -/
def Memory.wf (m : SMap Byte) : Bool := SMap.wf blankByte m

/-- The canonical form of the register map. -/
def Registers.wf (m : SMap Word) : Bool := SMap.wf resetWord m

/-- Memory, Root memory and the register file have their canonical form. -/
def State.wf (s : State) : Bool := Memory.wf s.mem && Memory.wf s.rmem && Registers.wf s.regs

/-- Tenant `t`'s access to the register at `a` is let through: the node runs, the permission entry of the block allows it, the
mode is not SAFE, and the unit takes accesses (R99, R130, R135, R714). -/
abbrev Lets (s : State) (t a : Nat) (wr : Bool) : Prop :=
  s.running = true ∧ permits s t a wr = true ∧ s.pwr.mode ≠ .safe ∧ blockUp s (blockOf a) (a % 0x10000) = true

/-- Core `n` executes an instruction of `len` bytes: it runs with no halt pending, its fetch leaves `u` and succeeds, and no
trigger matches its address or its bytes (R364, R395, R396). -/
abbrev ExecutesLen (s : State) (n len : Nat) (u : State) : Prop :=
  coreRuns s n = true ∧ (coreOf s n).halt = none ∧ fetchAt s n len 0 = (u, true) ∧
    trigHit u n 2 (coreOf u n).pc.toNat (some (leNat (fetchBytes u n (coreOf u n).pc.toNat len))) = none

/-- As `ExecutesLen`, for an instruction of 4 bytes. -/
abbrev Executes (s : State) (n : Nat) (u : State) : Prop := ExecutesLen s n 4 u

/-- An ordinary write of `v` to the register at `a`: RW bits as written, RWL bits while unlocked, W1C bits cleared by ones,
RWS bits staged (R8, R138). -/
def State.put (s : State) (a : Nat) (v : Word) : State :=
  match findReg a with
  | some r => plainWrite s r a v
  | none => s

/-- What a write that is let through leaves, `u` being the state after its effect: cores that wait for an interrupt now
pending go on, and tenant `t` has its status. -/
def written (u : State) (t st : Nat) : State := (wakeCores u).answer t st []

/-- What a read that is let through leaves: the state `u` after it, the status and the word. -/
def readBack (u : State) (t st : Nat) (w : Word) : State := u.answer t st [w]

/-- Sapling `p` at a command: its sleep settled, what it last sent gone. -/
def sapNow (s : State) (p : Nat) : Sap := { (sapOf s p).settleSleep s.uptime with sent := [], tones := 0 }

/-- Sapling `p` takes frame `f` of type `ty`, of right length, as new on port `q`, and is then `y` (R553, R555). -/
abbrev SapTakes (s : State) (p q ty seq : Nat) (f : GFrame) (y : Sap) : Prop :=
  f.ty = ty ∧ (sapNow s p).take q f seq = (.fresh, y)

/-- The commands that act on a Sapling. -/
def saplingCommand : Instr → Bool
  | .saplingBeacon .. | .saplingRelay .. | .saplingJabber .. | .saplingEnum .. | .saplingPoll .. | .saplingBurstReq .. => true
  | .saplingBurstAbort .. | .saplingRegRd .. | .saplingRegWr .. | .saplingPing .. | .saplingBypass .. | .saplingReset .. => true
  | .saplingTimeSet .. | .saplingSleepPrep .. | .saplingSleepCommit .. | .saplingWakeWindow .. | .saplingListenEnd .. => true
  | .saplingWakeDetect .. | .saplingWakeComparator .. | .saplingWakeReqRepeat .. | .saplingWakeAck .. | .saplingBlockEnd .. => true
  | .saplingLinkDown .. | .saplingJabberEnd .. | .saplingWakeAll .. | .saplingSleepAbort .. | .saplingWakeWaitEnd .. => true
  | .saplingNodeSilence .. | .saplingCommitWakeTimeout .. => true
  | _ => false

/-- A Sapling as chapter 17 allows it: an address of 0 to 62, counters of one byte, two ports, eight channels whose registers
hold only the bits of Table 17-8, a burst of one of its channels. -/
def Sap.wf (x : Sap) : Bool :=
  x.addr ≤ 62 && x.down < 256 && x.bdown < 256 && x.up < 256 && x.hops.length == 2 && x.home < 2 && x.link < 4 && x.bypass < 4 &&
    x.jam < 4 && x.jabber < 4 && x.chCfg.length == 8 && x.chWake.length == 8 && x.results.length == 8 && x.settle.length == 8 &&
    x.ctrl.toNat < 0x20000 && x.chCfg.all (fun w => w.toNat < 0x1000) && x.chWake.all (fun w => w.toNat < 0x20000) &&
    (match x.burst with | some b => b.ch < 8 | none => true)

/-- Every Sapling is as chapter 17 allows. -/
abbrev SaplingsWf (s : State) : Prop := ∀ p : Nat, (sapOf s p).wf = true

end Sys2Proof.Machine
end

