-- ==== Sys2Proof/WellFormed.lean ====
section
/-! DEFINITION. Well-formed commands: what an operand's type does not already say of it. A command that is not well
formed still runs (its operands are cut to their fields where they are used); statements ask for it where they need it. -/

namespace Sys2Proof

/-- A frame's fields fit their bits (Table 13-2), its payload is whole words, at most 32. -/
def Frame.wf (f : Frame) : Bool :=
  f.ty < 10 && f.cls < 6 && f.fbe < 256 && f.lbe < 256 && f.sub < 16 && f.status < 16 && f.src < 65536 &&
    f.tag < 1024 && f.oid < 64 && f.ackSeq < 65536 && f.addr < 2 ^ 48 && f.addr % 8 == 0 && f.aux < 2 ^ 32 &&
    f.payload.length % 8 == 0 && f.payload.length ≤ 256

/-- A Grove frame's fields fit their bytes, its payload is at most 64 bytes (Table 17-1). -/
def GFrame.wf (f : GFrame) : Bool := f.ty < 256 && f.hop < 256 && f.payload.length ≤ 64

/-- A word address: registers are reached in aligned words of 4 bytes (R131). -/
def wordAddr (a : BitVec 40) : Bool := a.toNat % 4 == 0

/-- The loads and stores of words that RV32 has in 2 bytes: register `r` and base `b` among x8 to x15 with an offset below
128, or base x2 with one below 256 (C extension, R360). -/
def compressible (r b imm : Nat) (load : Bool) : Bool :=
  imm % 4 == 0 && (8 ≤ r && r < 16 && 8 ≤ b && b < 16 && imm < 128 || b == 2 && imm < 256 && !(load && r == 0))

/-- What each command asks of its operands; the others ask nothing more than their types say. -/
def Instr.wf (i : Instr) : Bool :=
  match i with
  | .rwsStageWrite _ a _ | .lockBitSet _ a _ | .registerWrite _ a _ | .brkVoteMismatch _ a _ => wordAddr a
  | .rcRead _ a | .counter64LowRead _ a => wordAddr a
  | .svcReadFrame _ a _ _ _ => wordAddr a
  | .svcWriteFrame _ a ws => wordAddr a && 1 ≤ ws.length && ws.length ≤ 32
  | .svcFrameAbort _ a (.writes ws) => wordAddr a && ws.length ≤ 32
  | .svcFrameAbort _ a (.reads _) => wordAddr a
  | .watchSample data _ _ => data.length == 8
  | .rdReqRx _ f _ | .wrPostRx _ f | .wrNpRx _ f | .unboundRequestRx _ f | .completionRx _ f | .creditRx _ f
  | .bindReqRx _ f | .bindProofRx _ f | .unbindRx _ f | .stopRx _ f | .doorbellRx _ f => f.wf
  | .groveCheckinRx _ f | .groveIdentRx _ f | .groveAnswerRx _ f | .groveBurstDataRx _ f | .groveWakeReqRx _ f
  | .groveSleepOkRx _ f => f.wf
  | .saplingBeacon _ _ f | .saplingRelay _ _ f | .saplingEnum _ _ f | .saplingTimeSet _ _ f | .saplingWakeAll _ _ f
  | .saplingSleepAbort _ _ f => f.wf
  | .saplingPoll _ _ f _ | .saplingBurstAbort _ _ f _ | .saplingRegRd _ _ f _ | .saplingRegWr _ _ f _ | .saplingPing _ _ f _
  | .saplingBypass _ _ f _ | .saplingReset _ _ f _ | .saplingSleepPrep _ _ f _ | .saplingSleepCommit _ _ f _
  | .saplingWakeAck _ _ f _ => f.wf
  | .saplingBurstReq _ _ f _ _ => f.wf
  | .saplingBlockEnd _ data _ => data.length == 8
  | .coreLoad _ c k uns rd rs1 imm _ => !c || k == 2 && !uns && compressible rd rs1 imm.toNat true
  | .coreStore _ c k rs1 rs2 imm => !c || k == 2 && compressible rs2 rs1 imm.toNat false
  | .chopperPeriod mA => mA.length == 8
  | _ => true

end Sys2Proof
end

