-- ==== Sys2Proof/Certificates/Slice0/Obligations.lean ====
section
/-! DEFINITION. The statements about the model, one definition each. -/

open Sys2Proof Sys2Proof.Machine

/-- O1 (R76, R77, R78, R79, R713). HOLD_READY, VBAK_LOW, VIN_EXCURSION and HOLD_CHARGE_COMPLETE change the flags named and
nothing else, an excursion only while VIN is valid. VBAK coming back sets VBAK_OK, after a POR where Root was without
power; VBAK going clears it, and Root loses power where the node is OFF and VIN is not valid. VM rising clears VM_UV,
VM falling while VM_OK sets it and faults the drive stage, and so does VM rising above 56 V once; where the supply is
good again, the enabled axes are energised and the pair of DRV_VM reads what is left. VMON_UPDATE leaves the four
figures in the monitor registers, and CHARGING, HOLD_OK and VBAK_LOW follow them. -/
def Obligations.SupplyEventsComplete : Prop :=
  (∀ s : State, exec .holdReady s = .next { s with pwr := { s.pwr with holdOk := true } }) ∧
  (∀ s : State, exec .vbakLow s = .next { s with pwr := { s.pwr with vbakLow := true } }) ∧
  (∀ s : State, exec .holdChargeComplete s = .next { s with pwr := { s.pwr with charging := false } }) ∧
  (∀ s : State, s.pwr.vinOk = true →
    exec .vinExcursion s = .next { s with pwr := { s.pwr with vinQual := false, qualRun := true } }) ∧
  (∀ s : State, s.pwr.vinOk = false → exec .vinExcursion s = .next s) ∧
  (∀ s : State, s.pwr.rootPowered = true →
    exec (.vbakPresent true) s = .next { s with pwr := { s.pwr with vbakOk := true } }) ∧
  (∀ s u : State, s.pwr.rootPowered = false → exec .rootPor s = .next u →
    exec (.vbakPresent true) s = .next { u with pwr := { u.pwr with vbakOk := true } }) ∧
  (∀ s : State, s.pwr.vinOk = true ∨ s.pwr.mode ≠ .off →
    exec (.vbakPresent false) s = .next { s with pwr := { s.pwr with vbakOk := false } }) ∧
  (∀ s : State, s.pwr.vinOk = false → s.pwr.mode = .off →
    exec (.vbakPresent false) s = .next { s with pwr := { s.pwr with vbakOk := false, rootPowered := false } }) ∧
  (∀ s : State, exec .vmRiseOk s = .next (vmPair (vmBack { s with pwr := { s.pwr with vmRisen := true, vmUv := false } }))) ∧
  (∀ s : State, s.vmOk = true →
    exec .vmUndervoltage s =
      .next (vmFault { s with pwr := { s.pwr with vmRisen := false, vmUv := true } } true)) ∧
  (∀ s : State, s.vmOk = false → exec .vmUndervoltage s = .next s) ∧
  (∀ s : State, s.pwr.vmOv = false →
    exec (.vmOvervoltage true) s = .next (vmFault { s with pwr := { s.pwr with vmOv := true } } false)) ∧
  (∀ (s : State) (high : Bool), high = false ∨ s.pwr.vmOv = true →
    exec (.vmOvervoltage high) s = .next (vmPair (vmBack { s with pwr := { s.pwr with vmOv := high } }))) ∧
  (∀ (s : State) (vin hold vm vbak : BitVec 16), s.running = true →
    ∃ t, exec (.vmonUpdate vin hold vm vbak) s = .next t ∧
      t.fld PWR_VMON0.VIN_MV = vin.toNat ∧ t.fld PWR_VMON0.HOLD_MV = hold.toNat ∧
      t.fld PWR_VMON1.VM_MV = vm.toNat ∧ t.fld PWR_VMON1.VBAK_MV = vbak.toNat ∧
      t.pwr = { s.pwr with holdOk := s.pwr.holdOk && 17000 ≤ hold.toNat, vbakLow := s.pwr.vbakLow && vbak.toNat < 2600,
                           charging := s.bit PWR_HOLD_CFG.CHG_EN && hold.toNat + 500 < vin.toNat } ∧ t.mem = s.mem) ∧
  (∀ (s : State) (vin hold vm vbak : BitVec 16), s.running = false → exec (.vmonUpdate vin hold vm vbak) s = .next s)

/-- O2 (R36, R48, R64, R66, R67, R713, R34, R375). VIN_VALID starts the Root-up step of a first cold boot, after a POR
where Root was without power, and else only starts the qualification; ROOT_POR clears a Root that was without power,
and changes nothing else; the end of Root-up samples the straps and starts the rails step, or waits for VIO_GEN, whose
coming into range then does it; with RST_N low the boot is held; at any other time VIO_GEN in range only ends its
PWR_VIO error. The rails step is followed by the PLL step with MTIME at 0, that by the M-die-ready step with the four
PLLs shown locked, the trunk lanes and the drive stage starting; a rail or PLL that fails is shown and raises PWR_SEQ;
an M-die that is not ready holds the node in LOAD without an image; the end of WAKING makes Heartwood ready and enters
LOAD. -/
def Obligations.BootStepsComplete : Prop :=
  (∀ s : State, s.pwr.rootPowered = true → s.pwr.mode = .off → s.pwr.phase = .none → s.pwr.booted = false →
    ∃ t, exec .vinValid s = .next t ∧ t.pwr.vinOk = true ∧ t.pwr.phase = .rootUp ∧ t.pwr.seq = .cold ∧
      t.pwr.mode = .off ∧ t.bit SYS_BOOT_STAT.POR = true ∧ t.mem = s.mem) ∧
  (∀ s : State, s.pwr.rootPowered = true → s.pwr.mode ≠ .off ∨ s.pwr.phase ≠ .none ∨ s.pwr.booted = true →
    exec .vinValid s = .next { s with pwr := { s.pwr with vinOk := true, qualRun := !s.pwr.vinQual } }) ∧
  (∀ s : State, s.pwr.rootPowered = false →
    ∃ t, exec .vinValid s = .next t ∧ t.pwr.vinOk = true ∧ t.pwr.phase = .rootUp ∧ t.pwr.seq = .cold ∧
      t.pwr.mode = .off ∧ t.bit SYS_BOOT_STAT.POR = true ∧ t.rmem = []) ∧
  (∀ s : State, s.pwr.rootPowered = false →
    ∃ t, exec .rootPor s = .next t ∧ t.pwr.rootPowered = true ∧ t.pwr.mode = .off ∧ t.pwr.booted = false ∧
      t.pwr.safeLatch = false ∧ t.rmem = [] ∧ t.stg = []) ∧
  (∀ s : State, s.pwr.rootPowered = true → exec .rootPor s = .next s) ∧
  (∀ (s : State) (straps : BitVec 8) (vio18 : Bool), s.pwr.mode = .off → s.pwr.phase = .rootUp →
    s.pwr.rstLow = false →
    ∃ t, exec (.rootUpEnd straps vio18 true) s = .next t ∧ t.pwr.mode = .waking ∧ t.pwr.phase = .rails ∧
      (t.word SYS_STRAP.addr).toNat % 256 = straps.toNat ∧ t.pwr.booted = true ∧ t.mem = s.mem) ∧
  (∀ (s : State) (straps : BitVec 8) (vio18 : Bool), s.pwr.mode = .off → s.pwr.phase = .rootUp →
    s.pwr.rstLow = true →
    ∃ t, exec (.rootUpEnd straps vio18 true) s = .next t ∧ t.pwr.mode = .waking ∧ t.pwr.phase = .rails ∧ t.pwr.rstHeld = true) ∧
  (∀ (s : State) (straps : BitVec 8) (vio18 : Bool), s.pwr.mode = .off → s.pwr.phase = .rootUp →
    ∃ t, exec (.rootUpEnd straps vio18 false) s = .next t ∧ t.pwr.mode = .off ∧ t.pwr.phase = .vioWait ∧
      t.bit SYS_BOOT_STAT.STRAP_WAIT = true ∧ t.mem = s.mem) ∧
  (∀ (s : State) (straps : BitVec 8) (vio18 : Bool), s.pwr.mode = .off → s.pwr.phase = .vioWait →
    s.pwr.rstLow = false →
    ∃ t, exec (.vioGenInRange straps vio18) s = .next t ∧ t.pwr.mode = .waking ∧ t.pwr.phase = .rails ∧
      (t.word SYS_STRAP.addr).toNat % 256 = straps.toNat ∧ t.mem = s.mem) ∧
  (∀ (s : State) (straps : BitVec 8) (vio18 : Bool), s.pwr.phase ≠ .vioWait →
    exec (.vioGenInRange straps vio18) s =
      .next (if (vioState s 0 false).pwr.vioCrbOk then setPair (vioState s 0 false) Src.PWR_VIO false false
        else vioState s 0 false)) ∧
  (∀ s : State, s.pwr.mode = .waking → s.pwr.phase = .rails → s.pwr.rstHeld = false →
    ∃ t, exec .railsStepEnd s = .next t ∧ t = { setMtime s 0 with pwr := { s.pwr with phase := .pll } } ∧ mtime t = 0) ∧
  (∀ s : State, s.pwr.mode = .waking → s.pwr.phase = .pll →
    ∃ u, exec .pllStepEnd s = .next (driveStarts (trunkRestart u)) ∧ u.pwr.phase = .mdie ∧ u.bit TIM_STATUS.SYS_PLL = true ∧
      u.bit TIM_STATUS.TB_PLL = true ∧ u.bit TIM_STATUS.TRK_PLL_A = true ∧ u.bit TIM_STATUS.TRK_PLL_B = true ∧
      u.mem = s.mem ∧ u.tim = s.tim) ∧
  (∀ s : State, s.pwr.mode = .waking → s.pwr.phase = .rails → s.pwr.rstHeld = false →
    exec .bootStepTimeout s = .next (bark (s.setBit SYS_BOOT_STAT.RAIL_FAIL true) Src.PWR_SEQ)) ∧
  (∀ s : State, s.pwr.mode = .waking → s.pwr.phase = .pll → s.pwr.rstHeld = false →
    exec .bootStepTimeout s = .next (bark (s.setBit SYS_BOOT_STAT.PLL_FAIL true) Src.PWR_SEQ)) ∧
  (∀ s : State, s.pwr.mode = .waking → s.pwr.phase = .mdie → s.pwr.heldSrc = [] → s.pwr.safeLatch = false →
    ∃ t, exec .mdieReadyTimeout s = .next t ∧ t.pwr.mode = .load ∧ t.pwr.phase = .held ∧
      t.bit SYS_BOOT_STAT.MDIE_FAIL = true ∧ t.bit SYS_BOOT_STAT.NO_IMAGE = true ∧ t.mem = s.mem) ∧
  (∀ s : State, s.pwr.mode = .waking → s.pwr.phase = .mdie → s.pwr.heldSrc = [] → s.pwr.safeLatch = false →
    s.pwr.latchedReq = none → s.hwd.lostCommit = false →
    ∃ t, exec .mdieReadyEnd s = .next t ∧ t.pwr.mode = .load ∧ t.bit HWD_STATUS.READY = true ∧ t.mem = s.mem)

/-- O3 (R58, R67, R68, R283, R286, R287). When the boot verification of the slot in hand passes, every word of the slot
being good, the slot is recorded as booted with the BOOT write counter and the node goes on to image apply; when it
fails, or a word of the slot is lost, the result is shown, the verification's Bark source is raised and, if the node
is still in LOAD, the other slot is tried or the node holds; image apply puts the booted slot's image in force and
LOAD ends by Table 03-3. Where no such step is in progress neither changes anything. -/
def Obligations.LoadCompletes : Prop :=
  (∀ s : State, s.running = true → s.pwr.mode = .load → s.pwr.phase = .verify → s.up fenceHWD = true →
    (verifyImage s (slotImage s s.pwr.slot) (slotDesc s s.pwr.slot).len [1]).1 = resOK →
    ∃ t, exec (.signatureCheckDone []) s = .next t ∧ t.pwr.phase = .apply ∧ t.img.booted = some s.pwr.slot ∧
      t.pwr.verif = some (bootWriteCounter s) ∧ t.pwr.mode = .load ∧ t.mem = s.mem) ∧
  (∀ (s u : State) (ecc : List (Fin 3)) (r sect : Nat), s.running = true → s.pwr.mode = .load → s.pwr.phase = .verify →
    verifySlot s ecc = (u, r, sect) → u.pwr.mode = .load → r ≠ resOK →
    ∃ t, t = verifyBark ((u.setFld SEC_IMG_STAT.RESULT r).setFld SEC_IMG_STAT.SECT sect) r ∧
      exec (.signatureCheckDone ecc) s = .next (if t.pwr.mode = .load then bootSlotFailed t else t)) ∧
  (∀ (s : State) (ecc : List (Fin 3)), s.pwr.mode ≠ .load ∨ s.pwr.phase ≠ .verify → exec (.signatureCheckDone ecc) s = .next s) ∧
  (∀ (s : State) (x : Nat), s.running = true → s.pwr.mode = .load → s.pwr.phase = .apply → s.img.booted = some x →
    exec .imageApply s = .next (payOwed (finishLoad (applyImage s (slotImage s x))))) ∧
  (∀ s : State, s.pwr.mode ≠ .load ∨ s.pwr.phase ≠ .apply → exec .imageApply s = .next s)

/-- O4 (R75, R76, R80, R82, R84, R87, R88, R90, R93). VIN_FAIL counts the failure and clears VIN_OK and VIN_QUAL; it leads
from ROOT and SAFE to OFF, is noted in a power-down, changes no mode in HOLDUP, and enters HOLDUP from every other
mode; where HOLD is low already it ends such a sequence. VIN_QUALIFIED sets VIN_QUAL, resumes from OFF, and returns
from the return wait. HOLD running out ends a HOLDUP, aborting it before its commit point, and a power-down that VIN
failed in. The firmware window, the axis cut, the commit points, the end of the return wait and of the sequence act as
Tables 03-7 and 03-8 say, and change nothing outside such a sequence. -/
def Obligations.HoldupAndPowerdownComplete : Prop :=
  (∀ (s : State) (low : Bool), s.pwr.vinOk = false → exec (.vinFail low) s = .next s) ∧
  (∀ (s u : State) (low : Bool), s.pwr.vinOk = true →
    u = { s.count PWR_VIN_FAILS.COUNT with pwr := { s.pwr with vinOk := false, vinQual := false, qualRun := false } } →
    u.fld PWR_VIN_FAILS.COUNT = satAdd PWR_VIN_FAILS.COUNT.wid (s.fld PWR_VIN_FAILS.COUNT) 1 ∧
      (s.pwr.mode = .off → exec (.vinFail low) s =
        .next (checkRootPower { u with pwr := { u.pwr with phase := .none, seq := .none } })) ∧
      (s.pwr.mode = .root → exec (.vinFail low) s = .next (enterOff u .root)) ∧
      (s.pwr.mode = .safe → exec (.vinFail low) s = .next (enterOff u .safe)) ∧
      (s.pwr.mode = .holdup → exec (.vinFail low) s = .next u) ∧
      (s.pwr.mode ≠ .off → s.pwr.mode ≠ .root → s.pwr.mode ≠ .safe → s.pwr.mode ≠ .holdup → s.pwr.seq ≠ .pdown →
        exec (.vinFail low) s = .next (if low then holdAborted (enterHoldup u) else enterHoldup u))) ∧
  (∀ (s : State) (low : Bool), s.pwr.vinOk = true → s.pwr.mode.isRunning = true → s.pwr.seq = .pdown →
    ∃ u, exec (.vinFail low) s = .next (if low then holdAborted u else u) ∧ u.pwr.vinOk = false ∧ u.pwr.pdownLost = true ∧
      u.pwr.seq = .pdown ∧ u.pwr.mode = s.pwr.mode ∧ u.fld PWR_HOLD_STAT.FROM = s.pwr.mode.code ∧ u.mem = s.mem) ∧
  (∀ (s u : State), s.pwr.vinOk = true → s.pwr.qualRun = true →
    u = { s with pwr := { s.pwr with vinQual := true, qualRun := false } } →
    exec .vinQualified s = .next (if s.pwr.mode = .off ∧ s.pwr.booted = true then offResume u
      else if s.pwr.mode = .holdup ∧ s.pwr.retWait = true then holdupReturn u else u)) ∧
  (∀ s : State, s.pwr.vinOk = false ∨ s.pwr.qualRun = false → exec .vinQualified s = .next s) ∧
  (∀ s : State, (s.pwr.mode = .holdup ∧ s.pwr.committed = false) ∨ (s.pwr.seq = .pdown ∧ s.pwr.pdownLost = true) →
    exec .holdExhausted s = .next (holdAborted s)) ∧
  (∀ s : State, s.pwr.mode = .holdup → s.pwr.committed = true → s.pwr.seq ≠ .pdown →
    exec .holdExhausted s = .next (enterOff (recordSeqTime s) .holdup)) ∧
  (∀ s u : State, s.pwr.seq = .pdown → commitSteps s = u →
    exec .powerdownCommit s =
      .next (if u.pwr.pdownLost then enterOff (recordSeqTime (u.setBit PWR_HOLD_STAT.COMMIT true)) .root
        else if u.pwr.latchedRst then latchedReset u else enterRoot u)) ∧
  (∀ s : State, s.pwr.seq ≠ .pdown → exec .powerdownCommit s = .next s) ∧
  (∀ s : State, s.pwr.mode = .holdup ∨ s.pwr.seq = .pdown → s.pwr.fwWindow = true →
    ∃ t, exec .holdupFwWindowEnd s = .next t ∧ t = closeFwWindow s ∧ t.pwr.fwWindow = false ∧ t.hwd.fwOver = true) ∧
  (∀ s : State, s.pwr.mode = .holdup ∨ s.pwr.seq = .pdown → exec .holdupAxisCut s = .next (cutMovingAxes s)) ∧
  (∀ s : State, s.pwr.mode ≠ .holdup → s.pwr.seq ≠ .pdown →
    exec .holdupFwWindowEnd s = .next s ∧ exec .holdupAxisCut s = .next s ∧ exec .holdupCommit s = .next s ∧
      exec .holdupEnd s = .next s ∧ exec .holdExhausted s = .next s) ∧
  (∀ s u : State, s.pwr.mode = .holdup → s.pwr.committed = false →
    u = { (commitSteps s).setBit PWR_HOLD_STAT.COMMIT true with
          pwr := { ((commitSteps s).setBit PWR_HOLD_STAT.COMMIT true).pwr with committed := true } } →
    exec .holdupCommit s = .next (if mayReturn u = false then u else if u.pwr.vinQual then holdupReturn u
      else { u with pwr := { u.pwr with retWait := u.pwr.qualRun } })) ∧
  (∀ s : State, exec .holdupReturnWaitEnd s = .next { s with pwr := { s.pwr with retWait := false } }) ∧
  (∀ s : State, s.pwr.mode = .holdup → s.pwr.committed = true → s.pwr.retWait = false →
    exec .holdupEnd s = .next (enterOff (recordSeqTime s) .holdup))

/-- O5 (R47, R48, R49, R70, R71, R72, R73, R156). A running wake timer that expires reads zero and is sensed as its wake
cause; an instant of the watch cycle wakes the node from ROOT for the watch timer and is counted as a skipped snapshot
in any other mode; the acquisition of a snapshot ends, then what is queued of records is discarded and the node powers
down; RST_N low resets the node at once in WAKING, LOAD, FACTORY TEST, ROOT and the running modes, is latched in
HOLDUP and in a power-down, and is ignored in SAFE and OFF and while VIO_GEN is out of range; its release lets a held
node boot. With the lands cut off (EXTEST, HIGHZ) RST_N reaches nothing. An event whose case does not hold changes
nothing. -/
def Obligations.WakesAndResetsComplete : Prop :=
  (∀ (s : State) (n : Fin 2), s.pwr.rootPowered = true → s.fld (PWR_WTIMER.COUNT n.val) ≠ 0 →
    ∃ u, exec (.wakeTimerExpiry n) s = .next (senseCause u (16 + n.val)) ∧ u.fld (PWR_WTIMER.COUNT n.val) = 0 ∧
      u.mem = s.mem ∧ u.pwr = s.pwr) ∧
  (∀ (s : State) (n : Fin 2), s.fld (PWR_WTIMER.COUNT n.val) = 0 → exec (.wakeTimerExpiry n) s = .next s) ∧
  (∀ s : State, s.pwr.watchCycle = true → s.pwr.watchArm = false → s.pwr.mode = .root →
    ∃ u, exec .watchPeriodInstant s = .next (startWake u (2 ^ 21)) ∧ u.bit PWR_WAKE_CAUSE.WATCH = true ∧
      u.pwr.watchN = s.pwr.watchN + 1 ∧
      u.tim.now = Nat.max s.tim.now (s.pwr.watchT0 + (s.pwr.watchN + 1) * watchPeriod s * 1000000000)) ∧
  (∀ s : State, s.pwr.watchCycle = true → s.pwr.watchArm = false → s.pwr.mode ≠ .root →
    ∃ t, exec .watchPeriodInstant s = .next t ∧ t.pwr.mode = s.pwr.mode ∧ t.pwr.watchN = s.pwr.watchN + 1 ∧
      t.fld PWR_WATCH_SKIP.COUNT = satAdd PWR_WATCH_SKIP.COUNT.wid (s.fld PWR_WATCH_SKIP.COUNT) 1) ∧
  (∀ s : State, s.pwr.watchCycle = false ∨ s.pwr.watchArm = true → exec .watchPeriodInstant s = .next s) ∧
  (∀ s : State, s.work = .watch → s.pwr.watchAcq = true →
    exec .watchAcquisitionEnd s = .next { s with pwr := { s.pwr with watchAcq := false } }) ∧
  (∀ (s : State) (drop : State → Nat → State), s.work = .watch → s.pwr.seq = .none → s.pwr.watchAcq = false →
    drop = (fun u x => emptyQueues u x (fun _ e => e.isPush) fun u _ => u) →
    exec .watchSnapEnd s = .next (startPowerdown (drop (drop (discardRecords s) 0) 1))) ∧
  (∀ s : State, s.work ≠ .watch → exec .watchAcquisitionEnd s = .next s ∧ exec .watchSnapEnd s = .next s) ∧
  (∀ s u : State, landsCut s = false → s.pwr.rootPowered = true → s.pwr.vioGenOk = true →
    u = { s with pwr := { s.pwr with rstLow := true } } →
    (s.pwr.mode = .off ∨ s.pwr.mode = .safe → exec .rstNLow s = .next u) ∧
    (s.pwr.mode ≠ .off → s.pwr.mode ≠ .safe → s.pwr.mode ≠ .holdup → s.pwr.seq ≠ .pdown →
      exec .rstNLow s = .next (nodeReset u true)) ∧
    (s.pwr.mode = .holdup ∨ (s.pwr.mode.isRunning = true ∧ s.pwr.seq = .pdown) →
      ∃ t, exec .rstNLow s = .next t ∧ t.pwr = { u.pwr with latchedRst := true } ∧ t.bit PWR_WAKE_CAUSE.RSTN = true ∧
        t.mem = s.mem)) ∧
  (∀ s : State, s.pwr.vioGenOk = false → exec .rstNLow s = .next s) ∧
  (∀ s : State, landsCut s = false → s.pwr.rstHeld = true → s.pwr.vioGenOk = true →
    exec .rstNRelease s =
      .next { s with pwr := { s.pwr with rstLow := false, rstHeld := false, bootStart := s.uptime } }) ∧
  (∀ s : State, landsCut s = false → s.pwr.rstHeld = false ∨ s.pwr.vioGenOk = false →
    exec .rstNRelease s = .next { s with pwr := { s.pwr with rstLow := false } }) ∧
  (∀ s : State, landsCut s = true → exec .rstNLow s = .next s ∧ exec .rstNRelease s = .next s)

/-- O6 (R56, R62, R70, R156). A permitted mode request with a target runs the request on the written register, and one
with target 0 leaves TARGET as it is; a write of a wake timer stores the count and the instant; an access to
PWR_RMEM_DATA reads or writes the Root memory word in hand, but for the words below 0x19000, whose writes are
discarded; SYS_NODE_RST with the key, written by a command of its own, resets the node at once, or is latched in
HOLDUP and in a power-down, and any other value does nothing. -/
def Obligations.PowerWritesComplete : Prop :=
  (∀ (s : State) (t : Fin 8) (v : Word), Lets s t SYS_MODE_REQ.addr true → wordField v 0 4 ≠ 0 →
    exec (.modeRequest t v) s =
      .next (written (requestMode (s.put SYS_MODE_REQ.addr v) t (wordField v 0 4)) t 0)) ∧
  (∀ (s : State) (t : Fin 8) (v : Word), Lets s t SYS_MODE_REQ.addr true → wordField v 0 4 = 0 →
    exec (.modeRequest t v) s =
      .next (written (s.put SYS_MODE_REQ.addr (wordSet v 0 4 (s.fld SYS_MODE_REQ.TARGET))) t 0)) ∧
  (∀ (s : State) (t : Fin 8) (v : Word), Lets s t (PWR_WTIMER.addr 0) true →
    exec (.wakeTimerWrite t 0 v) s =
      .next (written ((s.put (PWR_WTIMER.addr 0) v).modPwr fun p => { p with wt0At := s.uptime }) t 0)) ∧
  (∀ (s : State) (t : Fin 8) (v : Word), Lets s t (PWR_WTIMER.addr 1) true →
    exec (.wakeTimerWrite t 1 v) s =
      .next (written ((s.put (PWR_WTIMER.addr 1) v).modPwr fun p => { p with wt1At := s.uptime }) t 0)) ∧
  (∀ (s : State) (t : Fin 8), Lets s t PWR_RMEM_DATA.addr false →
    exec (.rmemDataAccess t none) s = .next (readBack (rmemNext s) t 0 (s.rword (rmemByte s)))) ∧
  (∀ (s : State) (t : Fin 8) (v : Word), Lets s t PWR_RMEM_DATA.addr true → 0x19000 ≤ rmemByte s →
    exec (.rmemDataAccess t (some v)) s = .next (written (rmemNext (s.setRword (rmemByte s) v)) t 0)) ∧
  (∀ (s : State) (t : Fin 8) (v : Word), Lets s t PWR_RMEM_DATA.addr true → rmemByte s < 0x19000 →
    exec (.rmemDataAccess t (some v)) s = .next (written (rmemNext s) t 0)) ∧
  (∀ (s : State) (t : Fin 8) (v : Word), Lets s t SYS_NODE_RST.addr true → v ≠ 0x4E52 →
    exec (.nodeResetRequest t v) s = .next (written s t 0)) ∧
  (∀ (s : State) (t : Fin 8), Lets s t SYS_NODE_RST.addr true → s.sys.carrier = none → s.pwr.mode ≠ .off →
    s.pwr.mode ≠ .holdup → s.pwr.seq ≠ .pdown →
    exec (.nodeResetRequest t 0x4E52) s = .next (written (nodeReset s false) t 0)) ∧
  (∀ (s : State) (t : Fin 8), Lets s t SYS_NODE_RST.addr true → s.sys.carrier = none → s.pwr.mode ≠ .off →
    s.pwr.mode = .holdup ∨ s.pwr.seq = .pdown →
    exec (.nodeResetRequest t 0x4E52) s = .next (written { s.setBit PWR_WAKE_CAUSE.RSTN true with
      pwr := { s.pwr with latchedRst := true } } t 0))

/-- O7 (R57). A permitted write of SYS_MODE_REQ that asks for BRIDGE while the sampled CRB_ROLE is 0b00, or for SURVEY
while VM_OK reads 0, is refused: it is answered with normal status, SYS_MODE_REQ.STATUS reads REFUSED (3) and the
power state, the mode among it, is as before. -/
def Obligations.RefusedModeRequests : Prop :=
  ∀ (s : State) (t : Fin 8) (v : Word), Lets s t SYS_MODE_REQ.addr true →
    ((wordField v 0 4 = 7 ∧ s.fld SYS_STRAP.CRB_ROLE = 0) ∨ (wordField v 0 4 = 6 ∧ s.vmOk = false)) →
    ∃ u, exec (.modeRequest t v) s = .next u ∧ u.rsp.status = 0 ∧ u.fld SYS_MODE_REQ.STATUS = 3 ∧ u.pwr = s.pwr

/-- O8 (R77). While VIN is valid, an excursion below 17.0 V leaves VIN unqualified with the 10 ms qualification running,
whatever stood before, and changes nothing else; the qualification then completes VIN_QUAL only at its end. -/
def Obligations.VinExcursionRestartsQualification : Prop :=
  ∀ s : State, s.pwr.vinOk = true →
    ∃ t, exec .vinExcursion s = .next t ∧ t.pwr.vinQual = false ∧ t.pwr.qualRun = true ∧ t.pwr.mode = s.pwr.mode ∧
      { t with pwr := s.pwr } = s

/-- O9 (R32, R97, R103, R107, R108, R109, R110, R112, R114, R105, R120, R96). PPS_SECOND advances mill time to the next
whole second and lets TIME_PPS rise only while LOCKED and enabled; a clock monitor raises its source; SYNC of the
master starts an exchange with t2 the present mill time and rejects one that waits, a foreign SYNC or DELAY_RESP is
only counted; DELAY_REQ stamps t3 where its port may send and no ALARM frame waits; DELAY_RESP ends an exchange,
rejecting one whose delay is out of range and handing the others to the discipline loop where it is enabled; one that
no exchange waits for is late where its exchange was missed; delay and offset are kept in half ns and reported to the
nearest ns, halves up (the model's choice, log entry 17); a missed exchange is counted and dropped; HOLDOVER leaves
ACQUIRE and LOCKED; ROOT_SLOW falls back once; the modulators realign at the next whole second after a step; a write
of TIM_CTRL and a read of TIM_NOW_LO act as R114 and R105 say. While the node does not run, none of the other events
does anything. -/
def Obligations.TimebaseEventsComplete : Prop :=
  (∀ s : State, s.running = true →
    ∃ t, exec .ppsSecond s = .next t ∧ s.tim.now ≤ t.tim.now ∧ t.tim.now < s.tim.now + 1000000000 ∧
      t.tim.now % 1000000000 = 0 ∧ t.regs = s.regs ∧ t.mem = s.mem ∧
      (timState s = timLOCKED → s.bit TIM_CTRL.PPS_EN = true → t.tim.ppsAt = some t.tim.now) ∧
      (¬ (timState s = timLOCKED ∧ s.bit TIM_CTRL.PPS_EN = true) → t.tim.ppsAt = s.tim.ppsAt)) ∧
  (∀ s : State, exec .rootSlowFallback s = .next
    (if s.pwr.rootPowered = true ∧ s.pwr.rslowRc = false then bark { s with pwr := { s.pwr with rslowRc := true } } Src.CLK_RSLOW
      else s)) ∧
  (∀ s : State, s.running = true →
    exec (.pllLockLoss 0) s = .next (bark s Src.CLK_REF) ∧
    exec (.pllLockLoss 1) s = .next (bark (s.setBit TIM_STATUS.SYS_PLL false) Src.CLK_SYSPLL) ∧
    exec (.pllLockLoss 2) s = .next (bark (s.setBit TIM_STATUS.TB_PLL false) Src.CLK_TIMEPLL) ∧
    exec (.pllLockLoss 3) s = .next (bark (s.setBit TIM_STATUS.TRK_PLL_A false) Src.CLK_TRKPLL 0) ∧
    exec (.pllLockLoss 4) s = .next (bark (s.setBit TIM_STATUS.TRK_PLL_B false) Src.CLK_TRKPLL 1)) ∧
  (∀ (s : State) (h : Fin 4) (p : Fin 2) (tag : Fin 1024) (t1 : BitVec 64), s.running = true →
    fromMaster s h p = true →
    ∃ t, exec (.timeSyncRx h p tag t1) s = .next t ∧ t.tim.now = s.tim.now ∧ t.mem = s.mem ∧
      t.tim.exch = some { port := p, tag := tag, t1 := t1.toNat, t2 := s.tim.now, t3 := none } ∧
      t.fld TIM_CNT.REJECT =
        satAdd TIM_CNT.REJECT.wid (s.fld TIM_CNT.REJECT) (if s.tim.exch.isSome then 1 else 0)) ∧
  (∀ (s : State) (h : Fin 4) (p : Fin 2) (tag : Fin 1024) (w : BitVec 64), s.running = true →
    fromMaster s h p = false → exec (.timeSyncRx h p tag w) s = .next (s.count TIM_CNT.FOREIGN) ∧
      exec (.timeDelayRespRx h p tag w) s = .next (s.count TIM_CNT.FOREIGN)) ∧
  (∀ (s : State) (e : Exch), s.tim.exch = some e →
    exec .timeDelayReqTx s = .next
      (if s.running = true ∧ e.t3 = none ∧ mayTransmit s e.port = true ∧ alarmWaits s e.port = false then
        sendDelayReq { s with tim := { s.tim with exch := some { e with t3 := some s.tim.now } } } e.port e.tag else s)) ∧
  (∀ (s : State) (h : Fin 4) (p : Fin 2) (tag : Fin 1024) (t4 : BitVec 64), s.running = true → fromMaster s h p = true →
    (∀ e, s.tim.exch = some e → e.t3 = none ∨ e.tag ≠ tag ∨ e.port ≠ p) →
    exec (.timeDelayRespRx h p tag t4) s = .next
      (if (p.val, tag.val) ∈ s.tim.late then
        bark { s with tim := { s.tim with late := s.tim.late.erase (p.val, tag.val) } } Src.LATE else s)) ∧
  (∀ (s : State) (h : Fin 4) (p : Fin 2) (tag : Fin 1024) (t4 : BitVec 64) (e : Exch) (t3 : Nat), s.running = true →
    fromMaster s h p = true → s.tim.exch = some e → e.t3 = some t3 → e.tag = tag → e.port = p →
    exchangeOk s (((e.t2 : Int) - e.t1) + ((t4.toNat : Int) - t3)) = false →
    exec (.timeDelayRespRx h p tag t4) s =
      .next ({ s with tim := { s.tim with exch := none } }.count TIM_CNT.REJECT)) ∧
  (∀ (s u : State) (h : Fin 4) (p : Fin 2) (tag : Fin 1024) (t4 : BitVec 64) (e : Exch) (t3 : Nat) (d o : Int),
    s.running = true → fromMaster s h p = true → s.tim.exch = some e → e.t3 = some t3 → e.tag = tag → e.port = p →
    d = ((e.t2 : Int) - e.t1) + ((t4.toNat : Int) - t3) →
    o = 2 * ((e.t2 : Int) - e.t1) - d - 2 * s.sfld TIM_ASYM.NS →
    u = ((({ s with tim := { s.tim with exch := none, dHist := (d :: s.tim.dHist).take 16 } }.setFld TIM_OFFSET.NS
      (ofSigned 32 (clampI (-2147483648) 2147483647 ((o + 1) / 2)))).setFld TIM_DELAY.NS ((d + 1) / 2).toNat).setBit
        TIM_STATUS.MASTER_OK true) →
    exchangeOk s d = true →
    exec (.timeDelayRespRx h p tag t4) s = .next (if s.bit TIM_CTRL.DISC_EN then discipline u o else u) ∧
      u.fld TIM_DELAY.NS = ((d + 1) / 2).toNat % 2 ^ 32 ∧
      u.fld TIM_OFFSET.NS = ofSigned 32 (clampI (-2147483648) 2147483647 ((o + 1) / 2)) ∧
      u.bit TIM_STATUS.MASTER_OK = true) ∧
  (∀ (s : State) (e : Exch), s.tim.exch = some e → s.running = true →
    exec .timeExchangeMiss s = .next (if e.t3 = none then s else
      { s with tim := { s.tim with exch := none, late := s.tim.late ++ [(e.port, e.tag)] } }.count TIM_CNT.MISS)) ∧
  (∀ s : State, s.tim.exch = none → exec .timeExchangeMiss s = .next s ∧ exec .timeDelayReqTx s = .next s) ∧
  (∀ s : State, s.running = true →
    exec .timebaseHoldover s = .next (if timState s = timACQUIRE ∨ timState s = timLOCKED then
      setTimState (s.setBit TIM_STATUS.MASTER_OK false) timHOLDOVER else s.setBit TIM_STATUS.MASTER_OK false)) ∧
  (∀ (s : State) (t : Fin 8) (v : Word), Lets s t TIM_CTRL.addr true →
    exec (.timeSetCmd t v) s = .next (written (timCtrlWritten (s.put TIM_CTRL.addr v) v) t 0)) ∧
  (∀ (s : State) (t : Fin 8), Lets s t TIM_NOW_LO.addr false →
    exec (.timNowLoRead t) s =
      .next (readBack (snapWide s t TIM_NOW_LO.addr) t 0 (BitVec.ofNat 32 s.tim.now))) ∧
  (∀ s u : State, s.running = true → s.tim.realign = true →
    u = s.advanceTo ((s.tim.now + 999999999) / 1000000000 * 1000000000) →
    exec .afeRealign s = .next (settleAll (ingestNeedTime { u with tim := { u.tim with realign := false } })) ∧
      u.tim.now % 1000000000 = 0 ∧ s.tim.now ≤ u.tim.now ∧ u.tim.now < s.tim.now + 1000000000) ∧
  (∀ s : State, s.tim.realign = false → exec .afeRealign s = .next s) ∧
  (∀ (s : State) (k : Fin 5) (h : Fin 4) (p : Fin 2) (tag : Fin 1024) (w : BitVec 64), s.running = false →
    exec .ppsSecond s = .next s ∧ exec (.pllLockLoss k) s = .next s ∧ exec (.timeSyncRx h p tag w) s = .next s ∧
    exec .timeDelayReqTx s = .next s ∧ exec (.timeDelayRespRx h p tag w) s = .next s ∧ exec .timeExchangeMiss s = .next s ∧
    exec .timebaseHoldover s = .next s ∧ exec .afeRealign s = .next s)

/-- O10 (R9, R130, R133, R134, R138, R150, R141, R143, R144, R154, R186, R188). For every register of the map, a permitted
write runs its block's effect and a permitted read returns its word. Applying update groups, arming and firing a timed
apply and unit resets act as their rules say; a unit reset that ends leaves its bit of SYS_URST_STAT 0, opens the
fence it lifts and starts the lanes of a port again; a timed apply that is not armed, and a reset that does not run,
change nothing. The named register commands (mode requests, timers, buffer, Heartwood, axis, Grove and the other
commands listed) are exactly the write or read of their register with the word named, for every state, tenant and
operand, refused accesses included. -/
def Obligations.RegisterAccessesComplete : Prop :=
  (∀ (s : State) (t : Fin 8) (a : BitVec 40) (v : Word) (r : RegRow), Lets s t a.toNat true → a.toNat % 4 = 0 →
    findReg a.toNat = some r →
    exec (.registerWrite t a v) s = .next (written (writeReg s t a.toNat r v).1 t (writeReg s t a.toNat r v).2) ∧
    exec (.rwsStageWrite t a v) s = .next (written (writeReg s t a.toNat r v).1 t (writeReg s t a.toNat r v).2) ∧
    exec (.lockBitSet t a v) s = .next (written (writeReg s t a.toNat r v).1 t (writeReg s t a.toNat r v).2)) ∧
  (∀ (s : State) (t : Fin 8) (a : BitVec 40) (r : RegRow), Lets s t a.toNat false → a.toNat % 4 = 0 →
    findReg a.toNat = some r →
    exec (.rcRead t a) s =
      .next (readBack (readReg s t a.toNat r).1 t (readReg s t a.toNat r).2.1 (readReg s t a.toNat r).2.2) ∧
    exec (.counter64LowRead t a) s =
      .next (readBack (readReg s t a.toNat r).1 t (readReg s t a.toNat r).2.1 (readReg s t a.toNat r).2.2)) ∧
  (∀ (s : State) (t : Fin 8) (v : Word), Lets s t SYS_UPD_APPLY.addr true →
    exec (.updateApply t v) s = .next (written (applyGroups (s.put SYS_UPD_APPLY.addr v) t (wordField v 0 16)) t 0)) ∧
  (∀ (s : State) (t : Fin 8) (v : Word), Lets s t SYS_UPD_AT_MASK.addr true →
    exec (.timedApplyArm t v) s = .next (written (armApply (s.put SYS_UPD_AT_MASK.addr v) t) t 0)) ∧
  (∀ (s : State) (t : Fin 8) (v : Word), Lets s t SYS_URST.addr true →
    exec (.unitReset t v) s = .next (written (writeUrst (s.put SYS_URST.addr v) v) t 0)) ∧
  (∀ s u : State, s.running = true → s.bit SYS_UPD_STAT.ARMED = true →
    u = ((((s.advanceTo s.sys.atTime).setFld SYS_UPD_AT_MASK.MASK 0).setBit SYS_UPD_STAT.ARMED false).setBit SYS_SVC_IRQ.UPD
      true) →
    exec .timedApplyFire s = .next (applyGroups u s.sys.atTenant (s.fld SYS_UPD_AT_MASK.MASK)) ∧
      u.tim.now = Nat.max s.tim.now s.sys.atTime) ∧
  (∀ s : State, s.running = false ∨ s.bit SYS_UPD_STAT.ARMED = false → exec .timedApplyFire s = .next s) ∧
  (∀ (s v : State) (u : Fin 32), s.running = true →
    (if u.val < 23 then s.inUnitReset u.val = true else (fenceOfReset u.val).any (fun f => nbit s.sys.unfencing f) = true) →
    v = (match fenceOfReset u.val with
      | some f => if nbit s.sys.unfencing f then liftFence (endReset s u.val) f else endReset s u.val
      | none => endReset s u.val) →
    exec (.unitResetEnd u) s = .next (if u.val = 15 ∨ u.val = 16 then restartPort v (u.val - 15)
      else if u.val = 24 then v.setWord SYS_SVC_CNT.addr 0 else v)) ∧
  (∀ (s : State) (u : Fin 32), (s.running = false ∨
    if u.val < 23 then s.inUnitReset u.val = false else (fenceOfReset u.val).any (fun f => nbit s.sys.unfencing f) = false) →
    exec (.unitResetEnd u) s = .next s) ∧
  (∀ (s : State) (u : Fin 23), (endReset s u.val).inUnitReset u.val = false) ∧
  (∀ (s : State) (t : Fin 8) (w : Nat → Word → Host.Outcome State Fault Refusal),
    w = (fun a v => exec (.registerWrite t (BitVec.ofNat 40 a) v) s) →
    (∀ v : Word, exec (.modeRequest t v) s = w SYS_MODE_REQ.addr v ∧ exec (.nodeResetRequest t v) s = w SYS_NODE_RST.addr v ∧
      exec (.rmemDataAccess t (some v)) s = w PWR_RMEM_DATA.addr v ∧ exec (.timeSetCmd t v) s = w TIM_CTRL.addr v ∧
      exec (.updateApply t v) s = w SYS_UPD_APPLY.addr v ∧ exec (.timedApplyArm t v) s = w SYS_UPD_AT_MASK.addr v ∧
      exec (.unitReset t v) s = w SYS_URST.addr v ∧ exec (.unfence t v) s = w BRK_UNFENCE.addr v ∧
      exec (.faultInject t v) s = w BRK_INJ.addr v ∧ exec (.partitionApply t v) s = w BUF_PART.addr v ∧
      exec (.recPost t v) s = w REC_POST.addr v ∧ exec (.captureTrigger t v) s = w REC_CAP_TRIG.addr v ∧
      exec (.keysLockSet t v) s = w HWD_KEYS_LOCK_SET.addr v ∧ exec (.crbLvecPop t v) s = w CRB_LVEC_POP.addr v ∧
      exec (.tkeyDataWrite t v) s = w SEC_TKEY_DATA.addr v ∧ exec (.stopLatchClear t) s = w DRV_TRIP_CLR.addr 1) ∧
    (∀ (v : Word) (n : Fin 2), exec (.wakeTimerWrite t n v) s = w (PWR_WTIMER.addr n) v) ∧
    (∀ (v : Word) (k : Fin 3), exec (.stickyClear t k v) s = w (BRK_STICKY.addr k) v) ∧
    (∀ (v : Word) (i : Fin 8), exec (.tachCfgWrite t i false v) s = w (TCH_CFG.addr i) v ∧
      exec (.tachCfgWrite t i true v) s = w (TCH_DIV.addr i) v) ∧
    (∀ (v : Word) (n : Fin 4), exec (.crcData8Write t n v) s = w (CRC_DATA8.addr n) v ∧
      exec (.crcData16Write t n v) s = w (CRC_DATA16.addr n) v ∧ exec (.crcData32Write t n v) s = w (CRC_DATA32.addr n) v ∧
      exec (.alarmAck t n v) s = w (CNP_T_AACK.addr n 14) v ∧ exec (.wdogKick t n v) s = w (CRW_WDOG_KICK.addr n) v ∧
      exec (.mailboxPop t n v) s = w (TEN_MB_POP.addr n) v ∧ exec (.indirectDataWrite t n v) s = w (indBase n + 4) v) ∧
    (∀ (v : Word) (i : Fin 256), exec (.rdptrWrite t i v) s = w (REC_SUB_RDPTR.addr i) v) ∧
    (∀ (v : Word) (x l : Fin 2), exec (.laneCfgWrite t x l v) s = w (TK_LANE_CFG.addr x l) v) ∧
    (∀ n : Fin 512, exec (.bufAlloc t n) s = w BUF_CMD.addr (BitVec.ofNat 32 (1 + 8 * n.val))) ∧
    (∀ u : Fin 16384, exec (.bufFree t u) s = w BUF_CMD.addr (BitVec.ofNat 32 (2 + 65536 * u.val)) ∧
      exec (.bufFreeChain t u) s = w BUF_CMD.addr (BitVec.ofNat 32 (3 + 65536 * u.val))) ∧
    (∀ u : Fin 8, exec (.hwdTxnOpen t u) s = w (HWD_TXN_CTRL.addr u) 1 ∧ exec (.hwdTxnCommit t u) s = w (HWD_TXN_CTRL.addr u) 2 ∧
      exec (.hwdTxnAbort t u) s = w (HWD_TXN_CTRL.addr u) 3 ∧ exec (.hwdEntrySubmit t u) s = w (HWD_JE_GO.addr u) 1) ∧
    (∀ n : Fin 4, exec (.axisStop t n) s = w (MOT_CMD.addr n) 1 ∧ exec (.axisHalt t n) s = w (MOT_CMD.addr n) 3 ∧
      exec (.axisResume t n) s = w (MOT_CMD.addr n) 2 ∧ exec (.axisHome t n) s = w (MOT_CMD.addr n) 4 ∧
      exec (.axisSetpos t n) s = w (MOT_CMD.addr n) 5 ∧ exec (.axisClear t n) s = w (MOT_CMD.addr n) 6 ∧
      exec (.indirectRelease t n) s = w (indBase n) 0x80000000) ∧
    (∀ x : Fin 2, exec (.groveEnum t x) s = w (GRV_CMD.addr x) 1 ∧ exec (.groveSleep t x) s = w (GRV_CMD.addr x) 2 ∧
      exec (.groveWake t x) s = w (GRV_CMD.addr x) 3 ∧ exec (.groveBeacon t x) s = w (GRV_CMD.addr x) 4) ∧
    (∀ L : Fin 4, exec (.crbOutirqSet t L) s = w CRB_OUTIRQ_SET.addr (BitVec.ofNat 32 (2 ^ L.val)) ∧
      exec (.crbOutirqClear t L) s = w CRB_OUTIRQ_SET.addr (BitVec.ofNat 32 (2 ^ (4 + L.val))))) ∧
  (∀ (s : State) (t : Fin 8), exec (.rmemDataAccess t none) s = exec (.rcRead t (BitVec.ofNat 40 PWR_RMEM_DATA.addr)) s ∧
    exec (.timNowLoRead t) s = exec (.rcRead t (BitVec.ofNat 40 TIM_NOW_LO.addr)) s ∧
    ∀ p : Fin 4, exec (.indirectDataRead t p) s = exec (.rcRead t (BitVec.ofNat 40 (indBase p + 4))) s)

/-- O11 (R99, R130, R131, R135, R136, R359). A register write or read by a tenant without permission, while the node runs,
is answered DENIED (2) with data 0 and raises TEN_PERM of that tenant; outside SAFE, one at an address whose block
names no register, at an offset that names none, or not aligned, is answered DECODE_ERR (1) and raises BUS_DECODE; one
of a unit that is fenced or in reset is answered UNIT_ERR (3) and changes nothing but the answer and, where Heartwood
is fenced, the RESULT (ABORTED) of a tenant's own OPEN or entry write; one while the node does not run is answered
UNIT_ERR. -/
def Obligations.RefusedAccesses : Prop :=
  (∀ (s : State) (t : Fin 8) (a : BitVec 40) (v : Word), s.running = true →
    blockRows (blockOf a.toNat) ≠ [] → permits s t a.toNat true = false →
    exec (.registerWrite t a v) s = .next ((bark s Src.TEN_PERM t).answer t 2 [])) ∧
  (∀ (s : State) (t : Fin 8) (a : BitVec 40), s.running = true →
    blockRows (blockOf a.toNat) ≠ [] → permits s t a.toNat false = false →
    exec (.rcRead t a) s = .next ((bark s Src.TEN_PERM t).answer t 2 [0])) ∧
  (∀ (s : State) (t : Fin 8) (a : BitVec 40) (v : Word), s.running = true → s.pwr.mode ≠ .safe →
    blockRows (blockOf a.toNat) = [] →
    exec (.registerWrite t a v) s = .next ((bark s Src.BUS_DECODE t).answer t 1 []) ∧
    exec (.rcRead t a) s = .next ((bark s Src.BUS_DECODE t).answer t 1 [0])) ∧
  (∀ (s : State) (t : Fin 8) (a : BitVec 40) (v : Word), Lets s t a.toNat true → blockRows (blockOf a.toNat) ≠ [] →
    findReg a.toNat = none ∨ a.toNat % 4 ≠ 0 →
    exec (.registerWrite t a v) s = .next ((bark s Src.BUS_DECODE t).answer t 1 []) ∧
    exec (.rcRead t a) s = .next ((bark s Src.BUS_DECODE t).answer t 1 [0])) ∧
  (∀ (s : State) (t : Fin 8) (a : BitVec 40) (v : Word), s.running = true →
    permits s t a.toNat true = true → s.pwr.mode ≠ .safe → blockUp s (blockOf a.toNat) (a.toNat % 0x10000) = false →
    exec (.registerWrite t a v) s = .next ((refusedTxn s t a.toNat v).answer t 3 []) ∧
    exec (.rcRead t a) s = .next (s.answer t 3 [0])) ∧
  (∀ (s : State) (t : Fin 8) (a : BitVec 40), s.running = true → permits s t a.toNat false = true → s.pwr.mode ≠ .safe →
    blockUp s (blockOf a.toNat) (a.toNat % 0x10000) = false → exec (.rcRead t a) s = .next (s.answer t 3 [0])) ∧
  (∀ (s : State) (t : Fin 8) (a : BitVec 40) (v : Word), s.running = false → s.pwr.mode ≠ .safe → s.fenced fenceHWD = false →
    exec (.registerWrite t a v) s = .next (s.answer t 3 []) ∧ exec (.rcRead t a) s = .next (s.answer t 3 [0])) ∧
  (∀ (s : State) (t a : Nat) (v : Word),
    (s.pwr.mode ≠ .safe ∧ s.fenced fenceHWD = false) ∨ (a ≠ HWD_TXN_CTRL.addr t ∧ a ≠ HWD_JE_GO.addr t) ∨
      (a = HWD_TXN_CTRL.addr t ∧ wordField v 0 2 ≠ 1) ∨ (a = HWD_JE_GO.addr t ∧ nbit v.toNat 0 = false) →
    refusedTxn s t a v = s) ∧
  (∀ (s : State) (t : Fin 8) (v : Word), s.pwr.mode = .safe ∨ s.fenced fenceHWD = true →
    (wordField v 0 2 = 1 → refusedTxn s t (HWD_TXN_CTRL.addr t) v = s.setFld (HWD_TXN_STAT.RESULT t) 8) ∧
    (nbit v.toNat 0 = true → refusedTxn s t (HWD_JE_GO.addr t) v = s.setFld (HWD_TXN_STAT.RESULT t) 8))

/-- O12 (R714, R354, R359, R162). While the node is in SAFE and running, a permitted write of any address of the register
space is answered DENIED (2) and the state is otherwise as before, but for the RESULT (ABORTED) of a tenant's own OPEN
or entry write: nothing is performed and no Bark event is raised. A read of a register outside SYS, PWR, BRK and the
Heartwood status and event registers is answered the same way with data 0; one of those is read as ever. A permitted
write of memory, and a permitted read outside the event log, is judged DENIED without an event. -/
def Obligations.SafeModeWrites : Prop :=
  (∀ (s : State) (t : Fin 8) (a : BitVec 40) (v : Word), s.running = true → s.pwr.mode = .safe →
    blockRows (blockOf a.toNat) = [] ∨ permits s t a.toNat true = true →
    a.toNat ≠ HWD_TXN_CTRL.addr t → a.toNat ≠ HWD_JE_GO.addr t →
    exec (.registerWrite t a v) s = .next (s.answer t 2 [])) ∧
  (∀ (s : State) (t : Fin 8) (v : Word), s.running = true → s.pwr.mode = .safe → permits s t (HWD_TXN_CTRL.addr t) true = true →
    exec (.registerWrite t (BitVec.ofNat 40 (HWD_TXN_CTRL.addr t)) v) s =
      .next ((if wordField v 0 2 = 1 then s.setFld (HWD_TXN_STAT.RESULT t) 8 else s).answer t 2 []) ∧
    exec (.registerWrite t (BitVec.ofNat 40 (HWD_JE_GO.addr t)) v) s =
      .next ((if nbit v.toNat 0 then s.setFld (HWD_TXN_STAT.RESULT t) 8 else s).answer t 2 [])) ∧
  (∀ (s : State) (t : Fin 8) (a : BitVec 40), s.running = true → s.pwr.mode = .safe →
    blockRows (blockOf a.toNat) = [] ∨ permits s t a.toNat false = true → safeReg a.toNat = false →
    exec (.rcRead t a) s = .next (s.answer t 2 [0])) ∧
  (∀ (s : State) (t : Fin 8) (a : BitVec 40) (r : RegRow), s.running = true → s.pwr.mode = .safe → a.toNat % 4 = 0 →
    permits s t a.toNat false = true → safeReg a.toNat = true → blockUp s (blockOf a.toNat) (a.toNat % 0x10000) = true →
    findReg a.toNat = some r →
    exec (.rcRead t a) s =
      .next (readBack (readReg s t a.toNat r).1 t (readReg s t a.toNat r).2.1 (readReg s t a.toNat r).2.2)) ∧
  (∀ (s : State) (r : Row) (t a n : Nat), s.pwr.mode = .safe → memJudge s t true r a n true = (2, false)) ∧
  (∀ (s : State) (r : Row) (t a n : Nat), s.pwr.mode = .safe →
    r ≠ .heartwood ∨ a < 0x10000000 + eventOff ∨ 0x10000000 + journalOff < a + n → memJudge s t true r a n false = (2, false))

/-- O13 (R147, R148, R149, R335, R344). For each port a permitted IADDR write claims it and starts a fetch, a release
frees it, an IDATA read gives the held word (and with AUTOINC fetches the next), or 0 with UNDERRUN where none is
held, and an IDATA write joins the queue of 16 words or sets OVERFLOW; a port that another tenant owns answers REFUSED
(4) and is left as it was. A fetch that completes holds the word it brought, or sets ERR where the target fails: a
Sapling without an answer, a fenced unit, a lost word of CONF; the oldest queued write reaches its target and leaves
the queue; the claim of an owner that makes no access for 100 ms is released. Where nothing is being fetched, queued
or owned, these completions change nothing. -/
def Obligations.IndirectPortsComplete : Prop :=
  (∀ (s : State) (t : Fin 8) (p : Fin 4) (v : Word), Lets s t (indBase p) true → indForeign s p t = false →
    exec (.indirectAddrWrite t p v) s =
      .next (written (indFetch ((indClaim s p t).setWord (indBase p) (v &&& 0x7FFFFFFF)) p) t 0)) ∧
  (∀ (s : State) (t : Fin 8) (p : Fin 4), Lets s t (indBase p) true → indForeign s p t = false →
    exec (.indirectRelease t p) s =
      .next (written (indReleasePort (s.setWord (indBase p) (wordSet (s.word (indBase p)) 24 6 0)) p) t 0)) ∧
  (∀ (s : State) (t : Fin 8) (p : Fin 4), Lets s t (indBase p + 4) false → indForeign s p t = false →
    (s.ind p).held = none →
    exec (.indirectDataRead t p) s = .next (readBack (s.setBit (indUnderrun p) true) t 0 0)) ∧
  (∀ (s : State) (t : Fin 8) (p : Fin 4) (w : Word), Lets s t (indBase p + 4) false → indForeign s p t = false →
    (s.ind p).held = some w →
    exec (.indirectDataRead t p) s =
      .next (readBack (if s.bit (indAuto p) then indFetch (indAdvance s p) p else s) t 0 w)) ∧
  (∀ (s : State) (t : Fin 8) (p : Fin 4) (v : Word), Lets s t (indBase p + 4) true → indForeign s p t = false →
    16 ≤ (s.ind p).wq.length →
    exec (.indirectDataWrite t p v) s = .next (written ((indDrop s p).setBit (indOverflow p) true) t 0)) ∧
  (∀ (s : State) (t : Fin 8) (p : Fin 4) (v : Word) (u : State), Lets s t (indBase p + 4) true → indForeign s p t = false →
    (s.ind p).wq.length < 16 →
    u = indAdvance (((indDrop s p).modInd p fun i => { i with wq := i.wq ++ [(s.fld (indWaddr p), v, t.val)] }).setBit (indBusy p)
      true) p →
    exec (.indirectDataWrite t p v) s = .next (written (if (s.ind p).wq = [] then indNext u p else u) t 0)) ∧
  (∀ (s : State) (t : Fin 8) (p : Fin 4) (v : Word), indForeign s p t = true →
    (Lets s t (indBase p) true → exec (.indirectAddrWrite t p v) s = .next (written s t 4) ∧
      exec (.indirectRelease t p) s = .next (written s t 4)) ∧
    (Lets s t (indBase p + 4) true → exec (.indirectDataWrite t p v) s = .next (written s t 4)) ∧
    (Lets s t (indBase p + 4) false → exec (.indirectDataRead t p) s = .next (readBack s t 4 0))) ∧
  (∀ (s : State) (p : Fin 4) (ans : Option Word) (e : Fin 3), s.running = false ∨ (s.ind p).fetching = false →
    exec (.indirectFetchDone p ans e) s = .next s) ∧
  (∀ (s : State) (ans : Option Word) (e : Fin 3), s.running = true → s.indSap.fetching = true →
    exec (.indirectFetchDone 0 ans e) s = .next (sapAccessOver (indFetched s 0 ans))) ∧
  (∀ (s : State) (ans : Option Word) (e : Fin 3), s.running = true → s.indSched.fetching = true →
    exec (.indirectFetchDone 1 ans e) s = .next (indFetched s 1 (some (schedWord s (s.fld (indWaddr 1)))))) ∧
  (∀ (s : State) (ans : Option Word) (a : Nat), s.running = true → s.indConf.fetching = true → s.up fenceHWD = true →
    a = hwdBase + confOff + 4 * (s.fld (indWaddr 2) % 65536) →
    exec (.indirectFetchDone 2 ans 0) s = .next (indFetched s 2 (some (s.mword a))) ∧
    exec (.indirectFetchDone 2 ans 1) s = .next (indFetched (eccCorrected s a) 2 (some (s.mword a))) ∧
    exec (.indirectFetchDone 2 ans 2) s = .next (indFetched (eccLost s a) 2 none)) ∧
  (∀ (s : State) (ans : Option Word) (e : Fin 3), s.running = true → s.indConf.fetching = true → s.up fenceHWD = false →
    exec (.indirectFetchDone 2 ans e) s = .next (indFetched s 2 none)) ∧
  (∀ (s : State) (ans : Option Word) (e : Fin 3), s.running = true → s.indTbl.fetching = true →
    exec (.indirectFetchDone 3 ans e) s = .next (indFetched s 3 (if s.up fenceDRV then
      some (BitVec.ofNat 32 (tblEntry s (s.fld (indWaddr 3) / 256 % 2) (s.fld (indWaddr 3) % 256))) else none))) ∧
  (∀ (s : State) (p : Fin 4) (w : Word), (s.ind p).fetching = true →
    ((indFetched s p (some w)).ind p).held = some w ∧ (indFetched s p (some w)).bit (indReady p) = true ∧
    ((indFetched s p (some w)).ind p).fetching = false ∧ (indFetched s p (some w)).mem = s.mem ∧
    (indFetched s p none).bit (indErr p) = true ∧ ((indFetched s p none).ind p).held = (s.ind p).held ∧
    ((indFetched s p none).ind p).fetching = false ∧ (indFetched s p none).mem = s.mem) ∧
  (∀ (s : State) (p : Fin 4) (ok : Bool), s.running = false ∨ (s.ind p).wq = [] →
    exec (.indirectQueueWriteDone p ok) s = .next s) ∧
  (∀ (s : State) (ok : Bool) (wa t : Nat) (v : Word) (l : List (Nat × Word × Nat)), s.running = true →
    (s.indSap.wq = (wa, v, t) :: l → exec (.indirectQueueWriteDone 0 ok) s = .next (sapAccessOver (indWritten s 0 ok))) ∧
    (s.indSched.wq = (wa, v, t) :: l →
      exec (.indirectQueueWriteDone 1 ok) s = .next (indWritten (setSched s wa v) 1 true)) ∧
    (s.indConf.wq = (wa, v, t) :: l → exec (.indirectQueueWriteDone 2 ok) s = .next (confPortWrite s)) ∧
    (s.indTbl.wq = (wa, v, t) :: l → exec (.indirectQueueWriteDone 3 ok) s = .next (if s.up fenceDRV then
      indWritten (tblWrite s wa v.toNat).1 3 (tblWrite s wa v.toNat).2 else indWritten s 3 false))) ∧
  (∀ (s : State) (p : Fin 4), exec (.indirectClaimTimeout p) s =
    .next (if s.running = true ∧ s.bit (indOwned p) = true then indReleasePort s p else s))

/-- O14 (R132, R158, R159, R160, R161). While the service port is active and the lands are not cut off, a READ or WRITE
frame performs its words in order as tenant SVC, each word of memory coming back as the command's masks say: after a
word that ends well the next one, at the first that fails the frame ends with that status and 0 for the words from it
on, and a word that waits at the rack bridge leaves the rest in hand. A frame that ends leaves status and words as its
answer and is counted. An invalid frame, and a frame whose address is not aligned, performs nothing, counts in ERR and
raises SVC_PROTO; one that is cut short keeps what it had performed, counts in ABORT and raises SVC_PROTO. With the
lands cut off or the port not active nothing happens. -/
def Obligations.ServicePortComplete : Prop :=
  (∀ (s : State) (fixed : Bool) (a : BitVec 40) (n : Fin 32) (cor lost : BitVec 32), landsCut s = false → svcActive s = true →
    a.toNat % 4 = 0 →
    exec (.svcReadFrame fixed a n cor lost) s =
      .next (svcGo (svcListen s) false [] ((svcAddrs fixed a.toNat (n.val + 1)).map fun a => (a, none)) (eccMasks cor lost))) ∧
  (∀ (cor lost : BitVec 32) (k : Fin 32), (eccMasks cor lost)[k.val]? =
    some (if lost.getLsbD k.val = true then 2 else if cor.getLsbD k.val = true then 1 else 0)) ∧
  (∀ (s : State) (fixed : Bool) (a : BitVec 40) (ws : List Word), landsCut s = false → svcActive s = true →
    a.toNat % 4 = 0 → ws.length ≤ 32 →
    exec (.svcWriteFrame fixed a ws) s =
      .next (svcGo (svcListen s) true [] ((svcAddrs fixed a.toNat ws.length).zip (ws.map some)) [])) ∧
  (∀ (s u : State) (wr : Bool) (data : List Word) (a : Nat) (v : Option Word) (l : List (Nat × Option Word))
    (e : Fin 3) (es : List (Fin 3)) (w : Word), svcWord s a v e.val = (u, .ended 0 w) →
    svcGo s wr data ((a, v) :: l) (e :: es) = svcGo u wr (if wr then data else data ++ [w]) l es) ∧
  (∀ (s u : State) (wr : Bool) (data : List Word) (a st : Nat) (v : Option Word) (l : List (Nat × Option Word))
    (ecc : List (Fin 3)) (w : Word), svcWord s a v (ecc.headD 0).val = (u, .ended st w) → st ≠ 0 →
    svcGo s wr data ((a, v) :: l) ecc = svcFinish u wr data (l.length + 1) st) ∧
  (∀ (s u : State) (wr : Bool) (data : List Word) (a : Nat) (v : Option Word) (l : List (Nat × Option Word))
    (ecc : List (Fin 3)), svcWord s a v (ecc.headD 0).val = (u, .waits) →
    svcGo s wr data ((a, v) :: l) ecc = { u with sys := { u.sys with svc := some { wr := wr, left := l, data := data } } }) ∧
  (∀ (s : State) (wr : Bool) (data : List Word) (ecc : List (Fin 3)), svcGo s wr data [] ecc = svcFinish s wr data 0 0) ∧
  (∀ (s : State) (wr : Bool) (data : List Word) (k st : Nat),
    (svcFinish s wr data k st).rsp =
      { tenant := 6, status := st, data := if wr then [] else data ++ List.replicate k 0 } ∧
    (svcFinish s wr data k st).fld SYS_SVC_CNT.FRAMES = satAdd SYS_SVC_CNT.FRAMES.wid (s.fld SYS_SVC_CNT.FRAMES) 1 ∧
    (svcFinish s wr data k st).sys.svc = none ∧ (svcFinish s wr data k st).mem = s.mem) ∧
  (∀ (s : State) (fixed : Bool) (a : BitVec 40) (ws : List Word) (n : Fin 32) (cor lost : BitVec 32), landsCut s = false →
    svcActive s = true →
    exec .svcInvalidFrame s = .next (bark ((svcListen s).count SYS_SVC_CNT.ERR) Src.SVC_PROTO) ∧
    (a.toNat % 4 ≠ 0 → exec (.svcReadFrame fixed a n cor lost) s = exec .svcInvalidFrame s ∧
      exec (.svcWriteFrame fixed a ws) s = exec .svcInvalidFrame s)) ∧
  (∀ (s : State) (fixed : Bool) (a : BitVec 40) (part : SvcPart) (l : List (Nat × Option Word)) (u v : State), landsCut s = false →
    svcActive s = true → a.toNat % 4 = 0 → s.sys.svc = none →
    l = (match part with
      | .reads n => (svcAddrs fixed a.toNat n.val).map fun a => (a, none)
      | .writes ws => (svcAddrs fixed a.toNat (ws.take 32).length).zip ((ws.take 32).map some)) →
    u = svcPart (svcListen s) l →
    v = { u with sys := { u.sys with carry := u.sys.carry.map fun c => if c.port = 2 then { c with gone := true } else c } } →
    exec (.svcFrameAbort fixed a part) s = .next (bark (v.count SYS_SVC_CNT.ABORT) Src.SVC_PROTO)) ∧
  (∀ (s : State) (fixed : Bool) (a : BitVec 40) (part : SvcPart), landsCut s = false → svcActive s = true → a.toNat % 4 = 0 →
    s.sys.svc.isSome = true → exec (.svcFrameAbort fixed a part) s = .next (svcListen s)) ∧
  (∀ (s : State) (fixed : Bool) (a : BitVec 40) (ws : List Word) (n : Fin 32) (cor lost : BitVec 32) (part : SvcPart),
    landsCut s = true ∨ svcActive s = false →
    exec (.svcReadFrame fixed a n cor lost) s = .next s ∧ exec (.svcWriteFrame fixed a ws) s = .next s ∧
    exec .svcInvalidFrame s = .next s ∧ exec (.svcFrameAbort fixed a part) s = .next s)

/-- O15 (R164, R165, R166). A permitted write to DATA8, DATA16 or DATA32 of engine n shifts the low one, two or four bytes
of the word, lowest first, into the running value as WIDTH, REFIN and POLY say, and changes nothing else: no other
register, no byte of memory. Feeding four bytes at once equals feeding two halves in turn. -/
def Obligations.CheckValueEngines : Prop :=
  (∀ (s : State) (t : Fin 8) (n : Fin 4) (v : Word), Lets s t (CRC_DATA8.addr n) true →
    exec (.crcData8Write t n v) s = .next (written (crcFeed s n 1 v) t 0)) ∧
  (∀ (s : State) (t : Fin 8) (n : Fin 4) (v : Word), Lets s t (CRC_DATA16.addr n) true →
    exec (.crcData16Write t n v) s = .next (written (crcFeed s n 2 v) t 0)) ∧
  (∀ (s : State) (t : Fin 8) (n : Fin 4) (v : Word), Lets s t (CRC_DATA32.addr n) true →
    exec (.crcData32Write t n v) s = .next (written (crcFeed s n 4 v) t 0)) ∧
  (∀ (s : State) (n : Fin 4) (k : Nat) (v : Word) (a : Nat), a ≠ (CRC_VAL.VALUE n).addr →
    (crcFeed s n k v).word a = s.word a) ∧
  (∀ (s : State) (n : Fin 4) (k : Nat) (v : Word), (crcFeed s n k v).mem = s.mem) ∧
  (∀ (s : State) (n : Fin 4) (v : Word), crcFeed (crcFeed s n 2 v) n 2 (v >>> 16) = crcFeed s n 4 v)

/-- O16 (R167, R168, R169, R178, R179, R186, R195, R196, R197, R198, R199, R29). A source that raises its error shows its
pair, and where the pair read no error acts as Bark's reaction to one event of that source; PWR_VIO also tells of the
supply that is out of range; a broken pair acts the same with its PAIR flag. The end of a count window takes the count
to 0 unless the source has escalated. A voted copy that comes to differ is kept, VOTE_OK clears and BRK_VOTE acts.
Permitted writes of BRK_STICKYk, BRK_UNFENCE and BRK_INJ act on their bits: an injection that is refused shows
REFUSED, one into a checker is pending until that checker's next check, a line is forced at once, and nothing is
performed while one is pending. The line forced longest is released to what its pair read before, unless another
injection holds it. -/
def Obligations.BarkCommandsComplete : Prop :=
  (∀ (s : State) (src : Fin 96) (inst : Fin 32) (stays : Bool) (u v : State),
    u = (if src.val = Src.PWR_VIO then vioState s inst stays else s) →
    v = (if pairLive s src then u else bark (countLink (injectionDone u src) src) src inst) →
    exec (.barkSourceEvent src inst stays) s =
      .next (setPair v src (stays || (src.val == Src.PWR_VIO && !(v.pwr.vioGenOk && v.pwr.vioCrbOk))) false)) ∧
  (∀ (s : State) (src : Fin 96) (inst : Fin 32) (stays : Bool),
    exec (.barkPairBroken src inst stays) s = .next (setPair (bark (injectionDone s src) src inst) src stays stays)) ∧
  (∀ (s : State) (src : Fin 96) (live broken : Bool), s.railsOn = true →
    pairLive (setPair s src live broken) src = live ∧
    (setPair s src live broken).bitAt (BRK_PAIR.PAIR (src.val / 32)) (src.val % 32) = broken) ∧
  (∀ (s : State) (src : Fin 96), s.running = true → s.bitAt (BRK_ESC.ESC (src.val / 32)) (src.val % 32) = false →
    s.fld (BRK_SRC_CFG.COUNT src) ≠ 0 →
    ∃ t, exec (.barkWindowExpiry src) s = .next t ∧ t.fld (BRK_SRC_CFG.COUNT src) = 0 ∧
      t.tim.now = s.tim.now + (SMap.get (fun _ => 0) s.brk.closes src.val - s.uptime) ∧ t.brk = s.brk ∧ t.mem = s.mem ∧
      ∀ a : Nat, a ≠ BRK_SRC_CFG.addr src → t.word a = s.word a) ∧
  (∀ (s : State) (src : Fin 96), s.running = false ∨ s.bitAt (BRK_ESC.ESC (src.val / 32)) (src.val % 32) = true ∨
    s.fld (BRK_SRC_CFG.COUNT src) = 0 → exec (.barkWindowExpiry src) s = .next s) ∧
  (∀ (s : State) (copy : Fin 3) (a : BitVec 40) (v : Word), s.running = true → votedReg a.toNat = true →
    v ≠ voteCopy s copy a.toNat →
    ∃ u, exec (.brkVoteMismatch copy a v) s = .next (bark u Src.BRK_VOTE) ∧ u.bit BRK_STATUS.VOTE_OK = false ∧
      u.mem = s.mem ∧ (∀ c : Fin 3, voteCopy u c a.toNat = if c = copy then v else voteCopy s c a.toNat)) ∧
  (∀ (s : State) (copy : Fin 3) (a : BitVec 40) (v : Word), s.running = false ∨ votedReg a.toNat = false ∨
    v = voteCopy s copy a.toNat → exec (.brkVoteMismatch copy a v) s = .next s) ∧
  (∀ (s : State) (t : Fin 8) (k : Fin 3) (v : Word), Lets s t (BRK_STICKY.addr k) true →
    exec (.stickyClear t k v) s = .next (written (writeSticky (s.put (BRK_STICKY.addr k) 0) k v) t 0)) ∧
  (∀ (s : State) (t : Fin 8) (v : Word), Lets s t BRK_UNFENCE.addr true →
    exec (.unfence t v) s = .next (written (payOwed (writeUnfence (s.put BRK_UNFENCE.addr v) v)) t 0)) ∧
  (∀ (s : State) (t : Fin 8) (v : Word), Lets s t BRK_INJ.addr true →
    exec (.faultInject t v) s = .next (written (writeInj s v) t 0)) ∧
  (∀ (s : State) (v : Word) (src mode inst : Nat) (u : State), wordField v 10 1 = 1 → s.fld BRK_INJ.STATUS ≠ 1 →
    src = wordField v 0 7 → mode = wordField v 8 2 → inst = wordField v 14 2 → u = s.setWord BRK_INJ.addr (v &&& 0xFFFFCBFF) →
    (injectRefused u src mode inst = true → (writeInj s v).fld BRK_INJ.STATUS = 3 ∧ (writeInj s v).brk = s.brk) ∧
    (injectRefused u src mode inst = false → mode = 0 ∨ mode = 3 →
      (writeInj s v).fld BRK_INJ.STATUS = 1 ∧ (writeInj s v).brk.inj = some (src, injInst src inst)) ∧
    (injectRefused u src mode inst = false → mode = 1 ∨ mode = 2 →
      writeInj s v = setPair (bark { u.setFld BRK_INJ.STATUS 2 with
        brk := { s.brk with injLine := s.brk.injLine ++ [(src, pairLive (u.setFld BRK_INJ.STATUS 2) src)] } } src (injInst src inst))
        src true true)) ∧
  (∀ (s : State) (v : Word), wordField v 10 1 = 1 → s.fld BRK_INJ.STATUS = 1 → writeInj s v = s) ∧
  (∀ (s : State) (src : Nat) (was : Bool) (l : List (Nat × Bool)), s.brk.injLine = (src, was) :: l →
    exec .injectLineRelease s =
      .next (if l.any (fun p => p.1 == src) then { s with brk := { s.brk with injLine := l } }
        else setPair { s with brk := { s.brk with injLine := l } } src was false)) ∧
  (∀ s : State, s.brk.injLine = [] → exec .injectLineRelease s = .next s)

/-- O17 (R173, R174, R178). While Bark runs and the pair reads no error, an event of a source whose BASE is INFO, which
has not escalated and does not escalate now, within its open window or opening one, sets the sticky bit, counts in the
source's window and in BRK_TOTAL.INFO; no message, interrupt, log entry, fence or mode change follows, and memory is
unchanged. -/
def Obligations.BarkInfoEvents : Prop :=
  ∀ (s : State) (src : Fin 96) (inst : Fin 32), src.val ≠ 0 → s.railsOn = true → s.mot.owed = [] → pairLive s src = false →
    barkBase s src = 0 → s.bitAt (BRK_ESC.ESC (src.val / 32)) (src.val % 32) = false → windowOver s src = false →
    s.fld (BRK_SRC_CFG.COUNT src) + 1 < barkN s src →
    (fenceTargets src inst = [] ∨ floorEvent src inst = true ∨ (fenceTargets src inst).any (fun f => !s.fenced f) = true) →
    stickyBit (bark s src inst) src = true ∧
      (bark s src inst).fld BRK_TOTAL.INFO = satAdd BRK_TOTAL.INFO.wid (s.fld BRK_TOTAL.INFO) 1 ∧
      (bark s src inst).fld (BRK_SRC_CFG.COUNT src) = s.fld (BRK_SRC_CFG.COUNT src) + 1 ∧
      (bark s src inst).word BRK_FENCE.addr = s.word BRK_FENCE.addr ∧ (bark s src inst).pwr = s.pwr ∧
      (bark s src inst).mem = s.mem ∧ (bark s src inst).tks = s.tks ∧ (bark s src inst).hwd = s.hwd

/-- O18 (R209, R213, R217, R218, R220, R221, R224, R225, R227, R230, R231, R223). A watch comparator that crosses while
armed and sensed shows an RMS above THRESH, is recorded, disarmed and sensed as its wake cause, and otherwise nothing
happens; a watch instant in ROOT adds one set to the history. A sample of an active channel goes to the ingest ports
that select it and into its raw ring with its SEQ, CLIP and SETTLE shown; sensor faults set and clear; the bias
monitor reports while the die is up. Levels of a tach input that hold for less than FILT + 1 cycles are ignored;
accepted ones are taken, an edge that counts moves the position by one, its stamp being the time of the change, an
index on _Z acts, and both lines changing at once in QUAD is an error. A stopped input reads period 0; a permitted
write of an input's configuration restarts its counts. -/
def Obligations.AnalogAndTachComplete : Prop :=
  (∀ (s u : State) (c : Fin 8) (k : Fin 2) (th v : Nat), th = s.fld (AFE_WCH_CMP.THRESH (c.val / 4) (c.val % 4) k) →
    s.fresh = (v, u) →
    exec (.watchCmpCross c k) s = .next (if sensing s = true ∧ s.bit (AFE_WCH_CFG.EN (c.val / 4) (c.val % 4)) = true ∧
      nbit s.watch.armed (2 * c.val + k.val) = true ∧ th < 65535 then
        watchCross (u.setFld (watchRmsRef c k) (th + 1 + v % (65535 - th))) c k else s)) ∧
  (∀ (s : State) (c : Fin 8) (k : Fin 2), ∃ u, watchCross s c k = senseCause u (2 * c.val + k.val) ∧
      u.bitAt (AFE_WATCH_STAT.HIT (c.val / 4)) (2 * (c.val % 4) + k.val) = true ∧
      nbit u.watch.armed (2 * c.val + k.val) = false ∧ u.mem = s.mem ∧ u.pwr = s.pwr) ∧
  (∀ (s : State) (data : List (BitVec 24)) (clip sflt : BitVec 8), s.pwr.mode = .root →
    ∃ (u : State) (hits : List (Nat × Nat)), exec (.watchSample data clip sflt) s =
        .next (hits.foldl (fun (s : State) (h : Nat × Nat) => watchCross s h.1 h.2) u) ∧
      u.watch.sets = s.watch.sets + 1 ∧ u.fld (AFE_WATCH_STAT.HPTR 0) = (s.watch.sets + 1) % 3200 * 8 ∧
      u.mem = s.mem ∧ u.pwr = s.pwr) ∧
  (∀ (s : State) (data : List (BitVec 24)) (clip sflt : BitVec 8), s.pwr.mode ≠ .root →
    exec (.watchSample data clip sflt) s = .next s) ∧
  (∀ (s : State) (n : Fin 2) (c : Fin 16) (inst : BitVec 64) (data : BitVec 24) (ovr : Bool) (w : Word), afeActive s n c = true →
    w = nextSampleWord s n c inst.toNat data.toNat ovr →
    ∃ u, exec (.afeSample n c inst data ovr) s =
        .next (rawRingWrite (sampleToPorts u (16 * n.val + c.val) w inst.toNat) (16 * n.val + c.val) w inst.toNat) ∧
      u.fld (AFE_CH_STAT.SETTLE_LEFT n c) = s.fld (AFE_CH_STAT.SETTLE_LEFT n c) - 1 ∧
      u.bit (AFE_CH_STAT.CLIP n c) = ovr ∧ u.fld (AFE_CH_STAT.SEQ n c) = w.toNat % 16 ∧ u.mem = s.mem) ∧
  (∀ (s : State) (n : Fin 2) (c : Fin 16) (inst : BitVec 64) (data : BitVec 24) (ovr : Bool), afeActive s n c = false →
    exec (.afeSample n c inst data ovr) s = .next s) ∧
  (∀ (s : State) (n : Fin 2) (c : Fin 16) (short : Bool) (sf : Nat), sf = s.fld (AFE_CH_STAT.SFLT n c) →
    exec (.sensorFaultOnset n c short) s =
      .next (if iepeOn s n c = true ∧ sf = 0 then
          bark ((s.setFld (AFE_CH_STAT.SFLT n c) (if short then 2 else 1)).setBitAt (AFE_SFLT_STICKY.CH n) c true)
            (Src.AFE0_SFLT + n.val)
        else if iepeOn s n c = true ∧ (sf = 1 ∨ sf = 2) then s.setFld (AFE_CH_STAT.SFLT n c) (if short then 2 else 1)
        else s)) ∧
  (∀ (s : State) (n : Fin 2) (c : Fin 16),
    exec (.sensorFaultClear n c) s =
      .next (if iepeOn s n c = true ∧ (s.fld (AFE_CH_STAT.SFLT n c) = 1 ∨ s.fld (AFE_CH_STAT.SFLT n c) = 2) then
        startSettle (s.setFld (AFE_CH_STAT.SFLT n c) 0) n c (settleIepe (s.word (AFE_CH_CFG.addr n c))) else s)) ∧
  (∀ (s : State) (n : Fin 2) (c : Fin 16) (mv : BitVec 16),
    exec (.biasMonitorUpdate n c mv) s =
      .next (if s.up n = true then s.setFld (AFE_CH_BIAS.MV n c) (if iepeOn s n c then mv.toNat else 0) else s)) ∧
  (∀ (s : State) (i : Fin 8) (a b z : Bool) (stamp : BitVec 64) (held : BitVec 32),
    landsCut s = true ∨ held.toNat < 5 * (s.fld (TCH_CFG.FILT i) + 1) → exec (.tachEdge i a b z stamp held) s = .next s) ∧
  (∀ (s : State) (i : Fin 8) (a b z : Bool) (stamp : BitVec 64) (held : BitVec 32) (u : State), landsCut s = false →
    5 * (s.fld (TCH_CFG.FILT i) + 1) ≤ held.toNat →
    u = modTch (s.advanceTo (stamp.toNat + 5 * (s.fld (TCH_CFG.FILT i) + 1))) i (fun x => { x with a := a, b := b, z := z }) →
    (tachHeard s = false ∨ tchMode s i = 0 → exec (.tachEdge i a b z stamp held) s = .next u) ∧
    (tachHeard s = true → tchMode s i ≠ 0 → tchCounts s i (tchIn s i) a b = none →
      s.bit (TCH_CFG.ZEN i) = false ∨ z = false ∨ (tchIn s i).z = true →
      exec (.tachEdge i a b z stamp held) s = .next (if tchMode s i = 2 ∧ a ≠ (tchIn s i).a ∧ b ≠ (tchIn s i).b then
        u.count (TCH_CNT.QERR i) else u)) ∧
    (∀ back : Bool, tachHeard s = true → tchMode s i ≠ 0 → tchCounts s i (tchIn s i) a b = some back →
      s.bit (TCH_CFG.ZEN i) = false ∨ z = false ∨ (tchIn s i).z = true →
      exec (.tachEdge i a b z stamp held) s =
        .next (tchEdgeEvent u i stamp.toNat back (if tchMode s i = 1 then !a else a == (tchIn s i).a))) ∧
    (tachHeard s = true → tchMode s i ≠ 0 → tchCounts s i (tchIn s i) a b = none → s.bit (TCH_CFG.ZEN i) = true → z = true →
      (tchIn s i).z = false →
      exec (.tachEdge i a b z stamp held) s =
        .next (tchZEvent (if tchMode s i = 2 ∧ a ≠ (tchIn s i).a ∧ b ≠ (tchIn s i).b then u.count (TCH_CNT.QERR i) else u) i
          stamp.toNat)) ∧
    (∀ back : Bool, tachHeard s = true → tchMode s i ≠ 0 → tchCounts s i (tchIn s i) a b = some back →
      s.bit (TCH_CFG.ZEN i) = true → z = true → (tchIn s i).z = false →
      exec (.tachEdge i a b z stamp held) s = .next (tchZEvent
        (tchEdgeEvent u i stamp.toNat back (if tchMode s i = 1 then !a else a == (tchIn s i).a)) i stamp.toNat))) ∧
  (∀ (s : State) (i : Fin 8) (z b : Bool) (stamp : BitVec 64) (held : BitVec 32), landsCut s = false → tachHeard s = true →
    5 * (s.fld (TCH_CFG.FILT i) + 1) ≤ held.toNat →
    s.tch.length = 8 → tchMode s i = 1 → s.fld (TCH_CFG.EDGE i) = 0 → s.bit (TCH_CFG.ZEN i) = false →
    s.fld (TCH_CFG.SEL i) = 1 → (tchIn s i).a = false → (tchIn s i).cnt < s.fld (TCH_DIV.COUNTS i) →
    s.bitAt TCH_STATUS.STOPPED i = false →
    ∃ t, exec (.tachEdge i true b z stamp held) s = .next t ∧
      t.fld (TCH_POS.POS i) = ofSigned 32 (s.sfld (TCH_POS.POS i) + 1) ∧
      t.wide (TCH_LAST_LO.addr i) = stamp.toNat ∧ t.bitAt TCH_STATUS.DIRREV i = false ∧
      (tchIn t i).cnt = (tchIn s i).cnt + 1 ∧ (tchIn t i).a = true ∧ t.mem = s.mem) ∧
  (∀ (s : State) (i : Fin 8), exec (.tachStopped i) s = .next (if tachHeard s = true ∧ tchMode s i ≠ 0 then
      ((s.runTo ((tchIn s i).edgeAt + Nat.max 1 (s.fld (TCH_TIMEOUT.MS i)) * 1000000)).setBitAt TCH_STATUS.STOPPED i true).setFld (TCH_PERIOD.PERIOD i) 0 else s)) ∧
  (∀ (s : State) (t : Fin 8) (i : Fin 8) (v : Word), Lets s t (TCH_CFG.addr i) true →
    exec (.tachCfgWrite t i false v) s =
      .next (written (tachCfgWritten (s.put (TCH_CFG.addr i) v) i (s.word (TCH_CFG.addr i)) (s.word (TCH_DIV.addr i))) t 0)) ∧
  (∀ (s : State) (t : Fin 8) (i : Fin 8) (v : Word), Lets s t (TCH_DIV.addr i) true →
    exec (.tachCfgWrite t i true v) s =
      .next (written (tachCfgWritten (s.put (TCH_DIV.addr i) v) i (s.word (TCH_CFG.addr i)) (s.word (TCH_DIV.addr i))) t 0))

/-- O19 (R240, R241, R242, R243, R244, R238, R237). The oldest sample on its way to an open port enters it alone where the
port owes nothing, with a TIME pair and IVL before it where it follows a start or carries MARK, and with GAP on the
first word where samples were lost: GAP_CNT counts where its SEQ does not follow. Words without room are dropped and
counted in DROP.ING, and the next word passed carries GAP. The oldest stamp of an input leaves for the boughs in order
unless a reader is full; an index stamp enters the reference path, which holds two. A parity failure on entry counts
in DROP.LANE and raises the bough's parity source; the next word for that context is lost, and the one after it
carries GAP. Where nothing can move, nothing happens. -/
def Obligations.IngestComplete : Prop :=
  (∀ (s : State) (b : Fin 4) (p : Fin 16) (n : Fin 2) (c : Fin 16),
    (∀ (x : Nat × Word × Nat) (rest : List (Nat × Word × Nat)), (ingOf s b p).inq = x :: rest →
      x.1 ≠ 16 * n.val + c.val ∨ portOpen s b p = false) → exec (.ingestSample b p n c) s = .next s) ∧
  (∀ (s : State) (b : Fin 4) (p : Fin 16) (n : Fin 2) (c : Fin 16) (w : Word) (inst : Nat) (rest : List (Nat × Word × Nat))
    (g : IngPort) (ws : List SWord),
    portOpen s b p = true → (ingOf s b p).inq = (16 * n.val + c.val, w, inst) :: rest →
    g = { ingOf s b p with lastSeq := some (w.toNat % 16), inq := rest } →
    ((ingOf s b p).lastSeq = none ∨ (ingOf s b p).lastSeq = some ((w.toNat + 15) % 16) →
      ws = sampleWords s (16 * n.val + c.val) w inst (ingOf s b p).needTime (ingOf s b p).gapNext →
      exec (.ingestSample b p n c) s = .next (canopySettle (enterPort s b p g ws)))) ∧
  (∀ (s : State) (b : Fin 4) (p : Fin 16) (n : Fin 2) (c : Fin 16) (w : Word) (inst : Nat) (rest : List (Nat × Word × Nat)) (l : Nat)
    (g : IngPort) (u : State) (ws : List SWord), portOpen s b p = true →
    (ingOf s b p).inq = (16 * n.val + c.val, w, inst) :: rest → (ingOf s b p).lastSeq = some l →
    l = 16 ∨ (l < 16 ∧ l ≠ (w.toNat + 15) % 16) → g = { ingOf s b p with lastSeq := some (w.toNat % 16), inq := rest } →
    u = s.count (CNP_GAP_CNT.COUNT b) → ws = sampleWords u (16 * n.val + c.val) w inst (ingOf s b p).needTime true →
    exec (.ingestSample b p n c) s = .next (canopySettle (enterPort u b p g ws))) ∧
  (∀ (s : State) (ch : Nat) (w : Word) (inst : Nat) (x : SWord),
    x = { w := w, settle := w.getLsbD 7, mark := w.getLsbD 4, src := ch } →
    sampleWords s ch w inst false false = (if x.mark = true then timePair inst ch ++ [ctrlWord 2 (sampleInterval s ch) ch, x] else [x]) ∧
    sampleWords s ch w inst true false = timePair inst ch ++ [ctrlWord 2 (sampleInterval s ch) ch, x] ∧
    ∀ timed : Bool, sampleWords s ch w inst timed true = [{ ctrlWord 0 inst ch with gap := true },
      { ctrlWord 1 (inst / 2 ^ 32) ch with gap := false }, { ctrlWord 2 (sampleInterval s ch) ch with gap := false },
      { x with gap := false }]) ∧
  (∀ (s : State) (b : Fin 4) (p : Fin 16) (g : IngPort) (ws : List SWord), g.q.length + ws.length ≤ 512 →
    enterPort s b p g ws = setIng s b p { g with q := g.q ++ ws, needTime := false, gapNext := false }) ∧
  (∀ (s : State) (b : Fin 4) (p : Fin 16) (g : IngPort) (ws : List SWord), 512 < g.q.length + ws.length → g.q.length ≤ 512 →
    enterPort s b p g ws = setIng (s.count (CNP_DROP.ING b) (g.q.length + ws.length - 512)) b p
      { g with q := g.q ++ ws.take (512 - g.q.length), needTime := true, gapNext := true }) ∧
  (∀ (s : State) (i : Fin 8), (tchIn s i).queue = [] ∨ s.up fenceTCH = false ∨ stampStalled s i = true →
    exec (.stampIngest i) s = .next s) ∧
  (∀ (s : State) (i : Fin 8) (x : Stamp) (rest : List Stamp), (tchIn s i).queue = x :: rest → s.up fenceTCH = true →
    stampStalled s i = false →
    exec (.stampIngest i) s =
      .next (canopySettle ((List.range 4).foldl (fun s b => stampToBough s b i x)
        { s with tch := modAt s.tch i fun y => { y with queue := rest } }))) ∧
  (∀ (s : State) (b : Fin 4) (i : Fin 8) (x : Stamp), s.up (3 + b) = true →
    refOf (stampToBough s b i x) b i =
      if nbit x.info.toNat 1 then { stamps := ((x.t, x.rev) :: (refOf s b i).stamps).take 2 } else refOf s b i) ∧
  (∀ (s : State) (b : Fin 4) (t : Fin 16) (k : Fin 32),
    exec (.laneParityDrop b t k) s =
      .next (if s.up (3 + b) = true then bark (setCtx (s.count (CNP_DROP.LANE b)) (ctxKey b t k)
        { ctxOf s (ctxKey b t k) with hit := (ctxOf s (ctxKey b t k)).hit + 1 }) (45 + b) else s)) ∧
  (∀ (s : State) (key : Nat) (w : SWord),
    (0 < (ctxOf s key).hit →
      deliver s key w = setCtx s key { ctxOf s key with hit := (ctxOf s key).hit - 1, gapNext := true }) ∧
    ((ctxOf s key).hit = 0 →
      deliver s key w = setCtx s key { ctxOf s key with
        q := (ctxOf s key).q ++ [{ w with gap := w.gap || (ctxOf s key).gapNext }], gapNext := false }))

/-- O20 (R247, R249, R253, R254, R258, R260, R237, R236). A FILT or ENV context whose tile is free takes its oldest word
and emits what the tile gives for it; a word of a type the tile does not accept is dropped and counted; a word that
says a gap sets STAT.GAP and clears the context's state. The RSMP tile takes its next reference event, or on a timeout
abandons the revolution with GAPN on each context; a complete FFT frame joins its tile's transform queue; the
transform at the head leaves as its set; an ended STAT block leaves as its set. A stalled tile keeps its word, and
where there is none, nothing happens. -/
def Obligations.TilesComplete : Prop :=
  (∀ (s : State) (b : Fin 4) (t : Fin 16) (k : Fin 8), (ctxOf s (ctxKey b t k)).q = [] ∨ tileFree s b t = false →
    exec (.filtInput b t k) s = .next s ∧ exec (.envInput b t k) s = .next s) ∧
  (∀ (s : State) (b : Fin 4) (t : Fin 16) (k : Fin 8), (tileTypeOf t ≠ 0 → exec (.filtInput b t k) s = .next s) ∧
    (tileTypeOf t ≠ 2 → exec (.envInput b t k) s = .next s)) ∧
  (∀ (s : State) (b : Fin 4) (t : Fin 16) (k : Fin 8) (w : SWord) (rest : List SWord) (ws : List SWord) (u : State),
    (ctxOf s (ctxKey b t k)).q = w :: rest → tileFree s b t = true → tileAccepts t w.ty = true →
    filtTake (if w.isGap then (setCtx s (ctxKey b t k) { ctxOf s (ctxKey b t k) with q := rest }).setBit (CNP_T_STAT.GAP b t) true
      else setCtx s (ctxKey b t k) { ctxOf s (ctxKey b t k) with q := rest }) b t k w = (ws, u) →
    (tileTypeOf t = 0 → exec (.filtInput b t k) s = .next (emit u b t ws)) ∧
    (tileTypeOf t = 2 → exec (.envInput b t k) s = .next (emit u b t ws))) ∧
  (∀ (s : State) (b : Fin 4) (t : Fin 16) (k : Fin 8) (w : SWord) (rest : List SWord) (u : State),
    (ctxOf s (ctxKey b t k)).q = w :: rest → tileFree s b t = true → tileAccepts t w.ty = false →
    u = ((setCtx s (ctxKey b t k) { ctxOf s (ctxKey b t k) with q := rest }).setBit (CNP_T_STAT.TYPEERR b t) true).count
      (CNP_T_CNT.DROP b t) →
    (tileTypeOf t = 0 → exec (.filtInput b t k) s = .next (emit u b t [])) ∧
    (tileTypeOf t = 2 → exec (.envInput b t k) s = .next (emit u b t []))) ∧
  (∀ (s : State) (b : Fin 4), exec (.rsmpRefEvent b) s =
    .next (if tileFree s b 10 = true then emit (rsmpEvent s b).2 b 10 (rsmpEvent s b).1 else s)) ∧
  (∀ (s : State) (b : Fin 4), exec (.rsmpRefTimeout b) s =
    .next (if s.up (3 + b) = true ∧ (rsmpOf s b).evs ≠ [] then emit (rsmpAbandon s b).2 b 10 (rsmpAbandon s b).1 else s)) ∧
  (∀ (s : State) (b : Fin 4), (rsmpAbandon s b).1 = (ctxsOf s b 10).map fun k => gapNotice (srcOf s (ctxKey b 10 k))) ∧
  (∀ (s : State) (b : Fin 4) (t : Fin 16) (k : Fin 4), (ctxOf s (ctxKey b t k)).done = [] ∨ s.up (3 + b) = false →
    exec (.fftFrameComplete b t k) s = .next s) ∧
  (∀ (s : State) (b : Fin 4) (t : Fin 16) (k : Fin 4) (f : Blk) (rest : List Blk) (l : List (Nat × Blk)) (u v : State),
    (ctxOf s (ctxKey b t k)).done = f :: rest → s.up (3 + b) = true →
    u = setCtx s (ctxKey b t k) { ctxOf s (ctxKey b t k) with done := rest } →
    l = SMap.get (fun _ => []) s.cnp.ffq (16 * b + t) ++ [(k.val, f)] →
    v = u.modCnp (fun x => { x with ffq := SMap.set (fun _ => []) x.ffq (16 * b + t) l }) →
    exec (.fftFrameComplete b t k) s = .next (canopySettle v)) ∧
  (∀ (s : State) (b : Fin 4) (t : Fin 16), SMap.get (fun _ => []) s.cnp.ffq (16 * b + t) = [] ∨ tileFree s b t = false →
    exec (.fftTransformDone b t) s = .next s) ∧
  (∀ (s : State) (b : Fin 4) (t : Fin 16) (k : Nat) (f : Blk) (rest : List (Nat × Blk)) (u : State),
    SMap.get (fun _ => []) s.cnp.ffq (16 * b + t) = (k, f) :: rest → tileFree s b t = true →
    u = s.modCnp (fun x => { x with ffq := SMap.set (fun _ => []) x.ffq (16 * b + t) rest }) →
    exec (.fftTransformDone b t) s = .next (emit (fftTransform u b t k f).2 b t (fftTransform u b t k f).1)) ∧
  (∀ (s : State) (b : Fin 4) (t : Fin 16) (k : Fin 16), (ctxOf s (ctxKey b t k)).done = [] ∨ tileFree s b t = false →
    exec (.statBlockEnd b t k) s = .next s) ∧
  (∀ (s : State) (b : Fin 4) (t : Fin 16) (k : Fin 16) (f : Blk) (rest : List Blk) (u : State),
    (ctxOf s (ctxKey b t k)).done = f :: rest → tileFree s b t = true →
    u = setCtx s (ctxKey b t k) { ctxOf s (ctxKey b t k) with done := rest } →
    exec (.statBlockEnd b t k) s = .next (emit (statSet u b t k f).2 b t (statSet u b t k f).1)) ∧
  (∀ (s : State) (b t : Nat) (c : Ctx), (filtGap s b t c).hist = [] ∧ (filtGap s b t c).bqs = [] ∧
    (filtGap s b t c).hold = holdOf s b t ∧ (filtGap s b t c).outGap = true)

/-- O21 (R261, R262, R263, R264, R265, R268, R302). An invalid value leaves its point's levels as they are; a valid one
updates the two levels and settles the point's state; a permitted write of AACK releases the latched points named; a
PACK context hands its oldest closed record to the record engine; where no value or record waits or the bough is
fenced, nothing happens. An alarm event is dropped and counted when 64 of its bough wait, and else goes to the record
engine with the next sequence number. -/
def Obligations.AlarmsAndPackComplete : Prop :=
  (∀ (s : State) (b : Fin 4) (k : Fin 32), (pointOf s (32 * b + k)).q = [] ∨ s.up (3 + b) = false →
    exec (.alarmValue b k) s = .next s) ∧
  (∀ (s : State) (b : Fin 4) (k : Fin 32) (v : AlrmVal) (rest : List AlrmVal),
    (pointOf s (32 * b + k)).q = v :: rest → s.up (3 + b) = true → v.valid = false →
    exec (.alarmValue b k) s = .next (canopySettle (setPoint s (32 * b + k) { pointOf s (32 * b + k) with q := rest }))) ∧
  (∀ (s : State) (b : Fin 4) (k : Fin 32) (v : AlrmVal) (rest : List AlrmVal) (p : Point)
    (w0 w1 : Word) (x : Rat) (al da : Bool) (na nd : Nat),
    (pointOf s (32 * b + k)).q = v :: rest → s.up (3 + b) = true → v.valid = true → p = pointOf s (32 * b + k) →
    w0 = pointWord s b k 0 → w1 = pointWord s b k 1 →
    x = (if w0.getLsbD 7 then ratAbs ((f32Val v.v).getD 0) else (f32Val v.v).getD 0) →
    judgeLevel (w0.getLsbD 6) (wordField w1 0 8) (wordField w1 8 8) (wordField w1 16 8) x (f32Val (pointWord s b k 2)) p.alert
      p.nAlert = (al, na) →
    judgeLevel (w0.getLsbD 6) (wordField w1 0 8) (wordField w1 8 8) (wordField w1 16 8) x (f32Val (pointWord s b k 3)) p.danger
      p.nDanger = (da, nd) →
    ∃ q : Point, exec (.alarmValue b k) s =
        .next (canopySettle (settlePoint (setPoint s (32 * b + k) q) b k q (da != p.danger))) ∧
      q.alert = al ∧ q.danger = da ∧ q.nAlert = na ∧ q.nDanger = nd ∧ q.q = rest ∧ q.lastV = v.v ∧ q.lastT = v.t ∧
      q.lastClip = v.clip ∧ q.lastSflt = v.sflt) ∧
  (∀ (s : State) (t : Fin 8) (b : Fin 4) (v : Word), Lets s t (CNP_T_AACK.addr b 14) true →
    exec (.alarmAck t b v) s = .next (written (writeAack s b v) t 0)) ∧
  (∀ (s : State) (b : Fin 4) (k : Fin 16), (ctxOf s (ctxKey b 15 k)).done = [] ∨ s.up (3 + b) = false →
    exec (.packRecordClose b k) s = .next s) ∧
  (∀ (s : State) (b : Fin 4) (k : Fin 16) (f : Blk) (rest : List Blk) (r : Rec) (u : State),
    (ctxOf s (ctxKey b 15 k)).done = f :: rest → s.up (3 + b) = true →
    packRecord (setCtx s (ctxKey b 15 k) { ctxOf s (ctxKey b 15 k) with done := rest }) b k f = (r, u) →
    exec (.packRecordClose b k) s = .next (canopySettle (offerRecord u (.pack (16 * b + k)) r))) ∧
  (∀ (s : State) (b : Fin 4) (k : Fin 32) (old : Nat) (v thr : Word) (t : Nat), 64 ≤ alarmsWaiting s b →
    ∃ u : State, alarmEvent s b k old 0 v thr t = u.count (CNP_T_CNT.EVT b 14) ∧ u.eng.offered = s.eng.offered ∧ u.regs = s.regs) ∧
  (∀ (s : State) (b : Fin 4) (k : Fin 32) (old : Nat) (v thr : Word) (t : Nat), alarmsWaiting s b < 64 →
    ∃ r, (alarmEvent s b k old 0 v thr t).eng.offered = s.eng.offered ++ [(.alarm (32 * b + k), r)] ∧ r.ty = 0xE0 ∧
      r.source = 0xE000 + (32 * b.val + k.val) ∧ r.time = t ∧ r.payload.length = 4 ∧
      r.seq = SMap.get (fun _ => 0) s.eng.seqs (64 + (32 * b.val + k.val)))

/-- O22 (R283, R284, R289, R291, R292, R293, R294, R295, R290). A permitted write of SEC_IMG_CTRL with GO starts the
operation its OP names: without the tenant's permission RESULT is DENIED, while one runs BUSY, on an image misaligned
or outside the capture store FORMAT, on the slot booted from ACTIVE, for a graft outside a running mode or on a fenced
bough REFUSED; ARB_RAISE acts at once; any other is in hand with BUSY and RESULT 0. A verification that passes ends
VERIFY with OK and lets an install or a graft go on; one that fails ends it with its RESULT. The end of an install
commits the slot's descriptor; the end of a graft puts the section into force; an image that cannot be read ends each
with READ_ERR. An end that finds nothing of its kind in hand, or Heartwood not taking commits, does nothing. -/
def Obligations.ImageOperationsComplete : Prop :=
  (∀ (s : State) (t : Fin 8), Lets s t SEC_IMG_CTRL.addr true →
    exec (.imageVerify t) s = .next (written (startImgOp (s.put SEC_IMG_CTRL.addr 0x80000001) t 1 0 0) t 0) ∧
    exec (.imageInstallA t) s = .next (written (startImgOp (s.put SEC_IMG_CTRL.addr 0x80000002) t 2 0 0) t 0) ∧
    exec (.imageInstallB t) s = .next (written (startImgOp (s.put SEC_IMG_CTRL.addr 0x80000003) t 3 0 0) t 0)) ∧
  (∀ (s : State) (t : Fin 8) (b : Fin 4), Lets s t SEC_IMG_CTRL.addr true →
    exec (.imageGraft t b) s =
      .next (written (startImgOp (s.put SEC_IMG_CTRL.addr (wordSet 0x80000004 4 2 b)) t 4 b 0) t 0)) ∧
  (∀ (s : State) (t k : Fin 8), Lets s t SEC_IMG_CTRL.addr true →
    exec (.arbRaise t k) s =
      .next (written (startImgOp (s.put SEC_IMG_CTRL.addr (wordSet 0x80000005 8 3 k)) t 5 0 k) t 0)) ∧
  (∀ (s : State) (t : Fin 8) (op b k : Nat), 1 ≤ op → op ≤ 5 →
    (imgPermitted s t op = false → startImgOp s t op b k = s.setFld SEC_IMG_STAT.RESULT resDENIED) ∧
    (imgPermitted s t op = true → s.img.op.isSome = true → startImgOp s t op b k = s.setFld SEC_IMG_STAT.RESULT resBUSY) ∧
    (imgPermitted s t op = true → s.img.op = none →
      s.fld SEC_IMG_ADDR.VALUE % 8 ≠ 0 ∨ 0x4000000 < s.fld SEC_IMG_ADDR.VALUE + s.fld SEC_IMG_LEN.VALUE →
      startImgOp s t op b k = s.setFld SEC_IMG_STAT.RESULT resFORMAT)) ∧
  (∀ (s : State) (t : Fin 8) (op b k : Nat) (u : State), imgPermitted s t op = true → s.img.op = none →
    s.fld SEC_IMG_ADDR.VALUE % 8 = 0 → s.fld SEC_IMG_ADDR.VALUE + s.fld SEC_IMG_LEN.VALUE ≤ 0x4000000 →
    u = ((s.setFld SEC_IMG_STAT.TENANT t).setFld SEC_IMG_STAT.SECT 0).setFld SEC_IMG_STAT.RESULT 0 →
    ((op = 2 ∧ s.img.booted = some 0) ∨ (op = 3 ∧ s.img.booted = some 1) →
      startImgOp s t op b k = u.setFld SEC_IMG_STAT.RESULT resACTIVE) ∧
    (op = 4 → graftMode u = false ∨ u.fenced (3 + b) = true →
      startImgOp s t op b k = u.setFld SEC_IMG_STAT.RESULT resREFUSED) ∧
    (op = 1 ∨ (op = 2 ∧ s.img.booted ≠ some 0) ∨ (op = 3 ∧ s.img.booted ≠ some 1) ∨
        (op = 4 ∧ graftMode u = true ∧ u.fenced (3 + b) = false) →
      startImgOp s t op b k = (u.setBit SEC_IMG_STAT.BUSY true).modImg fun i =>
        { i with op := some ⟨op, 0, b, s.fld SEC_IMG_ADDR.VALUE, s.fld SEC_IMG_LEN.VALUE⟩ }) ∧
    (op = 5 → startImgOp s t op b k =
      logOther ((arbRaise ((s.setFld SEC_IMG_STAT.TENANT t).setFld SEC_IMG_STAT.SECT 0) k).setFld SEC_IMG_STAT.RESULT resOK) 4
        (5 + 256 * resOK))) ∧
  (∀ (s : State) (readErr : Bool), s.img.op = none → exec (.imageVerifyDone readErr) s = .next s ∧
    exec (.imageInstallDone readErr) s = .next s ∧ exec (.graftEnd readErr) s = .next s) ∧
  (∀ (s : State) (readErr : Bool) (o : ImgOp), s.img.op = some o →
    (s.running = false ∨ o.step ≠ 0 ∨ ((o.op = 2 ∨ o.op = 3) ∧ hwdTakes s = false) → exec (.imageVerifyDone readErr) s = .next s) ∧
    (s.running = false ∨ o.step ≠ 1 ∨ hwdTakes s = false → exec (.imageInstallDone readErr) s = .next s) ∧
    (s.running = false ∨ o.step ≠ 2 → exec (.graftEnd readErr) s = .next s)) ∧
  (∀ (s : State) (o : ImgOp) (res sect : Nat), s.running = true → s.img.op = some o → o.step = 0 →
    (o.op ≠ 2 ∧ o.op ≠ 3) ∨ hwdTakes s = true → verifyImage s (stagedImage s o) o.len (kindsFor o.op) = (res, sect) →
    exec (.imageVerifyDone false) s =
      .next (if res = resOK then verifiedNext s o (stagedImage s o) else verifyBark (endImgOp s res sect) res)) ∧
  (∀ (s : State) (o : ImgOp), s.running = true → s.img.op = some o → o.step = 0 → (o.op ≠ 2 ∧ o.op ≠ 3) ∨ hwdTakes s = true →
    exec (.imageVerifyDone true) s = .next (bark (endImgOp s resREADERR 0) Src.CAP_UNC)) ∧
  (∀ (s : State) (o : ImgOp), s.running = true → s.img.op = some o → o.step = 1 → hwdTakes s = true →
    exec (.imageInstallDone false) s =
      .next (endImgOp (installFinish s (if o.op = 2 then 0 else 1) (stagedImage s o)) resOK 0) ∧
    exec (.imageInstallDone true) s = .next (bark (endImgOp s resREADERR 0) Src.CAP_UNC)) ∧
  (∀ (s : State) (o : ImgOp), s.running = true → s.img.op = some o → o.step = 2 →
    exec (.graftEnd false) s = .next (endImgOp (graftFinish s o.bough (stagedImage s o)) resOK 0) ∧
    exec (.graftEnd true) s = .next (bark (graftLost s o.bough resREADERR) Src.CAP_UNC)) ∧
  (∀ (s : State) (o : ImgOp), o.op = 1 → verifiedNext s o #[] = endImgOp s resOK 0)

/-- O23 (R303, R308, R310, R301, R314, R315, R322, R325, R323, R328, R329, R330). Permitted writes of BUF_PART, BUF_CMD,
REC_POST (LOCAL only), a subscription's RDPTR and REC_CAP_TRIG act as their units do; a refused free raises its
source; the engine takes the record offered first, refuses it when it takes none, or drops a PACK record of a reserved
type; it copies the record in hand for its next subscription, or abandons the copy on an uncorrectable error; a push
record leaves as posted writes, or is dropped for an error, an unbound tenant (ERR) or a full ring (FULL), and one
whose last write has left gives its buffers back; a pull record is described in its ring; a capture part leaves when
its samples are in the ring, and a capture that must end early leaves SHORT and GAP. Where there is nothing to do,
nothing happens. -/
def Obligations.RecordsAndBuffersComplete : Prop :=
  (∀ (s : State) (t : Fin 8) (v : Word), Lets s t BUF_PART.addr true →
    exec (.partitionApply t v) s =
      .next (written (if v.getLsbD 0 then partitionApply (s.put BUF_PART.addr v) s.img.op.isSome else s.put BUF_PART.addr v) t 0)) ∧
  (∀ (s : State) (t : Fin 8) (n : Fin 512), Lets s t BUF_CMD.addr true →
    exec (.bufAlloc t n) s = .next (written (bufAllocate (s.put BUF_CMD.addr (wordSet 1 3 9 n)) t (n + 1)).2 t 0)) ∧
  (∀ (s : State) (t : Fin 8) (b : Fin 16384) (st : Nat) (u : State), Lets s t BUF_CMD.addr true →
    bufRelease (s.put BUF_CMD.addr (wordSet 2 16 14 b)) t b false = (st, u) →
    exec (.bufFree t b) s = .next (written (if st = 2 then bark u Src.BUF_FOREIGN_FREE t
      else if st = 3 then bark u Src.BUF_DOUBLE_FREE t else u) t 0)) ∧
  (∀ (s : State) (t : Fin 8) (b : Fin 16384) (st : Nat) (u : State), Lets s t BUF_CMD.addr true →
    bufRelease (s.put BUF_CMD.addr (wordSet 3 16 14 b)) t b true = (st, u) →
    exec (.bufFreeChain t b) s = .next (written (if st = 2 then bark u Src.BUF_FOREIGN_FREE t
      else if st = 3 then bark u Src.BUF_DOUBLE_FREE t else u) t 0)) ∧
  (∀ (s : State) (v : Word), Lets s 7 REC_POST.addr true →
    exec (.recPost 7 v) s = .next (written (postRecord (s.put REC_POST.addr v) 7 (wordField v 0 14)) 7 0)) ∧
  (∀ (s : State) (t : Fin 8) (v : Word), Lets s t REC_POST.addr true → t ≠ 7 → exec (.recPost t v) s = .next (written s t 4)) ∧
  (∀ s : State, s.eng.offered = [] → exec .recordAccept s = .next s) ∧
  (∀ (s : State) (p : Producer) (r : Rec) (rest : List (Producer × Rec)) (u : State), s.eng.offered = (p, r) :: rest →
    u = s.modEng (fun e => { e with offered := rest }) → (∀ g : Nat, p ≠ .pack g) ∨ r.reservedType = false →
    exec .recordAccept s = .next (if engineRefuses u then refuseRecord u p else queueRecord u p r)) ∧
  (∀ (s : State) (g : Nat) (r : Rec) (rest : List (Producer × Rec)), s.eng.offered = (.pack g, r) :: rest → r.reservedType = true →
    exec .recordAccept s = .next ((s.modEng fun e => { e with offered := rest }).count REC_CNT2.RSV)) ∧
  (∀ (s : State) (bad : Bool), s.up fenceREC = false → exec (.recordCopy bad) s = .next s) ∧
  (∀ s : State, s.up fenceREC = true → exec (.recordCopy false) s = .next (copyNext s false)) ∧
  (∀ (s : State) (p : Producer) (r : Rec) (i : Nat) (subs : List Nat) (rest : List (Producer × Rec × List Nat)),
    s.up fenceREC = true → s.eng.inq = (p, r, i :: subs) :: rest →
    exec (.recordCopy true) s = .next (bark (copyNext s true) Src.CAP_UNC)) ∧
  (∀ (s : State) (bad : Bool), s.up fenceREC = true → s.eng.inq = [] → exec (.recordCopy bad) s = .next s) ∧
  (∀ (s : State) (sub : Fin 256) (bad : Bool), s.up fenceREC = false ∨
    s.eng.dlv.any (fun d => d.sub == sub.val && d.sent) = true ∨ s.bit (REC_SUB_CTL.METHOD sub) = true ∨ nextDelivery s sub = none →
    exec (.pushWrite sub bad) s = .next s) ∧
  (∀ (s : State) (sub : Fin 256) (d : Delivery) (u v : State), s.up fenceREC = true →
    s.eng.dlv.any (fun d => d.sub == sub.val && d.sent) = false → s.bit (REC_SUB_CTL.METHOD sub) = false →
    nextDelivery s sub = some d → u = setBufOwn (dropDelivery s d) d.chain 15 →
    v = s.modEng (fun e => { e with dlv := e.dlv.map fun k => if k = d then { k with sent := true } else k }) →
    exec (.pushWrite sub true) s = .next (bark (u.count (REC_SUB_CNT.ERR sub)) Src.CAP_UNC) ∧
    (bound s d.tenant = false → exec (.pushWrite sub false) s = .next (u.count (REC_SUB_CNT.ERR sub))) ∧
    (bound s d.tenant = true → pushWrites s sub d = none → exec (.pushWrite sub false) s = .next (u.count (REC_SUB_CNT.FULL sub))) ∧
    (∀ (ws : List (Nat × List Byte)) (w : Nat), bound s d.tenant = true → pushWrites s sub d = some (ws, w) →
      exec (.pushWrite sub false) s =
        .next (ws.zipIdx.foldl (fun (s' : State) (q : (Nat × List Byte) × Nat) =>
          toHost s' d.tenant (postedWrite (Nat.min 5 (v.fld (REC_SUB_CTL.CLASS sub))) (v.fld (REC_SUB_CTL.OID sub)) q.1.1 q.1.2)
            (.push sub (if q.2 + 1 = ws.length then some w else none))) v))) ∧
  (∀ (s : State) (sub : Fin 256) (d : Delivery), s.eng.dlv.find? (fun d => d.sub == sub.val && d.left) = some d →
    exec (.pushBuffersFree sub) s = .next (setBufOwn (dropDelivery s d) d.chain 15)) ∧
  (∀ (s : State) (sub : Fin 256), s.eng.dlv.find? (fun d => d.sub == sub.val && d.left) = none →
    exec (.pushBuffersFree sub) s = .next s) ∧
  (∀ (s : State) (sub : Fin 256) (bad : Bool), s.up fenceREC = false ∨ nextPull s sub = none →
    exec (.pullDescriptorWrite sub bad) s = .next s) ∧
  (∀ (s : State) (sub : Fin 256) (bad : Bool) (d : Delivery) (u : State), s.up fenceREC = true → nextPull s sub = some d →
    u = pullNext s sub bad →
    exec (.pullDescriptorWrite sub bad) s = .next (if bad = true then bark u Src.CAP_UNC
      else if u.fld (REC_SUB_WPTR.OFF sub) ≠ s.fld (REC_SUB_WPTR.OFF sub) ∧ u.fld (REC_SUB_CTL.TENANT sub) = 7 then plicRaise u plicREC
      else u)) ∧
  (∀ (s : State) (t : Fin 8) (sub : Fin 256) (v : Word), Lets s t (REC_SUB_RDPTR.addr sub) true →
    exec (.rdptrWrite t sub v) s = .next (written (s.put (REC_SUB_RDPTR.addr sub) v) t 0)) ∧
  (∀ (s : State) (t : Fin 8) (v : Word), Lets s t REC_CAP_TRIG.addr true →
    exec (.captureTrigger t v) s = .next (written ((List.range 32).foldl (fun s n => if nbit v.toNat n then triggerCapture s n else s)
      (s.put REC_CAP_TRIG.addr v)) t 0)) ∧
  (∀ (s : State) (n : Fin 32), captureOf s n = none → exec (.capturePart n) s = .next s ∧ exec (.captureShortEnd n) s = .next s) ∧
  (∀ (s : State) (n : Fin 32) (c : Capture) (len : Nat) (u : State), captureOf s n = some c →
    len = Nat.min (partLen s n) (c.stop - c.next) →
    u = sendPart s n c len (if c.short && c.part = 0 then flagSHORT else 0) (c.stop ≤ c.next + len) →
    ((ringOf s n).cnt < c.next + len → exec (.capturePart n) s = .next s) ∧
    (c.next + len ≤ (ringOf s n).cnt → c.next + len < c.stop →
      exec (.capturePart n) s = .next (setCapture u n (some { c with next := c.next + len, part := (c.part + 1) % 256 }))) ∧
    (c.next + len ≤ (ringOf s n).cnt → c.stop ≤ c.next + len →
      exec (.capturePart n) s = .next (setCapture (if c.short then u.count REC_CAP_CNT.SHORT else u) n none))) ∧
  (∀ (s : State) (n : Fin 32) (c : Capture) (w : Word), captureOf s n = some c → w = s.word (AFE_CH_CFG.addr (n / 16) (n % 16)) →
    exec (.captureShortEnd n) s =
      .next (if wordField w 0 1 = 1 ∧ s.fenced (n / 16) = false ∧ wordField w 4 6 = wordField c.cfg 4 6 then s
        else setCapture ((sendPart s n { c with multi := c.part != 0 } (Nat.min (partLen s n) ((ringOf s n).cnt - c.next))
          (flagSHORT + flagGAP) true).count REC_CAP_CNT.SHORT) n none))

/-- O24 (R341, R342, R343, R344, R345, R346, R351, R336, R353, R355, R358, R359). A tenant's permitted writes to its own
transaction registers open, commit and abort its transaction and submit an entry, and another tenant's are REFUSED (4)
and change nothing but the answer; a word of the CONF port joins its tenant's transaction or is turned away; a staged
entry is copied into the journal, or an uncorrectable source fails the transaction with RESULT 7; the commit record
brings the entries to their home locations, but under NOWRAP fails a commit that does not fit, and the commit's end is
DONE with OK; a replay ends with the entries that could not be read undone and counted; the scrub counts and raises
its sources; the events commit; a key lock needs the permission. Where there is nothing to do, nothing happens. -/
def Obligations.HeartwoodCommandsComplete : Prop :=
  (∀ (s : State) (t : Fin 8), Lets s t (HWD_TXN_CTRL.addr t) true →
    exec (.hwdTxnOpen t t) s = .next (written (doTxnOpen (s.put (HWD_TXN_CTRL.addr t) 1) t) t 0) ∧
    exec (.hwdTxnCommit t t) s = .next (written (doTxnCommit (s.put (HWD_TXN_CTRL.addr t) 2) t) t 0) ∧
    exec (.hwdTxnAbort t t) s = .next (written (doTxnAbort (s.put (HWD_TXN_CTRL.addr t) 3) t) t 0)) ∧
  (∀ (s : State) (t : Fin 8), Lets s t (HWD_JE_GO.addr t) true →
    exec (.hwdEntrySubmit t t) s = .next (written (doEntrySubmit (s.put (HWD_JE_GO.addr t) 1) t) t 0)) ∧
  (∀ (s : State) (t u : Fin 8), Lets s t (HWD_TXN_CTRL.addr u) true → u ≠ t →
    exec (.hwdTxnOpen t u) s = .next (written s t 4) ∧ exec (.hwdTxnCommit t u) s = .next (written s t 4) ∧
    exec (.hwdTxnAbort t u) s = .next (written s t 4) ∧ exec (.hwdEntrySubmit t u) s = .next (written s t 4)) ∧
  (∀ (s : State) (t : Fin 8), txState s t = txIDLE ∨ txState s t = txDONE ∨ txState s t = txFAILED → hwdReadonly s = false →
    s.hwd.fwOver = false →
    txState (doTxnOpen s t) t = txOPEN ∧ (doTxnOpen s t).fld (HWD_TXN_STAT.RESULT t) = 0 ∧
    (doTxnOpen s t).fld (HWD_TXN_STAT.NENT t) = 0) ∧
  (∀ s : State, s.running = false ∨ (s.ind 2).wq = [] → exec .hwdConfPortWrite s = .next s) ∧
  (∀ (s : State) (wa : Nat) (v : Word) (t : Nat) (rest : List (Nat × Word × Nat)) (why : Nat) (u : State),
    s.running = true → (s.ind 2).wq = (wa, v, t) :: rest →
    submitEntry s t { off := 4 * wa, len := 4, data := toLE 4 v.toNat } = (why, u) →
    exec .hwdConfPortWrite s =
      .next (if s.fenced fenceHWD = true then indWritten (s.setFld (HWD_TXN_STAT.RESULT t) 8) 2 false
        else if txState s t = txOPEN ∨ txState s t = txCOMMITTING then indWritten u 2 (why == 0) else indWritten s 2 false)) ∧
  (∀ (s : State) (t : Fin 8) (bad : Bool), exec (.hwdEntryStaged t bad) s = .next (releaseHwdReset (doEntryStaged t bad s))) ∧
  (∀ (s : State) (t : Fin 8), s.up fenceHWD = true → s.fld (HWD_TXN_STAT.PEND t) ≠ 0 →
    txState s t = txOPEN ∨ txState s t = txCOMMITTING →
    doEntryStaged t false s = setEntries s t (stageFirst s (entriesOf s t)) ∧
    txState (doEntryStaged t true s) t = txFAILED ∧ (doEntryStaged t true s).fld (HWD_TXN_STAT.RESULT t) = 7 ∧
      (doEntryStaged t true s).mem = s.mem) ∧
  (∀ (s : State) (t : Fin 8) (bad : Bool), s.up fenceHWD = false ∨ s.fld (HWD_TXN_STAT.PEND t) = 0 ∨
    (txState s t ≠ txOPEN ∧ txState s t ≠ txCOMMITTING) → doEntryStaged t bad s = s) ∧
  (∀ s : State, exec .hwdCommitRecord s = .next (releaseHwdReset (doCommitRecord s)) ∧
    exec .hwdCommitDone s = .next (releaseHwdReset (doCommitDone s))) ∧
  (∀ (s : State) (t : Nat) (rest : List Nat) (u v : State) (log : List HwdPut),
    s.up fenceHWD = true → s.pwr.noJournal = false → s.hwd.queue = t :: rest → s.hwd.applying = none →
    s.fld (HWD_TXN_STAT.PEND t) = 0 → s.bit HWD_STATUS.READY = true → s.bit HWD_STATUS.REPLAY = false →
    u = s.modHwd (fun h => { h with queue := rest }) → applyEntries u (entriesOf s t) = (v, log) →
    doCommitRecord s =
      if s.bit HWD_TR_CFG.NOWRAP = true ∧
          trendSize < s.hwd.trendUsed + trendNeed (s.fld HWD_TR_HEAD.OFF) (entriesOf s t) then
        setTx (u.count HWD_TR_CNT.REFUSED) t txFAILED 9
      else v.modHwd fun h => { h with applying := some (t, log) }) ∧
  (∀ s : State, s.up fenceHWD = false ∨ s.pwr.noJournal = true ∨ s.hwd.queue = [] ∨ s.hwd.applying.isSome = true ∨
    s.bit HWD_STATUS.READY = false ∨ s.bit HWD_STATUS.REPLAY = true → doCommitRecord s = s) ∧
  (∀ (s : State) (t : Nat) (log : List HwdPut), t < 8 → s.railsOn = true → s.pwr.noJournal = false →
    s.hwd.applying = some (t, log) → s.bit HWD_STATUS.REPLAY = false → txState s t = txCOMMITTING →
    txState (doCommitDone s) t = txDONE ∧ (doCommitDone s).fld (HWD_TXN_STAT.RESULT t) = 1 ∧
      (doCommitDone s).hwd.applying = none ∧ (doCommitDone s).mem = s.mem) ∧
  (∀ s : State, s.railsOn = false ∨ s.pwr.noJournal = true ∨ s.hwd.applying = none ∨ s.bit HWD_STATUS.REPLAY = true →
    doCommitDone s = s) ∧
  (∀ (s : State) (bad : List Nat), s.running = false ∨ s.bit HWD_STATUS.REPLAY = false → exec (.hwdReplayDone bad) s = .next s) ∧
  (∀ s : State, s.running = true → s.bit HWD_STATUS.REPLAY = true →
    ∃ u, exec (.hwdReplayDone []) s = .next (releaseHwdReset u) ∧ (s.hwd.applying.isSome = true →
      u.bit HWD_STATUS.REPLAY = false ∧ u.hwd.applying = none)) ∧
  (∀ (s : State) (bad : List Nat) (n : Nat), s.running = true → s.bit HWD_STATUS.REPLAY = true →
    n = (match s.hwd.applying with
      | some (_, log) => (bad.eraseDups.filter fun k => log.any fun x => x.ent == some k).length
      | none => 0) →
    exec (.hwdReplayDone bad) s = .next (releaseHwdReset (barkTimes n ((replayDone bad s).count HWD_CNT.UNC n) Src.HWD_UNC))) ∧
  (∀ (s : State) (one two unc : Fin 9), exec (.hwdScrub one two unc) s =
    .next (if s.up fenceHWD = true then
      barkTimes unc (barkTimes (one + two) ((s.count HWD_CNT.COR (one.val + two.val)).count HWD_CNT.UNC unc) Src.HWD_COR) Src.HWD_UNC
      else s)) ∧
  (∀ s : State, exec .hwdEventCommit s = .next (if hwdCommits s = true then
    s.hwd.events.foldl commitEvent (s.modHwd fun h => { h with events := [] }) else s)) ∧
  (∀ (s : State) (t : Fin 8) (v : Word), Lets s t HWD_KEYS_LOCK_SET.addr true →
    exec (.keysLockSet t v) s =
      .next (if s.bitAt HWD_WPERM.KEYLOCK t then written (lockKeys (s.put HWD_KEYS_LOCK_SET.addr v) v) t 0 else written s t 4))

/-- O25 (R368, R370, R371, R372, R375, R376, R388). A permitted write of RELEASE starts a HELD core that no fence or reset
holds and whose boot address is good, and is REFUSED (4) otherwise; a watchdog's expiry, at the instant its count
gives, reloads it, counts and raises CRW_WDOG of its core; the key 0x4B49 reloads it, by the register or by mlkwdkick,
and no other value does; PLIC sources 1 to 24 pend; MTIME reaches mtimecmp. The commands that a core executes do so
when it runs (CoreMemoryInstructions): a read of mlkmtlo gives mill time at most 24 ns behind and holds its upper
word; a machine-mode write of a writable CSR takes effect; both, and mlkwdkick, are illegal in user mode, as is a
write of a CSR that is read-only or none. -/
def Obligations.CrewControlComplete : Prop :=
  (∀ (s : State) (t : Fin 8) (n : Fin 4) (v : Word), Lets s t (CRW_CORE_CTL.addr n) true →
    exec (.coreRelease t n v) s =
      .next (if v.getLsbD 0 = false then written (s.put (CRW_CORE_CTL.addr n) v) t 0
        else if coreState s n = 0 ∧ s.fenced (fenceCRW n) = false ∧ s.inUnitReset (11 + n) = false ∧
            bootAddrOk n (s.fld (CRW_BOOT_ADDR.ADDR n)) = true then
          written (startCore (s.put (CRW_CORE_CTL.addr n) v) n) t 0
        else written s t 4)) ∧
  (∀ (s : State) (n : Fin 4) (u : State), u = s.advanceTo (s.tim.now + wdogLeft s n) →
    exec (.wdogExpiry n) s =
      .next (if s.running = true ∧ s.bit (CRW_WDOG.EN n) = true ∧ (coreState s n = 1 ∨ coreState s n = 2) then
        bark ((wdogNote u n 0).count (CRW_CNT.WDOG n)) Src.CRW_WDOG n else s)) ∧
  (∀ (s : State) (n : Fin 4), n.val < s.crw.cores.length → wdogSpent (wdogNote s n 0) n = 0) ∧
  (∀ (s : State) (t : Fin 8) (n : Fin 4) (v : Word), Lets s t (CRW_WDOG_KICK.addr n) true →
    exec (.wdogKick t n v) s = .next (written (if v = 0x4B49 then wdogNote s n 0 else s) t 0)) ∧
  (∀ (s : State) (n : Fin 4) (v : Word), ∃ f : State → State, exec (.wdogKickCsr n v) s = .next (onCore n 4 s f) ∧
    (∀ u : State, (coreOf u n).user = true → f u = raiseExc u n 2 0) ∧
    (∀ u : State, (coreOf u n).user = false →
      f u = if v = 0x4B49 then wdogNote (retire u n) n 0 else retire u n)) ∧
  (∀ (s : State) (i : Fin 32), exec (.plicSourceEvent i) s =
    .next (if s.running = true ∧ 0 < i.val ∧ i.val < 25 then plicRaise s i else s)) ∧
  (∀ (s : State) (n : Fin 4), exec (.mtimerInterrupt n) s =
    .next (if s.running = true then
        wakeCores (if mtime s < s.crw.acl.cmp.getD n 0 then setMtime s (s.crw.acl.cmp.getD n 0) else s)
      else s)) ∧
  (∀ (s : State) (n : Fin 4) (rd : Fin 32), ∃ f : State → State, exec (.mlkmtloRead n rd) s = .next (onCore n 4 s f) ∧
    (∀ u : State, (coreOf u n).user = true → f u = raiseExc u n 2 0) ∧
    (∀ u : State, (coreOf u n).user = false → ∃ late ≤ 24, f u =
      retire (setX (modCore u.fresh.2 n fun c =>
        { c with mtSnap := BitVec.ofNat 32 ((u.tim.now - late) / 2 ^ 32) }) n rd (BitVec.ofNat 32 (u.tim.now - late))) n)) ∧
  (∀ (s : State) (n : Fin 4) (c : BitVec 12) (v : Word), ∃ f : State → State,
    exec (.customCsrWrite n c v) s = .next (onCore n 4 s f) ∧
    (∀ u : State, ((coreOf u n).user = true ∧ c.toNat / 256 % 4 ≠ 0) ∨ 0xC00 ≤ c.toNat ∨ csrMask c.toNat = none →
      f u = raiseExc u n 2 0) ∧
    (∀ u : State, (coreOf u n).user = false → c.toNat < 0xC00 → (csrMask c.toNat).isSome = true →
      f u = csrWrite (retire u n) n c.toNat v)) ∧
  (∀ (s u : State) (n : Fin 4) (f : State → State), Executes s n u → onCore n 4 s f = stepHalt (f u) n)

/-- O26 (R362, R363, R364, R365, R366, R390, R391, R393, R394, R395, R396, R312). A command that a core executes does
nothing while the core does not run, raises exception 1 where its fetch fails, fires a trigger that matches its
address or bytes, and else has its own effect. A load or store that the core map and the PMP allow is performed,
memory at once, an I/O store through the 8-entry buffer; one they refuse, or whose access or word fails, raises the
exception named. Fences drain the buffer as their sets require, FENCE.I clears the prefetch buffer too. LR reserves
its granule; SC stores only while the reservation holds and writes 0 then, else 1 and stores nothing; an AMO writes
the operation's value and gives the old one. A misaligned store to the core's own TCMs is two accesses. The pc moves
on by 2 after a compressed instruction, else by 4. A core that runs and takes no interrupt performs, between commands,
the instruction at its pc, a compressed one as the one that it stands for, one that is none as illegal (the encodings
of R360's standards, log entry 42). -/
def Obligations.CoreMemoryInstructions : Prop :=
  (∀ (s v : State) (n : Fin 4) (len ecc : Nat) (f : State → State), v = haltNow s n →
    (coreRuns v n = false → onCore n len s f ecc = v) ∧
    (∀ (u : State) (pc : Nat), coreRuns v n = true → pc = (coreOf u n).pc.toNat →
      (fetchAt v n len ecc = (u, false) → onCore n len s f ecc = stepHalt (raiseExc u n 1 (coreOf u n).pc) n) ∧
      (∀ act : Nat, fetchAt v n len ecc = (u, true) → trigHit u n 2 pc (some (leNat (fetchBytes u n pc len))) = some act →
        onCore n len s f ecc = stepHalt (trigFire u n act pc) n) ∧
      (fetchAt v n len ecc = (u, true) → trigHit u n 2 pc (some (leNat (fetchBytes u n pc len))) = none →
        onCore n len s f ecc = stepHalt (f u) n))) ∧
  (∀ (s : State) (n : Fin 4), (coreOf s n).halt = none → haltNow s n = s) ∧
  (∀ (s : State) (n : Fin 4) (c : Bool) (k : Fin 3) (uns : Bool) (rd rs1 rs2 : Fin 32) (imm : BitVec 12) (ecc : Fin 3),
    exec (.coreLoad n c k uns rd rs1 imm ecc) s = .next (onCore n (instrLen c) s (loadAt n k uns rd rs1 imm ecc)) ∧
    exec (.coreStore n c k rs1 rs2 imm) s = .next (onCore n (instrLen c) s (storeAt n k rs1 rs2 imm))) ∧
  (∀ (s : State) (n : Fin 4) (tso : Bool) (pred succ : BitVec 4),
    exec (.coreFence n tso pred succ) s = .next (onCore n 4 s (fenceAt n tso pred succ)) ∧
    exec (.coreFenceI n) s = .next (onCore n 4 s (fenceIAt n))) ∧
  (∀ (s : State) (n : Fin 4) (op : Fin 9) (rd rs1 rs2 : Fin 32) (ecc : Fin 3),
    exec (.coreLr n rd rs1 ecc) s = .next (onCore n 4 s (lrAt n rd rs1 ecc)) ∧
    exec (.coreSc n rd rs1 rs2) s = .next (onCore n 4 s (scAt n rd rs1 rs2)) ∧
    exec (.coreAmo n op rd rs1 rs2 ecc) s = .next (onCore n 4 s (amoAt n op rd rs1 rs2 ecc))) ∧
  (∀ (u : State) (n : Fin 4) (k : Fin 3) (uns : Bool) (rd rs1 : Fin 32) (imm : BitVec 12) (ecc : Fin 3) (a : Nat),
    a = coreAddr u n rs1 imm →
    (∀ act : Nat, trigHit u n 0 a none = some act → loadAt n k uns rd rs1 imm ecc u = trigFire u n act a) ∧
    (trigHit u n 0 a none = none →
      (∀ e : Nat, dataCheck u n a (2 ^ k.val) false = .error e →
        loadAt n k uns rd rs1 imm ecc u = raiseExc u n e (BitVec.ofNat 32 a)) ∧
      (∀ r : CoreRow, dataCheck u n a (2 ^ k.val) false = .ok r →
        loadAt n k uns rd rs1 imm ecc u =
          if r.dest = .memory then memLoad u n rd a (2 ^ k.val) uns ecc else ioLoad u n rd a k uns ecc r))) ∧
  (∀ (u : State) (n : Fin 4) (rd : Fin 32) (a len ecc : Nat) (uns : Bool) (w x : State) (st st' : Nat) (bs : List Byte),
    coreMemRead u n a len = (w, st, bs) → eccRead w a ecc = (x, st') →
    (st ≠ 0 → memLoad u n rd a len uns ecc = raiseExc w n 5 (BitVec.ofNat 32 a)) ∧
    (st = 0 → st' ≠ 0 → memLoad u n rd a len uns ecc = raiseExc x n 5 (BitVec.ofNat 32 a)) ∧
    (st = 0 → st' = 0 → trigHit x n 0 a (some (leNat bs)) = none → memLoad u n rd a len uns ecc = loadDone x n rd len uns bs)) ∧
  (∀ (u : State) (n : Fin 4) (k : Fin 3) (rs1 rs2 : Fin 32) (imm : BitVec 12) (a : Nat) (bs : List Byte),
    a = coreAddr u n rs1 imm → bs = toLE (2 ^ k.val) (xreg u n rs2).toNat →
    (∀ act : Nat, trigHit u n 1 a (some (leNat bs)) = some act → storeAt n k rs1 rs2 imm u = trigFire u n act a) ∧
    (trigHit u n 1 a (some (leNat bs)) = none →
      (∀ e : Nat, dataCheck u n a bs.length true = .error e → storeAt n k rs1 rs2 imm u = raiseExc u n e (BitVec.ofNat 32 a)) ∧
      (∀ (r : CoreRow) (w : State) (st : Nat), dataCheck u n a bs.length true = .ok r → r.dest = .memory →
        coreMemWrite u n a bs = (w, st) →
        storeAt n k rs1 rs2 imm u = if st = 0 then retire w n else raiseExc w n 7 (BitVec.ofNat 32 a)) ∧
      (∀ r : CoreRow, dataCheck u n a bs.length true = .ok r → r.dest ≠ .memory →
        storeAt n k rs1 rs2 imm u = postStore u n a bs))) ∧
  (∀ (u : State) (n : Fin 4) (a : Nat) (bs : List Byte), (coreOf u n).sb.length < 8 →
    postStore u n a bs = retire (modCore u n fun c => { c with sb := c.sb ++ [((coreOf u n).pc, a, bs)] }) n) ∧
  (∀ (u w : State) (n : Fin 4) (tso : Bool) (pred succ : BitVec 4) (faulted : Bool), drainAll u n = (w, faulted) →
    fenceAt n tso pred succ u =
      if tso = true then retire u n
      else if pred.getLsbD 3 = true ∨ pred.getLsbD 2 = true then
        (if faulted = true ∨ storeAtRack w n = true then w else retire w n)
      else if pred.getLsbD 0 = true ∧ succ.getLsbD 1 = true then (if faulted = true then w else retire w n)
      else retire u n) ∧
  (∀ (u w : State) (n : Fin 4) (faulted : Bool), drainAll (modCore u n fun c => { c with pref := [] }) n = (w, faulted) →
    fenceIAt n u = if faulted = true then w else retire w n) ∧
  (∀ (u w x : State) (n : Fin 4) (rd rs1 ecc : Nat) (a st st' : Nat) (r : CoreRow) (bs : List Byte),
    a = (xreg u n rs1).toNat → trigHit u n 0 a none = none → atomCheck u n a true false = .ok r →
    coreMemRead u n a 4 = (w, st, bs) → eccRead w a ecc = (x, st') →
    (st ≠ 0 → lrAt n rd rs1 ecc u = raiseExc w n 5 (BitVec.ofNat 32 a)) ∧
    (st = 0 → st' ≠ 0 → lrAt n rd rs1 ecc u = raiseExc x n 5 (BitVec.ofNat 32 a)) ∧
    (st = 0 → st' = 0 → trigHit x n 0 a (some (leNat bs)) = none →
      lrAt n rd rs1 ecc u = loadDone { x with rsv := modAt x.rsv n fun _ => some (granule a) } n rd 4 false bs)) ∧
  (∀ (u w : State) (n : Fin 4) (rd rs1 rs2 : Nat) (a st : Nat) (r : CoreRow), a = (xreg u n rs1).toNat →
    trigHit u n 1 a (some (xreg u n rs2).toNat) = none → atomCheck u n a false true = .ok r →
    coreMemWrite u n a (toLE 4 (xreg u n rs2).toNat) = (w, st) →
    scAt n rd rs1 rs2 u =
      if u.rsv.getD n none = some (granule a) then
        (if st = 0 then retire (setX (dropRsv w n) n rd 0) n else raiseExc w n 7 (BitVec.ofNat 32 a))
      else retire (setX (dropRsv u n) n rd 1) n) ∧
  (∀ (u : State) (n : Fin 4) (op : Fin 9) (rd rs1 rs2 : Nat) (ecc : Fin 3) (a : Nat) (r : CoreRow) (v : State) (st : Nat)
    (bs : List Byte) (x : State) (st' : Nat) (m y : Word) (w : State) (st'' : Nat), a = (xreg u n rs1).toNat → trigHit u n 0 a none = none → trigHit u n 1 a none = none →
    atomCheck u n a true true = .ok r → coreMemRead u n a 4 = (v, st, bs) → eccRead v a ecc = (x, st') →
    m = BitVec.ofNat 32 (leNat bs) → y = amoOp op m (xreg x n rs2) → coreMemWrite x n a (toLE 4 y.toNat) = (w, st'') →
    (st ≠ 0 → amoAt n op rd rs1 rs2 ecc u = raiseExc v n 7 (BitVec.ofNat 32 a)) ∧
    (st = 0 → st' ≠ 0 → amoAt n op rd rs1 rs2 ecc u = raiseExc x n 7 (BitVec.ofNat 32 a)) ∧
    (st = 0 → st' = 0 → amoTrig x n a (some m.toNat) (some y.toNat) = none →
      amoAt n op rd rs1 rs2 ecc u = if st'' = 0 then retire (setX w n rd m) n else raiseExc w n 7 (BitVec.ofNat 32 a))) ∧
  (∀ (u : State) (n : Fin 4) (op : Fin 9) (rd rs1 rs2 : Nat) (ecc : Fin 3) (a e : Nat), a = (xreg u n rs1).toNat →
    (trigHit u n 0 a none = none → atomCheck u n a true false = .error e →
      lrAt n rd rs1 ecc u = raiseExc u n e (BitVec.ofNat 32 a)) ∧
    (trigHit u n 1 a (some (xreg u n rs2).toNat) = none → atomCheck u n a false true = .error e →
      scAt n rd rs1 rs2 u = raiseExc u n e (BitVec.ofNat 32 a)) ∧
    (amoTrig u n a none none = none → atomCheck u n a true true = .error e →
      amoAt n op rd rs1 rs2 ecc u = raiseExc u n e (BitVec.ofNat 32 a))) ∧
  (∀ (s : State) (n : Fin 4) (bs : List Byte) (a : Nat), ownTcm n a = true → a % bs.length = 0 →
    coreMemWrite s n a bs = (s.store a bs, 0)) ∧
  (∀ (s : State) (n : Fin 4) (bs : List Byte) (a b : Nat), b = (a / bs.length + 1) * bs.length → ownTcm n a = true →
    ownTcm n b = true → a % bs.length ≠ 0 → bs.length ≠ 0 →
    coreMemWrite s n a bs = ((s.store a (bs.take (b - a))).store b (bs.drop (b - a)), 0)) ∧
  (∀ (s : State) (n : Nat) (v : Word), setX s n 0 v = s ∧ xreg s n 0 = 0) ∧
  (∀ (s u : State) (n : Fin 4) (c : Bool), n.val < s.crw.cores.length → fetchAt s n (instrLen c) 0 = (u, true) →
    (coreOf (retire u n) n).pc = (coreOf s n).pc + (if c then 2 else 4)) ∧
  (∀ (s u : State) (n : Fin 4) (len de : Nat) (bs : List Byte), ExecutesLen s n len u → feNext s n = none →
    takesIrq s n = false ∨ plainIrq s n = none →
    len = (if leNat (fetchBytes s n (coreOf s n).pc.toNat 2) % 4 = 3 then 4 else 2) → bs = fetchBytes u n (coreOf s n).pc.toNat 4 →
    coreCycle s n 0 de = stepHalt (rvBytes u n bs de) n) ∧
  (∀ (u : State) (n : Fin 4) (bs : List Byte) (ecc : Nat),
    (leNat (bs.take 2) % 4 = 3 → rvBytes u n bs ecc = rvRun u n (BitVec.ofNat 32 (leNat bs)) ecc) ∧
    (leNat (bs.take 2) % 4 ≠ 3 → ∀ w : Word, rvExpand (leNat (bs.take 2)) = some w → rvBytes u n bs ecc = rvRun u n w ecc) ∧
    (leNat (bs.take 2) % 4 ≠ 3 → rvExpand (leNat (bs.take 2)) = none → rvBytes u n bs ecc = raiseExc u n 2 0)) ∧
  (∀ (u : State) (n : Fin 4) (rd rs1 : Fin 32) (imm : BitVec 12) (ecc : Nat),
    rvRun u n (BitVec.ofNat 32 (encI imm.toNat rs1 0 rd 0x13)) ecc = retire (setX u n rd (xreg u n rs1 + imm.signExtend 32)) n ∧
    rvRun u n (BitVec.ofNat 32 (encI imm.toNat rs1 2 rd 0x03)) ecc = loadAt n 2 false rd rs1 imm ecc u) ∧
  (∀ a b : Word, mulDiv 4 a 0 = 0xFFFFFFFF ∧ mulDiv 5 a 0 = 0xFFFFFFFF ∧ mulDiv 6 a 0 = a ∧ mulDiv 7 a 0 = a ∧
    mulDiv 4 0x80000000 0xFFFFFFFF = 0x80000000 ∧ mulDiv 6 0x80000000 0xFFFFFFFF = 0 ∧ mulDiv 0 a b = a * b)

/-- O27 (R377, R378, R380, R381, R382, R383, R386, R387, R389, R393, R371, R366). An interrupt whose kind mlkfecfg leaves
alone traps through mtvec with cause 2^31 + its code; an Xlkfe entry whose stack pointer passes the checks stacks the
frame and enters the handler, one that fails them enters the stack-fault handler, and a second failure while SF = 1
raises CREW_DOUBLE_FAULT and holds the core; from user mode sp is exchanged first; a vector word that is lost raises a
load access fault (the model's choice, log entry 42). With no such event, or with a load at the rack, neither happens.
MRET returns as FRAME says in machine mode and is illegal in user mode; WFI waits unless an enabled interrupt pends,
and with TW = 1 is illegal in user mode. A trap saves pc, cause, value, MIE and the mode, clears MIE and goes to
machine mode; in the program buffer it ends that instead. -/
def Obligations.CrewTrapsComplete : Prop :=
  (∀ (s v : State) (n : Fin 4), v = haltNow s n →
    (v.running = false ∨ loadAtRack v n = true ∨ takesIrq v n = false ∨ plainIrq v n = none → exec (.trapEntry n) s = .next v) ∧
    (∀ c : Nat, v.running = true → loadAtRack v n = false → takesIrq v n = true → plainIrq v n = some c →
      exec (.trapEntry n) s = .next (stepHalt (takeTrap (setCoreState v n 1) n (coreOf v n).pc c true 0) n))) ∧
  (∀ (s v : State) (n : Fin 4) (ecc : Fin 3), v = haltNow s n →
    exec (.xlkfeEntry n ecc) s =
      .next (if v.running = false ∨ loadAtRack v n = true ∨ feNext v n = none then v else stepHalt (xlkfeAt n ecc v) n)) ∧
  (∀ (v w : State) (n : Fin 4) (ecc : Fin 3) (e : Nat × Nat × Nat) (st : Nat), feNext v n = some e →
    spCheck v n (feSp v n) = none → eccRead v (feVecAddr v n e.2.1) ecc = (w, st) →
    (st ≠ 0 → xlkfeAt n ecc v = raiseExc (setCoreState w n 1) n 5 (BitVec.ofNat 32 (feVecAddr v n e.2.1))) ∧
    (st = 0 → (feEntry w n).2 = false → xlkfeAt n ecc v = (feEntry w n).1)) ∧
  (∀ (v : State) (n : Fin 4) (ecc : Fin 3) (e : Nat × Nat × Nat) (u : State), feNext v n = some e →
    (spCheck v n (feSp v n)).isSome = true → u = bark (feEntry v n).1 Src.CREW_DOUBLE_FAULT n →
    xlkfeAt n ecc v =
      if (feEntry v n).2 = true then (if coreState u n = 4 then u else setCoreState u n 0) else (feEntry v n).1) ∧
  (∀ (w s1 : State) (n : Fin 4) (e : Nat × Nat × Nat) (sp : Nat), feNext w n = some e →
    s1 = (if (coreOf w n).user then swapSp (setCoreState w n 1) n else setCoreState w n 1) → sp = (xreg s1 n 2).toNat →
    (spCheck s1 n sp = none → feEntry w n =
      (feEnter (saveState s1 n (coreOf w n).pc (BitVec.ofNat 32 (2 ^ 31 + e.2.2))) n e sp (coreOf w n).user, false)) ∧
    (∀ chk : Nat, spCheck s1 n sp = some chk →
      feEntry w n = if feSf w n = true then (s1, true)
        else (feStackFault (saveState s1 n (coreOf w n).pc 24) n e sp chk (coreOf w n).user, false))) ∧
  (∀ (s : State) (n : Fin 4) (ecc : Fin 3), exec (.coreMret n) s = .next (onCore n 4 s fun u => mretAs u n 0) ∧
    exec (.xlkfeMret n ecc) s = .next (onCore n 4 s fun u => mretAs u n ecc)) ∧
  (∀ (u : State) (n : Fin 4) (ecc : Fin 3),
    ((coreOf u n).user = true → mretAs u n ecc = raiseExc u n 2 0) ∧
    ((coreOf u n).user = false → feFrame u n = false → mretAs u n ecc = plainMret (noteRetired u n) n) ∧
    (∀ (w : State) (a st : Nat), (coreOf u n).user = false → feFrame u n = true →
      a = (match feTail u n with | some e => feVecAddr u n e.2.1 | none => feBase u n) → eccRead u a ecc = (w, st) →
      mretAs u n ecc = if st = 0 then frameMret (noteRetired w n) n else raiseExc w n 5 (BitVec.ofNat 32 a))) ∧
  (∀ (s : State) (n : Fin 4), exec (.coreWfi n) s = .next (onCore n 4 s (wfiAt n))) ∧
  (∀ (u : State) (n : Fin 4),
    wfiAt n u =
      if (coreOf u n).user = true ∧ csrFld u n csrMstatus 21 1 = 1 then raiseExc u n 2 0
      else if (mipOf (retire u n) n &&& (csrRaw (retire u n) n csrMie).toNat) ≠ 0 ∨ stepping (retire u n) n = true then retire u n
      else setCoreState (retire u n) n 2) ∧
  (∀ (s : State) (n : Nat) (pc tval : Word) (cause : Nat) (irq : Bool) (u : State), n < s.crw.cores.length →
    u = vecTrap s n pc cause irq tval →
    ((coreOf s n).prog = none → takeTrap s n pc cause irq tval = u) ∧
    csrRaw u n csrMepc = pc ∧ csrRaw u n csrMcause = BitVec.ofNat 32 (cause + (if irq then 2 ^ 31 else 0)) ∧
    csrRaw u n csrMtval = tval ∧ (coreOf u n).user = false ∧ csrFld u n csrMstatus 3 1 = 0 ∧
    csrFld u n csrMstatus 7 1 = csrFld s n csrMstatus 3 1 ∧
    csrFld u n csrMstatus 11 2 = (if (coreOf s n).user then 0 else 3) ∧
    (coreOf u n).pc = (csrRaw s n csrMtvec &&& 0xFFFFFFFC) +
      (if irq && (csrRaw s n csrMtvec).getLsbD 0 then BitVec.ofNat 32 (4 * cause) else 0) ∧
    (coreOf u n).x = (coreOf s n).x ∧ u.mem = s.mem ∧ u.regs = s.regs) ∧
  (∀ (s : State) (n : Nat) (pc tval : Word) (cause : Nat) (irq : Bool), (coreOf s n).prog.isSome = true →
    takeTrap s n pc cause irq tval = progEnd s n 3)

/-- O28 (R396, R397, R683, R684, R370). A running core whose CRW_DBG.EN is set halts in Debug Mode on a halt request,
which stands while the core is held or a load of it waits at the rack, and goes on at dpc on a resume request; one
whose bit is clear does neither. An abstract command reads or writes the register of a halted or held core and then,
if it says so, starts the program buffer; otherwise it fails. A system bus access acts as LOCAL only while SBA = 1, at
an aligned address, on the rack through the bridge, and records a failure. EXTEST and HIGHZ cut the scanned lands off,
SAMPLE/PRELOAD does not; any unlisted code selects the one-bit bypass register; DTMCS shows version 1 and 7 address
bits and clears the status; a DMI scan shifts out the last access and performs the new one, but none while the status
holds a failure. -/
def Obligations.DebugAndJtagComplete : Prop :=
  (∀ (s : State) (n : Fin 4), exec (.debugHaltReq n) s =
    .next (if s.running = true ∧ s.bitAt CRW_DBG.EN n = true ∧ coreState s n < 3 then
      haltNow (modCore s n fun c => { c with halt := some 3 }) n else s)) ∧
  (∀ (s v : State) (n : Fin 4) (c : Nat), (coreOf s n).halt = some c → v = modCore s n (fun k => { k with halt := none }) →
    (coreState s n = 1 ∨ coreState s n = 2 → loadAtRack s n = false →
      haltNow s n = if v.bitAt CRW_DBG.EN n then debugEnter v n c else v) ∧
    ((coreState s n ≠ 1 ∧ coreState s n ≠ 2) ∨ loadAtRack s n = true → haltNow s n = s)) ∧
  (∀ (s : State) (n : Fin 4), exec (.debugResumeReq n) s =
    .next (if s.running = true ∧ s.bitAt CRW_DBG.EN n = true ∧ coreState s n = 3 ∧ (coreOf s n).prog = none then
      setCoreState ((modCore s n fun c => { c with pc := c.dpc }).modDm fun d => { d with ack := setBit d.ack n }) n 1 else s)) ∧
  (∀ (s u : State) (n : Fin 4) (r : BitVec 16) (wr post : Bool) (ecc : Fin 3), u = accessRegister s n r.toNat wr →
    exec (.debugAbstractCmd n r wr post ecc) s =
      .next (if s.running = true ∧ s.crw.dm.cmderr = 0 then
        (if post = false then u
          else if u.crw.dm.cmderr ≠ 0 then u
          else if dbgAvail u n = true ∧ coreState u n = 3 then progStart u n ecc
          else dmFail u 4)
        else s)) ∧
  (∀ (s : State) (n : Fin 4) (r : Fin 32), s.running = true → s.bitAt CRW_DBG.EN n = true →
    coreState s n = 3 ∨ coreState s n = 4 ∨ coreState s n = 0 → s.crw.dm.cmderr = 0 → (coreOf s n).prog = none →
    accessRegister s n (0x1000 + r.val) true = setX s n r s.crw.dm.data0 ∧
    accessRegister s n (0x1000 + r.val) false = s.modDm fun d => { d with data0 := xreg s n r }) ∧
  (∀ (s : State) (n : Fin 4) (r : Nat) (wr : Bool), s.crw.dm.cmderr = 0 → (coreOf s n).prog = none →
    s.running = false ∨ s.bitAt CRW_DBG.EN n = false ∨ coreState s n = 1 ∨ coreState s n = 2 →
    accessRegister s n r wr = dmFail s 4) ∧
  (∀ (s u : State) (a : BitVec 40) (w : Option Word) (ecc : Fin 3), u = s.modDm (fun d => { d with sbaddr := a.toNat }) →
    exec (.debugSysbusAccess a w ecc) s = .next (if s.running = true then sbAccess u w ecc else s)) ∧
  (∀ (u : State) (w : Option Word) (ecc : Nat) (a : Nat), a = u.crw.dm.sbaddr →
    (u.crw.dm.sberror ≠ 0 → sbAccess u w ecc = u) ∧
    (u.crw.dm.sberror = 0 → u.bit CRW_DBG.SBA = false → sbAccess u w ecc = u.modDm fun d => { d with sberror := 2 }) ∧
    (u.crw.dm.sberror = 0 → u.bit CRW_DBG.SBA = true → a % 4 ≠ 0 → sbAccess u w ecc = u.modDm fun d => { d with sberror := 3 }) ∧
    (u.crw.dm.sberror = 0 → u.bit CRW_DBG.SBA = true → a % 4 = 0 → onRack a = false →
      (∀ x : Word, w = some x → sbAccess u w ecc = sbEnd (wordWrite u 7 a x).1 (wordWrite u 7 a x).2 none) ∧
      (w = none → sbAccess u w ecc = sbEnd (wordRead u 7 a ecc).1 (wordRead u 7 a ecc).2.1 (some (wordRead u 7 a ecc).2.2))) ∧
    (u.crw.dm.sberror = 0 → u.bit CRW_DBG.SBA = true → a % 4 = 0 → onRack a = true →
      (u.pwr.mode = .safe → sbAccess u w ecc = sbEnd u 2 none) ∧
      (u.pwr.mode ≠ .safe → winAllows u 7 a 4 w.isSome = false → sbAccess u w ecc = sbEnd (raiseRefusal u 7 2) 2 none) ∧
      (∀ (v : State) (ans : CrbAns), u.pwr.mode ≠ .safe → winAllows u 7 a 4 w.isSome = true →
        crbSubmit u .dbg 7 (a - 0x100000000) true (List.replicate 4 true) (w.map fun w => toLE 4 w.toNat) = (v, ans) →
        (∀ st : Nat, ans = .refused st → sbAccess u w ecc = sbEnd (raiseRefusal v 7 st) st none) ∧
        ((∀ st : Nat, ans ≠ .refused st) → sbAccess u w ecc = sbEnd v 0 none)))) ∧
  (∀ (s : State) (x d : List Bool), ∃ u, exec (.jtagExtest x d) s = .next u ∧ landsCut u = true ∧ u.jtag.bsr = d ∧
    u.jtag.tdo = x ∧ u.regs = s.regs ∧ u.mem = s.mem) ∧
  (∀ (s : State) (x d : List Bool), ∃ u, exec (.jtagSamplePreload x d) s = .next u ∧ landsCut u = false ∧ u.jtag.bsr = d ∧
    u.jtag.tdo = x ∧ u.regs = s.regs ∧ u.mem = s.mem) ∧
  (∀ s : State, ∃ u, exec .jtagHighz s = .next u ∧ landsCut u = true ∧ u.jtag.tdo = [false] ∧ u.jtag.bsr = s.jtag.bsr ∧
    u.regs = s.regs ∧ u.mem = s.mem) ∧
  (∀ (s : State) (c : BitVec 5), c ≠ 0x00 → c ≠ 0x02 → c ≠ 0x07 → c ≠ 0x10 → c ≠ 0x11 →
    ∃ u, exec (.jtagBypass c) s = .next u ∧ landsCut u = false ∧ u.jtag.tdo = [false] ∧ u.regs = s.regs ∧ u.mem = s.mem) ∧
  (∀ (s : State) (c : BitVec 5), c = 0x00 ∨ c = 0x02 ∨ c = 0x07 ∨ c = 0x10 ∨ c = 0x11 → exec (.jtagBypass c) s = .next s) ∧
  (∀ (s : State) (v : Word), ∃ u, exec (.jtagDtmcs v) s = .next u ∧ u.jtag.tdo.length = 32 ∧
    u.jtag.tdo.take 10 = [true, false, false, false, true, true, true, false, false, false] ∧
    u.jtag.dmistat = (if v.getLsbD 16 || v.getLsbD 17 then 0 else s.jtag.dmistat) ∧ u.regs = s.regs ∧ u.mem = s.mem) ∧
  (∀ (s v : State) (op : Fin 4) (a : Fin 128) (w : Word) (ecc : Fin 3),
    v = s.modJtag (fun j => { j with ir := 0x11, tdo := toBits 41 (j.dmistat + j.dmiData.toNat * 4 + j.dmiAddr * 2 ^ 34) }) →
    exec (.jtagDmi op a w ecc) s =
      .next (if s.jtag.dmistat ≠ 0 ∨ op.val = 0 then v
        else if op.val = 3 ∨ s.running = false then v.modJtag fun j => { j with dmistat := 2 }
        else if op.val = 1 then (dmRead v a ecc).1.modJtag fun j => { j with dmiData := (dmRead v a ecc).2, dmiAddr := a }
        else (dmWrite v a w ecc).modJtag fun j => { j with dmiData := w, dmiAddr := a }))

/-- O29 (R400, R401, R402, R403, R410, R420, R684). While the scanned lands are with their units and the port works,
MODABS and LOS low are recorded and move a lane from WAIT_MOD to LOCK; a rise of MODABS or LOS is recorded and
restarts an SFI lane beyond WAIT_MOD, while a KR lane does not read them; training done moves TRAIN to LOCK, its
timeout counts, restarts and raises the port's lane source; block lock moves LOCK to FEC or HELLO, FEC lock FEC to
HELLO; a state timeout restarts a lane that no MISMATCH holds, as does the loss of a lock (a block lock loss counts
16). A permitted write that changes a lane's configuration restarts it; a restart takes the lane to its first state
and, from UP, is an event. A lane in HELLO, or in use outside the transmit stripe set, sends a lane HELLO, one frame
of blocks on that lane, with the node ID that a port DOWN would take. The wake pattern on an enabled lane senses cause
18. A permitted RETRAIN retrains the port, and at the end of its idle the lanes start again. In any other state each
of these events leaves the machine as it was. -/
def Obligations.LaneCommandsComplete : Prop :=
  (∀ (s : State) (x l : Fin 2) (u : State),
    u = (s.setBit (TK_LANE_STAT.MODABS x l) false).setBit (TK_LANE_STAT.LOS x l) false →
    exec (.laneModulePresent x l) s = .next (if landsCut s = true ∨ portOn s x = false then s
      else if laneState u x l = 1 then (setLane u x l 3).setBit (TK_LANE_STAT.SIGDET x l) true else u)) ∧
  (∀ (s : State) (x l : Fin 2) (u : State), u = s.setBit (TK_LANE_STAT.MODABS x l) true →
    exec (.laneModabsRise x l) s = .next (if landsCut s = true ∨ portOn s x = false then s
      else if u.bit (TK_LANE_CFG.PMD x l) = true ∧ 1 < laneState u x l then laneRestart u x l else u)) ∧
  (∀ (s : State) (x l : Fin 2) (u v : State), u = s.setBit (TK_LANE_STAT.LOS x l) true →
    v = u.setBit (TK_LANE_STAT.SIGDET x l) false →
    exec (.laneLos x l) s = .next (if landsCut s = true ∨ portOn s x = false then s
      else if u.bit (TK_LANE_CFG.PMD x l) = false then u
      else if 1 < laneState v x l then laneRestart v x l else v)) ∧
  (∀ (s : State) (x l : Fin 2), exec (.laneTrainDone x l) s =
    .next (if portOn s x = true ∧ laneState s x l = 2 then (setLane s x l 3).setBit (TK_LANE_STAT.SIGDET x l) true else s)) ∧
  (∀ (s : State) (x l : Fin 2), exec (.laneTrainTimeout x l) s =
    .next (if portOn s x = true ∧ laneState s x l = 2 then
      laneEvent (laneRestart (s.count (TK_LANE_CNT.TRAIN_FAIL x l)) x l) x else s)) ∧
  (∀ (s : State) (x l : Fin 2), exec (.laneBlockLock x l) s =
    .next (if portOn s x = true ∧ laneState s x l = 3 then setLane s x l (if s.bit (TK_LANE_CFG.FEC x l) then 4 else 5) else s)) ∧
  (∀ (s : State) (x l : Fin 2), exec (.laneFecLock x l) s =
    .next (if portOn s x = true ∧ laneState s x l = 4 then setLane s x l 5 else s)) ∧
  (∀ (s : State) (x l : Fin 2), exec (.laneStateTimeout x l) s =
    .next (if portOn s x = true ∧ 3 ≤ laneState s x l ∧ laneState s x l ≤ 5 ∧ s.bit (TK_LANE_STAT.MISMATCH x l) = false then
      laneRestart s x l else s)) ∧
  (∀ (s : State) (x l : Fin 2),
    exec (.laneLockLoss x l false) s = .next (if portOn s x = true ∧ s.bit (TK_LANE_STAT.BLOCK_LOCK x l) = true then
      laneRestart (s.count (TK_LANE_CNT.BAD_SH x l) 16) x l else s) ∧
    exec (.laneLockLoss x l true) s = .next (if portOn s x = true ∧ s.bit (TK_LANE_STAT.FEC_LOCK x l) = true then
      laneRestart s x l else s)) ∧
  (∀ (s : State) (t : Fin 8) (x l : Fin 2) (v : Word) (u : State), Lets s t (TK_LANE_CFG.addr x l) true →
    u = s.put (TK_LANE_CFG.addr x l) v →
    exec (.laneCfgWrite t x l v) s =
      .next (written (if u.word (TK_LANE_CFG.addr x l) = s.word (TK_LANE_CFG.addr x l) then u else laneRestart u x l) t 0)) ∧
  (∀ (s : State) (x l : Fin 2), laneRestart s x l =
    (if laneState s x l = 6 then laneEvent (portEval (setLane s x l (firstState s x l)) x) x
     else portEval (setLane s x l (firstState s x l)) x)) ∧
  (∀ (s : State) (x l : Fin 2) (id st : Nat) (u : State) (f : Frame) (v w : State),
    id = (if s.fld (TK_ID.NODE_ID x) = 0 ∨ s.fld (TK_ID.NODE_ID x) = 65535 then 1 else s.fld (TK_ID.NODE_ID x)) →
    st = laneState s x l →
    u = s.modPort x (fun p => { p with effId := if portCode s x = 0 then id else p.effId, line := [] }) →
    f = stamped u x (linkFrame 8 0 (helloWord u x l)) →
    v = putBlks u x (1 + l) l (frameBlks (wireBytes f 0xFFFF 0xFFFF)) →
    w = (frameSent v x { f := f, dst := 0xFFFF }).modLane x l (fun n => { n with helloTx := st == 5 || n.helloTx }) →
    exec (.laneHelloTx x l) s =
      .next (if portOn s x = true ∧ (st = 5 ∨ (st ≠ 0 ∧ s.bitAt (TK_STATUS.TXMASK x) l = false)) then helloDone w x l else s)) ∧
  (∀ (s : State) (x l : Fin 2), exec (.trunkWakePattern x l) s =
    .next (if s.bitAt (TK_WAKE.LANE x) l = true then senseCause s 18 else s)) ∧
  (∀ (s : State) (t : Fin 8) (x : Fin 2) (u v : State), Lets s t (TK_CTRL.addr x) true →
    u = s.put (TK_CTRL.addr x) (if s.bit (TK_CTRL.EN x) then 3 else 2) →
    v = (if u.bit (TK_CTRL.EN x) = s.bit (TK_CTRL.EN x) then u else portEnChanged u x) →
    exec (.portRetrainCmd t x) s = .next (written (if portOn v x then retrain v x else v) t 0)) ∧
  (∀ (s : State) (x : Fin 2), exec (.portRetrainEnd x) s =
    .next (if s.running = true ∧ (s.port x).idle = true then restartPort (s.modPort x fun p => { p with idle := false }) x else s))

/-- O30 (R402, R403, R404, R405, R407, R417, R418, R419, R420, R421, R422, R425). A port that serves queues its HELLO
every 1 ms. A stream HELLO or a MASK, and a lane HELLO, names the lanes the partner receives; a HELLO of another
partner retrains a serving port whose lane is UP and holds a lane in HELLO with MISMATCH; else a lane that has sent
and received one goes UP. At a marker insertion a waiting stripe set takes effect and one marker leaves on each of its
lanes. A marker pair that names no UP lane says nothing; one lane's marker makes it the stream; two of equal counts
give SKEW, LATE1 and SKEW_ERR, bond the lanes within 1.0 µs where both name one partner and no recovery runs, and
leave the lead lane in ONE beyond it; every marker pair completes. Received blocks, descrambled, are taken up into
frames, their bad headers and FEC blocks counted, on the stream or on a lane before it joins; a whole stream frame
with a good CRC is accepted and one without is counted and starts recovery, during which a sequenced one is only
checked; an accepted sequenced frame moves SEQ on, and is malformed, or counted and handed over. ACK_SEQ is applied;
an ACK due leaves; no marker after a MASK retrains. REQs repeat and give way to a retrain after 8; a REQ is answered
as before where its RSEQ was, else by NEXT_SEQ, the oldest frame held with the count lost, or the next SEQ, the latter
two a LINKERR, and the replay starts there; an ACK of the latest RSEQ ends recovery, another is counted. Where the
port does not serve, each of these commands changes nothing, but for FEC counts, the lane forms, and a recovery's end
by retrain. -/
def Obligations.LinkLayerComplete : Prop :=
  (∀ (s : State) (x : Fin 2) (l : Nat),
    l = (if s.bitAt (TK_STATUS.TXMASK x) 0 = true ∨ s.fld (TK_STATUS.TXMASK x) = 0 then 0 else 1) →
    exec (.portHelloTx x) s = .next (if portOn s x = true ∧ portCode s x ≠ 0 then
      pushLink s x (linkFrame 8 0 (helloWord s x l)) else s)) ∧
  (∀ (s : State) (x : Fin 2) (w : BitVec 64) (who : Nat × Nat) (u : State),
    who = (w.toNat % 65536, w.toNat / 65536 % 2) →
    u = s.modPort x (fun p => { p with peerRx := w.toNat / 2 ^ 18 % 4 }) →
    exec (.helloRx x none w) s = .next (if portOn s x = false ∨ portCode s x = 0 then s
      else if s.bit (TK_PARTNER.VALID x) = true ∧ who ≠ partnerShown s x then partnerChanged s x else restripe u x)) ∧
  (∀ (s : State) (x l : Fin 2) (w : BitVec 64) (who : Nat × Nat) (u v y : State),
    who = (w.toNat % 65536, w.toNat / 65536 % 2) →
    u = s.modLane x l (fun n => { n with partner := some who }) →
    v = (u.setBit (TK_LANE_STAT.MISMATCH x l) false).modPort x (fun p => { p with peerRx := w.toNat / 2 ^ 18 % 4 }) →
    y = (if portCode v x = 0 then v else restripe v x) →
    exec (.helloRx x (some l) w) s =
      .next (if portOn s x = false ∨ laneState s x l < 5 ∨ (laneOf s x l).inStream = true then s
        else if portCode s x ≠ 0 ∧ who ≠ partnerShown s x then
          (if laneState s x l = 6 then partnerChanged s x else holdMismatch u x l)
        else if laneState s x l = 5 then helloDone (y.modLane x l fun n => { n with helloRx := true }) x l else y)) ∧
  (∀ (s : State) (x : Fin 2) (m : BitVec 2), exec (.maskRx x m) s =
    .next (if portOn s x = true ∧ portCode s x ≠ 0 then restripe (s.modPort x fun p => { p with peerRx := m.toNat }) x else s)) ∧
  (∀ (s : State) (x : Fin 2) (m c : Nat) (u v w : State), u = s.modPort x (fun p => { p with line := [] }) →
    m = (match (s.port x).markPend with | some k => k % 4 | none => s.fld (TK_STATUS.TXMASK x)) → c = (s.port x).mrkCnt →
    v = u.setFld (TK_STATUS.TXMASK x) m →
    w = putBlks v x m 0 (((List.range 2).filter fun l => nbit m l).map fun l => markerBlk l m c) →
    x.val < s.tk.length →
    ∃ z, exec (.markerInsert x) s = .next z ∧
      (portOn s x = false ∨ portCode s x = 0 → z = s) ∧
      (portOn s x = true → portCode s x ≠ 0 → z.fld (TK_STATUS.TXMASK x) = m ∧ (z.port x).markPend = none ∧
        (z.port x).mrkCnt = (c + 1) % 256 ∧ (z.port x).line = (w.port x).line ∧ (z.port x).blk = [0, 0] ∧ z.mem = s.mem)) ∧
  (∀ (s : State) (x : Fin 2) (m : BitVec 2) (c0 c1 : BitVec 8) (k : BitVec 16) (b : Bool),
    portOn s x = false ∨ portCode s x = 0 ∨ (m.toNat &&& upMask s x) = 0 → exec (.markerRx x m c0 c1 k b) s = .next s) ∧
  (∀ (s : State) (x : Fin 2) (m : BitVec 2) (c0 c1 : BitVec 8) (k : BitVec 16) (b : Bool), portOn s x = true →
    portCode s x ≠ 0 → m ≠ 0 → m ≠ 3 → (m.toNat &&& upMask s x) = m.toNat → (s.port x).defer = false →
    (s.port x).part = [] → x.val < s.tk.length →
    ∃ u, exec (.markerRx x m c0 c1 k b) s = .next u ∧ u.fld (TK_STATUS.RXMASK x) = m.toNat ∧
      (u.port x).peerStripe = m.toNat ∧ portCode u x = portCode s x ∧ u.mem = s.mem) ∧
  (∀ (s : State) (x : Fin 2) (c0 c1 : BitVec 8) (k : BitVec 16) (b : Bool), portOn s x = true → portCode s x ≠ 0 →
    upMask s x = 3 → (s.port x).defer = false → (s.port x).part = [] → (s.port x).lead < 2 → x.val < s.tk.length →
    ∃ u, exec (.markerRx x 3 c0 c1 k b) s = .next u ∧ (u.port x).peerStripe = 3 ∧ u.mem = s.mem ∧
      (c0 = c1 → u.fld (TK_SKEW.SKEW x) = k.toNat ∧ u.bit (TK_SKEW.LATE1 x) = b ∧
        u.bit (TK_STATUS.SKEW_ERR x) = decide (10000 < k.toNat)) ∧
      (c0 = c1 → k.toNat ≤ 10000 → (laneOf s x 0).partner = (laneOf s x 1).partner →
        portCode s x = 2 ∨ s.bit (TK_STATUS.RESYNC x) = false → portCode u x = 2 ∧ u.fld (TK_STATUS.RXMASK x) = 3) ∧
      (c0 = c1 → 10000 < k.toNat → portCode u x = 1 ∧
        (portCode s x = 2 → u.fld (TK_STATUS.RXMASK x) = 2 ^ (s.port x).lead))) ∧
  (∀ (s : State) (x : Fin 2) (m : BitVec 2) (c0 c1 : BitVec 8) (k : BitVec 16) (b : Bool),
    ∃ u, exec (.markerRx x m c0 c1 k b) s = .next u) ∧
  (∀ (s : State) (x : Fin 2) (via : Option (Fin 2)) (fec : List (Fin 2 × BitVec 2112)) (r : RxLine),
    portOn s x = false → exec (.frameRx x via fec r) s = .next s) ∧
  (∀ (s : State) (x : Fin 2) (fec : List (Fin 2 × BitVec 2112)) (r : RxLine) (u : State) (mask : Nat) (bs : List PcsBlk) (q : State × List PcsBlk), portOn s x = true →
    u = countFec s x fec → mask = u.fld (TK_STATUS.RXMASK x) → bs = blksOf u x mask r →
    q = takeBlks (fun s b => rxStream s x b) (fun s => rxError s x (TK_CNT.FRAMING x)) (countBadSh u x mask r.first bs) (u.port x).part bs →
    exec (.frameRx x none fec r) s = .next (if portCode u x ≠ 0 ∧ mask ≠ 0 then q.1.modPort x fun p => { p with part := q.2 } else u)) ∧
  (∀ (s : State) (x l : Fin 2) (fec : List (Fin 2 × BitVec 2112)) (r : RxLine) (u : State) (bs : List PcsBlk) (q : State × List PcsBlk), portOn s x = true →
    u = countFec s x fec → bs = blksOf u x (1 + l) r →
    q = takeBlks (fun s b => rxLane s x l b) (fun s => rxError s x (TK_CNT.FRAMING x)) (countBadSh u x (1 + l) r.first bs)
      (laneOf u x l).part bs →
    exec (.frameRx x (some l) fec r) s = .next (if 5 ≤ laneState u x l ∧ (laneOf u x l).inStream = false then
      q.1.modLane x l fun n => { n with part := q.2 } else u)) ∧
  (∀ (s : State) (x : Fin 2) (bs : List Byte) (f : Frame) (good : Bool), f = frameOfBytes bs →
    good = (if unsequenced f.ty then crcOk bs 0xFFFF 0xFFFF 0
      else crcOk bs (s.port x).effId (s.fld (TK_SEQ.RX x)) (rxFold s x f)) →
    rxStream s x bs = (if unsequenced f.ty = false ∧ s.bit (TK_STATUS.RESYNC x) = true then
        (if good then s else rxCount s x (TK_CNT.CRC x))
      else if good then acceptFrame s x f (reservedSet bs) else startRecovery (rxCount s x (TK_CNT.CRC x)) x)) ∧
  (∀ (s : State) (x : Fin 2) (f : Frame) (resv : Bool), unsequenced f.ty = false →
    ∃ u, u.fld (TK_SEQ.RX x) = (s.fld (TK_SEQ.RX x) + 1) % 65536 ∧ u.mem = s.mem ∧
      (resv = true ∨ headerBad f = true → acceptFrame s x f resv = malformed u x) ∧
      (resv = false → headerBad f = false → f.ackV = false → policed s f = false → f.ty ≠ 6 →
        acceptFrame s x f resv = (if strangeMsg f = true then malformed (u.countWide (TK_RXFRM_LO.addr x) 1) x else
          (u.countWide (TK_RXFRM_LO.addr x) 1).modPort x fun p => { p with handed := some f }))) ∧
  (∀ (s : State) (x : Fin 2) (ack : BitVec 16), exec (.linkAckRx x ack) s =
    .next (if portOn s x = true ∧ portCode s x ≠ 0 then applyAck s x ack.toNat else s)) ∧
  (∀ (s : State) (x : Fin 2), exec (.linkAckTx x) s =
    .next (if portOn s x = true ∧ portCode s x ≠ 0 ∧ (s.port x).ackDue = true then
      pushLink (s.modPort x fun p => { p with ackDue := false }) x (linkFrame 8 1 0) else s)) ∧
  (∀ (s : State) (x : Fin 2), exec (.maskMarkerTimeout x) s =
    .next (if portOn s x = true ∧ (s.port x).maskWait = true then retrainLanes s x else s)) ∧
  (∀ (s : State) (x : Fin 2), exec (.resyncRetry x) s =
    .next (if portOn s x = false ∨ s.bit (TK_STATUS.RESYNC x) = false ∨ (s.port x).defer = true then s
      else if 8 ≤ (s.port x).nreq then retrainLanes s x
      else pushLink (s.modPort x fun p => { p with nreq := p.nreq + 1 }) x
        (resyncReq (s.modPort x fun p => { p with nreq := p.nreq + 1 }) x))) ∧
  (∀ (s : State) (x : Fin 2) (next rseq : BitVec 16), portOn s x = false ∨ portCode s x = 0 →
    exec (.resyncReqRx x next rseq) s = .next s) ∧
  (∀ (s : State) (x : Fin 2) (next rseq : BitVec 16) (n lost : Nat), portOn s x = true → portCode s x ≠ 0 →
    (s.port x).answered = some (n, rseq.toNat, lost) →
    exec (.resyncReqRx x next rseq) s =
      .next (pushLink s x (linkFrame 9 1 (n + 2 ^ 16 * rseq.toNat + 2 ^ 32 * lost)))) ∧
  (∀ (s : State) (x : Fin 2) (next rseq : BitVec 16) (tx old below ahead n lost : Nat) (u : State),
    tx = s.fld (TK_SEQ.TX x) → old = (match (s.port x).held with | e :: _ => e.1 | [] => tx) →
    below = (old + 65536 - next.toNat) % 65536 → ahead = (next.toNat + 65536 - tx) % 65536 →
    (n, lost) = (if 0 < below ∧ below < 32768 then (old, below)
      else if 0 < ahead ∧ ahead < 32768 then (tx, 0) else (next.toNat, 0)) →
    u = (if (0 < below ∧ below < 32768) ∨ (0 < ahead ∧ ahead < 32768) then
      bark (s.count (TK_CNT2.LINKERR x)) Src.TRK_PROTO else s) →
    portOn s x = true → portCode s x ≠ 0 → (∀ q, (s.port x).answered = some q → q.2.1 ≠ rseq.toNat) →
    exec (.resyncReqRx x next rseq) s =
      .next (pushLink (u.modPort x fun p => { p with answered := some (n, rseq.toNat, lost), pos := Nat.min (s.port x).held.length ((n + 65536 - old) % 65536) })
        x (linkFrame 9 1 (n + 2 ^ 16 * rseq.toNat + 2 ^ 32 * lost)))) ∧
  (∀ (s : State) (x : Fin 2) (next rseq lost : BitVec 16) (u v : State),
    u = (s.setBit (TK_STATUS.RESYNC x) false).setFld (TK_SEQ.RX x) next.toNat →
    v = ((u.count (TK_CNT2.LOST x) lost.toNat).count (TK_CNT.RESYNC x)).modPort x (fun p => { p with ackDue := true }) →
    exec (.resyncAckRx x next rseq lost) s = .next (if portOn s x = false ∨ portCode s x = 0 then s
      else if s.bit (TK_STATUS.RESYNC x) = true ∧ (s.port x).defer = false ∧ (s.port x).rseq = rseq.toNat then
        bark (tkIrq v x (TK_IRQ.RESYNC x)) Src.TRK_SEQ
      else s.count (TK_CNT2.RSEQERR x)))

/-- O31 (R398, R404, R411, R412, R413, R414, R415, R417). For every well-formed frame, destination and SEQ, the bytes sent
have the length that LEN gives and no reserved bit set, read back as the same frame, and carry the CRC that the
receiver computes with the same folded destination, SEQ and address; folding another SEQ of 16 bits changes the block
that the CRC covers. The frame is 4 + LEN blocks, a start block and data blocks, START left out and put back; a
receiver between frames takes those blocks up as exactly that one frame, with no framing error. The descrambler undoes
the scrambler, and the blocks of a stream striped over a lane or both are those that the receiver takes from the
lanes. -/
def Obligations.FrameRoundTrip : Prop :=
  (∀ (f : Frame) (dst seq : Nat), f.wf = true →
    frameOfBytes (wireBytes f dst seq) = f ∧ lengthOk (wireBytes f dst seq) = true ∧
    reservedSet (wireBytes f dst seq) = false ∧ crcOk (wireBytes f dst seq) dst seq (foldAddr f.ty f.addr) = true ∧
    (wireBytes f dst seq).length = 32 + f.payload.length) ∧
  (∀ dst seq seq' addr : Nat, seq < 65536 → seq' < 65536 → foldBlock dst seq addr = foldBlock dst seq' addr → seq = seq') ∧
  (∀ (f : Frame) (dst seq : Nat), f.wf = true →
    (frameBlks (wireBytes f dst seq)).length = 4 + fwords f ∧ blksFrame (frameBlks (wireBytes f dst seq)) = wireBytes f dst seq) ∧
  (∀ (f : Frame) (dst seq : Nat) (s : State) (whole : State → List Byte → State) (bad : State → State), f.wf = true →
    takeBlks whole bad s [] (frameBlks (wireBytes f dst seq)) = (whole s (wireBytes f dst seq), [])) ∧
  (∀ (st : BitVec 58) (d : BitVec 64), descramble st (scramble st d).1 = (d, (scramble st d).2)) ∧
  (∀ (mask next : Nat) (s0 s1 : BitVec 58) (bs : List PcsBlk),
    destripe mask (fun _ => false) next s0 s1 ((stripe mask next s0 s1 bs).map fun w => w.2) = bs)

/-- O32 (R404, R418, R471, R474, R475, R476, R481, R482, R484, R488). At a frame boundary of a port that serves with a
lane in its stripe set, a marker pair that is due leaves first; then the oldest LINK or RESYNC frame, else the frame
next in the replay, else, where the replay buffer has room, the frame that the classes in order, gates, guard bands,
shapers and round robin select (the bypass while TKS is fenced), its bytes counted in its class; a class held back by
its guard band alone counts GUARD; else idle. A new frame takes the next SEQ, is held for replay, stamped, and is the
frame on the line. In other states only the record of what last left is cleared. The gate commands bring mill time to
the next cycle start, or the end of the gate entry, and the gates up to it, or change nothing where there is none or
TKS does not act; mill time does not go back. -/
def Obligations.EgressComplete : Prop :=
  (∀ (s : State) (x : Fin 2) (u : State), u = s.modPort x (fun p => { p with tx := none, line := [] }) →
    portOn u x = false ∨ streaming u x = false → exec (.schedulerSelect x) s = .next u) ∧
  (∀ (s : State) (x : Fin 2) (f : Frame) (rest : List Frame) (u v : State) (g : Frame) (w : State), u = s.modPort x (fun p => { p with tx := none, line := [] }) →
    v = (if markersDue u x then insertMarkers u x else u) →
    portOn u x = true → streaming u x = true → (v.port x).linkq = f :: rest → g = stamped v x f →
    w = putFrame (v.modPort x fun p => { p with linkq := rest }) x g 0xFFFF 0xFFFF →
    exec (.schedulerSelect x) s = .next (afterSend (frameSent w x { f := g, dst := 0xFFFF }) x)) ∧
  (∀ (s : State) (x : Fin 2) (n : Nat) (e : EgFrame) (u v : State) (g : EgFrame) (w : State), u = s.modPort x (fun p => { p with tx := none, line := [] }) →
    v = (if markersDue u x then insertMarkers u x else u) →
    portOn u x = true → streaming u x = true → (v.port x).linkq = [] → (v.port x).held[(v.port x).pos]? = some (n, e) →
    g = { e with f := stamped v x e.f } →
    w = putFrame (v.modPort x fun p => { p with pos := p.pos + 1 }) x g.f g.dst n →
    exec (.schedulerSelect x) s = .next (afterSend (frameSent w x g) x)) ∧
  (∀ (s : State) (x : Fin 2) (u v w : State), u = s.modPort x (fun p => { p with tx := none, line := [] }) →
    v = (if markersDue u x then insertMarkers u x else u) → w = refreshGates v x →
    portOn u x = true → streaming u x = true → (v.port x).linkq = [] → (v.port x).held[(v.port x).pos]? = none →
    (mayTransmit v x = false ∨ v.inUnitReset 17 = true → exec (.schedulerSelect x) s = .next (afterSend v x)) ∧
    (mayTransmit v x = true → v.inUnitReset 17 = false → v.fenced fenceTKS = true →
      (selectBypass v x [0, 1, 2] = none → exec (.schedulerSelect x) s = .next (afterSend v x)) ∧
      (∀ y e, selectBypass v x [0, 1, 2] = some (y, e) → exec (.schedulerSelect x) s = .next (afterSend (transmit y x e) x))) ∧
    (mayTransmit v x = true → v.inUnitReset 17 = false → v.fenced fenceTKS = false →
      (selectFrom w x [0, 1, 2, 3, 4, 5] = none → exec (.schedulerSelect x) s =
        .next (afterSend (if guardDefers w x 6 then w.count (TKS_CNT.GUARD x) else w) x)) ∧
      (∀ y e z, selectFrom w x [0, 1, 2, 3, 4, 5] = some (y, e) →
        z = (if guardDefers w x e.f.cls then y.count (TKS_CNT.GUARD x) else y) →
        exec (.schedulerSelect x) s =
          .next (afterSend (transmit (z.countWide (TKS_TXB_LO.addr x e.f.cls) (fsize e.f)) x e) x)))) ∧
  (∀ (s : State) (x : Nat) (e : EgFrame), x < s.tk.length → (s.port x).pos = (s.port x).held.length → e.use = .plain →
    tenantOf s e.dst = none →
    ∃ u, transmit s x e = u ∧ u.fld (TK_SEQ.TX x) = (s.fld (TK_SEQ.TX x) + 1) % 65536 ∧
      (u.port x).held = (s.port x).held ++ [(s.fld (TK_SEQ.TX x), { f := stamped s x e.f, dst := e.dst })] ∧
      (u.port x).tx = some { e with f := stamped s x e.f } ∧ u.mem = s.mem) ∧
  (∀ (s : State) (x : Fin 2), exec (.gateCycleStart x) s = .next (match nextCycle s x with
    | some t => if s.running = true ∧ s.fenced fenceTKS = false then refreshGates (s.advanceTo t) x else s
    | none => s)) ∧
  (∀ (s : State) (x : Fin 2) (v : Nat × Nat × Nat), gateView (gatesOf s x) s.tim.now = v →
    exec (.gateEntryChange x) s = .next (if s.running = true ∧ s.fenced fenceTKS = false ∧ v.2.2 < gateForever then
      refreshGates (s.advanceTo (s.tim.now + v.2.2)) x else s)) ∧
  (∀ (s : State) (t : Nat), s.tim.now ≤ (s.advanceTo t).tim.now)

/-- O33 (R433, R435, R436, R437, R438, R441, R447, R448, R450, R460, R465, R466). A read, a posted or non-posted write, a
DOORBELL and a STOP that a working port hands over are MALFORMED where they break their form. A request of a node that
no tenant holds raises TRK_UNBOUND, and a non-posted one is answered NO_TENANT (5) within the rate, any other dropped
and counted. One of a bound tenant consumes credit: a second use of an outstanding tag counts TAGDUP, one beyond
credit counts CREDIT and is answered BUSY (6) where it is non-posted, holding its tag and no credit; any other holds
its credits and tag, is judged, joins the requests in order, and is performed at once where the ordering rules let it:
a DOORBELL enters the mailbox or is dropped and counted, and the address says which of registers, rack or memory takes
another, or that none does. REQUEST_PERFORM performs the first waiting request of an order that may run. STOP with
STOP_EN drives the trip path and without it counts and raises TEN_PERM. On a port that does not work nothing changes. -/
def Obligations.TenantRequestsComplete : Prop :=
  (∀ (s : State) (x : Fin 2) (f : Frame) (ecc : List (Fin 3)) (g : Frame), g = { f with ty := 0 } →
    exec (.rdReqRx x f ecc) s = .next (if portOn s x = false then s
      else if transBad g then malformed s x else takeReq 0 x ecc g s)) ∧
  (∀ (s : State) (x : Fin 2) (f g : Frame), g = { f with ty := 2 } →
    exec (.wrPostRx x f) s = .next (if portOn s x = false then s
      else if transBad g then malformed s x else takeReq 1 x [] g s)) ∧
  (∀ (s : State) (x : Fin 2) (f g : Frame), g = { f with ty := 3 } →
    exec (.wrNpRx x f) s = .next (if portOn s x = false then s
      else if transBad g then malformed s x else takeReq 2 x [] g s)) ∧
  (∀ (s : State) (x : Fin 2) (f g : Frame), g = { f with ty := 5, sub := 8 } →
    exec (.doorbellRx x f) s = .next (if portOn s x = false then s
      else if transBad g then malformed s x else takeReq 3 x [] g s)) ∧
  (∀ (s : State) (k : Nat) (x : Fin 2) (ecc : List (Fin 3)) (g : Frame), tenantOf s g.src = none →
    takeReq k x ecc g s = unbound x g s) ∧
  (∀ (s : State) (k : Nat) (x : Fin 2) (ecc : List (Fin 3)) (g : Frame) (t : Nat), tenantOf s g.src = some t →
    k = 0 ∨ k = 2 → (tenOf s t).tags.contains g.tag = true →
    takeReq k x ecc g s = reqViolation (consume s t (creditNeed g)) (TEN_T_CNT.TAGDUP t)) ∧
  (∀ (s : State) (k : Nat) (x : Fin 2) (ecc : List (Fin 3)) (g : Frame) (t : Nat) (u : State) (r : Req), tenantOf s g.src = some t →
    k ≠ 0 ∧ k ≠ 2 ∨ (tenOf s t).tags.contains g.tag = false → overCredit s t (creditNeed g) = true →
    u = reqViolation (consume s t (creditNeed g)) (TEN_T_CNT.CREDIT t) →
    r = { id := u.th.nextId, t := t, x := x, kind := k, f := g } →
    takeReq k x ecc g s = (if k = 0 ∨ k = 2 then finishReq (addReq (busyTag u t g.tag) r) r.id 6 [] 0 else u)) ∧
  (∀ (s : State) (k : Nat) (x : Fin 2) (ecc : List (Fin 3)) (g : Frame) (t : Nat) (r : Req) (u v : State), tenantOf s g.src = some t →
    k ≠ 0 ∧ k ≠ 2 ∨ (tenOf s t).tags.contains g.tag = false → overCredit s t (creditNeed g) = false →
    r = rackJudged s { id := s.th.nextId, t := t, x := x, kind := k, f := g, target := (reqTarget s t k g).1, ordered := (reqTarget s t k g).2, allowed := reqAllowed s t k g } →
    u = consume s t (creditNeed g) →
    v = addReq (if k = 0 ∨ k = 2 then holdTag u t g.tag else holdPosted u t (fwords g)) r →
    takeReq k x ecc g s = (if mayRun v r then performReq v r ecc else v)) ∧
  (∀ (s : State) (r : Req) (ecc : List (Fin 3)) (u : State),
    u = s.modTh (fun h => { h with reqs := h.reqs.map fun q => if q.id = r.id then { q with started := true } else q }) →
    performReq s r ecc = (if r.kind = 3 then finishReq (placeDoorbell u r.t r.f) r.id 0 [] 0
      else match reqRow r.f with
        | none => finishReq (decodeRefusal u r.t).1 r.id (decodeRefusal u r.t).2 [] 0
        | some .regs => performRegs u r
        | some .rack => performRack u r
        | some row => performMem u r row ecc)) ∧
  (∀ (s : State) (t : Fin 4) (f : Frame), placeDoorbell s t f =
    (if s.bit (TEN_T_CFG.DOORBELL t) = true ∧ (tenOf s t).mbox.length < 16 then
      tenIrq (showMailbox (s.modTen t fun h => { h with mbox := h.mbox ++ [(f.aux, f.payload)] }) t) TEN_IRQ.MB t
    else s.count (TEN_T_CNT.MSGDROP t))) ∧
  (∀ (s : State) (x : Fin 2) (f : Frame), exec (.unboundRequestRx x f) s =
    .next (if portOn s x = false ∨ tenantOf s f.src ≠ none ∨ ¬ (f.ty = 0 ∨ f.ty = 2 ∨ f.ty = 3 ∨ (f.ty = 5 ∧ f.sub < 11)) then s
      else if transBad f then malformed s x else unbound x f s)) ∧
  (∀ (s : State) (x : Fin 2) (g : Frame) (u v w : State), u = bark s Src.TRK_UNBOUND →
    v = u.modTh (fun h => { h with unb := modAt h.unb x fun _ => (unboundLevel u x - 1000000000, u.uptime) }) →
    w = u.modTh (fun h => { h with unb := modAt h.unb x fun _ => (unboundLevel u x, u.uptime) }) →
    unbound x g s = (if (g.ty = 0 ∨ g.ty = 3) ∧ 1000000000 ≤ unboundLevel u x then
        enqueue (v.count TEN_CNT.UNB_ANS) x 4 { f := cplFrame g 5 [] 0, dst := g.src }
      else w.count TEN_CNT.UNB_DROP)) ∧
  (∀ (s : State) (t : Fin 4) (x : Fin 2) (oid : Fin 64) (ecc : List (Fin 3)) (q : Option Req),
    q = s.th.reqs.find? (fun r => r.t == t.val && r.x == x.val && r.f.oid == oid.val && !r.started && r.ans.isNone && mayRun s r) →
    exec (.requestPerform t x oid ecc) s =
      .next (match q with | some r => if s.running then performReq s r ecc else s | none => s)) ∧
  (∀ (s : State) (x : Fin 2) (f g : Frame), g = { f with ty := 5, sub := 9 } →
    exec (.stopRx x f) s = .next (if portOn s x = false then s
      else if transBad g then malformed s x else takeStop x g s)) ∧
  (∀ (s : State) (x : Fin 2) (g : Frame), tenantOf s g.src = none → takeStop x g s = unbound x g s) ∧
  (∀ (s : State) (x : Fin 2) (g : Frame) (t : Nat) (u : State), tenantOf s g.src = some t → u = consume s t (creditNeed g) →
    takeStop x g s = (if overCredit s t (creditNeed g) then reqViolation u (TEN_T_CNT.CREDIT t)
      else if u.bit (TEN_T_CFG.STOP_EN t) then trunkStop u t (leAt g.payload 0 2)
      else bark (u.count (TEN_T_CNT.MSGDROP t)) Src.TEN_PERM t))

/-- O34 (R439, R440, R441, R442, R443, R454, R455, R456, R457, R458, R459). Binding messages that a working port hands
over are MALFORMED where they break their form, and one of a bound node takes credit. A BIND_REQ within 10 ms of the
last accepted one or in the lockout only counts; one that the tenant's registers, key, fence or mode do not allow is
answered BIND_DONE with REFUSED (4), one during an exchange with BUSY (6); any other starts the exchange and is
answered BIND_CHAL with a free nonce and its MAC. A proof with the right MAC binds the tenant, its credits fresh, and
is answered OK where it is still allowed and REFUSED where it is not; a wrong one counts, raises TEN_BIND of the
tenant, locks out and is answered DENIED (2); one that no exchange of its node waits for says nothing. The proof's
timeout ends the exchange; UNBIND of its own tenant (REFUSED for another) and the idle timeout end the binding. A
host's CREDIT sets its limits; the node's goes out where one is owed or a limit has advanced and none is queued. SVC
and LOCAL stage a key in words of 4 bytes and commit it: REFUSED (4) for others and while BUSY, result INCOMPLETE (3),
LOCKED (4), REFUSED (2), or running; its end stores the key, shows OK (1) and ends the binding, or REFUSED while
Heartwood is fenced. -/
def Obligations.TenantBindingComplete : Prop :=
  (∀ (s : State) (x : Fin 2) (f g : Frame), g = { f with ty := 5, sub := 12 } →
    exec (.bindReqRx x f) s = .next (if portOn s x = false then s
      else if transBad g then malformed s x else msgCredit g s (bindReq x g))) ∧
  (∀ (s : State) (x : Fin 2) (f g : Frame), g = { f with ty := 5, sub := 14 } →
    exec (.bindProofRx x f) s = .next (if portOn s x = false then s
      else if transBad g then malformed s x else msgCredit g s (bindProof x g))) ∧
  (∀ (s : State) (x : Fin 2) (f g : Frame), g = { f with ty := 5, sub := 11 } →
    exec (.unbindRx x f) s = .next (if portOn s x = false then s
      else if transBad g then malformed s x else msgCredit g s fun u =>
        if tenantOf u g.src = some g.aux then bindDone (unbindTenant u g.aux) x g.src g.aux 0 true
        else bindDone u x g.src g.aux 4 true)) ∧
  (∀ (s : State) (g : Frame) (go : State → State), tenantOf s g.src = none → msgCredit g s go = go s) ∧
  (∀ (s : State) (g : Frame) (go : State → State) (t : Nat) (u : State), tenantOf s g.src = some t → u = consume s t (creditNeed g) →
    msgCredit g s go = (if overCredit s t (creditNeed g) then reqViolation u (TEN_T_CNT.CREDIT t) else go u)) ∧
  (∀ (s : State) (x : Fin 2) (g : Frame) (u v : State) (n : Nat) (e : BindEx),
    u = s.modTen g.aux (fun h => { h with lastReq := some s.uptime }) → (n, v) = u.fresh →
    e = { node := g.src, port := x, nh := g.payload, nn := toLE 16 n } →
    bindReq x g s = (if (tenOf s g.aux).lockout = true ∨ (∃ w ∈ (tenOf s g.aux).lastReq, s.uptime < w + 10000000) then
        s.count (TEN_T_CNT2.BINDFAIL g.aux)
      else if bindAllowed s g.aux g.src = false then bindDone s x g.src g.aux 4 false
      else if (tenOf s g.aux).exch.isSome then bindDone s x g.src g.aux 6 false
      else sendBind (setExch v g.aux (some e)) x g.src (msgFrame 13 5 (e.nn ++ bindMac v g.aux 0x4E e) g.aux))) ∧
  (∀ (s : State) (x : Fin 2) (g : Frame), (∀ e, (tenOf s g.aux).exch = some e → e.node ≠ g.src) → bindProof x g s = s) ∧
  (∀ (s : State) (x : Fin 2) (g : Frame) (e : BindEx) (u v : State), (tenOf s g.aux).exch = some e → e.node = g.src →
    u = setExch s g.aux none → v = bark (u.count (TEN_T_CNT2.BINDFAIL g.aux)) Src.TEN_BIND g.aux →
    bindProof x g s = (if g.payload ≠ bindMac u g.aux 0x48 e then
        bindDone (v.modTen g.aux fun h => { h with lockout := true }) x e.node g.aux 2 false
      else if bindAllowed u g.aux e.node then bindDone (bindNow u g.aux e.node) x e.node g.aux 0 false
      else bindDone u x e.node g.aux 4 false)) ∧
  (∀ (s : State) (t : Fin 4) (n : Fin 65536), t.val < s.th.ten.length → bound (bindNow s t n) t = true ∧
    (bindNow s t n).fld (TEN_T_BIND.NODE_ID t) = n ∧ (bindNow s t n).word (TEN_T_CRED.addr t) = 0 ∧
    (tenOf (bindNow s t n) t).owed = true ∧ (tenOf (bindNow s t n) t).tags = []) ∧
  (∀ (s : State) (t : Fin 4), exec (.bindProofTimeout t) s = .next (if s.running = true ∧ (tenOf s t).exch.isSome = true then
    bark ((setExch s t none).count (TEN_T_CNT2.BINDFAIL t)) Src.TEN_BIND t else s)) ∧
  (∀ (s : State) (t : Fin 4), exec (.bindLockoutEnd t) s = .next (s.modTen t fun h => { h with lockout := false })) ∧
  (∀ (s : State) (t : Fin 4), exec (.tenantIdleTimeout t) s =
    .next (if s.running = true ∧ bound s t = true ∧ s.fld (TEN_T_CFG.IDLE_S t) ≠ 0 then
      unbindTenant (s.runTo ((tenOf s t).heard + s.fld (TEN_T_CFG.IDLE_S t) * 1000000000)) t else s)) ∧
  (∀ (s : State) (x : Fin 2) (f g : Frame), g = { f with ty := 7 } →
    exec (.creditRx x f) s = .next (if portOn s x = false then s else if transBad g then malformed s x
      else match tenantOf s g.src with
        | some t => s.modTen t fun h => { h with hostLim := some (leAt g.payload 0 2, leAt g.payload 2 2) }
        | none => s)) ∧
  (∀ (s : State) (t : Fin 4) (l : Nat × Nat × Nat) (f : Frame), l = creditLimits s t →
    f = { ty := 7, cls := 1, fbe := 0xFF, payload := toLE 8 (l.2.1 + 2 ^ 16 * l.2.2 + 2 ^ 32 * l.1) } →
    exec (.creditTx t) s = .next (if s.running = true ∧ bound s t = true ∧ ((tenOf s t).owed = true ∨ l ≠ (tenOf s t).sent) ∧
        ((tcQueue s 0 ++ tcQueue s 1).any fun e => e.f.ty == 7 && e.dst == s.fld (TEN_T_BIND.NODE_ID t)) = false then
      toHost (s.modTen t fun h => { h with owed := false }) t f .plain else s)) ∧
  (∀ (s : State) (t : Fin 8) (v : Word) (u : State), Lets s t SEC_TKEY_DATA.addr true →
    u = s.modTh (fun h => { h with stag := modAt h.stag (t - 6) fun l => if 8 ≤ l.length then [v] else l ++ [v] }) →
    exec (.tkeyDataWrite t v) s = .next (if t.val < 6 then written s t 4 else written u t 0)) ∧
  (∀ (s : State) (t : Fin 8) (h : Fin 4) (u : State) (key : List Byte) (w : State), Lets s t SEC_TKEY_CTRL.addr true →
    u = s.setWord SEC_TKEY_CTRL.addr (BitVec.ofNat 32 h) →
    key = ((s.th.stag.getD (t - 6) []).map fun w => toLE 4 w.toNat).flatten →
    w = u.modTh (fun m => { m with commit := some (h, key), stag := modAt m.stag (t - 6) fun _ => [] }) →
    exec (.tkeyCommit t h) s = .next (if t.val < 6 ∨ s.bit SEC_TKEY_STAT.BUSY = true then written s t 4
      else if (s.th.stag.getD (t - 6) []).length < 8 then written (u.setFld SEC_TKEY_STAT.RESULT 3) t 0
      else if u.bitAt HWD_KEYS_LOCK.LOCKED (1 + h) then written (u.setFld SEC_TKEY_STAT.RESULT 4) t 0
      else if u.up fenceHWD = false ∨ u.hwd.closed = true then written (u.setFld SEC_TKEY_STAT.RESULT 2) t 0
      else written ((w.setFld SEC_TKEY_STAT.RESULT 0).setBit SEC_TKEY_STAT.BUSY true) t 0)) ∧
  (∀ s : State, exec .tkeyCommitDone s = .next (finishKeyCommit s)) ∧
  (∀ s : State, s.th.commit = none → finishKeyCommit s = s) ∧
  (∀ (s : State) (t : Fin 4) (key : List Byte), s.th.commit = some (t.val, key) →
    (s.fenced fenceHWD = true → (finishKeyCommit s).fld SEC_TKEY_STAT.RESULT = 2) ∧
    (s.fenced fenceHWD = false → ∃ u, finishKeyCommit s = unbindTenant u t ∧ u.bitAt SEC_TKEY_STAT.PRESENT t = true ∧
      u.fld SEC_TKEY_STAT.RESULT = 1 ∧ u.bit SEC_TKEY_STAT.BUSY = false))

/-- O35 (R433, R446, R464, R466, R467, R468). LOCAL's GO in an idle slot writes its fields and sends the request that OP
names, the slot BUSY; any other tenant's write is REFUSED (4), as is GO while BUSY; GO for a tenant not bound ends
NOT_BOUND (4), on a port that is DOWN PORT_DOWN (5), and a message on a closed route is counted and ends NOT_BOUND. A
completion of an outstanding own request ends its slot, where it has one: MALFORMED (6) where it does not answer the
request, else with its status (3), or OK (1) with a read's data stored in the slot's place of the capture store, which
write-locked bytes turn into DENIED (2); one of a request that has timed out counts LATE and raises it; one for any
other tag counts UNEXP of the sender's tenant and raises TRK_PROTO; a malformed one is MALFORMED. The timeout ends the
slot with TIMEOUT (2); 10 ms without host credit end it NO_CREDIT (7) and take its frame from the queue; POP of 1
removes the mailbox's head. Where a command does not apply nothing changes. -/
def Obligations.RequestSlotsComplete : Prop :=
  (∀ (s : State) (t : Fin 8) (q : Fin 4) (v : Word), Lets s t (TEN_HRQ_CTRL.addr q) true →
    (exec (.hrqRead t q v) s = .next (if t.val ≠ 7 ∨ s.bit (TEN_HRQ_STAT.BUSY q) = true then written s t 4
      else written (hrqGo (s.setWord (TEN_HRQ_CTRL.addr q) (wordSet (wordSet v 0 2 0) 31 1 1 &&& 0x7FFFFFFF)) q) t 0)) ∧
    (exec (.hrqWriteNp t q v) s = .next (if t.val ≠ 7 ∨ s.bit (TEN_HRQ_STAT.BUSY q) = true then written s t 4
      else written (hrqGo (s.setWord (TEN_HRQ_CTRL.addr q) (wordSet (wordSet v 0 2 1) 31 1 1 &&& 0x7FFFFFFF)) q) t 0)) ∧
    (exec (.hrqWritePost t q v) s = .next (if t.val ≠ 7 ∨ s.bit (TEN_HRQ_STAT.BUSY q) = true then written s t 4
      else written (hrqGo (s.setWord (TEN_HRQ_CTRL.addr q) (wordSet (wordSet v 0 2 2) 31 1 1 &&& 0x7FFFFFFF)) q) t 0)) ∧
    (exec (.hrqMsg t q v) s = .next (if t.val ≠ 7 ∨ s.bit (TEN_HRQ_STAT.BUSY q) = true then written s t 4
      else written (hrqGo (s.setWord (TEN_HRQ_CTRL.addr q) (wordSet (wordSet v 0 2 3) 31 1 1 &&& 0x7FFFFFFF)) q) t 0))) ∧
  (∀ (s : State) (q : Fin 4) (t : Nat) (u : State), t = s.fld (TEN_HRQ_CTRL.TENANT q) →
    u = (((s.setBit (TEN_HRQ_STAT.BUSY q) true).setFld (TEN_HRQ_STAT.RESULT q) 0).setFld (TEN_HRQ_STAT.RSTATUS q) 0).modTh
      (fun h => { h with slots := modAt h.slots q fun _ => (t, portFor s t) }) →
    (bound s t = false → hrqGo s q = endSlot u q 4) ∧
    (bound s t = true → portCode s (portFor s t) = 0 → hrqGo s q = endSlot u q 5) ∧
    (bound s t = true → portCode s (portFor s t) ≠ 0 → s.fld (TEN_HRQ_CTRL.OP q) = 3 → s.bit (TEN_T_CFG.FWMSG t) = false →
      hrqGo s q = endSlot (u.count (TEN_T_CNT.MSGDROP t)) q 4)) ∧
  (∀ (s : State) (x : Fin 2) (f : Frame), portOn s x = false ∨ (f.ty ≠ 1 ∧ f.ty ≠ 4) → exec (.completionRx x f) s = .next s) ∧
  (∀ (s : State) (x : Fin 2) (f : Frame) (g : OwnTag) (u : State), portOn s x = true → f.ty = 1 ∨ f.ty = 4 →
    SMap.get (fun _ => none) (s.port x).tags f.tag = some g → g.out = true →
    u = setTag s x f.tag { g with out := false, late := false } →
    (cplBad g f = true → exec (.completionRx x f) s =
      .next (match g.slot with | some q => endSlot (malformed u x) q 6 | none => malformed u x)) ∧
    (cplBad g f = false → exec (.completionRx x f) s =
      .next (match g.slot with | some q => slotAnswered u q g f | none => u))) ∧
  (∀ (s : State) (q : Nat) (g : OwnTag) (f : Frame) (bs : List Byte),
    bs = (if g.rd then f.payload.take (0x4000000 - g.buf) else []) →
    slotAnswered s q g f =
      (if f.status ≠ 0 then endSlot (s.setFld (TEN_HRQ_STAT.RSTATUS q) f.status) q 3
       else if bs ≠ [] ∧ (imageLocks s g.buf bs.length = true ∨ entryLocks s g.buf bs.length = true) then
         endSlot (s.setFld (TEN_HRQ_STAT.RSTATUS q) 2) q 3
       else endSlot (s.store g.buf bs) q 1)) ∧
  (∀ (s : State) (x : Fin 2) (f : Frame) (g : OwnTag) (u : State), portOn s x = true → f.ty = 1 ∨ f.ty = 4 →
    SMap.get (fun _ => none) (s.port x).tags f.tag = some g → g.out = false →
    u = setTag s x f.tag { g with out := false, late := false } →
    exec (.completionRx x f) s = .next (if transBad f then malformed s x
      else if g.late then bark (u.count (TEN_T_CNT2.LATE g.ten)) Src.LATE else completion.unexpected f s)) ∧
  (∀ (s : State) (x : Fin 2) (f : Frame), portOn s x = true → f.ty = 1 ∨ f.ty = 4 →
    SMap.get (fun _ => none) (s.port x).tags f.tag = none →
    exec (.completionRx x f) s = .next (if transBad f then malformed s x else completion.unexpected f s)) ∧
  (∀ (s : State) (f : Frame), completion.unexpected f s =
    bark (match tenantOf s f.src with | some t => s.count (TEN_T_CNT2.UNEXP t) | none => s) Src.TRK_PROTO) ∧
  (∀ (s : State) (x : Fin 2) (tag : Fin 1024) (g : OwnTag) (u : State),
    SMap.get (fun _ => none) (s.port x).tags tag = some g →
    u = setTag (s.runTo (g.sentAt + clampN 10 1000000 (s.fld TEN_CTO.US) * 1000)) x tag { g with out := false, late := true } →
    exec (.completionTimeout x tag) s = .next (if s.running = true ∧ g.out = true then
      (match g.slot with | some q => endSlot u q 2 | none => u) else s)) ∧
  (∀ (s : State) (x : Fin 2) (tag : Fin 1024), SMap.get (fun _ => none) (s.port x).tags tag = none →
    exec (.completionTimeout x tag) s = .next s) ∧
  (∀ (s : State) (q : Fin 4) (t : Nat) (mine : Nat → EgFrame → Bool), t = (s.th.slots.getD q (0, 0)).1 →
    mine = (fun u e => u == t && e.use == .slot q && !hostCreditOk s t e.f) →
    exec (.hrqCreditTimeout q) s = .next (if s.running = true ∧ s.bit (TEN_HRQ_STAT.BUSY q) = true ∧
        ((List.range 2).any fun x => (List.range 6).any fun c => (egQueue s (qkey x t c)).any (mine t)) = true then
      endSlot (emptyQueues (emptyQueues s 0 mine fun s _ => s) 1 mine fun s _ => s) q 7 else s)) ∧
  (∀ (s : State) (t : Fin 8) (m : Fin 4) (v : Word) (u : State), Lets s t (TEN_MB_POP.addr m) true →
    u = s.put (TEN_MB_POP.addr m) v →
    exec (.mailboxPop t m v) s = .next (written (if v.getLsbD 0 then
      showMailbox (u.modTen m fun h => { h with mbox := h.mbox.drop 1 }) m else u) t 0)) ∧
  (∀ (s : State) (q : Fin 4) (r : Nat), r < 8 →
    (s.bit (TEN_HRQ_STAT.BUSY q) = false → endSlot s q r = s) ∧
    (s.bit (TEN_HRQ_STAT.BUSY q) = true →
      ∃ u, endSlot s q r = tenIrq u TEN_IRQ.HRQ q ∧ u.bit (TEN_HRQ_STAT.BUSY q) = false ∧ u.fld (TEN_HRQ_STAT.RESULT q) = r))

/-- O36 (R508, R511, R512, R513, R514, R515, R517, R522, R524, R535, R537, R541). An active master-capable bridge that is
not hung, with a waiting request and no mastership, pulls BREQ low, once it has been released for 1 µs; a grant asked
for gives mastership; the arbitration timeout and a lost grant end the head request BUS_ERR (7) and count and raise
CRB_ARB, a lost grant only after a strobe in progress. The head request's next word is strobed, or the request ends
where it was cut. RDY takes the word: the request ends OK with its last word, goes on in its block or to its next
strobe, and ends BUS_ERR where it was cut or the grant is lost, UNIT_ERR (3) where the bridge stopped; BERR ends it
BUS_ERR and counts BERR_OUT, both at once a protocol violation; in an IACK cycle RDY forwards the vector; another
master's strobe only ends. The monitor's end answers BERR, counts TIMEOUT, raises CRB_TIMEOUT, and ends the strobe, an
IACK as spurious. A waiting non-posted request ends BUS_ERR at its deadline, one whose word is strobed is cut after
it. A held answer line sets HUNG, ends every request BUS_ERR and gives mastership up, and its release clears HUNG. In
any other state each changes nothing. -/
def Obligations.RackMastershipComplete : Prop :=
  (∀ s : State, exec .crbBusRequest s = .next (if crbActive s = true ∧ crbMaster s = true ∧ s.bit CRB_STATUS.MASTER = false ∧
      s.bit CRB_STATUS.HUNG = false ∧ s.crb.q ≠ [] ∧ (∀ r, s.crb.relAt = some r → r + 1000 ≤ s.uptime) then
      { s with crb := { s.crb with breq := true, reqAt := s.uptime } } else s)) ∧
  (∀ s u : State, u = s.setBit CRB_STATUS.MASTER true →
    exec .crbGrant s = .next (if landsCut s = false ∧ crbActive s = true ∧ s.crb.breq = true ∧ s.bit CRB_STATUS.MASTER = false then
      { u with crb := { u.crb with served := 0, lost := false } } else s)) ∧
  (∀ s r u : State, r = s.runTo (s.crb.reqAt + Nat.max 1 (s.fld CRB_CFG.ARB_US) * 1000) →
    u = { r with crb := { r.crb with breq := false, relAt := some r.uptime } } →
    exec .crbArbTimeout s = .next (if crbActive s = true ∧ s.crb.breq = true ∧ s.bit CRB_STATUS.MASTER = false then
      bark (crbIrq ((crbEndHead u 7).count CRB_CNT.ARB) CRB_IRQ.ARB) Src.CRB_ARB else s)) ∧
  (∀ s u : State, u = bark (crbIrq (s.count CRB_CNT.ARB) CRB_IRQ.ARB) Src.CRB_ARB →
    exec .crbGrantLost s = .next (if landsCut s = true ∨ s.bit CRB_STATUS.MASTER = false then s
      else if u.crb.cyc = .idle then crbRelease (crbEndHead u 7) else { u with crb := { u.crb with lost := true } })) ∧
  (∀ s : State, exec .crbOutboundCycle s = .next (if crbActive s = true ∧ s.bit CRB_STATUS.MASTER = true ∧
      s.bit CRB_STATUS.HUNG = false ∧ s.crb.cyc = .idle then
        (match s.crb.q with
          | r :: _ => if r.cut then crbEndHead s 7 else { s with crb := { s.crb with cyc := .data, dsAt := s.uptime } }
          | [] => s)
      else s)) ∧
  (∀ (s : State) (rdy berr : Bool) (d : BitVec 16), landsCut s = true ∨ (rdy = false ∧ berr = false) ∨ s.crb.cyc = .idle →
    exec (.crbSlaveAnswer rdy berr d) s = .next s) ∧
  (∀ (s : State) (rdy : Bool) (d : BitVec 16) (u : State), landsCut s = false →
    u = (if rdy then bark (s.count CRB_CNT.PROTO) Src.CRB_PROTO else s.count CRB_CNT.BERR_OUT) →
    (s.crb.cyc = .data → exec (.crbSlaveAnswer rdy true d) s = .next (crbWordFailed u)) ∧
    (∀ l, s.crb.cyc = .iack l → exec (.crbSlaveAnswer rdy true d) s = .next (crbIackOver u l)) ∧
    (s.crb.cyc = .foreign → exec (.crbSlaveAnswer rdy true d) s =
      .next ((if rdy then bark (s.count CRB_CNT.PROTO) Src.CRB_PROTO else s).modCrb fun c => { c with cyc := .idle }))) ∧
  (∀ (s : State) (d : BitVec 16), landsCut s = false →
    (s.crb.cyc = .data → exec (.crbSlaveAnswer true false d) s = .next (crbWordDone s d.toNat)) ∧
    (∀ l, s.crb.cyc = .iack l →
      exec (.crbSlaveAnswer true false d) s = .next (crbIackOver (crbForward s (d.toNat % 256) l) l)) ∧
    (s.crb.cyc = .foreign → exec (.crbSlaveAnswer true false d) s = .next { s with crb := { s.crb with cyc := .idle } })) ∧
  (∀ (s : State) (d : Nat) (r : CrbOut) (rest : List CrbOut) (a : Nat) (g : CrbOut) (u : State), s.crb.q = r :: rest →
    a = (match r.words with | w :: _ => w.addr | [] => 0) → g = takeRackWord r d →
    u = { s with crb := { s.crb with q := g :: rest } } →
    crbWordDone s d = (if g.words = [] then (if crbEnding s then crbRelease (crbEndHead u 0) else crbEndHead u 0)
      else if crbEnding s then crbRelease (crbEndHead u (if s.crb.stopping then 3 else 7))
      else if g.cut then crbEndHead u 7
      else if blockGoesOn g a then { u with crb := { u.crb with cyc := .data, dsAt := u.uptime } } else { u with crb := { u.crb with cyc := .idle } })) ∧
  (∀ s : State, crbWordFailed s = (if crbEnding s then crbRelease (crbEndHead s 7) else crbEndHead s 7)) ∧
  (∀ s r u v : State, r = s.runTo (s.crb.dsAt + Nat.max 4 (s.fld CRB_MON_TIMEOUT.US) * 1000) →
    u = { r with crb := { r.crb with ans := some (true, 0) } } → v = bark (u.count CRB_CNT.TIMEOUT) Src.CRB_TIMEOUT →
    exec .crbMonTimeout s = .next (if crbWatching s = false then s else match s.crb.cyc with
      | .idle => s
      | .data => crbWordFailed v
      | .foreign => { v with crb := { v.crb with cyc := .idle } }
      | .iack l => crbIackOver ((bark (crbIrq (v.count CRB_CNT2.SPUR) CRB_IRQ.SPUR) Src.CRB_PROTO).modCrb fun c =>
          { c with spurAt := modAt c.spurAt l fun _ => some v.uptime }) l)) ∧
  (∀ (s : State) (k : Fin 32), (∀ r, s.crb.q[k.val]? = some r → r.np = false) → exec (.crbStrobeDeadline k) s = .next s) ∧
  (∀ (s : State) (k : Fin 32) (r : CrbOut) (u : State), s.crb.q[k.val]? = some r → r.np = true →
    u = crbAdmit (crbEnd { s with crb := { s.crb with q := s.crb.q.eraseIdx k } } r 7) →
    exec (.crbStrobeDeadline k) s = .next (if k.val = 0 ∧ s.crb.cyc = .data then
        { s with crb := { s.crb with q := modAt s.crb.q 0 fun r => { r with cut := true } } }
      else if u.crb.q = [] ∧ u.crb.cyc = .idle then crbRelease u else u)) ∧
  (∀ s : State,
    exec (.crbHung true) s = .next (if landsCut s = true ∨ crbActive s = false ∨ s.bit CRB_STATUS.HUNG = true then s
      else crbRelease (crbEndAll (crbProto (crbIrq (s.setBit CRB_STATUS.HUNG true) CRB_IRQ.HUNG)) 7)) ∧
    exec (.crbHung false) s = .next (if landsCut s = true ∨ crbActive s = false then s else s.setBit CRB_STATUS.HUNG false))

/-- O37 (R515, R526, R527, R528, R529, R530, R531, R543). A strobe of another master takes the node's last answer away.
One that a window answers is a word of a cycle: the seventeenth word, or one past 32 bytes, ends a block write's bytes
so far, is a protocol violation and is answered BERR; a write joins its block or is buffered in a POSTED window, where
its bytes go to the window's internal addresses as its owner and it is answered RDY, room made by performing the
oldest; in a STRICT window it is performed after every buffered one and answered BERR where it fails; a one-word read
first performs every buffered write, and is answered with the bytes, 0 from a mailbox window, or BERR where the owner
may not read them or they come back lost, counted INFAIL. A buffered write is performed in order, whole or not at all.
A strobe that no window answers is left to the rack, and the running monitor times it; an answer with no strobe is a
protocol violation. In other states nothing changes. -/
def Obligations.RackInboundComplete : Prop :=
  (∀ (s : State) (a : BitVec 24) (n : Fin 64) (more wr ub lb : Bool) (d : BitVec 16) (ecc : List (Fin 3)), landsCut s = true →
    exec (.crbInboundCycle a n more wr ub lb d ecc) s = .next s) ∧
  (∀ (s : State) (a : BitVec 24) (n : Fin 64) (more wr ub lb : Bool) (d : BitVec 16) (ecc : List (Fin 3)) (b : Nat) (u : State),
    landsCut s = false → b = a.toNat / 2 * 2 → u = { s with crb := { s.crb with ans := none, drives := false, iackPass := true } } →
    (u.bit CRB_STATUS.MASTER = true → exec (.crbInboundCycle a n more wr ub lb d ecc) s = .next u) ∧
    (u.bit CRB_STATUS.MASTER = false → crbActive u = false ∨ crbSlave u = false ∨ iwFind u b = none →
      exec (.crbInboundCycle a n more wr ub lb d ecc) s =
        .next (if crbWatching u then { u with crb := { u.crb with cyc := .foreign, dsAt := u.uptime } } else u)) ∧
    (∀ w, u.bit CRB_STATUS.MASTER = false → crbActive u = true → crbSlave u = true → iwFind u b = some w →
      exec (.crbInboundCycle a n more wr ub lb d ecc) s = .next (
        if 16 ≤ n.val ∨ (b + 2 * n.val) / 32 ≠ b / 32 then
          crbAnswer (crbProto (if wr = true ∧ u.crb.blkIn ≠ [] then
            inWrite { u with crb := { u.crb with blkIn := [] } } w u.crb.blkIn else { u with crb := { u.crb with blkIn := [] } })) true 0
        else if wr then inWriteCycle u w b n more ub lb d.toNat else inReadCycle u w b n more ub lb ecc))) ∧
  (∀ (s : State) (a : BitVec 24) (ub lb : Bool) (d : BitVec 16) (ecc : List (Fin 3)) (w : Nat), landsCut s = false →
    s.bit CRB_STATUS.MASTER = false → crbActive s = true → crbSlave s = true → a.toNat % 2 = 0 → iwFind s a.toNat = some w →
    s.bit (CRB_IW_CFG.ORD w) = false → s.crb.inb.length < 16 →
    exec (.crbInboundCycle a 0 false true ub lb d ecc) s =
      .next { s with crb := { s.crb with
        blkIn := [], ans := some (false, 0), drives := false, iackPass := true,
        inb := s.crb.inb ++ [{ t := s.fld (CRB_IW_CFG.OWNER w)
                               bytes := ((if ub then [(iwTarget s w a.toNat, BitVec.ofNat 8 (d.toNat / 256))] else []) ++
                                 if lb then [(iwTarget s w (a.toNat + 1), BitVec.ofNat 8 d.toNat)] else [])
                               mbox := if s.bit (CRB_IW_CFG.KIND w) then some w else none }] } }) ∧
  (∀ (s : State) (w : Nat) (bytes : List (Nat × Byte)) (i : CrbIn) (u : State),
    i = { t := s.fld (CRB_IW_CFG.OWNER w), bytes := bytes, mbox := if s.bit (CRB_IW_CFG.KIND w) then some w else none } →
    u = (if 16 ≤ s.crb.inb.length then doCrbInboundPostedPerform s else s) →
    inWrite s w bytes = (if s.bit (CRB_IW_CFG.ORD w) then
        crbAnswer (inPerform (drainInbound s) i).1 (!(inPerform (drainInbound s) i).2) 0
      else crbAnswer { u with crb := { u.crb with inb := u.crb.inb ++ [i] } } false 0)) ∧
  (∀ (s : State) (a : BitVec 24) (d : BitVec 16) (ecc : List (Fin 3)) (w : Nat) (u : State) (own p q : Nat) (v : State × Nat),
    landsCut s = false → s.bit CRB_STATUS.MASTER = false → crbActive s = true → crbSlave s = true → a.toNat % 2 = 0 →
    iwFind s a.toNat = some w →
    u = (drainInbound (crbNextStrobe s)).modCrb (fun c => { c with ahead := none }) → own = u.fld (CRB_IW_CFG.OWNER w) →
    p = iwTarget u w a.toNat → q = iwTarget u w (a.toNat + 1) → v = eccReads u p ecc →
    exec (.crbInboundCycle a 0 false false true true d ecc) s =
      .next (if u.bit (CRB_IW_CFG.KIND w) then crbGive u 0
        else if inStatus u own [p, q] false ≠ 0 then crbAnswer (crbInFail u) true 0
        else if v.2 ≠ 0 then crbAnswer (crbInFail v.1) true 0
        else crbGive v.1 (256 * (v.1.byte (iwTarget v.1 w a.toNat)).toNat + (v.1.byte (iwTarget v.1 w (a.toNat + 1))).toNat))) ∧
  (∀ s : State, s.running = false ∨ s.crb.inb = [] → exec .crbInboundPostedPerform s = .next s) ∧
  (∀ (s : State) (i : CrbIn) (rest : List CrbIn) (u : State), s.running = true → s.crb.inb = i :: rest →
    u = { s with crb := { s.crb with inb := rest } } → exec .crbInboundPostedPerform s = .next (inPerform u i).1) ∧
  (∀ (s : State) (i : CrbIn), i.mbox = none →
    inPerform s i = (if inStatus s i.t (i.bytes.map fun p => p.1) true = 0 then
        (i.bytes.foldl (fun (s : State) p => s.store p.1 [p.2]) s, true)
      else (bark (s.count CRB_CNT2.INFAIL) Src.CRB_PROTO, false))) ∧
  (∀ (s : State) (i : CrbIn) (w : Nat), i.mbox = some w →
    inPerform s i = (if (mailboxWrite s w i.t i.bytes).2 then mailboxWrite s w i.t i.bytes
      else (bark ((mailboxWrite s w i.t i.bytes).1.count CRB_CNT2.INFAIL) Src.CRB_PROTO, false))) ∧
  (∀ s u : State, u = { s with crb := { s.crb with ans := none, drives := false, iackPass := true } } →
    exec .crbForeignStrobe s = .next (if landsCut s then s
      else if crbWatching u = true ∧ u.bit CRB_STATUS.MASTER = false ∧ u.crb.cyc = .idle then
        { u with crb := { u.crb with cyc := .foreign, dsAt := u.uptime } } else u)) ∧
  (∀ s : State, exec .crbAnswerWithoutStrobe s = .next (if landsCut s = false ∧ crbActive s = true ∧ s.crb.cyc = .idle then
      bark (s.count CRB_CNT.PROTO) Src.CRB_PROTO else s))

/-- O38 (R31, R504, R534, R535, R536, R538, R539, R540, R541). The lines as they read, in every running mode, are LINES,
and the time of each fall is kept; where the highest level low, handled, armed and within its sixteen IACKs of the
millisecond may be served, a handler that is not hung runs its IACK cycle if it holds the rack and the bus is idle,
and asks for the rack, once CRB_BREQ_N has been released for 1 µs, if not. After an IACK cycle a RORA level waits for
its release and mastership goes where no request waits. A vector that no entry enables counts UNMAPPED; one for LOCAL
enters the local FIFO and flags LVEC, or counts LDROP. Each millisecond renews the limit; a released line re-arms the
level; a line low is wake cause 20. The level's owner sets and clears CRB_IRQL_N, REFUSED (4) for others and for
setting a handled level, and without effect on a bridge that raises none; the IACK of a raised level releases it,
flags OUTACK and answers its vector, and any other passes down the chain; POP of 1 removes the head vector. A bridge
no longer active ends every request UNIT_ERR (3), but for one whose strobe is in progress, and releases its lines; on
an active one the command does nothing. -/
def Obligations.RackInterruptsComplete : Prop :=
  (∀ (s : State) (lines : BitVec 4) (u : State),
    u = (s.modCrb fun c => { c with lowAt := s.crb.lowAt.zipIdx.map (fun p =>
          if nbit lines.toNat p.2 && !nbit (s.fld CRB_STATUS.LINES) p.2 then s.tim.now else p.1) }).setFld CRB_STATUS.LINES lines.toNat →
    exec (.crbIrqServe lines) s = .next (if landsCut s = true ∨ s.running = false then s
      else if crbHandler u = false ∨ u.bit CRB_STATUS.HUNG = true then u
      else match [3, 2, 1, 0].find? (levelReady u) with
        | none => u
        | some l => if u.bit CRB_STATUS.MASTER = false then
            (if ∀ r, u.crb.relAt = some r → r + 1000 ≤ u.uptime then { u with crb := { u.crb with breq := true } } else u)
          else if u.crb.cyc = .idle then { u with crb := { u.crb with cyc := .iack l, dsAt := u.uptime, iacks := modAt u.crb.iacks l (· + 1) } }
          else u)) ∧
  (∀ (s : State) (l : Nat) (u v : State), u = { s with crb := { s.crb with cyc := .idle } } →
    v = (if u.bitAt CRB_IRQ_HANDLE.RORA l then { u with crb := { u.crb with waitHigh := setBit u.crb.waitHigh l } } else u) →
    crbIackOver s l = (if v.crb.q = [] ∨ crbEnding v = true then crbRelease v else v)) ∧
  (∀ (s : State) (v : Fin 256) (l : Fin 4), s.bit (CRB_VEC.EN v) = false → crbForward s v l = s.count CRB_CNT2.UNMAPPED) ∧
  (∀ (s : State) (v : Fin 256) (l : Fin 4), s.bit (CRB_VEC.EN v) = true → s.bit (CRB_VEC.LOCAL v) = true → s.fld (CRB_VEC.HOST v) = 0 →
    crbForward s v l = (if s.crb.lvec.length < 16 then
        crbIrq { s with crb := { s.crb with lvec := s.crb.lvec ++ [(v.val, l.val)] } } CRB_IRQ.LVEC
      else s.count CRB_CNT2.LDROP)) ∧
  (∀ s : State, exec .crbIackWindow s = .next { s with crb := { s.crb with iacks := [0, 0, 0, 0] } }) ∧
  (∀ s : State, exec .crbIrqWake s = .next (if landsCut s then s else senseCause s 20)) ∧
  (∀ (s : State) (t : Fin 8) (L : Fin 4) (u : State), Lets s t CRB_OUTIRQ_SET.addr true →
    u = s.put CRB_OUTIRQ_SET.addr (wordSet 0 L 1 1) →
    exec (.crbOutirqSet t L) s = .next (if crbInterrupter u = false then written u t 0
      else if u.fld (CRB_OUTIRQ_CFG.OWNER L) ≠ t.val ∨ u.bitAt CRB_IRQ_HANDLE.EN L = true then written u t 4
      else written (u.setBitAt CRB_STATUS.OUT L true) t 0)) ∧
  (∀ (s : State) (t : Fin 8) (L : Fin 4) (u : State), Lets s t CRB_OUTIRQ_SET.addr true →
    u = s.put CRB_OUTIRQ_SET.addr (wordSet 0 (4 + L) 1 1) →
    exec (.crbOutirqClear t L) s = .next (if crbInterrupter u = false then written u t 0
      else if u.fld (CRB_OUTIRQ_CFG.OWNER L) ≠ t.val then written u t 4
      else written (u.setBitAt CRB_STATUS.OUT L false) t 0)) ∧
  (∀ (s : State) (L : Fin 4) (u : State), u = plicRaise ((s.setBitAt CRB_STATUS.OUT L false).setBitAt CRB_IRQ.OUTACK L true) 20 →
    exec (.crbIackRespond L) s = .next (if landsCut s then s
      else if crbInterrupter s = true ∧ s.bitAt CRB_STATUS.OUT L = true then
        { u with crb := { u.crb with ans := some (false, u.fld (CRB_OUTIRQ_CFG.VECTOR L)), drives := true, iackPass := false } }
      else { s with crb := { s.crb with iackPass := true, ans := none, drives := false } })) ∧
  (∀ (s : State) (t : Fin 8) (v : Word) (u : State), Lets s t CRB_LVEC_POP.addr true → u = s.put CRB_LVEC_POP.addr v →
    exec (.crbLvecPop t v) s =
      .next (written (if nbit v.toNat 0 then { u with crb := { u.crb with lvec := u.crb.lvec.drop 1 } } else u) t 0)) ∧
  (∀ s : State, exec .crbBridgeDeactivate s = .next (if crbActive s then s else crbStop s)) ∧
  (∀ s u : State, crbStrobing s = false → u = crbRelease (crbEndAll s 3) →
    crbStop s = { u.setFld CRB_STATUS.OUT 0 with
      crb := { u.crb with stag := List.replicate 8 (List.replicate 44 0), ahead := none } }) ∧
  (∀ (s : State) (keep out : List CrbOut) (u v : State), crbStrobing s = true →
    keep = (if s.crb.cyc = .data then s.crb.q.take 1 else []) → out = (if s.crb.cyc = .data then s.crb.q.drop 1 else s.crb.q) →
    u = { s with crb := { s.crb with q := keep, stopping := true } } → v = out.foldl (fun s r => crbEnd s r 3) u →
    crbStop s = { v.setFld CRB_STATUS.OUT 0 with
      crb := { v.crb with stag := List.replicate 8 (List.replicate 44 0), ahead := none } }) ∧
  (∀ (s : State) (L : Fin 4) (u : State), u = s.setBitAt CRB_STATUS.LINES L false →
    exec (.crbIrqLineReleased L) s =
      .next (if landsCut s then s else { u with crb := { u.crb with waitHigh := clrBit u.crb.waitHigh L } }))

/-- O39 (R560, R565, R567, R570, R574, R576, R577, R579). A command of GRV_x_CMD does nothing beyond its write where the
port's sessions cannot run. ENUM starts the enumeration of an AWAKE port, and sends the wake tone first on one that is
OFF or ASLEEP; SLEEP starts the sleep agreement of an AWAKE port; WAKE sends a wake tone on an AWAKE, OFF or ASLEEP
one; BEACON starts a session of an AWAKE port, or marks it due while a command is on the line; in another state
nothing is sent. At NEXT an AWAKE port starts a session, or marks it due; at its instant one that is OFF or ASLEEP
does, with a tone first where WAKE_PEND is set. In RING the session is port A's. A session opens the check-in window,
awaits the BEACON's return, and has a SESSION one above the last. Log entry 13 names the choices. -/
def Obligations.GroveCommandsComplete : Prop :=
  (∀ (s : State) (t : Fin 8) (x : Fin 2) (y : Nat) (u v : State), Lets s t (GRV_CMD.addr x) true → u = s.put (GRV_CMD.addr x) 1 →
    v = grvClearSent u → y = grvSess u x →
    exec (.groveEnum t x) s = .next (written (if grvCan u y = false then u
      else if grvState u y = 2 then grvEnumStart v y
      else if grvState u y = 0 ∨ grvState u y = 4 then grvTone v y .enum else v) t 0)) ∧
  (∀ (s : State) (t : Fin 8) (x : Fin 2) (y : Nat) (u v : State), Lets s t (GRV_CMD.addr x) true → u = s.put (GRV_CMD.addr x) 2 →
    v = grvClearSent u → y = grvSess u x →
    exec (.groveSleep t x) s = .next (written (if grvCan u y = false then u
      else if grvState u y = 2 then grvSleepStart v y else v) t 0)) ∧
  (∀ (s : State) (t : Fin 8) (x : Fin 2) (y : Nat) (u v : State), Lets s t (GRV_CMD.addr x) true → u = s.put (GRV_CMD.addr x) 3 →
    v = grvClearSent u → y = grvSess u x →
    exec (.groveWake t x) s = .next (written (if grvCan u y = false then u
      else if grvState u y = 0 ∨ grvState u y = 2 ∨ grvState u y = 4 then grvTone v y .session else v) t 0)) ∧
  (∀ (s : State) (t : Fin 8) (x : Fin 2) (y : Nat) (u v : State), Lets s t (GRV_CMD.addr x) true → u = s.put (GRV_CMD.addr x) 4 →
    v = grvClearSent u → y = grvSess u x →
    exec (.groveBeacon t x) s = .next (written (if grvCan u y = false then u
      else if grvState u y ≠ 2 then v
      else if (v.gport x).cur.isSome then v.modGrv y fun g => { g with due := true } else grvStartSession v y) t 0)) ∧
  (∀ (s : State) (x : Fin 2) (y : Nat) (u v : State), y = grvSess s x → u = grvClearSent (s.advanceTo (grvInstant s y s.tim.now)) →
    v = grvClearSent (s.advanceTo (grvNext s y)) →
    exec (.groveSessionStart x) s = .next (if grvCan s y = false then s
      else if grvState s y = 0 ∨ grvState s y = 4 then (if grvWakePend u y then grvTone u y .session else grvStartSession u y)
      else if grvState s y = 2 ∧ s.tim.now ≤ grvNext s y then
        (if (v.gport y).cur.isSome then v.modGrv y fun g => { g with due := true } else grvStartSession v y)
      else s)) ∧
  (∀ (s : State) (x : Fin 2) (n : Word), grvSess s x = x → x.val < s.grv.length → n = schedWord s (9 + x) →
    ((grvStartSession s x).gport x).win = .window ∧ ((grvStartSession s x).gport x).wait = true ∧
    schedWord (grvStartSession s x) (9 + x) = n + 1 ∧ (grvStartSession s x).mem = s.mem)

/-- O40 (R563, R565, R567, R569, R584, R586). In CHAINS a BEACON that does not return makes the reach 0 and locates the
break, or ends the length of an enumeration; in RING it goes out on GB first, and where GB gives no return either the
break lies at GA's reach. A check-in window that ends with a Sapling missing starts the drift listen with a second
BEACON, and one with none missing ends the session; each millisecond of the listen repeats the BEACON; a late window
shuts. The end of the listen sends the recovery tone. A CHECKIN that comes in to an enabled port gets an entry and
raises GRV_ENUM outside an enumeration where it has no address, is unsolicited with no window open, and else clears
ABSENT and counts the Sapling in; with none missing the session ends. In other states nothing changes but what the
last command sent. The second BEACON and the repeats are the model's choice, log entry 13. -/
def Obligations.GroveSessionsComplete : Prop :=
  (∀ (s : State) (x : Fin 2) (u v : State), u = grvClearSent s → v = (u.modGrv x fun g => { g with wait := false }).setFld (GRV_STAT.LEN x) 0 →
    grvRing u = false →
    exec (.groveBeaconReturnTimeout x) s = .next (if (u.gport x).wait = false then u
      else if grvState v x = 1 then grvEnumLength v x 0 0 else grvAllIn (grvChainReach v x 0) x)) ∧
  (∀ (s : State) (x : Fin 2) (u : State) (ra : Nat) (v w : State), u = grvClearSent s → grvRing u = true →
    ra = (if u.bit (GRV_STAT.TURNED 0) then u.fld (GRV_STAT.LEN 0) else 0) →
    v = (u.modGrv 0 fun g => { g with wait := false }).modGrv 1 (fun g => { g with wait := false }) →
    w = (v.setFld (GRV_STAT.LEN 1) 0).setBit (GRV_STAT.TURNED 1) false →
    exec (.groveBeaconReturnTimeout x) s = .next (if (u.gport 0).wait = false then u
      else if (u.gport 1).wait = false then grvBeaconOn u 0 1
      else if grvState w 0 = 1 then grvEnumLength (w.modGrv 0 fun g => { g with broke := some (ra, 0) }) 0 ra 0
      else grvAllIn (grvLocate w ra 0) 0)) ∧
  (∀ (s : State) (x : Fin 2) (y : Nat) (u : State), grvSess s x = y → u = grvClearSent s →
    exec (.groveCheckinWindowEnd x) s = .next (if grvState s y = 0 then s else match (u.gport y).win with
      | .window => if (u.gport y).missing = [] then grvSessionEntry (u.modGrv y fun g => { g with win := .late }) y
          else grvBeaconSend (setGrvState (u.modGrv y fun g => { g with win := .listen, drift := g.missing, since := u.uptime }) y 6) y
      | .listen => grvBeaconSend u y
      | .late => u.modGrv y fun g => { g with win := .shut }
      | .shut => u)) ∧
  (∀ (s : State) (x : Fin 2) (y : Nat), y = grvSess s x → exec (.groveDriftListenEnd x) s =
    .next (if (s.gport y).win = .listen then grvTone (grvClearSent (s.runTo ((s.gport y).since + 3000 * (s.gport y).g))) y .recover else s)) ∧
  (∀ (s : State) (x : Fin 2) (f : GFrame) (u : State), u = (grvClearSent s).modGrv x (fun g => { g with handed := none }) →
    exec (.groveCheckinRx x f) s = .next (if grvUp s x = true ∧ grvState s x ≠ 0 ∧ f.ty = 0x41 ∧ hopMode f.hop = 0 then
      grvCheckin u x f else s)) ∧
  (∀ (s : State) (x : Fin 2) (f : GFrame) (u : State), hopVal f.hop = 0 →
    u = grvEntry s x f.ty f.hop 5 0 f.payload 0 (leAt f.payload 1 1) 0 →
    grvCheckin s x f = (if grvState u (grvSess s x) = 1 then u else bark u Src.GRV_ENUM x)) ∧
  (∀ (s : State) (x : Fin 2) (f : GFrame) (a y : Nat), hopVal f.hop = a → 0 < a → grvSess s x = y → (s.gport y).win = .shut →
    grvState s y ≠ 1 → grvCheckin s x f = grvUnsolicited s x a) ∧
  (∀ (s : State) (x : Fin 2) (f : GFrame) (a y : Nat) (u v : State), hopVal f.hop = a → 0 < a → leAt f.payload 0 1 / 2 % 4 = 0 →
    grvSess s x = y → (s.gport y).win ≠ .shut ∨ grvState s y = 1 → u = s.setBit (GRV_SAP_INFO.ABSENT (a - 1)) false →
    v = u.modGrv y (fun g =>
      { g with missing := g.missing.erase (a - 1), here := if g.here.contains (a - 1) then g.here else g.here ++ [a - 1] }) →
    grvCheckin s x f = grvAllIn v y) ∧
  (∀ (s : State) (y : Nat), grvAllIn s y = (if (s.gport y).win = .window ∧ (s.gport y).missing = [] then
    grvSessionEntry (s.modGrv y fun g => { g with win := .late }) y else s))

/-- O41 (R552, R553, R560, R561, R565, R568, R569, R587). An AWAKE port with no command on the line takes a frame that
cuts off a babbler, else a GRV_SAP access, else the next transmit entry, and else sends nothing; with no answer and
attempts left the frame goes again, and without any the command times out. A frame of bad line code, length or check
counts CRC and raises GRV_CRC; a BEACON that returns turned gives the reach, and unturned on GB in RING the whole
ring; another turned frame is counted; a well-formed answer with the expected fold is handed on and its counter goes
on. The awaited IDENT records the Sapling; the awaited answer ends its command, which writes its REPLY entry where it
came from one; a BURST_DATA gets an entry, FINAL or the gap timeout frees the slot; a frame that answers nothing in
progress is late or unsolicited. On a port that takes no frames nothing changes. -/
def Obligations.GroveTrafficComplete : Prop :=
  (∀ (s : State) (x : Fin 2) (u : State), u = grvClearSent s →
    exec (.groveTxEntry x) s = .next (if grvUp s x = false ∨ grvState s x ≠ 2 ∨ (s.gport x).cur.isSome = true then s
      else match (u.gport x).auto, grvSapWork u x with
        | c :: rest, _ => grvIssue (u.modGrv x fun g => { g with auto := rest }) x c true
        | [], some c => grvIssue u x c true
        | [], none => if grvTxWaiting u x then grvTakeEntry u x else u)) ∧
  (∀ (s : State) (x : Fin 2) (c : GCmd), grvIssue s x c true =
    (grvSend s x c.f).2.modGrv x fun g => { g with cur := some { c with seq := (grvSend s x c.f).1, sentAt := (grvSend s x c.f).2.uptime } }) ∧
  (∀ (s : State) (x : Fin 2), (s.gport x).cur = none →
    exec (.groveAnswerTimeout x) s = .next s ∧ exec (.groveBurstGapTimeout x) s = .next s) ∧
  (∀ (s : State) (x : Fin 2) (c : GCmd) (u : State), (s.gport x).cur = some c →
    u = grvClearSent (s.runTo (c.sentAt + Nat.max 1 (s.fld (GRV_CFG.RESP_US x)) * 10000 + 2500 * grvHopOf s c.f)) →
    exec (.groveAnswerTimeout x) s = .next (if c.burst then s
      else if c.tries < c.most then u.modGrv x fun g =>
        { g with cur := some { c with tries := c.tries + 1, sentAt := u.uptime }, sent := g.sent ++ [c.f] }
      else grvTimedOut u x c) ∧
    exec (.groveBurstGapTimeout x) s = .next (if c.burst then grvCmdEnd (grvClearSent s) x else s)) ∧
  (∀ (s : State) (x : Fin 2) (bad : Bool) (bs : List Byte), grvUp s x = false ∨ grvState s x = 0 →
    exec (.groveFrameRx x bad bs) s = .next s) ∧
  (∀ (s : State) (x : Fin 2) (bad : Bool) (bs : List Byte) (ty hop n crc : Nat) (pl : List Byte), grvUp s x = true → grvState s x ≠ 0 →
    ty = leAt bs 0 1 → hop = leAt bs 1 1 → n = leAt bs 2 1 → pl = slice bs 3 n → crc = beNat (slice bs (3 + n) 2) →
    exec (.groveFrameRx x bad bs) s = .next (
      if bad = true ∨ bs.length < 5 ∨ 64 < n ∨ bs.length ≠ 5 + n then bark (s.count (GRV_CNT.CRC x)) Src.GRV_CRC x
      else if ty % 128 = 1 then
        (if grvCrc 0x80 0 1 pl ≠ crc then bark (s.count (GRV_CNT.CRC x)) Src.GRV_CRC x
         else if 128 ≤ ty then grvTurned ((grvClearSent s).count (GRV_CNT2.TURNED x)) x (hopVal hop)
         else if grvRing s = true ∧ x.val = 1 ∧ hopMode hop = 2 then grvWhole (grvClearSent s) (hopVal hop)
         else s.count (GRV_CNT.MALF x))
      else if 128 ≤ ty then s.count (GRV_CNT2.TURNED x)
      else match grvFold s x ty hop crc pl with
        | none => bark (s.count (GRV_CNT.CRC x)) Src.GRV_CRC x
        | some q => grvTakeIn s x ty hop q.1 q.2 pl)) ∧
  (∀ (s : State) (x : Fin 2) (a ty : Nat) (pl : List Byte), grvUp s x = true → grvState s x ≠ 0 → 0 < a → a < 63 → ty < 128 →
    ty ≠ 0x42 → upLenOk ty pl.length = true → s.bit (GRV_SAP_INFO.PRESENT (a - 1)) = true →
    exec (.groveFrameRx x false (grvBytes ⟨ty, a, pl⟩ (SMap.get (fun _ => 0) (s.gport x).rx a))) s =
      .next ((s.modGrv x fun g =>
        { g with rx := SMap.set (fun _ => 0) g.rx a ((SMap.get (fun _ => 0) (s.gport x).rx a + 1) % 256) }).modGrv x
        fun g => { g with handed := some ⟨ty, a, pl⟩ })) ∧
  (∀ (s : State) (x : Fin 2) (f : GFrame) (ok : Bool) (u : State), u = (grvClearSent s).modGrv x (fun g => { g with handed := none }) →
    ok = (grvUp s x && decide (grvState s x ≠ 0) && decide (hopMode f.hop = 0)) →
    (ok = false ∨ f.ty ≠ 0x42 → exec (.groveIdentRx x f) s = .next s) ∧
    (ok = false ∨ f.ty ∉ [0x43, 0x44, 0x46, 0x47, 0x4A] → exec (.groveAnswerRx x f) s = .next s) ∧
    (ok = false ∨ f.ty ≠ 0x45 → exec (.groveBurstDataRx x f) s = .next s) ∧
    (ok = true → (u.gport x).cur = none →
      (f.ty = 0x42 → exec (.groveIdentRx x f) s = .next (grvStray u x f)) ∧
      (f.ty ∈ [0x43, 0x44, 0x46, 0x47, 0x4A] → exec (.groveAnswerRx x f) s = .next (grvStray u x f)) ∧
      (f.ty = 0x45 → exec (.groveBurstDataRx x f) s = .next (grvStray u x f)))) ∧
  (∀ (s : State) (x : Fin 2) (f : GFrame) (c : GCmd) (u : State), u = (grvClearSent s).modGrv x (fun g => { g with handed := none }) →
    grvUp s x = true → grvState s x ≠ 0 → hopMode f.hop = 0 → (u.gport x).cur = some c →
    (f.ty = 0x42 → exec (.groveIdentRx x f) s = .next (match c.src with
      | .enum a => if hopVal f.hop = a then grvIdent u x a f c.tries else grvStray u x f
      | _ => if grvAnswers c f then grvAnswered u x c f else grvStray u x f)) ∧
    (f.ty ∈ [0x43, 0x44, 0x46, 0x47, 0x4A] → exec (.groveAnswerRx x f) s =
      .next (if grvAnswers c f then grvAnswered u x c f else grvStray u x f))) ∧
  (∀ (s : State) (x : Fin 2) (f : GFrame) (c : GCmd) (tag : Nat) (u : State), c.src = .entry tag → u = (if f.ty = 0x47 then grvUnbypass s c else s) →
    grvAnswered s x c f =
      grvCmdEnd (grvEntry u x f.ty f.hop 0 tag f.payload (hopVal f.hop) (grvHopOf u c.f) c.tries) x) ∧
  (∀ (s : State) (x : Fin 2) (f : GFrame) (c : GCmd) (tag : Nat) (u v : State), grvUp s x = true → grvState s x ≠ 0 → f.ty = 0x45 →
    hopMode f.hop = 0 → u = (grvClearSent s).modGrv x (fun g => { g with handed := none }) → (u.gport x).cur = some c →
    v = grvEntry u x f.ty f.hop 0 tag f.payload (hopVal f.hop) (grvHopOf u c.f) c.tries →
    (grvAnswers c f = false → exec (.groveBurstDataRx x f) s = .next (grvStray u x f)) ∧
    (grvAnswers c f = true → (∀ t, c.src ≠ .entry t) → exec (.groveBurstDataRx x f) s = .next u) ∧
    (grvAnswers c f = true → c.src = .entry tag → exec (.groveBurstDataRx x f) s =
      .next (if nbit (leAt f.payload 3 1) 0 then grvCmdEnd v x else v.modGrv x fun g => { g with cur := some { c with burst := true } })))

/-- O42 (R574, R577, R579, R580, R581, R582). A WAKE_REQ is recorded, and, but from its fifth within 60 s on, which counts
UNSOL, calls off an agreement or wakes an ASLEEP port; an addressed one is answered with WAKE_ACK. A SLEEP_OK of a
running agreement is recorded, the last awaited one sends SLEEP_COMMIT, and any other is unsolicited; the first
timeout repeats SLEEP_PREP and the second, or one with none awaited, commits; after COMMIT the port is ASLEEP and
flags it, or sends SLEEP_ABORT where a WAKE_REQ came in between; the end of the tone sends WAKE_ALL and a BEACON, an
enumeration, or ends the recovery. Carrier is wake cause 19 while Root senses, and where ROOT holds marks the wake
pending; on a port that works it shows CARRIER, is a WAKE entry in AWAKE and in an agreement, calls off the agreement,
and wakes an ASLEEP port or, where no session may run, marks the wake pending. In other states nothing changes. -/
def Obligations.GroveSleepComplete : Prop :=
  (∀ (s : State) (x : Fin 2) (f : GFrame) (a : Nat) (u : State) (l : List Nat) (v w : State), hopVal f.hop = a →
    u = (grvClearSent s).modGrv x (fun g => { g with handed := none }) →
    l = (SMap.get (fun _ => []) (u.gport x).reqs a).filter (fun t => u.uptime < t + 60000000000) →
    v = grvWakeEntry (u.modGrv x fun g => { g with reqs := SMap.set (fun _ => []) g.reqs a (l ++ [u.uptime]) }) x a f →
    w = (if 4 ≤ l.length then v.count (GRV_CNT.UNSOL x) else grvWakeAct v (grvSess u x)) →
    exec (.groveWakeReqRx x f) s = .next (if grvUp s x = true ∧ grvState s x ≠ 0 ∧ f.ty = 0x48 ∧ hopMode f.hop = 0 then
      (if a = 0 then w else (grvSend w x ⟨13, a, []⟩).2) else s)) ∧
  (∀ (s : State) (x : Fin 2) (f : GFrame) (a y : Nat) (u v : State), hopVal f.hop = a →
    u = (grvClearSent s).modGrv x (fun g => { g with handed := none }) → grvSess u x = y →
    v = u.modGrv y (fun g => { g with sleep := { g.sleep with ok := (a - 1) :: g.sleep.ok } }) →
    exec (.groveSleepOkRx x f) s = .next (
      if grvUp s x = false ∨ grvState s x = 0 ∨ f.ty ≠ 0x49 ∨ hopMode f.hop ≠ 0 then s
      else if grvState u y ≠ 3 ∨ a = 0 then grvUnsolicited u x a
      else if grvNotOk v y = [] ∧ (v.gport y).sleep.commit = false then grvCommitStart v y else v)) ∧
  (∀ (s : State) (x : Fin 2) (y : Nat) (u v : State), grvSess s x = y → u = grvClearSent s →
    v = u.modGrv y (fun g => { g with sleep := { g.sleep with again := true } }) →
    exec (.groveSleepPrepTimeout x) s = .next (if grvState s y ≠ 3 ∨ (s.gport y).sleep.commit = true then s
      else if (u.gport y).sleep.again = true ∨ grvNotOk u y = [] then grvCommitStart u y
      else grvBroadcast v y 9 (toLE 8 (grvNext v y) ++ toLE 4 (v.gport y).g ++ toLE 2 (grvRetryS v y) ++ toLE 2 0))) ∧
  (∀ (s : State) (x : Fin 2) (y : Nat) (u : State), grvSess s x = y → u = grvClearSent s →
    exec (.groveCommitSent x) s = .next (if grvState s y ≠ 3 ∨ (s.gport y).sleep.commit = false then s
      else if (u.gport y).sleep.cut then setGrvState (grvBroadcast (u.modGrv y fun g => { g with sleep := {} }) y 11 []) y 2
      else grvIrq (setGrvState (u.modGrv y fun g => { g with sleep := {}, win := .shut, here := [] }) y 4) y (GRV_IRQ.ASLEEP y))) ∧
  (∀ (s : State) (x : Fin 2) (y : Nat) (r u : State), grvSess s x = y →
    r = s.runTo ((s.gport y).since + 3000000 + 200000 * grvToneHops s y) →
    u = (grvBroadcast (grvClearSent r) y 12 []).modGrv y (fun g => { g with tone := none }) →
    exec (.groveWakeToneEnd x) s = .next (match (s.gport y).tone with
      | none => s
      | some .session => grvStartSession u y
      | some .enum => grvEnumStart u y
      | some .recover => grvRecoverEnd u y)) ∧
  (∀ (s : State) (x : Fin 2) (y : Nat) (u v : State), grvSess s x = y →
    u = (if sensing s = true ∧ s.pwr.rootPowered = true then
      senseCause (if s.pwr.mode = .root then setWakePend s y true else s) 19 else s) →
    v = (grvClearSent u).setBit (GRV_STAT.CARRIER x) true →
    exec (.groveCarrierWake x) s = .next (if grvUp u x = false then u
      else if grvState v y = 2 ∨ grvState v y = 3 then grvWakeAct (grvWakeEntry v x 0 ⟨0, 0, []⟩) y
      else if grvState v y = 4 then grvWakeAct v y else v)) ∧
  (∀ (s : State) (y : Nat), grvWakeAct s y =
    (if grvState s y = 3 then (if (s.gport y).sleep.commit then s.modGrv y fun g => { g with sleep := { g.sleep with cut := true } }
        else setGrvState (grvBroadcast s y 11 []) y 2)
      else if grvState s y = 4 then (if grvCan s y then grvTone s y .session else setWakePend s y true)
      else s))

/-- O43 (R551, R553, R554, R555, R558, R560, R571, R572, R587, R589, R590). A frame of another type, one that the Sapling
does not hear or that is not for it says nothing; a repeat is answered with the stored answer; a new one of the HOP
MODE that its type does not take only counts, one of wrong length is refused with NACK 2 where it is addressed, and
any other is acted on and its answer stored. An addressed frame with the expected counter is new and the counter goes
on. So a PING is echoed, ENUM by hop adopts an address of 1 to 62 and answers IDENT, POLL answers REPORT, REG_RD
answers the words of its registers and clears CLIP where it reads it, REG_WR writes them and acknowledges, a register
outside the table is refused with NACK 3, BYPASS acknowledges and cuts or restores the side named, RESET with its key
restarts the Sapling with its address kept or cleared, BURST_REQ of an enabled channel sends its samples, busy is
refused with NACK 4 and a bad one with NACK 5, and BURST_ABORT ends them. -/
def Obligations.SaplingAnswersComplete : Prop :=
  (∀ (x : Sap) (q : Fin 2) (f : GFrame), x.mode ≠ .asleep → nbit x.jam q = false → nbit x.bypass q = false → 0 < x.addr → x.addr < 63 →
    f.hop = x.addr → x.down < 256 →
    x.take q f x.down = (.fresh, { x with link := setBit x.link q, down := (x.down + 1) % 256 })) ∧
  (∀ (x : Sap) (q : Fin 2) (ty seq : Nat) (f : GFrame) (ok : Nat → Bool) (k : Sap → Sap),
    (f.ty ≠ ty → x.act q ty f seq ok k = x) ∧
    (f.ty = ty → ∀ y, (x.take q f seq = (.skip, y) → x.act q ty f seq ok k = x) ∧
      (x.take q f seq = (.again, y) → x.act q ty f seq ok k =
        match y.answer with | some a => { y with sent := a.2.map fun g => (a.1, g) } | none => y) ∧
      (x.take q f seq = (.fresh, y) → x.act q ty f seq ok k =
        if sapForm f = false then y else if ok f.payload.length then (k y).stored q
        else if hopMode f.hop = 0 ∧ hopVal f.hop ≠ 63 then (y.nack q ty 2).stored q else y))) ∧
  (∀ (s : State) (p : Fin 62) (q : Fin 2) (f : GFrame) (seq : BitVec 8) (x : Sap), x = sapNow s p →
    exec (.saplingPing p q f seq) s = .next (setSap s p (x.act q 3 f seq.toNat (· ≤ 64) fun y =>
      y.emit q 0x43 f.payload))) ∧
  (∀ (s : State) (p : Fin 62) (q : Fin 2) (f : GFrame) (x : Sap), x = sapNow s p →
    exec (.saplingEnum p q f) s = .next (setSap s p (x.act q 2 f 0 (· == 2) fun y =>
      if 1 ≤ leAt f.payload 0 1 ∧ leAt f.payload 0 1 ≤ 62 then
        ({ y with addr := leAt f.payload 0 1 } : Sap).emit q 0x42 (sapIdent p) else y))) ∧
  (∀ (s : State) (p : Fin 62) (q : Fin 2) (f : GFrame) (seq : BitVec 8) (x : Sap), x = sapNow s p →
    exec (.saplingPoll p q f seq) s = .next (setSap s p (x.act q 4 f seq.toNat (· == 1) fun y =>
      y.report p q (leAt f.payload 0 1)))) ∧
  (∀ (s : State) (p : Fin 62) (q : Fin 2) (f : GFrame) (seq : BitVec 8) (x : Sap) (w n : Nat) (z : Sap → Sap), x = sapNow s p →
    w = leAt f.payload 0 1 → n = leAt f.payload 1 1 →
    z = (fun y => y.emit q 0x46 (((List.range n).map fun i => y.reg p (w + i)).flatMap fun v => toLE 4 (v.getD 0))) →
    exec (.saplingRegRd p q f seq) s = .next (setSap s p (x.act q 6 f seq.toNat (· == 2) fun y =>
      if n = 0 ∨ 16 < n ∨ ((List.range n).map fun i => y.reg p (w + i)).any Option.isNone = true then y.nack q 6 3
      else if w ≤ 5 ∧ 5 < w + n then { z y with clip := 0 } else z y))) ∧
  (∀ (s : State) (p : Fin 62) (q : Fin 2) (f : GFrame) (seq : BitVec 8) (x : Sap) (w n : Nat), x = sapNow s p →
    w = leAt f.payload 0 1 → n = leAt f.payload 1 1 →
    exec (.saplingRegWr p q f seq) s = .next (setSap s p (x.act q 7 f seq.toNat (fun l => 6 ≤ l && l ≤ 62 && l == 2 + 4 * n) fun y =>
      if ((List.range n).any fun i => (y.reg p (w + i)).isNone) = true then y.nack q 7 3
      else ((List.range n).foldl (fun y i => y.setReg q (w + i) (leAt f.payload (2 + 4 * i) 4)) y).ack q 7))) ∧
  (∀ (s : State) (p : Fin 62) (q : Fin 2) (f : GFrame) (seq : BitVec 8) (x : Sap) (b side : Nat), x = sapNow s p →
    b = leAt f.payload 0 1 → side = (if nbit b 1 then q.val else 1 - q.val) →
    exec (.saplingBypass p q f seq) s = .next (setSap s p (x.act q 14 f seq.toNat (· == 1) fun y =>
      { y.ack q 14 with bypass := if nbit b 0 then setBit (y.ack q 14).bypass side else clrBit (y.ack q 14).bypass side }))) ∧
  (∀ (s : State) (p : Fin 62) (q : Fin 2) (f : GFrame) (seq : BitVec 8) (x : Sap) (b : Nat), x = sapNow s p → b = leAt f.payload 0 1 →
    exec (.saplingReset p q f seq) s = .next (setSap s p (x.act q 15 f seq.toNat (· == 2) fun y =>
      if leAt f.payload 1 1 = 0x52 ∧ (b = 1 ∨ b = 2) then { addr := if b = 1 then y.addr else 0, link := y.link } else y))) ∧
  (∀ (s : State) (p : Fin 62) (q : Fin 2) (f : GFrame) (seq : BitVec 8) (data : List (BitVec 24)) (x : Sap) (c k n : Nat) (ws : List (BitVec 24)),
    x = sapNow s p → c = leAt f.payload 0 1 → k = leAt f.payload 1 1 → n = leAt f.payload 2 4 → ws = data.take n →
    exec (.saplingBurstReq p q f seq data) s = .next (setSap s p (x.act q 5 f seq.toNat (· == 8) fun y =>
      if y.burst.isSome = true then y.nack q 5 4
      else if y.chOn p c = false ∨ 7 < k ∨ n = 0 ∨ 32768 < n then y.nack q 5 5
      else y.burstSend q (ws.length + 1) { ch := c, k := k, left := n - ws.length, held := ws } (ws.length == n) false))) ∧
  (∀ (y : Sap) (q : Fin 2) (n : Nat) (b : SapBurst), b.held.length ≤ 20 →
    y.burstSend q (n + 1) b true false = { y.burstFrame q b b.held true false with burst := none }) ∧
  (∀ (s : State) (p : Fin 62) (q : Fin 2) (f : GFrame) (seq : BitVec 8) (x : Sap), x = sapNow s p →
    exec (.saplingBurstAbort p q f seq) s = .next (setSap s p (x.act q 16 f seq.toNat (· == 0) fun y =>
      (y.burstEnd q false).ack q 16)))

/-- O44 (R549, R555, R556, R557, R558, R566, R571, R578, R580). A BEACON of right form that an awake or listening Sapling
hears wakes it, records its hop distance, sets its time and counters and is answered with CHECKIN, and with WAKE_REQ
where one is outstanding. A frame on its line goes nowhere where it sleeps or the pair is cut off; by hop it is
counted down and kept at 1 or by a Sapling whose hop distance on that pair is unknown, a counting one counts up, an
addressed one for another and an upstream or turned one goes on, and one for it of an unlisted type is refused with
NACK 1; it goes out the other port, and comes back with the turned bit where that port is link-down or bypassed.
Jabber and its end stop and resume a pair; a pair with no carrier is link-down; a broadcast TIME_SET sets the time; a
block's end sets the results of the channels enabled fresh, RMS and PEAK from the valid samples, the clipping and the
end's time (the envelope is a free value, log entry 16). -/
def Obligations.SaplingLineComplete : Prop :=
  (∀ (s : State) (p : Fin 62) (q : Fin 2) (f : GFrame) (x : Sap), x = sapNow s p →
    exec (.saplingBeacon p q f) s = .next (setSap s p (x.beacon s.uptime q f))) ∧
  (∀ (x : Sap) (now : Nat) (q : Fin 2) (f : GFrame), x.mode = .asleep ∨ f.ty ≠ 1 ∨ hopMode f.hop ≠ 2 ∨ nbit x.jam q = true ∨
      nbit x.bypass q = true ∨ f.payload.length ≠ 16 → x.beacon now q f = x) ∧
  (∀ (x : Sap) (now : Nat) (q : Fin 2) (f : GFrame) (d : Nat) (y z : Sap), x.mode ≠ .asleep → nbit x.jam q = false →
    nbit x.bypass q = false → f.ty = 1 → hopMode f.hop = 2 → f.payload.length = 16 → d = Nat.min 63 (hopVal f.hop + 1) →
    y = { x with mode := .awake, commitAt := none, committed := false, hops := x.hops.set q (some d), home := q, link := setBit x.link q
                 down := 0, bdown := 0, up := 0, session := leAt f.payload 8 4, beaconAt := now, answer := none
                 tBase := leAt f.payload 0 8 + d * 1100, tAt := now } →
    z = y.emit q 0x41 (toLE 1 (y.checkinFlags q) ++ toLE 1 d ++ toLE 2 0) →
    x.beacon now q f = (match x.wakeReq with
      | some (c, ch, rms) => z.emit q 0x48 (toLE 1 c ++ toLE 1 ch ++ toLE 2 rms)
      | none => z)) ∧
  (∀ (s : State) (p : Fin 62) (q : Fin 2) (f : GFrame) (x : Sap), x = sapNow s p →
    exec (.saplingRelay p q f) s = .next (setSap s p (x.relay q f))) ∧
  (∀ (x : Sap) (q : Fin 2) (f : GFrame) (y : Sap), y = { x with link := setBit x.link q } →
    (x.mode = .asleep ∨ nbit x.jam q = true ∨ nbit x.bypass q = true → x.relay q f = x) ∧
    (x.mode ≠ .asleep → nbit x.jam q = false → nbit x.bypass q = false →
      (hopMode f.hop = 0 → f.ty ≥ 128 ∨ upType f.ty = true ∨ x.addr = 0 ∨ hopVal f.hop ≠ x.addr → x.relay q f = y.forward q f) ∧
      (hopMode f.hop = 0 → f.ty < 128 → upType f.ty = false → x.addr ≠ 0 → hopVal f.hop = x.addr →
        x.relay q f = if downType f.ty then y else { (y.nack q f.ty 1).stored q with down := (x.down + 1) % 256 }) ∧
      (hopMode f.hop = 1 → x.relay q f = if 128 ≤ f.ty then y.forward q f
        else if x.hops.getD q none = none ∨ hopVal f.hop ≤ 1 then y else y.forward q { f with hop := f.hop - 1 }) ∧
      (hopMode f.hop = 2 → x.relay q f = y.forward q { f with hop := 128 + Nat.min 63 (hopVal f.hop + 1) }) ∧
      (hopMode f.hop = 3 → x.relay q f = y))) ∧
  (∀ (x : Sap) (q : Fin 2) (f : GFrame), nbit x.link (1 - q) = true → nbit x.bypass (1 - q) = false →
    (x.forward q f).sent = x.sent ++ [(1 - q.val, f)]) ∧
  (∀ (x : Sap) (q : Fin 2) (f : GFrame), nbit x.link (1 - q) = false ∨ nbit x.bypass (1 - q) = true →
    (x.forward q f).sent = x.sent ++ [(q.val, { f with ty := f.ty % 128 + 128 })]) ∧
  (∀ (s : State) (p : Fin 62) (q : Fin 2) (x : Sap), x = sapNow s p →
    exec (.saplingJabber p q) s = .next (setSap s p (if x.mode = .asleep then x
      else { x with jam := setBit x.jam q, jabber := setBit x.jabber q })) ∧
    exec (.saplingLinkDown p q) s = .next (setSap s p (if x.mode = .asleep then x else { x with link := clrBit x.link q }))) ∧
  (∀ (s : State) (p : Fin 62) (q : Fin 2) (x : Sap), x = sapNow s p →
    exec (.saplingJabberEnd p q) s = .next (setSap s p { x with jam := clrBit x.jam q })) ∧
  (∀ (s : State) (p : Fin 62) (q : Fin 2) (f : GFrame) (x : Sap), x = sapNow s p →
    exec (.saplingTimeSet p q f) s = .next (setSap s p (x.act q 8 f 0 (· == 8) fun y =>
      { y with tBase := leAt f.payload 0 8 + (y.hops.getD q none).getD 0 * 1100, tAt := s.uptime }))) ∧
  (∀ (s : State) (p : Fin 62) (data : List SapChan) (sflt : BitVec 8) (envs : List Nat) (v : State) (x : Sap) (on : List Nat)
    (good : Nat → List (BitVec 24)) (clip : Nat),
    (envs, v) = s.freshList 8 65536 → x = sapNow v p → on = (List.range 8).filter (x.chOn p) →
    good = (fun c => (((data.getD c {}).samples).take (x.blockLen c)).drop (x.settle.getD c 0)) →
    clip = on.foldl (fun n c => if (data.getD c {}).clip then setBit n c else n) 0 →
    ∃ y, exec (.saplingBlockEnd p data sflt) s = .next (setSap v p y) ∧ y.fresh = true ∧ y.sflt = sflt.toNat ∧
      y.clip = x.clip ||| clip ∧ y.clipRep = x.clipRep ||| clip ∧
      y.endT = (v.uptime - x.beaconAt) * 32768 / 1000000000 % 2 ^ 32 ∧ y.mode = x.mode ∧ y.sent = [] ∧
      (∀ c : Nat, c < 8 → y.results[c]? = some (if on.contains c then
          (sapRms (good c), sapPeak (good c), if (good c).isEmpty then 0x7E00 else envs.getD c 0)
        else x.results.getD c (0x7E00, 0x7E00, 0x7E00))))

/-- O45 (R574, R575, R576, R578, R580, R582, R583). SLEEP_PREP is stored and answered SLEEP_OK, or WAKE_REQ while one is
outstanding; SLEEP_COMMIT is passed on and starts the 200 µs after which the Sapling sleeps, or is held by an
outstanding WAKE_REQ; SLEEP_ABORT calls the sleep off; a wake window opens the receivers of a sleeping Sapling and its
end closes them for RETRY_S; carrier is passed on as a tone and wakes one that sleeps or listens; WAKE_ALL keeps it
awake and without one it sleeps again, as it does after 1 s of silence; a comparator that is on and over its threshold
sends a tone from sleep and WAKE_REQ awake, calling a pending sleep off, and WAKE_REQ repeats and ends with WAKE_ACK;
a held COMMIT without WAKE_ACK sends a tone on both ports. Frames are taken as SaplingAnswersComplete says; in other
states nothing changes. -/
def Obligations.SaplingSleepComplete : Prop :=
  (∀ (s : State) (p : Fin 62) (q : Fin 2) (f : GFrame) (seq : BitVec 8) (x : Sap) (z : Sap → Sap), x = sapNow s p →
    z = (fun y => { y with prep := some (leAt f.payload 0 8, leAt f.payload 8 4, leAt f.payload 12 2) }) →
    exec (.saplingSleepPrep p q f seq) s = .next (setSap s p (x.act q 9 f seq.toNat (· == 16) fun y =>
      if y.wakeReq.isSome = true then (z y).sendWakeReq q else (z y).emit q 0x49 []))) ∧
  (∀ (s : State) (p : Fin 62) (q : Fin 2) (f : GFrame) (seq : BitVec 8) (x y : Sap), x = sapNow s p →
    y = x.act q 10 f seq.toNat (· == 4) (fun y =>
      if y.wakeReq.isSome = true then { y with committed := true } else { y with commitAt := some s.uptime }) →
    exec (.saplingSleepCommit p q f seq) s = .next (setSap s p
      (if f.ty = 10 ∧ y.mode ≠ .asleep ∧ nbit y.jam q = false ∧ nbit y.bypass q = false then y.forward q f else y))) ∧
  (∀ (s : State) (p : Fin 62) (q : Fin 2) (f : GFrame) (x : Sap), x = sapNow s p →
    exec (.saplingSleepAbort p q f) s = .next (setSap s p (x.act q 11 f 0 (· == 0) fun y =>
      { y with commitAt := none }))) ∧
  (∀ (s : State) (p : Fin 62) (q : Fin 2) (x y : Sap), x = sapNow s p → y = { x with tones := 2 ^ (1 - q.val), link := setBit x.link q } →
    exec (.saplingWakeWindow p) s = .next (if x.mode = .asleep then
      setSap (s.runTo (x.uptimeAt (x.wakeInstant - x.guardNs))) p { x with mode := .listen } else setSap s p x) ∧
    exec (.saplingWakeDetect p q) s =
      .next (setSap s p (if x.mode = .asleep ∨ x.mode = .listen then { y with mode := .toned } else y))) ∧
  (∀ (s : State) (p : Fin 62) (x : Sap), x = sapNow s p →
    exec (.saplingListenEnd p) s = .next (if x.mode = .listen then
      setSap (s.runTo (x.uptimeAt (x.wakeInstant + 2 * x.guardNs + 5000000))) p { x with mode := .asleep, tryN := x.tryN + 1 }
      else setSap s p x) ∧
    exec (.saplingWakeWaitEnd p) s = .next (setSap s p (if x.mode = .toned then x.fallAsleep s.uptime else x)) ∧
    exec (.saplingNodeSilence p) s =
      .next (setSap s p (if x.mode = .awake then x.fallAsleep s.uptime else x))) ∧
  (∀ (s : State) (p : Fin 62) (q : Fin 2) (f : GFrame) (x : Sap), x = sapNow s p →
    exec (.saplingWakeAll p q f) s = .next (setSap s p (x.act q 12 f 0 (· == 0) fun y =>
      { y with mode := .awake }))) ∧
  (∀ (s : State) (p : Fin 62) (ch : Fin 8) (rms : BitVec 16) (x y : Sap), x = sapNow s p →
    y = { x with wakeReq := some (1, ch.val, rms.toNat), committed := x.committed || x.commitAt.isSome, commitAt := none } →
    exec (.saplingWakeComparator p ch rms) s = .next (setSap s p (
      if ch.val < sapChannels p ∧ nbit x.ctrl.toNat 16 = true ∧ nbit (x.chWake.getD ch 0).toNat 16 = true ∧
          wordField (x.chWake.getD ch 0) 0 16 < rms.toNat then
        (if x.mode = .asleep ∨ x.mode = .listen then { y with mode := .toned, tones := 3 }
         else if x.mode = .awake ∧ (x.hops.getD x.home none).isSome = true then
           y.emit x.home 0x48 (toLE 1 1 ++ toLE 1 ch ++ toLE 2 rms.toNat)
         else y)
      else x))) ∧
  (∀ (s : State) (p : Fin 62) (x : Sap), x = sapNow s p →
    exec (.saplingWakeReqRepeat p) s = .next (setSap s p (
      if x.mode = .awake ∧ (x.hops.getD x.home none).isSome = true then
        (match x.wakeReq with
          | some (c, ch, rms) => x.emit x.home 0x48 (toLE 1 c ++ toLE 1 ch ++ toLE 2 rms)
          | none => x)
      else x))) ∧
  (∀ (s : State) (p : Fin 62) (q : Fin 2) (f : GFrame) (seq : BitVec 8) (x : Sap), x = sapNow s p →
    exec (.saplingWakeAck p q f seq) s = .next (setSap s p (x.act q 13 f seq.toNat (· == 0) fun y =>
      { y with wakeReq := none, committed := false }))) ∧
  (∀ (s : State) (p : Fin 62) (x : Sap), x = sapNow s p →
    exec (.saplingCommitWakeTimeout p) s = .next (setSap s p
      (if x.committed = true ∧ x.wakeReq.isSome = true then { x with committed := false, tones := 3 } else x))) ∧
  (∀ (s : State) (p : Fin 62) (t : Nat), (sapOf s p).commitAt = some t →
    (t + 200000 ≤ s.uptime → (sapNow s p).mode = .asleep) ∧ (s.uptime < t + 200000 → (sapNow s p).mode = (sapOf s p).mode))

/-- O46 (R600, R603, R604, R605, R607, R624, R594). STOP ramps a moving axis and its group to rest with the distance kept,
cause 1, and leaves one at rest or stopping as it is; HALT ends emission at once, cause 3; RESUME is refused outside
SURVEY, for an axis that is neither STOPPED nor HALTED, in another mode than POS, after a cause of 8 to 11, under a
trip or with a fault, and else takes the encoder's position after a FOLLOWING halt and starts the axis, or its group
on the kept line, toward its target; HOME, where the axis is at rest in mode POS with no trip and the encoder its
method needs, starts phase 1, or phase 2 with HOME already active; SETPOS re-bases an IDLE axis to the given position;
CLEAR discards the distance of each axis at rest of the group; what may not be done shows CMDRES 2 and changes nothing
else. Alone, a halt leaves the axis HALTED at its position with velocity 0, a ramped stop leaves it STOPPING with its
target. -/
def Obligations.MotionCommandsComplete : Prop :=
  (∀ (s : State) (t : Fin 8) (n : Fin 4) (u : State), Lets s t (MOT_CMD.addr n) true → u = cmdOk (s.put (MOT_CMD.addr n) 1) n →
    exec (.axisStop t n) s =
      .next (written (if axActive u n = true ∧ axState u n ≠ axSTOPPING then rampWith u n 1 .stopped else u) t 0)) ∧
  (∀ (s : State) (t : Fin 8) (n : Fin 4) (u : State), Lets s t (MOT_CMD.addr n) true → u = cmdOk (s.put (MOT_CMD.addr n) 3) n →
    exec (.axisHalt t n) s = .next (written (payOwed (if axActive u n = true then haltWith u n 3 true else u)) t 0)) ∧
  (∀ (s : State) (t : Fin 8) (n : Fin 4) (u : State) (c : Nat) (v : State) (ms : List Nat) (w : State), Lets s t (MOT_CMD.addr n) true →
    u = s.put (MOT_CMD.addr n) 2 → c = u.fld (MOT_STAT.CAUSE n) → v = cmdOk u n → ms = (axesWith v n).filter (atRest v) →
    w = ms.foldl (fun s i => if s.fld (MOT_STAT.CAUSE i) = 6 then
      (modAxis (s.setFld (MOT_POS.POS i) (ofSigned 32 (encPos s i))) i fun x =>
        { x with p := axPos (s.setFld (MOT_POS.POS i) (ofSigned 32 (encPos s i))) i * stepUnits }).setBit (MOT_STAT.POS_SUSPECT i) false
      else s) v →
    exec (.axisResume t n) s = .next (written (
      if motEnabled u = false ∨ (axState u n ≠ axSTOPPED ∧ axState u n ≠ axHALTED) ∨ axMode u n ≠ 0 ∨ (8 ≤ c ∧ c ≤ 11) ∨
        tripActive u = true ∨ u.word DRV_FAULT.addr &&& tripFaults ≠ 0 then u.setFld (MOT_STAT.CMDRES n) 2
      else match keptLine w ms with
        | some g => resumeLine w g
        | none => if 2 ≤ ms.length then startLine w ms else startMove w n) t 0)) ∧
  (∀ (s : State) (t : Fin 8) (n : Fin 4) (u : State) (meth : Nat) (v w : State), Lets s t (MOT_CMD.addr n) true → u = s.put (MOT_CMD.addr n) 4 →
    meth = u.fld (MOT_HOME_CFG.METHOD n) → v = cmdOk (drvWake (dropRemain u n) n) n →
    w = ((modAxis v n fun x => { x with p := axPos v n * stepUnits, v := 0, hom := {} }).setBit (MOT_STAT.HOME_FAIL n) false).setBit
      (DRV_AX_STAT.STALL n) false →
    exec (.axisHome t n) s = .next (written (
      if motEnabled u = false ∨ (axState u n ≠ axIDLE ∧ axState u n ≠ axSTOPPED ∧ axState u n ≠ axHALTED) ∨ axMode u n ≠ 0 ∨
        tripActive u = true ∨ ((meth = 1 ∨ meth = 2) ∧ u.bit (MOT_ENC_CFG.EN n) = false) then u.setFld (MOT_STAT.CMDRES n) 2
      else homePhase (setAxState w n axHOMING) n (if meth ≤ 1 ∧ w.bit (MOT_STAT.HOME n) = true then 2 else 1)) t 0)) ∧
  (∀ (s : State) (t : Fin 8) (n : Fin 4) (u : State), Lets s t (MOT_CMD.addr n) true → u = s.put (MOT_CMD.addr n) 5 →
    exec (.axisSetpos t n) s = .next (written (
      if axState u n ≠ axIDLE ∨ motEnabled u = false then u.setFld (MOT_STAT.CMDRES n) 2
      else showAxis (cmdOk (rebase u n (u.sfld (MOT_SETPOS.POS n) - axPos u n)) n) n) t 0)) ∧
  (∀ (s : State) (t : Fin 8) (n : Fin 4) (u : State), Lets s t (MOT_CMD.addr n) true → u = s.put (MOT_CMD.addr n) 6 →
    exec (.axisClear t n) s = .next (written (
      if motEnabled u = false ∨ (axState u n ≠ axSTOPPED ∧ axState u n ≠ axHALTED) then u.setFld (MOT_STAT.CMDRES n) 2
      else cmdOk ((axesWith u n).foldl (fun s i => if atRest s i = true then axisIdle s i else s) u) n) t 0)) ∧
  (∀ (s : State) (n : Fin 4) (cause : Nat), s.mot.ax.length = 4 → s.mot.grp = none → axState s n ≠ axHOMING →
    s.fld (MOT_STAT.HPHASE n) = 0 → cause < 16 →
    ∃ u, haltWith s n cause true = u ∧ axState u n = axHALTED ∧ u.fld (MOT_STAT.CAUSE n) = cause ∧ (axisOf u n).v = 0 ∧
      axPos u n = axPos s n ∧ u.mem = s.mem) ∧
  (∀ (s : State) (n : Fin 4) (cause : Nat), s.mot.ax.length = 4 → s.mot.grp = none → axState s n ≠ axHOMING → 1 ≤ cause → cause < 16 →
    ∃ u, rampWith s n cause .stopped = u ∧ axState u n = axSTOPPING ∧ u.fld (MOT_STAT.CAUSE n) = cause ∧ axPos u n = axPos s n ∧
      axTarget u n = axTarget s n ∧ u.mem = s.mem)

/-- O47 (R598, R606, R610, R612, R613, R616, R617, R618, R621, R622, R623). A tick advances each axis that moves, in the
order of their numbers, and pays the events owed; a HOME edge sets HOME, and in the homing of METHOD 0 and 1 brakes in
phase 1, notes in phase 2 where HOME ends, in phase 3 waits for the index (METHOD 1) or latches the position two ticks
ago and brakes; a master edge raises SWITCH where the entry of the ratio table changes, halts the geared axis
GEAR_OVER (9) where the velocity is above VCRUISE, and else moves a locked axis to its place, rounded to a microstep,
or under BLEND begins or goes on with a slew; a STEP_IN edge moves the following target by IN_MULT + 1, or halts
FOLLOW_OVER (11) where that is more than 65,536 ahead; an encoder deviation above DEV halts FOLLOWING (6) once it has
lasted FILT_MS; LIMIT halts an axis that moves toward its side, but not in STALL homing; a history sample at the next
multiple of 100 µs records the four positions. Where MOT is down, or the lands are cut off, an event changes nothing. -/
def Obligations.MotionEventsComplete : Prop :=
  (∀ s : State, exec .motionTick s = .next (if s.up fenceMOT = true then payOwed ((List.range 4).foldl devNote ((List.range 4).foldl axisTick s)) else s)) ∧
  (∀ (s : State) (n : Fin 4), s.up fenceMOT = true → (∀ k : Fin 4, k < n → axActive s k = false) →
    (∀ k : Fin 4, n < k → axActive (axisTick s n) k = false) → exec .motionTick s = .next (payOwed ((List.range 4).foldl devNote (axisTick s n)))) ∧
  (∀ s : State, s.up fenceMOT = true → (∀ k : Fin 4, axActive s k = false) →
    exec .motionTick s = .next (payOwed ((List.range 4).foldl devNote s))) ∧
  (∀ (s : State) (n : Fin 4) (high : Bool),
    exec (.homeInputEdge n high) s = .next (if landsCut s = false ∧ s.up fenceMOT = true then homeInput s n high else s)) ∧
  (∀ (s : State) (n : Fin 4) (high : Bool) (u : State) (meth ph : Nat) (x : Axis), u = s.setBit (MOT_STAT.HOME n) (high != s.bit (MOT_CFG.HOME_POL n)) →
    meth = u.fld (MOT_HOME_CFG.METHOD n) → ph = u.fld (MOT_STAT.HPHASE n) → x = axisOf u n →
    homeInput s n high =
      if axState u n ≠ axHOMING ∨ 2 ≤ meth then u
      else if high = s.bit (MOT_CFG.HOME_POL n) then
        (if ph = 2 then modAxis u n (fun x => { x with hom := { x.hom with clear := some x.p } }) else u)
      else if ph = 3 ∧ meth = 1 then modAxis u n (fun x => { x with hom := { x.hom with seen := true } })
      else if x.hom.brake = true then u
      else if ph = 1 then modAxis u n (fun x => { x with hom := { x.hom with brake := true } })
      else if ph = 3 then
        (modAxis u n fun y => { y with hom := { y.hom with brake := true, latch := some (x.trail.getD 2 (axPos u n)) } }).setFld
          (MOT_STAT.HPHASE n) 4
      else u) ∧
  (∀ (s : State) (n : Fin 4) (dt : Nat) (m ratio : Int) (v : Int) (p u : State) (b : Bool) (w x y : State), m = gearRel s n →
    ratio = gearGR s n (gearEntry s n m) →
    v = (if m < (axisOf s n).gear.m then -(ratio * 256000000000000000 / 65536 / (Nat.max 1 dt : Nat))
      else ratio * 256000000000000000 / 65536 / (Nat.max 1 dt : Nat)) →
    p = (if gearEntry s n m ≠ gearEntry s n (axisOf s n).gear.m then motIrq s MOT_IRQ.SWITCH n else s) →
    u = p.setFld (MOT_GEAR_REL.M n) (ofSigned 32 m) → b = (u.bit (MOT_GEAR_CFG.BLEND n) && u.fld (MOT_GACC.A n) != 0) →
    w = modAxis u n (fun x => { x with gear := { x.gear with m := m, ratio := ratio, vcmd := v,
                                                             slew := x.gear.slew || (b && ratio != (axisOf s n).gear.ratio) } }) →
    x = (if w.bit (MOT_GEAR_CFG.BLEND n) = true then w
      else (modAxis w n fun x => { x with gear := { x.gear with lag := 0 } }).setFld (MOT_GEAR_LAG.LAG n) 0) →
    y = modAxis (moveTo x n (roundDivI ((axisOf x n).gear.p0 * stepUnits + gearF x n m * (stepUnits / 65536) - (axisOf x n).gear.lag)
          stepUnits * stepUnits)) n (fun x => { x with v := v.natAbs, neg := decide (v < 0) }) →
    exec (.gearMasterEdge n dt) s = .next (
      if landsCut s = true ∨ motEnabled s = false ∨ axState s n ≠ axGEARED then s
      else if (rampOf u n).cruise * 1000000 < v.natAbs then haltEvent u n 9 false
      else if (axisOf w n).gear.slew = true ∨ drvHolds w n = true then drvWake w n
      else limitCheck (showAxis y n) n)) ∧
  (∀ (s : State) (n : Fin 4) (dir : Bool) (r : State) (k : Int) (u : State), r = (if axState s n = axFOLLOW then s else enterAxMode s n) →
    k = (r.fld (MOT_CFG.IN_MULT n) : Nat) + 1 →
    u = modAxis r n (fun x => { x with ftgt := if dir ≠ r.bit (MOT_CFG.INV n) then x.ftgt + k else x.ftgt - k }) →
    exec (.followStepIn n dir) s = .next (
      if landsCut s = true ∨ motEnabled s = false ∨ (axState s n ≠ axFOLLOW ∧ ¬ (axState s n = axIDLE ∧ axMode s n = 2)) then s
      else if 65536 < ((axisOf u n).ftgt - axPos u n).natAbs then haltEvent u n 11 false else drvWake u n)) ∧
  (∀ (s : State) (n : Fin 4) (u : State), u = devNote s n → (axisOf u n).devAt = none →
    exec (.encoderDeviationHalt n) s = .next u) ∧
  (∀ (s : State) (n : Fin 4) (u r : State) (t : Nat), u = devNote s n → (axisOf u n).devAt = some t →
    r = u.runTo (t + u.fld (MOT_ENC_CFG.FILT_MS n) * 1000000) →
    exec (.encoderDeviationHalt n) s = .next (if motEnabled u = true ∧ axState u n ≠ axHALTED then
        haltEvent ((r.setFld (MOT_ENCPOS.POS n) (ofSigned 32 (encPos r n))).count (MOT_CNT.FOLERR n)) n 6 true
      else u)) ∧
  (∀ (s : State) (n : Fin 4), n.val < s.mot.ax.length → (axisOf (devNote s n) n).devAt =
    (if s.bit (MOT_ENC_CFG.EN n) = true ∧ Nat.max 1 (s.fld (MOT_ENC_CFG.DEV n)) < (axPos s n - encPos s n).natAbs then
      some ((axisOf s n).devAt.getD s.uptime) else none)) ∧
  (∀ (s : State) (n : Fin 4) (high : Bool) (u : State), u = s.setBit (MOT_STAT.LIMIT n) (high != s.bit (MOT_CFG.LIM_POL n)) →
    exec (.limitActive n high) s = .next (
      if landsCut s = true ∨ s.up fenceMOT = false then s
      else if axActive u n = true ∧ (axisOf u n).v ≠ 0 ∧ u.bit (MOT_CFG.LIM_EN n) = true ∧ u.bit (MOT_STAT.LIMIT n) = true ∧
        (axisOf u n).neg = !u.bit (MOT_CFG.LIM_SIDE n) ∧ ¬ (axState u n = axHOMING ∧ u.fld (MOT_HOME_CFG.METHOD n) = 3) then
        haltEvent (u.count (MOT_CNT.LIMIT n)) n 8 false
      else u)) ∧
  (∀ (s : State) (last : Nat) (u : State), last = (match s.mot.hist with | (t, _) :: _ => t + 1 | [] => 0) →
    u = s.advanceTo ((Nat.max last s.tim.now + 99999) / 100000 * 100000) →
    exec .positionHistorySample s = .next (if s.up fenceMOT = false then s
      else { u with mot := { u.mot with hist := ((u.tim.now, [axPos u 0, axPos u 1, axPos u 2, axPos u 3]) :: u.mot.hist).take 32768 } }))

/-- O48 (R597, R598). From short of its target, in the direction of the target, one tick of the ramp leaves the axis at or
short of the target; with a cruise velocity of at least one unit, an axis at or under VCRUISE stays at or under it. -/
def Obligations.RampNeverOverruns : Prop :=
  (∀ (r : Ramp) (p t : Int) (v : Nat), p < t → (r.tick p v false t).1 ≤ t) ∧
  (∀ (r : Ramp) (p t : Int) (v : Nat), t < p → t ≤ (r.tick p v true t).1) ∧
  (∀ (s : State) (n : Fin 4) (p t : Int) (v : Nat) (neg : Bool), 1 ≤ (rampOf s n).cruise → v ≤ (rampOf s n).cruise * 1000000 →
    ((rampOf s n).tick p v neg t).2.1 ≤ (rampOf s n).cruise * 1000000)

/-- O49 (R631, R636, R641, R643, R645, R646, R647, R648, R650, R651, R652, R29). TRIP_N low sets TRIPN, turns the bridges
off and halts every axis, once; its release takes the input back while VIO_GEN is in range, without which it reads
low; an over-current, an open coil, an over-temperature, a link error and a lost clock set their bit, raise their
event and drive the trip path, and the pair of a cause that lasts reads error until it ends, while OTW only warns and
clears below 125 °C; a chopper period takes over the staged banks, shows TBL, and regulates the coils of each driven
axis, a requested on-time below the minimum pulse being carried up to eight periods; an axis with no microstep for
STBY_MS stands still, the end of its energising drives it or lets it stand; a full step under LOAD below LOAD_VMIN
shows IRUN and no load angle, one above it shows the angle and the adapted current, the largest angle, and declares a
stall after LA_FILT + 1 steps over the limit at IRUN; DRV_TRIP_CLR.STOP releases the STOP latch. -/
def Obligations.DriveComplete : Prop :=
  (∀ (s u : State), u = { s with drv := { s.drv with tripN := true } } →
    exec .tripNLow s = .next (if s.running = false then u
      else payOwed (if s.bit DRV_TRIP.TRIPN = true then u else haltAll (tripSet u DRV_TRIP.TRIPN) 4))) ∧
  (∀ (s u : State), u = { s with drv := { s.drv with tripN := false } } →
    exec .tripRelease s = .next (if s.running = false then u
      else if s.pwr.vioGenOk = true then tripClear u DRV_TRIP.TRIPN
      else if s.bit DRV_TRIP.TRIPN = true then u else haltAll (tripSet u DRV_TRIP.TRIPN) 4)) ∧
  (∀ (s : State) (r : FRef) (i src : Nat),
    drvFault s r i src = bark (haltAll (tripSet (drvIrq (s.setBitAt r i true) DRV_IRQ.FAULT) DRV_TRIP.FAULT) 4) src) ∧
  (∀ (s : State) (n : Fin 4), exec (.drvOcp n) s = .next (if s.up fenceDRV = true ∧ drvOn s n = true
    then drvFault s DRV_FAULT.OCP n Src.DRV_OCP else s)) ∧
  (∀ (s : State) (n : Fin 4), exec (.drvOpenDetect n) s =
    .next (if s.up fenceDRV = true ∧ drvOn s n = true ∧ s.bitAt MOT_STATUS.MOVING n = true
      then drvFault s DRV_FAULT.OPEN n Src.DRV_OPEN else s)) ∧
  (∀ (s : State) (temp : BitVec 8) (u : State), u = s.setFld DRV_TEMP.DEGC temp.toNat →
    exec (.drvOtw temp) s = .next (if s.up fenceDRV = false then s
      else if 185 < temp.toNat ∧ u.bit DRV_FAULT.OTW = false then
        drvIrq (drvIrq (u.setBit DRV_FAULT.OTW true) DRV_IRQ.FAULT) DRV_IRQ.OTW
      else if temp.toNat < 175 then u.setBit DRV_FAULT.OTW false else u)) ∧
  (∀ (s : State) (temp : BitVec 8) (u v : State), u = (if s.up fenceDRV = true then s.setFld DRV_TEMP.DEGC temp.toNat else s) →
    v = { u with drv := { u.drv with otpHot := decide (205 < temp.toNat) } } →
    exec (.drvOtp temp) s = .next (if 205 < temp.toNat ∧ u.drv.otpHot = false ∧ u.running = true then
        pairFollows (if v.up fenceDRV = true then drvFault v DRV_FAULT.OTP 0 Src.DRV_OTP else bark v Src.DRV_OTP) Src.DRV_OTP true
      else if temp.toNat < 185 then pairFollows v Src.DRV_OTP false else u)) ∧
  (∀ s : State, exec .drvLinkCrc s = .next (if s.up fenceDRV = true then
    drvFault { s with drv := { s.drv with linkAt := some s.uptime } } DRV_FAULT.LINK 0 Src.DRV_LINK else s)) ∧
  (∀ (s : State) (lost : Bool) (u : State), u = { s with drv := { s.drv with clkLost := lost } } →
    exec (.drvClockLoss lost) s = .next (if s.running = false then s
      else if lost = true ∧ s.drv.clkLost = false then
        pairFollows (if u.up fenceDRV = true then drvFault u DRV_FAULT.CLK 0 Src.DRV_LINK else bark u Src.DRV_LINK) Src.DRV_LINK true
      else pairFollows u Src.DRV_LINK lost)) ∧
  (∀ (s : State) (mA : List Int) (u v : State),
    u = [0, 1, 2, 3].foldl (fun s n => modDrvAx s n fun a => { a with bank := s.fld (DRV_AX_CFG.TBL n) }) s →
    v = (if s.drv.tblPend ≠ 0 then drvIrq { u with drv := { u.drv with tblPend := 0 } } DRV_IRQ.TBL else u) →
    exec (.chopperPeriod mA) s = .next (if s.up fenceDRV = false then s
      else (List.range 8).foldl (fun s i => if s.bitAt DRV_STATUS.DRIVEN (i / 2) = true
        then chopAxisCoil s (i / 2) (i % 2) (mA.getD i 0) else s) v)) ∧
  (∀ (s : State) (mA : List Int) (n : Fin 4) (u : State), s.up fenceDRV = true → s.drv.tblPend = 0 →
    u = [0, 1, 2, 3].foldl (fun s n => modDrvAx s n fun a => { a with bank := s.fld (DRV_AX_CFG.TBL n) }) s →
    u.fld DRV_STATUS.DRIVEN = 2 ^ n.val →
    ∃ v, v = chopAxisCoil u n 0 (mA.getD (2 * n) 0) ∧
      exec (.chopperPeriod mA) s = .next (chopAxisCoil v n 1 (mA.getD (2 * n + 1) 0))) ∧
  (∀ (s : State) (c : Coil) (r : Nat),
    pulseOf s c r = if minNs s ≤ r then ({ c with pulse := Nat.min (r + c.carry) (maxNs s), carry := 0, n := 0 }, 0, 0)
      else if r = 0 then ({ c with pulse := 0 }, 0, 0)
      else if minNs s ≤ c.carry + r then ({ c with pulse := c.carry + r, carry := 0, n := 0 }, 0, 0)
      else if c.n = 7 then ({ c with pulse := 0, carry := 0, n := 0 }, 1, 1)
      else ({ c with pulse := 0, carry := c.carry + r, n := c.n + 1 }, 1, 0)) ∧
  (∀ (s : State) (n : Fin 4), exec (.standstillEntry n) s =
    .next (if s.up fenceDRV = true ∧ drvAllowed s n = true ∧ drvState s n = 1 ∧ s.bitAt MOT_STATUS.MOVING n = false
      then standstill (s.runTo ((drvAx s n).moved + Nat.max 1 (s.fld (DRV_AX_CFG.STBY_MS n)) * 1000000)) n else s)) ∧
  (∀ (s : State) (n : Fin 4), exec (.energiseEnd n) s = .next (if s.up fenceDRV = true ∧ drvState s n = 4
    then (if axActive s n = true ∧ motEnabled s = true then setDrvState (modDrvAx s n fun a => { a with moved := s.uptime }) n 1
      else standstill s n) else s)) ∧
  (∀ (s : State) (n : Fin 4) (la : BitVec 8) (u : State), s.up fenceDRV = true → drvOn s n = true → drvLoad s n = true →
    loadFast s n = false → u = (modDrvAx s n fun a => { a with cur := none, ovr := 0, stepAt := s.uptime }).setFld (DRV_AX_LOAD.LA n) 0 →
    exec (.loadAngleStep n la) s =
      .next ((u.setFld (DRV_AX_LOAD.I n) (drvIrun u n)).setBit (DRV_AX_STAT.LOAD_VALID n) false)) ∧
  (∀ (s : State) (n : Fin 4) (la : BitVec 8) (cur ovr : Nat) (u v w : State), cur = loadAdapt s n la.toNat (s.uptime - (drvAx s n).stepAt) →
    ovr = (if s.fld (DRV_AX_LOAD_CFG.LA_LIMIT n) < la.toNat ∧ drvIrun s n * 1000000 ≤ cur then (drvAx s n).ovr + 1 else 0) →
    u = modDrvAx s n (fun a => { a with cur := some cur, ovr := ovr, stepAt := s.uptime }) →
    v = ((u.setFld (DRV_AX_LOAD.LA n) la.toNat).setFld (DRV_AX_LOAD.I n) (cur / 1000000)).setBit (DRV_AX_STAT.LOAD_VALID n) true →
    w = (if v.fld (DRV_AX_LAMAX.LA n) < la.toNat then v.setFld (DRV_AX_LAMAX.LA n) la.toNat else v) →
    exec (.loadAngleStep n la) s = .next (
      if s.up fenceDRV = false ∨ drvOn s n = false ∨ drvLoad s n = false then s
      else if loadFast s n = false then
        (((modDrvAx s n fun a => { a with cur := none, ovr := 0, stepAt := s.uptime }).setFld (DRV_AX_LOAD.LA n) 0).setFld
          (DRV_AX_LOAD.I n) (drvIrun ((modDrvAx s n fun a => { a with cur := none, ovr := 0, stepAt := s.uptime }).setFld
            (DRV_AX_LOAD.LA n) 0) n)).setBit (DRV_AX_STAT.LOAD_VALID n) false
      else if w.fld (DRV_AX_LOAD_CFG.LA_FILT n) + 1 ≤ ovr ∧ w.bit (DRV_AX_STAT.STALL n) = false then declareStall w n else w)) ∧
  (∀ (s : State) (t : Fin 8), Lets s t DRV_TRIP_CLR.addr true →
    exec (.stopLatchClear t) s = .next (written (tripClear (s.put DRV_TRIP_CLR.addr 1) DRV_TRIP.STOP) t 0))

/-- O50 (R133). For every command and state, a step of the state with that command at the front of its queue is the
command on the state with the rest of the queue; with an empty queue the block idles: one cycle of the running clock
passes, a pending injection meets its checker, frames and windows in hand go on, words move in Canopy, each core's
oldest posted store is performed and each running core goes on by one instruction (the model's choice, log entries 2
and 42). -/
def Obligations.StepRunsFront : Prop :=
  (∀ (c : Instr) (s : State) (rest : List Instr), step { s with pending := c :: rest } = exec c { s with pending := rest }) ∧
  (∀ s : State, s.pending = [] → step s = .next (coresTick (canopySettle (unitsTick (idleTick s)))))

/-- O51 (R7, R54, R55, R593, R631, R474). After power-on reset the queue is empty, memory and Root memory list nothing, no
value is staged, the maps have their canonical form, every Sapling is as chapter 17 allows, and registers of every
group read the reset value that their table gives: among them SYS_PARTID 0x4C4E0064, the timebase with DISC_EN 1, both
scheduler weights of 1, the chopper period of 1000 clocks, full permissions of LOCAL and SVC and none of a host, and
all fences open. -/
def Obligations.ResetValues : Prop :=
  State.reset.pending = [] ∧ State.reset.mem = [] ∧ State.reset.rmem = [] ∧ State.reset.stg = [] ∧ State.reset.wf = true ∧
  SaplingsWf State.reset ∧
  (∀ a, State.reset.word a = resetWord a) ∧
  State.reset.word SYS_PARTID.addr = 0x4C4E0064 ∧ State.reset.bit TIM_CTRL.DISC_EN = true ∧
  State.reset.word (TKS_WEIGHT.addr 0) = 0x01010101 ∧ State.reset.word (TKS_WEIGHT.addr 1) = 0x01010101 ∧
  State.reset.fld DRV_CHOP.PERIOD = 1000 ∧ State.reset.word BRK_FENCE.addr = 0 ∧
  (∀ j : Fin 3, State.reset.word (TEN_T_PERM.addr 7 j) = 0xFFFFFFFF ∧ State.reset.word (TEN_T_PERM.addr 6 j) = 0xFFFFFFFF ∧
    State.reset.word (TEN_T_PERM.addr 0 j) = 0) ∧
  (∀ n : Fin 4, State.reset.bit (MOT_STAT.POS_LOST n) = true) ∧
  (∀ x l : Fin 2, State.reset.bit (TK_LANE_CFG.EN x l) = true) ∧
  State.reset.pwr.mode = .off

/-- O52 (R62). A write of PWR_RMEM_DATA that is let through, at a word address below 0x6400, leaves every byte of Root
memory as it was, and at a word address of the firmware area, bytes 0x1_9000 to 0x1_FFFF, it stores the word there,
byte 0 the low byte, and leaves every other byte; both end OK. -/
def Obligations.RootMemoryFirmwareArea : Prop :=
  (∀ (s : State) (t : Fin 8) (v : Word), Lets s t PWR_RMEM_DATA.addr true → s.fld PWR_RMEM_ADDR.WADDR < 0x6400 →
    ∃ u, exec (.rmemDataAccess t (some v)) s = .next u ∧ u.rmem = s.rmem ∧ u.rsp.status = 0) ∧
  (∀ (s : State) (t : Fin 8) (v : Word) (w : Nat), Lets s t PWR_RMEM_DATA.addr true → s.fld PWR_RMEM_ADDR.WADDR = w → 0x6400 ≤ w →
    w < 0x8000 →
    ∃ u, exec (.rmemDataAccess t (some v)) s = .next u ∧ u.rsp.status = 0 ∧ u.rword (4 * w) = v ∧
      (∀ a, a < 4 * w ∨ 4 * w + 4 ≤ a → SMap.get blankByte u.rmem a = SMap.get blankByte s.rmem a))

/-- O53 (R8, R14, R138, R150, R195). A write of an ordinary register gives an RW bit the value written, clears a W1C bit
where 1 is written and leaves it where 0 is, gives an RWL bit the value written only while its lock bit is clear, and
leaves every other bit as it was; the staged bits it stages whole, in place of what was staged before, and their
effective value stays; every other register and staged value stays as it was. -/
def Obligations.OrdinaryRegisterWrites : Prop :=
  (∀ (s : State) (a i : Nat) (v : Word) (r : RegRow), findReg a = some r → (lockMask a).getLsbD i = false →
    (r.rw.getLsbD i = true → ((s.put a v).word a).getLsbD i = v.getLsbD i) ∧
    (r.rw.getLsbD i = false → r.rwl.getLsbD i = false → r.w1c.getLsbD i = true →
      ((s.put a v).word a).getLsbD i = ((regWord s a).getLsbD i && !v.getLsbD i)) ∧
    (r.rw.getLsbD i = false → r.rwl.getLsbD i = true → r.w1c.getLsbD i = false → nbit (regWord s r.lock.1).toNat r.lock.2 = true →
      ((s.put a v).word a).getLsbD i = (regWord s a).getLsbD i) ∧
    (r.rwl.getLsbD i = true → nbit (regWord s r.lock.1).toNat r.lock.2 = false →
      ((s.put a v).word a).getLsbD i = v.getLsbD i) ∧
    (r.rw.getLsbD i = false → r.rwl.getLsbD i = false → r.w1c.getLsbD i = false →
      ((s.put a v).word a).getLsbD i = (regWord s a).getLsbD i)) ∧
  (∀ (s : State) (a : Nat) (v w : Word) (r : RegRow), findReg a = some r → r.rws ≠ 0 →
    SMap.get (fun _ => none) (s.put a v).stg a = some (v &&& r.rws) ∧
    SMap.get (fun _ => none) ((s.put a v).put a w).stg a = some (w &&& r.rws)) ∧
  (∀ (s : State) (a b : Nat) (v : Word), a ≠ b →
    (s.put a v).word b = s.word b ∧ SMap.get (fun _ => none) (s.put a v).stg b = SMap.get (fun _ => none) s.stg b)

/-- O54 (R138, R139, R141, R142, R296, R463). Applying a group makes the staged bits of each of its registers effective
and leaves nothing of the group staged, while every register with nothing staged in the group, and what is staged of
other groups, stays. An apply of a set of groups takes them in rising order under the permissions that stood before
it; a group whose governing block the tenant may not write, whose unit is fenced or in reset, or whose bough is in a
graft, is skipped and shows it. -/
def Obligations.UpdateGroupsApply : Prop :=
  (∀ (s : State) (g a : Nat) (v : Word) (r : RegRow), SMap.wf (fun _ => none) s.stg = true →
    SMap.get (fun _ => none) s.stg a = some v → groupOf a = g → findReg a = some r →
    (commitGroup s g).word a = ((s.word a &&& ~~~ r.rws) ||| (v &&& r.rws))) ∧
  (∀ (s : State) (g a : Nat), SMap.wf (fun _ => none) s.stg = true → groupOf a = g →
    SMap.get (fun _ => none) (commitGroup s g).stg a = none) ∧
  (∀ (s : State) (g a : Nat), SMap.wf (fun _ => none) s.stg = true → groupOf a ≠ g →
    SMap.get (fun _ => none) (commitGroup s g).stg a = SMap.get (fun _ => none) s.stg a ∧ (commitGroup s g).word a = s.word a) ∧
  (∀ (s : State) (g a : Nat), SMap.wf (fun _ => none) s.stg = true → SMap.get (fun _ => none) s.stg a = none →
    (commitGroup s g).word a = s.word a) ∧
  (∀ (s : State) (t m : Nat), applyGroups s t m = (List.range 16).foldl (fun u g =>
    if nbit m g = true then applyGroup u (s.perm t (groupBlock g) == 3) g else u) s) ∧
  (∀ (s : State) (may : Bool) (g : Nat), applyGroup s may g =
    if may = true ∧ groupUp s g = true ∧ ¬ (2 ≤ g ∧ g ≤ 5 ∧ s.bit (CNP_STATUS.GRAFT (g - 2)) = true) then
      groupTakes s (commitGroup s g) g
    else s.setBitAt SYS_UPD_STAT.SKIPPED g true)

/-- O55 (R684, R29). While EXTEST or HIGHZ is in the instruction register, an event on a land of the boundary-scan
register changes nothing: an edge of a tach, HOME, LIMIT, STEP_IN or master input, RST_N, a module's or a lane's land,
a land of the rack, a frame of the service port (which commands are such events is the model's choice); and TRIP_N low
still acts. -/
def Obligations.LandsCutOff : Prop :=
  (∀ (s : State) (c : Instr), landsCut s = true →
    (∀ (i : Fin 8) (a b z : Bool) (stamp : BitVec 64) (held : BitVec 32), exec (.tachEdge i a b z stamp held) s = .next s) ∧
    (∀ (n : Fin 4) (h : Bool) (dt : Nat), exec (.homeInputEdge n h) s = .next s ∧ exec (.limitActive n h) s = .next s ∧
      exec (.followStepIn n h) s = .next s ∧ exec (.gearMasterEdge n dt) s = .next s) ∧
    (c = .rstNLow ∨ c = .rstNRelease ∨ c = .crbGrant ∨ c = .crbGrantLost ∨ c = .crbIrqWake ∨ c = .crbForeignStrobe ∨
      c = .crbAnswerWithoutStrobe ∨ c = .svcInvalidFrame → exec c s = .next s) ∧
    (∀ (x l : Fin 2), exec (.laneModulePresent x l) s = .next s ∧ exec (.laneModabsRise x l) s = .next s ∧
      exec (.laneLos x l) s = .next s) ∧
    (∀ (L : Fin 4) (ls : BitVec 4), exec (.crbIackRespond L) s = .next s ∧ exec (.crbIrqLineReleased L) s = .next s ∧
      exec (.crbIrqServe ls) s = .next s) ∧
    (∀ (r b : Bool) (d : BitVec 16), exec (.crbSlaveAnswer r b d) s = .next s ∧ exec (.crbHung r) s = .next s) ∧
    (∀ (a : BitVec 24) (n : Fin 64) (k w ub lb : Bool) (d : BitVec 16) (ecc : List (Fin 3)),
      exec (.crbInboundCycle a n k w ub lb d ecc) s = .next s) ∧
    (∀ (fixed : Bool) (a : BitVec 40) (n : Fin 32) (cor lost : BitVec 32) (ws : List Word) (part : SvcPart),
      exec (.svcReadFrame fixed a n cor lost) s = .next s ∧ exec (.svcWriteFrame fixed a ws) s = .next s ∧
      exec (.svcFrameAbort fixed a part) s = .next s)) ∧
  (∀ s : State, s.running = true → s.bit DRV_TRIP.TRIPN = false →
    exec .tripNLow s = .next (payOwed (haltAll (tripSet { s with drv := { s.drv with tripN := true } } DRV_TRIP.TRIPN) 4)))

/-- O56 (R25). The gate of class ALARM is open at every instant and it has no guard band; where some subscriber's ALARM
head may be sent and no ALARM head is longer than a frame can be, 288 bytes, the scheduler takes a frame at the head
of an ALARM queue, whatever waits in any other class, and so does the bypass while the scheduler is fenced; a
DELAY_REQ waits while an ALARM head of its port may be sent. -/
def Obligations.AlarmFirst : Prop :=
  (∀ (s : State) (x : Nat), gateOpen s x 0 = true ∧ inGuard s x 0 = false) ∧
  (∀ (s : State) (x : Fin 2) (u : Fin 5), headReady s x u 0 = true →
    (∀ (v : Nat) (e : EgFrame), headOf s x v 0 = some e → fsize e.f ≤ 288) →
    ∃ (t : State) (e : EgFrame) (v : Nat), selectFrom s x [0, 1, 2, 3, 4, 5] = some (t, e) ∧ headOf s x v 0 = some e) ∧
  (∀ (s : State) (x : Fin 2) (u : Fin 5) (e : EgFrame), headOf s x u 0 = some e → (u = 4 ∨ hostCreditOk s u e.f = true) →
    ∃ (t : State) (g : EgFrame) (v : Nat), selectBypass s x [0, 1, 2] = some (t, g) ∧ headOf s x v 0 = some g) ∧
  (∀ (s : State) (e : Exch) (u : Fin 5), s.tim.exch = some e → s.fenced fenceTKS = false → headReady s e.port u 0 = true →
    exec .timeDelayReqTx s = .next s)

/-- O57 (R555, R589, R590). A command of a Sapling changes that Sapling alone, and the counter of free values; the
beginning and the end of a wake window let time run on to them. Every other Sapling, every register of the node,
memory, Root memory and all other state stay. -/
def Obligations.SaplingFrame : Prop :=
  ∀ (s t : State) (c : Instr) (p : Nat), saplingCommand c = true → exec c s = .next t →
    (∀ a b, sapOf t a ≠ sapOf s a → sapOf t b ≠ sapOf s b → a = b) ∧
    t = { s with saps := t.saps, free := t.free, uptime := t.uptime, tim := { s.tim with now := t.tim.now, frac := t.tim.frac } } ∧
    ((∀ n, c ≠ .saplingWakeWindow n ∧ c ≠ .saplingListenEnd n) → t.uptime = s.uptime ∧ t.tim = s.tim) ∧ t.byte p = s.byte p ∧ t.word p = s.word p

/-- O58 (R511, R515, R534, R536, R540). A bus request, a grant, the IACK renewal, a service of the interrupt lines, a
released line, a foreign strobe and an answered IACK change, of the registers, CRB_STATUS and CRB_IRQ only (and, where
OUTACK wakes a core that waits, the crew block's), no byte of memory or Root memory, and nothing of the power
sequencing, time, trunk, tenants, Heartwood, Grove, motion, drive and the records. -/
def Obligations.RackFrame : Prop :=
  ∀ (s t : State) (c : Instr) (L : Fin 4) (lines : BitVec 4),
    (c = .crbBusRequest ∨ c = .crbGrant ∨ c = .crbIackWindow ∨ c = .crbIrqServe lines ∨ c = .crbIrqLineReleased L ∨
      c = .crbForeignStrobe ∨ c = .crbIackRespond L) →
    exec c s = .next t →
    (∀ a, t.byte a = s.byte a) ∧ t.rmem = s.rmem ∧ (∀ a, blockOf a ≠ 0x14 → a ≠ CRB_STATUS.addr → a ≠ CRB_IRQ.addr → t.word a = s.word a) ∧
    t.stg = s.stg ∧ t.pwr = s.pwr ∧ t.tim = s.tim ∧ t.brk = s.brk ∧ t.tk = s.tk ∧ t.tks = s.tks ∧ t.th = s.th ∧ t.hwd = s.hwd ∧
    t.grv = s.grv ∧ t.saps = s.saps ∧ t.mot = s.mot ∧ t.drv = s.drv ∧ t.eng = s.eng ∧ t.cnp = s.cnp ∧ t.crb.q = s.crb.q ∧
    t.crb.inb = s.crb.inb ∧ t.pending = s.pending

/-- O59 (R363, R390, R393). A store of core n into its own TCM changes the bytes it stores to, at the address its operands
give, and no other byte, no x register and no unit register but those of the debug module; a load from its own TCM
changes register rd at most, and never x0, and no byte of memory; a store-conditional without its reservation changes
no byte. -/
def Obligations.CoreMemoryFrame : Prop :=
  (∀ (s u t : State) (n : Fin 4) (c : Bool) (k : Fin 3) (rs1 rs2 : Fin 32) (imm : BitVec 12) (a : Nat) (r : CoreRow),
    ExecutesLen s n (instrLen c) u → a = coreAddr u n rs1 imm → trigHit u n 1 a (some (leNat (toLE (2 ^ k.val) (xreg u n rs2).toNat))) = none →
    dataCheck u n a (2 ^ k.val) true = .ok r → r.dest = .memory → ownTcm n a = true →
    exec (.coreStore n c k rs1 rs2 imm) s = .next t →
    (∀ x, x < a ∨ a + 2 ^ k.val ≤ x → t.byte x = u.byte x) ∧
    t.bytes a (2 ^ k.val) = toLE (2 ^ k.val) (xreg u n rs2).toNat ∧
    (∀ j : Fin 32, xreg t n j = xreg u n j) ∧ t.rmem = u.rmem ∧ t.saps = u.saps ∧ t.pwr = u.pwr ∧ t.th = u.th) ∧
  (∀ (s u t : State) (n : Fin 4) (c : Bool) (k : Fin 3) (uns : Bool) (rd rs1 : Fin 32) (imm : BitVec 12) (a : Nat) (r : CoreRow),
    ExecutesLen s n (instrLen c) u → a = coreAddr u n rs1 imm → trigHit u n 0 a none = none → dataCheck u n a (2 ^ k.val) false = .ok r →
    r.dest = .memory → ownTcm n a = true → exec (.coreLoad n c k uns rd rs1 imm 0) s = .next t →
    (∀ x, t.byte x = u.byte x) ∧ (∀ j : Fin 32, j ≠ rd → xreg t n j = xreg u n j) ∧ xreg t n 0 = 0 ∧ t.rmem = u.rmem ∧ t.pwr = u.pwr) ∧
  (∀ (s u t : State) (n : Fin 4) (rd rs1 rs2 : Fin 32) (a : Nat) (r : CoreRow), Executes s n u → a = (xreg u n rs1).toNat →
    atomCheck u n a false true = .ok r → u.rsv.getD n none ≠ some (granule a) → exec (.coreSc n rd rs1 rs2) s = .next t →
    (∀ x, t.byte x = u.byte x) ∧ (∀ j : Fin 32, j ≠ rd → xreg t n j = xreg u n j))

/-- O60 (R553, R562, R589, R590, R572). For every state, reached or not, in which each Sapling has an address of at most
62, counters of a byte, two ports and eight channels whose registers hold only the bits of Table 17-8, a step that
performs any command of a Sapling leaves them so; and that step always answers a next state, with the rest of the
queue. -/
def Obligations.SaplingsStayWellFormed : Prop :=
  ∀ (s : State) (c : Instr) (rest : List Instr), SaplingsWf s → saplingCommand c = true →
    ∃ t, step { s with pending := c :: rest } = .next t ∧ SaplingsWf t ∧ t.pending = rest
end

