-- ==== Sys2Proof/Laws/Crew.lean ====
section
/-! SUPPORT. Lemmas about the crew cores' shared operations: each says once what its operation does to a core. -/

namespace Sys2Proof.Machine

@[simp] theorem modAt_length {α : Type} (l : List α) (i : Nat) (f : α → α) : (modAt l i f).length = l.length := by
  induction l generalizing i with
  | nil => rfl
  | cons x xs ih => cases i <;> simp [modAt, ih]

theorem modAt_getD {α : Type} (l : List α) (i : Nat) (f : α → α) (d : α) (h : i < l.length) :
    (modAt l i f).getD i d = f (l.getD i d) := by
  induction l generalizing i with
  | nil => exact absurd h (Nat.not_lt_zero i)
  | cons x xs ih =>
    cases i with
    | zero => rfl
    | succ i => simpa [modAt] using ih i (by simpa using h)

theorem modAt_getD_other {α : Type} (l : List α) (i j : Nat) (f : α → α) (d : α) (h : i ≠ j) :
    (modAt l i f).getD j d = l.getD j d := by
  induction l generalizing i j with
  | nil => rfl
  | cons x xs ih =>
    cases i with
    | zero => cases j with
      | zero => exact absurd rfl h
      | succ j => rfl
    | succ i => cases j with
      | zero => rfl
      | succ j => simpa [modAt] using ih i j (by omega)

/-- A change of core `n` is seen in core `n`, -/
theorem coreOf_modCore (s : State) (n : Nat) (f : Core → Core) (h : n < s.crw.cores.length) :
    coreOf (modCore s n f) n = f (coreOf s n) := modAt_getD _ _ _ _ h

/-- and in no other. -/
theorem coreOf_modCore_other (s : State) (n m : Nat) (f : Core → Core) (h : n ≠ m) :
    coreOf (modCore s n f) m = coreOf s m := modAt_getD_other _ _ _ _ _ h

/-- Two changes of one core are one. -/
theorem modAt_modAt {α : Type} (l : List α) (i : Nat) (f g : α → α) : modAt (modAt l i f) i g = modAt l i fun x => g (f x) := by
  induction l generalizing i with
  | nil => rfl
  | cons x xs ih => cases i with
    | zero => rfl
    | succ i => exact congrArg (x :: ·) (ih i)

theorem modAt_id {α : Type} (l : List α) (i : Nat) : modAt l i (fun x => x) = l := by
  induction l generalizing i with
  | nil => rfl
  | cons x xs ih => cases i with
    | zero => rfl
    | succ i => exact congrArg (x :: ·) (ih i)

theorem modCore_modCore (s : State) (n : Nat) (f g : Core → Core) :
    modCore (modCore s n f) n g = modCore s n fun c => g (f c) := by
  simp only [modCore, modAt_modAt]

theorem modCore_id (s : State) (n : Nat) : modCore s n (fun c => c) = s := by
  simp only [modCore, modAt_id]

@[simp] theorem modCore_count (s : State) (n : Nat) (f : Core → Core) :
    (modCore s n f).crw.cores.length = s.crw.cores.length := modAt_length _ _ _

@[simp] theorem coreOf_setWord (s : State) (a n : Nat) (w : Word) : coreOf (s.setWord a w) n = coreOf s n := rfl

/-- x0 takes no value. -/
@[simp] theorem setX_zero (s : State) (n : Nat) (v : Word) : setX s n 0 v = s := rfl

@[simp] theorem xreg_zero (s : State) (n : Nat) : xreg s n 0 = 0 := rfl

/-- A read whose words are good leaves the state as it is. -/
theorem memReadEcc_good (s u : State) (t : Nat) (ok : Bool) (r : Row) (a n : Nat) (bs : List Byte)
    (h : memReadEcc s t ok r a n [Fin.ofNat 3 0] = (u, 0, bs)) : u = s := by
  rw [show Fin.ofNat 3 0 = (0 : Fin 3) from rfl] at h
  unfold memReadEcc memRead at h
  simp only [eccReads, eccRead] at h
  split at h <;> split at h <;> simp_all

/-- A core's line is at hand, or is read into its prefetch buffer. -/
theorem fetchLine_good (s u : State) (n a : Nat) (h : fetchLine s n a 0 = (u, true)) :
    ∃ p : Core → List (Nat × List Byte), u = modCore s n fun c => { c with pref := p c } := by
  unfold fetchLine at h
  split at h
  · refine ⟨Core.pref, ?_⟩
    have : s = u := (Prod.ext_iff.mp h).1
    subst this
    exact (modCore_id s n).symm
  · simp only at h
    split at h
    · simp at h
    · rename_i st
      have hs := memReadEcc_good s _ 7 _ .l2 _ 32 _ (Prod.ext_iff.mpr ⟨rfl, Prod.ext_iff.mpr ⟨Decidable.not_not.mp st, rfl⟩⟩)
      have := (Prod.ext_iff.mp h).1
      simp only at this
      rw [← this]
      exact ⟨_, congrArg (fun x => modCore x n _) hs⟩

/-- A successful fetch of good words changes nothing but the length it notes and the prefetch buffer (R364, R395). -/
theorem fetchAt_ok (s u : State) (n len : Nat) (h : fetchAt s n len 0 = (u, true)) :
    ∃ p : Core → List (Nat × List Byte), u = modCore s n fun c => { c with ilen := len, pref := p c } := by
  unfold fetchAt at h
  simp only [eccRead] at h
  split at h
  · simp at h
  · split at h
    · exact ⟨Core.pref, by simpa using h.symm⟩
    · split at h
      · split at h
        · rename_i ok
          obtain ⟨p, hp⟩ := fetchLine_good _ _ n _ (Prod.ext_iff.mpr ⟨rfl, ok⟩)
          obtain ⟨q, hq⟩ := fetchLine_good _ _ n _ h
          have hp' := hq.trans (congrArg (fun x => modCore x n fun c => { c with pref := q c }) hp)
          simp only [modCore_modCore] at hp'
          exact ⟨fun c => q { c with ilen := len, pref := p { c with ilen := len } }, hp'⟩
        · simp at h
      · simp at h

/-- Showing a pc leaves the cores alone. -/
@[simp] theorem coreOf_showPc (s : State) (n m : Nat) (pc : Word) (dbg : Bool) :
    coreOf (showPc s n pc dbg) m = coreOf s m := by cases dbg <;> rfl

@[simp] theorem showPc_count (s : State) (n : Nat) (pc : Word) (dbg : Bool) :
    (showPc s n pc dbg).crw.cores.length = s.crw.cores.length := by cases dbg <;> rfl

/-- Counting an instruction leaves the core's pc and instruction length, -/
theorem countInstr_pc (s : State) (n : Nat) (dbg : Bool) (h : n < s.crw.cores.length) :
    (coreOf (countInstr s n dbg) n).pc = (coreOf s n).pc ∧ (coreOf (countInstr s n dbg) n).ilen = (coreOf s n).ilen := by
  unfold countInstr
  split
  · exact ⟨rfl, rfl⟩
  · simp only [setCsr]
    rw [coreOf_modCore _ _ _ (by simpa using h), coreOf_modCore _ _ _ h]
    exact ⟨rfl, rfl⟩

@[simp] theorem countInstr_count (s : State) (n : Nat) (dbg : Bool) :
    (countInstr s n dbg).crw.cores.length = s.crw.cores.length := by
  unfold countInstr
  split
  · rfl
  · simp [setCsr]

/-- and the other cores. -/
theorem countInstr_other (s : State) (n m : Nat) (dbg : Bool) (h : n ≠ m) :
    coreOf (countInstr s n dbg) m = coreOf s m := by
  unfold countInstr
  split
  · rfl
  · simp only [setCsr, coreOf_modCore_other _ _ _ _ h]

/-- An instruction that retires leaves the pc past its bytes. -/
theorem retire_pc (s : State) (n : Nat) (h : n < s.crw.cores.length) :
    (coreOf (retire s n) n).pc = (coreOf s n).pc + BitVec.ofNat 32 (coreOf s n).ilen := by
  unfold retire noteRetired
  rw [coreOf_modCore _ _ _ (by simpa using h)]
  obtain ⟨hp, hl⟩ := countInstr_pc (showPc s n (coreOf s n).pc (coreOf s n).prog.isSome) n (coreOf s n).prog.isSome
    (by simpa using h)
  rw [hp, hl, coreOf_showPc]

/-- Retiring one core's instruction leaves the other cores alone. -/
theorem retire_other (s : State) (n m : Nat) (h : n ≠ m) : coreOf (retire s n) m = coreOf s m := by
  unfold retire noteRetired
  rw [coreOf_modCore_other _ _ _ _ h, countInstr_other _ _ _ _ h, coreOf_showPc]

/-- Counting or showing an instruction takes no time, -/
@[simp] theorem countInstr_uptime (s : State) (n : Nat) (dbg : Bool) : (countInstr s n dbg).uptime = s.uptime := by
  unfold countInstr
  split <;> rfl

/-- and neither does retiring one. -/
@[simp] theorem retire_uptime (s : State) (n : Nat) : (retire s n).uptime = s.uptime := by
  show (countInstr _ _ _).uptime = _
  rw [countInstr_uptime]
  cases (coreOf s n).prog.isSome <;> rfl

/-- With no halt pending a core goes on as it is. -/
theorem haltNow_none (s : State) (n : Nat) (h : (coreOf s n).halt = none) : haltNow s n = s := by
  unfold haltNow
  rw [h]

/-- An instruction that a core executes is its function on what the fetch leaves. -/
theorem onCore_executes (s u : State) (n len : Nat) (f : State → State) (h : ExecutesLen s n len u) :
    onCore n len s f = stepHalt (f u) n := by
  obtain ⟨run, halt, fetch, trig⟩ := h
  unfold onCore
  simp [haltNow_none s n halt, run, fetch, trig]

/-- A core that does not run executes nothing. -/
theorem onCore_stopped (s : State) (n len : Nat) (f : State → State) (halt : (coreOf s n).halt = none)
    (h : coreRuns s n = false) : onCore n len s f = s := by
  unfold onCore
  simp [haltNow_none s n halt, h]

end Sys2Proof.Machine
end

