-- ==== Sys2Proof/Laws/Fields.lean ====
section
/-! SUPPORT. Laws of word fields: what a field reads after it, or another one, is set. -/

namespace Sys2Proof.Machine

theorem testBit_field (n lo wid i : Nat) :
    (n / 2 ^ lo % 2 ^ wid).testBit i = (decide (i < wid) && n.testBit (lo + i)) := by
  rw [Nat.testBit_mod_two_pow, Nat.testBit_div_two_pow, Nat.add_comm lo i]

theorem fieldMask_bit (lo wid i : Nat) (h : i < 32) :
    (fieldMask lo wid).getLsbD i = (decide (lo ≤ i) && decide (i < lo + wid)) := by
  unfold fieldMask
  rw [BitVec.getLsbD_ofNat, Nat.testBit_mul_two_pow, Nat.testBit_two_pow_sub_one]
  by_cases h1 : lo ≤ i
  · simp only [h, h1, decide_true, Bool.true_and]
    by_cases h2 : i < lo + wid
    · have : i - lo < wid := by omega
      simp [h2, this]
    · have : ¬ i - lo < wid := by omega
      simp [h2, this]
  · simp [h1]

/-- Bit `i` of a word whose field has been set. -/
theorem wordSet_bit (v : BitVec 32) (lo wid n i : Nat) (h : i < 32) :
    (wordSet v lo wid n).getLsbD i =
      if lo ≤ i ∧ i < lo + wid then n.testBit (i - lo) else v.getLsbD i := by
  unfold wordSet
  rw [BitVec.getLsbD_or, BitVec.getLsbD_and, BitVec.getLsbD_not, fieldMask_bit lo wid i h, BitVec.getLsbD_ofNat,
    Nat.testBit_mul_two_pow, Nat.testBit_mod_two_pow]
  by_cases h1 : lo ≤ i
  · by_cases h2 : i < lo + wid
    · have h3 : i - lo < wid := by omega
      simp [h, h1, h2, h3]
    · have h3 : ¬ i - lo < wid := by omega
      simp [h, h1, h2, h3]
  · simp [h, h1]

theorem wordField_bit (v : BitVec 32) (lo wid i : Nat) :
    (wordField v lo wid).testBit i = (decide (i < wid) && v.getLsbD (lo + i)) := by
  unfold wordField
  rw [testBit_field]
  rfl

/-- A field reads what it was set to. -/
theorem wordField_wordSet (v : BitVec 32) (lo wid n : Nat) (h : lo + wid ≤ 32) :
    wordField (wordSet v lo wid n) lo wid = n % 2 ^ wid := by
  apply Nat.eq_of_testBit_eq
  intro i
  rw [wordField_bit, Nat.testBit_mod_two_pow]
  by_cases hi : i < wid
  · rw [wordSet_bit v lo wid n (lo + i) (by omega)]
    simp [hi]
  · simp [hi]

/-- A field apart from the one set reads as before. -/
theorem wordField_wordSet_other (v : BitVec 32) (lo wid n lo' wid' : Nat) (h : lo' + wid' ≤ 32)
    (apart : lo' + wid' ≤ lo ∨ lo + wid ≤ lo') :
    wordField (wordSet v lo wid n) lo' wid' = wordField v lo' wid' := by
  apply Nat.eq_of_testBit_eq
  intro i
  rw [wordField_bit, wordField_bit]
  by_cases hi : i < wid'
  · rw [wordSet_bit v lo wid n (lo' + i) (by omega), if_neg (by omega)]
  · simp [hi]

theorem wordField_lt (v : BitVec 32) (lo wid : Nat) : wordField v lo wid < 2 ^ wid :=
  Nat.mod_lt _ (Nat.two_pow_pos wid)

end Sys2Proof.Machine
end

