-- ==== Sys2Proof/Laws/SMap.lean ====
section
/-! SUPPORT. Laws of the sparse map: reading back a write, and the canonical form. -/

namespace Sys2Proof.Machine

variable {α : Type} [DecidableEq α] (d : Nat → α)

omit [DecidableEq α] in
theorem SMap.get_erase (m : SMap α) (a b : Nat) :
    SMap.get d (SMap.erase m a) b = if a = b then d b else SMap.get d m b := by
  induction m with
  | nil => simp [SMap.erase, SMap.get]
  | cons p m ih =>
    obtain ⟨k, v⟩ := p
    simp only [SMap.erase] at ih ⊢
    by_cases hk : k = a
    · subst hk
      simp only [List.filter_cons, bne_self_eq_false, Bool.false_eq_true, if_false, ih, SMap.get]
      by_cases hb : k = b <;> simp [hb]
    · have hk' : (k != a) = true := by simpa using hk
      simp only [List.filter_cons, hk', if_true, SMap.get, ih]
      by_cases hb : k = b
      · subst hb
        have : ¬ a = k := fun h => hk h.symm
        simp [this]
      · simp [hb]

omit [DecidableEq α] in
theorem SMap.get_ins (m : SMap α) (a b : Nat) (v : α) (h : ∀ p ∈ m, p.1 ≠ a) :
    SMap.get d (SMap.ins a v m) b = if a = b then v else SMap.get d m b := by
  induction m with
  | nil => simp [SMap.ins, SMap.get]
  | cons p m ih =>
    obtain ⟨k, w⟩ := p
    have hk : k ≠ a := h (k, w) (by simp)
    have hm : ∀ p ∈ m, p.1 ≠ a := fun p hp => h p (by simp [hp])
    by_cases hlt : a < k
    · simp [SMap.ins, hlt, SMap.get]
    · simp only [SMap.ins, hlt, if_false, SMap.get, ih hm]
      by_cases hb : k = b
      · subst hb
        have : ¬ a = k := fun e => hk e.symm
        simp [this]
      · simp [hb]

omit [DecidableEq α] in
theorem SMap.mem_erase (m : SMap α) (a : Nat) : ∀ p ∈ SMap.erase m a, p.1 ≠ a := by
  intro p hp
  simp [SMap.erase] at hp
  exact hp.2

/-- What a map reads as after a write: the value at the key written, everywhere else as before. -/
theorem SMap.get_set (m : SMap α) (a b : Nat) (v : α) :
    SMap.get d (SMap.set d m a v) b = if a = b then v else SMap.get d m b := by
  unfold SMap.set
  by_cases hv : v = d a
  · subst hv
    rw [if_pos rfl, SMap.get_erase]
    by_cases hb : a = b
    · subst hb; simp
    · simp [hb]
  · rw [if_neg hv, SMap.get_ins d _ a b v (SMap.mem_erase m a), SMap.get_erase]
    by_cases hb : a = b <;> simp [hb]

omit [DecidableEq α] in
theorem SMap.rising_le {lo lo' : Nat} (h : lo' ≤ lo) : ∀ {m : SMap α}, SMap.rising lo m = true → SMap.rising lo' m = true := by
  intro m
  cases m with
  | nil => intro _; rfl
  | cons p m =>
    obtain ⟨k, v⟩ := p
    simp only [SMap.rising, Bool.and_eq_true, decide_eq_true_eq]
    intro ⟨h1, h2⟩
    exact ⟨by omega, h2⟩

omit [DecidableEq α] in
theorem SMap.rising_erase (a : Nat) : ∀ (m : SMap α) (lo : Nat), SMap.rising lo m = true → SMap.rising lo (SMap.erase m a) = true := by
  intro m
  induction m with
  | nil => intro _ _; rfl
  | cons p m ih =>
    obtain ⟨k, v⟩ := p
    intro lo h
    simp only [SMap.rising, Bool.and_eq_true, decide_eq_true_eq] at h
    simp only [SMap.erase] at ih ⊢
    by_cases hk : k = a
    · subst hk
      simp only [List.filter_cons, bne_self_eq_false, Bool.false_eq_true, if_false]
      exact SMap.rising_le (by omega) (ih (k + 1) h.2)
    · have hk' : (k != a) = true := by simpa using hk
      simp only [List.filter_cons, hk', if_true, SMap.rising, Bool.and_eq_true, decide_eq_true_eq]
      exact ⟨h.1, ih (k + 1) h.2⟩

omit [DecidableEq α] in
theorem SMap.rising_ins (a : Nat) (v : α) : ∀ (m : SMap α) (lo : Nat), lo ≤ a → (∀ p ∈ m, p.1 ≠ a) →
    SMap.rising lo m = true → SMap.rising lo (SMap.ins a v m) = true := by
  intro m
  induction m with
  | nil => intro lo h _ _; simp [SMap.ins, SMap.rising, h]
  | cons p m ih =>
    obtain ⟨k, w⟩ := p
    intro lo hlo hne h
    simp only [SMap.rising, Bool.and_eq_true, decide_eq_true_eq] at h
    have hk : k ≠ a := hne (k, w) (by simp)
    by_cases hlt : a < k
    · simp only [SMap.ins, hlt, if_true, SMap.rising, Bool.and_eq_true, decide_eq_true_eq]
      exact ⟨hlo, by omega, h.2⟩
    · simp only [SMap.ins, hlt, if_false, SMap.rising, Bool.and_eq_true, decide_eq_true_eq]
      exact ⟨h.1, ih (k + 1) (by omega) (fun p hp => hne p (by simp [hp])) h.2⟩

omit [DecidableEq α] in
theorem SMap.mem_ins {a : Nat} {v : α} : ∀ {m : SMap α} {p : Nat × α}, p ∈ SMap.ins a v m → p = (a, v) ∨ p ∈ m := by
  intro m
  induction m with
  | nil => intro p hp; simpa [SMap.ins] using hp
  | cons q m ih =>
    obtain ⟨k, w⟩ := q
    intro p hp
    by_cases hlt : a < k
    · simpa [SMap.ins, hlt] using hp
    · simp only [SMap.ins, hlt, if_false, List.mem_cons] at hp
      rcases hp with hp | hp
      · exact .inr (by simp [hp])
      · rcases ih hp with h | h
        · exact .inl h
        · exact .inr (by simp [h])

/-- A write keeps the canonical form. -/
theorem SMap.wf_set (m : SMap α) (a : Nat) (v : α) (h : SMap.wf d m = true) : SMap.wf d (SMap.set d m a v) = true := by
  simp only [SMap.wf, Bool.and_eq_true, List.all_eq_true] at h ⊢
  have he : ∀ p ∈ SMap.erase m a, p ∈ m := by
    intro p hp
    simp only [SMap.erase, List.mem_filter] at hp
    exact hp.1
  unfold SMap.set
  by_cases hv : v = d a
  · rw [if_pos hv]
    exact ⟨SMap.rising_erase a m 0 h.1, fun p hp => h.2 p (he p hp)⟩
  · rw [if_neg hv]
    refine ⟨SMap.rising_ins a v _ 0 (by omega) (SMap.mem_erase m a) (SMap.rising_erase a m 0 h.1), fun p hp => ?_⟩
    rcases SMap.mem_ins hp with hp | hp
    · subst hp; simpa using hv
    · exact h.2 p (he p hp)

end Sys2Proof.Machine
end

