-- ==== Sys2Proof/Laws/State.lean ====
section
/-! SUPPORT. What each named update of the state leaves as it was: one lemma for each field and update. -/

namespace Sys2Proof.Machine

@[simp] theorem State.setBytes_pending (s : State) (a : Nat) (bs : List Byte) : (s.setBytes a bs).pending = s.pending := by
  induction bs generalizing s a with
  | nil => rfl
  | cons b bs ih => exact ih _ _
@[simp] theorem State.setBytes_regs (s : State) (a : Nat) (bs : List Byte) : (s.setBytes a bs).regs = s.regs := by
  induction bs generalizing s a with
  | nil => rfl
  | cons b bs ih => exact ih _ _
@[simp] theorem State.setBytes_stg (s : State) (a : Nat) (bs : List Byte) : (s.setBytes a bs).stg = s.stg := by
  induction bs generalizing s a with
  | nil => rfl
  | cons b bs ih => exact ih _ _
@[simp] theorem State.setBytes_snaps (s : State) (a : Nat) (bs : List Byte) : (s.setBytes a bs).snaps = s.snaps := by
  induction bs generalizing s a with
  | nil => rfl
  | cons b bs ih => exact ih _ _
@[simp] theorem State.setBytes_rmem (s : State) (a : Nat) (bs : List Byte) : (s.setBytes a bs).rmem = s.rmem := by
  induction bs generalizing s a with
  | nil => rfl
  | cons b bs ih => exact ih _ _
@[simp] theorem State.setBytes_uptime (s : State) (a : Nat) (bs : List Byte) : (s.setBytes a bs).uptime = s.uptime := by
  induction bs generalizing s a with
  | nil => rfl
  | cons b bs ih => exact ih _ _
@[simp] theorem State.setBytes_free (s : State) (a : Nat) (bs : List Byte) : (s.setBytes a bs).free = s.free := by
  induction bs generalizing s a with
  | nil => rfl
  | cons b bs ih => exact ih _ _
@[simp] theorem State.setBytes_rsp (s : State) (a : Nat) (bs : List Byte) : (s.setBytes a bs).rsp = s.rsp := by
  induction bs generalizing s a with
  | nil => rfl
  | cons b bs ih => exact ih _ _
@[simp] theorem State.setBytes_pwr (s : State) (a : Nat) (bs : List Byte) : (s.setBytes a bs).pwr = s.pwr := by
  induction bs generalizing s a with
  | nil => rfl
  | cons b bs ih => exact ih _ _
@[simp] theorem State.setBytes_sys (s : State) (a : Nat) (bs : List Byte) : (s.setBytes a bs).sys = s.sys := by
  induction bs generalizing s a with
  | nil => rfl
  | cons b bs ih => exact ih _ _
@[simp] theorem State.setBytes_tim (s : State) (a : Nat) (bs : List Byte) : (s.setBytes a bs).tim = s.tim := by
  induction bs generalizing s a with
  | nil => rfl
  | cons b bs ih => exact ih _ _
@[simp] theorem State.setBytes_brk (s : State) (a : Nat) (bs : List Byte) : (s.setBytes a bs).brk = s.brk := by
  induction bs generalizing s a with
  | nil => rfl
  | cons b bs ih => exact ih _ _
@[simp] theorem State.setBytes_indSap (s : State) (a : Nat) (bs : List Byte) : (s.setBytes a bs).indSap = s.indSap := by
  induction bs generalizing s a with
  | nil => rfl
  | cons b bs ih => exact ih _ _
@[simp] theorem State.setBytes_indSched (s : State) (a : Nat) (bs : List Byte) : (s.setBytes a bs).indSched = s.indSched := by
  induction bs generalizing s a with
  | nil => rfl
  | cons b bs ih => exact ih _ _
@[simp] theorem State.setBytes_indConf (s : State) (a : Nat) (bs : List Byte) : (s.setBytes a bs).indConf = s.indConf := by
  induction bs generalizing s a with
  | nil => rfl
  | cons b bs ih => exact ih _ _
@[simp] theorem State.setBytes_indTbl (s : State) (a : Nat) (bs : List Byte) : (s.setBytes a bs).indTbl = s.indTbl := by
  induction bs generalizing s a with
  | nil => rfl
  | cons b bs ih => exact ih _ _
@[simp] theorem State.setBytes_afe (s : State) (a : Nat) (bs : List Byte) : (s.setBytes a bs).afe = s.afe := by
  induction bs generalizing s a with
  | nil => rfl
  | cons b bs ih => exact ih _ _
@[simp] theorem State.setBytes_watch (s : State) (a : Nat) (bs : List Byte) : (s.setBytes a bs).watch = s.watch := by
  induction bs generalizing s a with
  | nil => rfl
  | cons b bs ih => exact ih _ _
@[simp] theorem State.setBytes_tch (s : State) (a : Nat) (bs : List Byte) : (s.setBytes a bs).tch = s.tch := by
  induction bs generalizing s a with
  | nil => rfl
  | cons b bs ih => exact ih _ _
@[simp] theorem State.setBytes_cnp (s : State) (a : Nat) (bs : List Byte) : (s.setBytes a bs).cnp = s.cnp := by
  induction bs generalizing s a with
  | nil => rfl
  | cons b bs ih => exact ih _ _
@[simp] theorem State.setBytes_eng (s : State) (a : Nat) (bs : List Byte) : (s.setBytes a bs).eng = s.eng := by
  induction bs generalizing s a with
  | nil => rfl
  | cons b bs ih => exact ih _ _
@[simp] theorem State.setBytes_img (s : State) (a : Nat) (bs : List Byte) : (s.setBytes a bs).img = s.img := by
  induction bs generalizing s a with
  | nil => rfl
  | cons b bs ih => exact ih _ _
@[simp] theorem State.setBytes_rsv (s : State) (a : Nat) (bs : List Byte) : (s.setBytes a bs).rsv = s.rsv := by
  induction bs generalizing s a with
  | nil => rfl
  | cons b bs ih => exact ih _ _
@[simp] theorem State.setBytes_hwd (s : State) (a : Nat) (bs : List Byte) : (s.setBytes a bs).hwd = s.hwd := by
  induction bs generalizing s a with
  | nil => rfl
  | cons b bs ih => exact ih _ _
@[simp] theorem State.setBytes_crw (s : State) (a : Nat) (bs : List Byte) : (s.setBytes a bs).crw = s.crw := by
  induction bs generalizing s a with
  | nil => rfl
  | cons b bs ih => exact ih _ _
@[simp] theorem State.setBytes_tk (s : State) (a : Nat) (bs : List Byte) : (s.setBytes a bs).tk = s.tk := by
  induction bs generalizing s a with
  | nil => rfl
  | cons b bs ih => exact ih _ _
@[simp] theorem State.setBytes_tks (s : State) (a : Nat) (bs : List Byte) : (s.setBytes a bs).tks = s.tks := by
  induction bs generalizing s a with
  | nil => rfl
  | cons b bs ih => exact ih _ _
@[simp] theorem State.setBytes_th (s : State) (a : Nat) (bs : List Byte) : (s.setBytes a bs).th = s.th := by
  induction bs generalizing s a with
  | nil => rfl
  | cons b bs ih => exact ih _ _
@[simp] theorem State.setBytes_crb (s : State) (a : Nat) (bs : List Byte) : (s.setBytes a bs).crb = s.crb := by
  induction bs generalizing s a with
  | nil => rfl
  | cons b bs ih => exact ih _ _
@[simp] theorem State.setBytes_grv (s : State) (a : Nat) (bs : List Byte) : (s.setBytes a bs).grv = s.grv := by
  induction bs generalizing s a with
  | nil => rfl
  | cons b bs ih => exact ih _ _
@[simp] theorem State.setBytes_groot (s : State) (a : Nat) (bs : List Byte) : (s.setBytes a bs).groot = s.groot := by
  induction bs generalizing s a with
  | nil => rfl
  | cons b bs ih => exact ih _ _
@[simp] theorem State.setBytes_saps (s : State) (a : Nat) (bs : List Byte) : (s.setBytes a bs).saps = s.saps := by
  induction bs generalizing s a with
  | nil => rfl
  | cons b bs ih => exact ih _ _
@[simp] theorem State.setBytes_mot (s : State) (a : Nat) (bs : List Byte) : (s.setBytes a bs).mot = s.mot := by
  induction bs generalizing s a with
  | nil => rfl
  | cons b bs ih => exact ih _ _
@[simp] theorem State.setBytes_drv (s : State) (a : Nat) (bs : List Byte) : (s.setBytes a bs).drv = s.drv := by
  induction bs generalizing s a with
  | nil => rfl
  | cons b bs ih => exact ih _ _
@[simp] theorem State.setBytes_jtag (s : State) (a : Nat) (bs : List Byte) : (s.setBytes a bs).jtag = s.jtag := by
  induction bs generalizing s a with
  | nil => rfl
  | cons b bs ih => exact ih _ _

@[simp] theorem State.setWord_pending (s : State) (a : Nat) (w : Word) : (s.setWord a w).pending = s.pending := rfl
@[simp] theorem State.setWord_stg (s : State) (a : Nat) (w : Word) : (s.setWord a w).stg = s.stg := rfl
@[simp] theorem State.setWord_snaps (s : State) (a : Nat) (w : Word) : (s.setWord a w).snaps = s.snaps := rfl
@[simp] theorem State.setWord_mem (s : State) (a : Nat) (w : Word) : (s.setWord a w).mem = s.mem := rfl
@[simp] theorem State.setWord_rmem (s : State) (a : Nat) (w : Word) : (s.setWord a w).rmem = s.rmem := rfl
@[simp] theorem State.setWord_uptime (s : State) (a : Nat) (w : Word) : (s.setWord a w).uptime = s.uptime := rfl
@[simp] theorem State.setWord_free (s : State) (a : Nat) (w : Word) : (s.setWord a w).free = s.free := rfl
@[simp] theorem State.setWord_rsp (s : State) (a : Nat) (w : Word) : (s.setWord a w).rsp = s.rsp := rfl
@[simp] theorem State.setWord_pwr (s : State) (a : Nat) (w : Word) : (s.setWord a w).pwr = s.pwr := rfl
@[simp] theorem State.setWord_sys (s : State) (a : Nat) (w : Word) : (s.setWord a w).sys = s.sys := rfl
@[simp] theorem State.setWord_tim (s : State) (a : Nat) (w : Word) : (s.setWord a w).tim = s.tim := rfl
@[simp] theorem State.setWord_brk (s : State) (a : Nat) (w : Word) : (s.setWord a w).brk = s.brk := rfl
@[simp] theorem State.setWord_indSap (s : State) (a : Nat) (w : Word) : (s.setWord a w).indSap = s.indSap := rfl
@[simp] theorem State.setWord_indSched (s : State) (a : Nat) (w : Word) : (s.setWord a w).indSched = s.indSched := rfl
@[simp] theorem State.setWord_indConf (s : State) (a : Nat) (w : Word) : (s.setWord a w).indConf = s.indConf := rfl
@[simp] theorem State.setWord_indTbl (s : State) (a : Nat) (w : Word) : (s.setWord a w).indTbl = s.indTbl := rfl
@[simp] theorem State.setWord_afe (s : State) (a : Nat) (w : Word) : (s.setWord a w).afe = s.afe := rfl
@[simp] theorem State.setWord_watch (s : State) (a : Nat) (w : Word) : (s.setWord a w).watch = s.watch := rfl
@[simp] theorem State.setWord_tch (s : State) (a : Nat) (w : Word) : (s.setWord a w).tch = s.tch := rfl
@[simp] theorem State.setWord_cnp (s : State) (a : Nat) (w : Word) : (s.setWord a w).cnp = s.cnp := rfl
@[simp] theorem State.setWord_eng (s : State) (a : Nat) (w : Word) : (s.setWord a w).eng = s.eng := rfl
@[simp] theorem State.setWord_img (s : State) (a : Nat) (w : Word) : (s.setWord a w).img = s.img := rfl
@[simp] theorem State.setWord_rsv (s : State) (a : Nat) (w : Word) : (s.setWord a w).rsv = s.rsv := rfl
@[simp] theorem State.setWord_hwd (s : State) (a : Nat) (w : Word) : (s.setWord a w).hwd = s.hwd := rfl
@[simp] theorem State.setWord_crw (s : State) (a : Nat) (w : Word) : (s.setWord a w).crw = s.crw := rfl
@[simp] theorem State.setWord_tk (s : State) (a : Nat) (w : Word) : (s.setWord a w).tk = s.tk := rfl
@[simp] theorem State.setWord_tks (s : State) (a : Nat) (w : Word) : (s.setWord a w).tks = s.tks := rfl
@[simp] theorem State.setWord_th (s : State) (a : Nat) (w : Word) : (s.setWord a w).th = s.th := rfl
@[simp] theorem State.setWord_crb (s : State) (a : Nat) (w : Word) : (s.setWord a w).crb = s.crb := rfl
@[simp] theorem State.setWord_grv (s : State) (a : Nat) (w : Word) : (s.setWord a w).grv = s.grv := rfl
@[simp] theorem State.setWord_groot (s : State) (a : Nat) (w : Word) : (s.setWord a w).groot = s.groot := rfl
@[simp] theorem State.setWord_saps (s : State) (a : Nat) (w : Word) : (s.setWord a w).saps = s.saps := rfl
@[simp] theorem State.setWord_mot (s : State) (a : Nat) (w : Word) : (s.setWord a w).mot = s.mot := rfl
@[simp] theorem State.setWord_drv (s : State) (a : Nat) (w : Word) : (s.setWord a w).drv = s.drv := rfl
@[simp] theorem State.setWord_jtag (s : State) (a : Nat) (w : Word) : (s.setWord a w).jtag = s.jtag := rfl

@[simp] theorem State.setFld_pending (s : State) (r : FRef) (n : Nat) : (s.setFld r n).pending = s.pending := rfl
@[simp] theorem State.setFld_stg (s : State) (r : FRef) (n : Nat) : (s.setFld r n).stg = s.stg := rfl
@[simp] theorem State.setFld_snaps (s : State) (r : FRef) (n : Nat) : (s.setFld r n).snaps = s.snaps := rfl
@[simp] theorem State.setFld_mem (s : State) (r : FRef) (n : Nat) : (s.setFld r n).mem = s.mem := rfl
@[simp] theorem State.setFld_rmem (s : State) (r : FRef) (n : Nat) : (s.setFld r n).rmem = s.rmem := rfl
@[simp] theorem State.setFld_uptime (s : State) (r : FRef) (n : Nat) : (s.setFld r n).uptime = s.uptime := rfl
@[simp] theorem State.setFld_free (s : State) (r : FRef) (n : Nat) : (s.setFld r n).free = s.free := rfl
@[simp] theorem State.setFld_rsp (s : State) (r : FRef) (n : Nat) : (s.setFld r n).rsp = s.rsp := rfl
@[simp] theorem State.setFld_pwr (s : State) (r : FRef) (n : Nat) : (s.setFld r n).pwr = s.pwr := rfl
@[simp] theorem State.setFld_sys (s : State) (r : FRef) (n : Nat) : (s.setFld r n).sys = s.sys := rfl
@[simp] theorem State.setFld_tim (s : State) (r : FRef) (n : Nat) : (s.setFld r n).tim = s.tim := rfl
@[simp] theorem State.setFld_brk (s : State) (r : FRef) (n : Nat) : (s.setFld r n).brk = s.brk := rfl
@[simp] theorem State.setFld_indSap (s : State) (r : FRef) (n : Nat) : (s.setFld r n).indSap = s.indSap := rfl
@[simp] theorem State.setFld_indSched (s : State) (r : FRef) (n : Nat) : (s.setFld r n).indSched = s.indSched := rfl
@[simp] theorem State.setFld_indConf (s : State) (r : FRef) (n : Nat) : (s.setFld r n).indConf = s.indConf := rfl
@[simp] theorem State.setFld_indTbl (s : State) (r : FRef) (n : Nat) : (s.setFld r n).indTbl = s.indTbl := rfl
@[simp] theorem State.setFld_afe (s : State) (r : FRef) (n : Nat) : (s.setFld r n).afe = s.afe := rfl
@[simp] theorem State.setFld_watch (s : State) (r : FRef) (n : Nat) : (s.setFld r n).watch = s.watch := rfl
@[simp] theorem State.setFld_tch (s : State) (r : FRef) (n : Nat) : (s.setFld r n).tch = s.tch := rfl
@[simp] theorem State.setFld_cnp (s : State) (r : FRef) (n : Nat) : (s.setFld r n).cnp = s.cnp := rfl
@[simp] theorem State.setFld_eng (s : State) (r : FRef) (n : Nat) : (s.setFld r n).eng = s.eng := rfl
@[simp] theorem State.setFld_img (s : State) (r : FRef) (n : Nat) : (s.setFld r n).img = s.img := rfl
@[simp] theorem State.setFld_rsv (s : State) (r : FRef) (n : Nat) : (s.setFld r n).rsv = s.rsv := rfl
@[simp] theorem State.setFld_hwd (s : State) (r : FRef) (n : Nat) : (s.setFld r n).hwd = s.hwd := rfl
@[simp] theorem State.setFld_crw (s : State) (r : FRef) (n : Nat) : (s.setFld r n).crw = s.crw := rfl
@[simp] theorem State.setFld_tk (s : State) (r : FRef) (n : Nat) : (s.setFld r n).tk = s.tk := rfl
@[simp] theorem State.setFld_tks (s : State) (r : FRef) (n : Nat) : (s.setFld r n).tks = s.tks := rfl
@[simp] theorem State.setFld_th (s : State) (r : FRef) (n : Nat) : (s.setFld r n).th = s.th := rfl
@[simp] theorem State.setFld_crb (s : State) (r : FRef) (n : Nat) : (s.setFld r n).crb = s.crb := rfl
@[simp] theorem State.setFld_grv (s : State) (r : FRef) (n : Nat) : (s.setFld r n).grv = s.grv := rfl
@[simp] theorem State.setFld_groot (s : State) (r : FRef) (n : Nat) : (s.setFld r n).groot = s.groot := rfl
@[simp] theorem State.setFld_saps (s : State) (r : FRef) (n : Nat) : (s.setFld r n).saps = s.saps := rfl
@[simp] theorem State.setFld_mot (s : State) (r : FRef) (n : Nat) : (s.setFld r n).mot = s.mot := rfl
@[simp] theorem State.setFld_drv (s : State) (r : FRef) (n : Nat) : (s.setFld r n).drv = s.drv := rfl
@[simp] theorem State.setFld_jtag (s : State) (r : FRef) (n : Nat) : (s.setFld r n).jtag = s.jtag := rfl

@[simp] theorem State.setBit_pending (s : State) (r : FRef) (b : Bool) : (s.setBit r b).pending = s.pending := rfl
@[simp] theorem State.setBit_stg (s : State) (r : FRef) (b : Bool) : (s.setBit r b).stg = s.stg := rfl
@[simp] theorem State.setBit_snaps (s : State) (r : FRef) (b : Bool) : (s.setBit r b).snaps = s.snaps := rfl
@[simp] theorem State.setBit_mem (s : State) (r : FRef) (b : Bool) : (s.setBit r b).mem = s.mem := rfl
@[simp] theorem State.setBit_rmem (s : State) (r : FRef) (b : Bool) : (s.setBit r b).rmem = s.rmem := rfl
@[simp] theorem State.setBit_uptime (s : State) (r : FRef) (b : Bool) : (s.setBit r b).uptime = s.uptime := rfl
@[simp] theorem State.setBit_free (s : State) (r : FRef) (b : Bool) : (s.setBit r b).free = s.free := rfl
@[simp] theorem State.setBit_rsp (s : State) (r : FRef) (b : Bool) : (s.setBit r b).rsp = s.rsp := rfl
@[simp] theorem State.setBit_pwr (s : State) (r : FRef) (b : Bool) : (s.setBit r b).pwr = s.pwr := rfl
@[simp] theorem State.setBit_sys (s : State) (r : FRef) (b : Bool) : (s.setBit r b).sys = s.sys := rfl
@[simp] theorem State.setBit_tim (s : State) (r : FRef) (b : Bool) : (s.setBit r b).tim = s.tim := rfl
@[simp] theorem State.setBit_brk (s : State) (r : FRef) (b : Bool) : (s.setBit r b).brk = s.brk := rfl
@[simp] theorem State.setBit_indSap (s : State) (r : FRef) (b : Bool) : (s.setBit r b).indSap = s.indSap := rfl
@[simp] theorem State.setBit_indSched (s : State) (r : FRef) (b : Bool) : (s.setBit r b).indSched = s.indSched := rfl
@[simp] theorem State.setBit_indConf (s : State) (r : FRef) (b : Bool) : (s.setBit r b).indConf = s.indConf := rfl
@[simp] theorem State.setBit_indTbl (s : State) (r : FRef) (b : Bool) : (s.setBit r b).indTbl = s.indTbl := rfl
@[simp] theorem State.setBit_afe (s : State) (r : FRef) (b : Bool) : (s.setBit r b).afe = s.afe := rfl
@[simp] theorem State.setBit_watch (s : State) (r : FRef) (b : Bool) : (s.setBit r b).watch = s.watch := rfl
@[simp] theorem State.setBit_tch (s : State) (r : FRef) (b : Bool) : (s.setBit r b).tch = s.tch := rfl
@[simp] theorem State.setBit_cnp (s : State) (r : FRef) (b : Bool) : (s.setBit r b).cnp = s.cnp := rfl
@[simp] theorem State.setBit_eng (s : State) (r : FRef) (b : Bool) : (s.setBit r b).eng = s.eng := rfl
@[simp] theorem State.setBit_img (s : State) (r : FRef) (b : Bool) : (s.setBit r b).img = s.img := rfl
@[simp] theorem State.setBit_rsv (s : State) (r : FRef) (b : Bool) : (s.setBit r b).rsv = s.rsv := rfl
@[simp] theorem State.setBit_hwd (s : State) (r : FRef) (b : Bool) : (s.setBit r b).hwd = s.hwd := rfl
@[simp] theorem State.setBit_crw (s : State) (r : FRef) (b : Bool) : (s.setBit r b).crw = s.crw := rfl
@[simp] theorem State.setBit_tk (s : State) (r : FRef) (b : Bool) : (s.setBit r b).tk = s.tk := rfl
@[simp] theorem State.setBit_tks (s : State) (r : FRef) (b : Bool) : (s.setBit r b).tks = s.tks := rfl
@[simp] theorem State.setBit_th (s : State) (r : FRef) (b : Bool) : (s.setBit r b).th = s.th := rfl
@[simp] theorem State.setBit_crb (s : State) (r : FRef) (b : Bool) : (s.setBit r b).crb = s.crb := rfl
@[simp] theorem State.setBit_grv (s : State) (r : FRef) (b : Bool) : (s.setBit r b).grv = s.grv := rfl
@[simp] theorem State.setBit_groot (s : State) (r : FRef) (b : Bool) : (s.setBit r b).groot = s.groot := rfl
@[simp] theorem State.setBit_saps (s : State) (r : FRef) (b : Bool) : (s.setBit r b).saps = s.saps := rfl
@[simp] theorem State.setBit_mot (s : State) (r : FRef) (b : Bool) : (s.setBit r b).mot = s.mot := rfl
@[simp] theorem State.setBit_drv (s : State) (r : FRef) (b : Bool) : (s.setBit r b).drv = s.drv := rfl
@[simp] theorem State.setBit_jtag (s : State) (r : FRef) (b : Bool) : (s.setBit r b).jtag = s.jtag := rfl

@[simp] theorem State.setBitAt_pending (s : State) (r : FRef) (i : Nat) (b : Bool) : (s.setBitAt r i b).pending = s.pending := rfl
@[simp] theorem State.setBitAt_stg (s : State) (r : FRef) (i : Nat) (b : Bool) : (s.setBitAt r i b).stg = s.stg := rfl
@[simp] theorem State.setBitAt_snaps (s : State) (r : FRef) (i : Nat) (b : Bool) : (s.setBitAt r i b).snaps = s.snaps := rfl
@[simp] theorem State.setBitAt_mem (s : State) (r : FRef) (i : Nat) (b : Bool) : (s.setBitAt r i b).mem = s.mem := rfl
@[simp] theorem State.setBitAt_rmem (s : State) (r : FRef) (i : Nat) (b : Bool) : (s.setBitAt r i b).rmem = s.rmem := rfl
@[simp] theorem State.setBitAt_uptime (s : State) (r : FRef) (i : Nat) (b : Bool) : (s.setBitAt r i b).uptime = s.uptime := rfl
@[simp] theorem State.setBitAt_free (s : State) (r : FRef) (i : Nat) (b : Bool) : (s.setBitAt r i b).free = s.free := rfl
@[simp] theorem State.setBitAt_rsp (s : State) (r : FRef) (i : Nat) (b : Bool) : (s.setBitAt r i b).rsp = s.rsp := rfl
@[simp] theorem State.setBitAt_pwr (s : State) (r : FRef) (i : Nat) (b : Bool) : (s.setBitAt r i b).pwr = s.pwr := rfl
@[simp] theorem State.setBitAt_sys (s : State) (r : FRef) (i : Nat) (b : Bool) : (s.setBitAt r i b).sys = s.sys := rfl
@[simp] theorem State.setBitAt_tim (s : State) (r : FRef) (i : Nat) (b : Bool) : (s.setBitAt r i b).tim = s.tim := rfl
@[simp] theorem State.setBitAt_brk (s : State) (r : FRef) (i : Nat) (b : Bool) : (s.setBitAt r i b).brk = s.brk := rfl
@[simp] theorem State.setBitAt_indSap (s : State) (r : FRef) (i : Nat) (b : Bool) : (s.setBitAt r i b).indSap = s.indSap := rfl
@[simp] theorem State.setBitAt_indSched (s : State) (r : FRef) (i : Nat) (b : Bool) : (s.setBitAt r i b).indSched = s.indSched := rfl
@[simp] theorem State.setBitAt_indConf (s : State) (r : FRef) (i : Nat) (b : Bool) : (s.setBitAt r i b).indConf = s.indConf := rfl
@[simp] theorem State.setBitAt_indTbl (s : State) (r : FRef) (i : Nat) (b : Bool) : (s.setBitAt r i b).indTbl = s.indTbl := rfl
@[simp] theorem State.setBitAt_afe (s : State) (r : FRef) (i : Nat) (b : Bool) : (s.setBitAt r i b).afe = s.afe := rfl
@[simp] theorem State.setBitAt_watch (s : State) (r : FRef) (i : Nat) (b : Bool) : (s.setBitAt r i b).watch = s.watch := rfl
@[simp] theorem State.setBitAt_tch (s : State) (r : FRef) (i : Nat) (b : Bool) : (s.setBitAt r i b).tch = s.tch := rfl
@[simp] theorem State.setBitAt_cnp (s : State) (r : FRef) (i : Nat) (b : Bool) : (s.setBitAt r i b).cnp = s.cnp := rfl
@[simp] theorem State.setBitAt_eng (s : State) (r : FRef) (i : Nat) (b : Bool) : (s.setBitAt r i b).eng = s.eng := rfl
@[simp] theorem State.setBitAt_img (s : State) (r : FRef) (i : Nat) (b : Bool) : (s.setBitAt r i b).img = s.img := rfl
@[simp] theorem State.setBitAt_rsv (s : State) (r : FRef) (i : Nat) (b : Bool) : (s.setBitAt r i b).rsv = s.rsv := rfl
@[simp] theorem State.setBitAt_hwd (s : State) (r : FRef) (i : Nat) (b : Bool) : (s.setBitAt r i b).hwd = s.hwd := rfl
@[simp] theorem State.setBitAt_crw (s : State) (r : FRef) (i : Nat) (b : Bool) : (s.setBitAt r i b).crw = s.crw := rfl
@[simp] theorem State.setBitAt_tk (s : State) (r : FRef) (i : Nat) (b : Bool) : (s.setBitAt r i b).tk = s.tk := rfl
@[simp] theorem State.setBitAt_tks (s : State) (r : FRef) (i : Nat) (b : Bool) : (s.setBitAt r i b).tks = s.tks := rfl
@[simp] theorem State.setBitAt_th (s : State) (r : FRef) (i : Nat) (b : Bool) : (s.setBitAt r i b).th = s.th := rfl
@[simp] theorem State.setBitAt_crb (s : State) (r : FRef) (i : Nat) (b : Bool) : (s.setBitAt r i b).crb = s.crb := rfl
@[simp] theorem State.setBitAt_grv (s : State) (r : FRef) (i : Nat) (b : Bool) : (s.setBitAt r i b).grv = s.grv := rfl
@[simp] theorem State.setBitAt_groot (s : State) (r : FRef) (i : Nat) (b : Bool) : (s.setBitAt r i b).groot = s.groot := rfl
@[simp] theorem State.setBitAt_saps (s : State) (r : FRef) (i : Nat) (b : Bool) : (s.setBitAt r i b).saps = s.saps := rfl
@[simp] theorem State.setBitAt_mot (s : State) (r : FRef) (i : Nat) (b : Bool) : (s.setBitAt r i b).mot = s.mot := rfl
@[simp] theorem State.setBitAt_drv (s : State) (r : FRef) (i : Nat) (b : Bool) : (s.setBitAt r i b).drv = s.drv := rfl
@[simp] theorem State.setBitAt_jtag (s : State) (r : FRef) (i : Nat) (b : Bool) : (s.setBitAt r i b).jtag = s.jtag := rfl

@[simp] theorem State.count_pending (s : State) (r : FRef) (k : Nat) : (s.count r k).pending = s.pending := rfl
@[simp] theorem State.count_stg (s : State) (r : FRef) (k : Nat) : (s.count r k).stg = s.stg := rfl
@[simp] theorem State.count_snaps (s : State) (r : FRef) (k : Nat) : (s.count r k).snaps = s.snaps := rfl
@[simp] theorem State.count_mem (s : State) (r : FRef) (k : Nat) : (s.count r k).mem = s.mem := rfl
@[simp] theorem State.count_rmem (s : State) (r : FRef) (k : Nat) : (s.count r k).rmem = s.rmem := rfl
@[simp] theorem State.count_uptime (s : State) (r : FRef) (k : Nat) : (s.count r k).uptime = s.uptime := rfl
@[simp] theorem State.count_free (s : State) (r : FRef) (k : Nat) : (s.count r k).free = s.free := rfl
@[simp] theorem State.count_rsp (s : State) (r : FRef) (k : Nat) : (s.count r k).rsp = s.rsp := rfl
@[simp] theorem State.count_pwr (s : State) (r : FRef) (k : Nat) : (s.count r k).pwr = s.pwr := rfl
@[simp] theorem State.count_sys (s : State) (r : FRef) (k : Nat) : (s.count r k).sys = s.sys := rfl
@[simp] theorem State.count_tim (s : State) (r : FRef) (k : Nat) : (s.count r k).tim = s.tim := rfl
@[simp] theorem State.count_brk (s : State) (r : FRef) (k : Nat) : (s.count r k).brk = s.brk := rfl
@[simp] theorem State.count_indSap (s : State) (r : FRef) (k : Nat) : (s.count r k).indSap = s.indSap := rfl
@[simp] theorem State.count_indSched (s : State) (r : FRef) (k : Nat) : (s.count r k).indSched = s.indSched := rfl
@[simp] theorem State.count_indConf (s : State) (r : FRef) (k : Nat) : (s.count r k).indConf = s.indConf := rfl
@[simp] theorem State.count_indTbl (s : State) (r : FRef) (k : Nat) : (s.count r k).indTbl = s.indTbl := rfl
@[simp] theorem State.count_afe (s : State) (r : FRef) (k : Nat) : (s.count r k).afe = s.afe := rfl
@[simp] theorem State.count_watch (s : State) (r : FRef) (k : Nat) : (s.count r k).watch = s.watch := rfl
@[simp] theorem State.count_tch (s : State) (r : FRef) (k : Nat) : (s.count r k).tch = s.tch := rfl
@[simp] theorem State.count_cnp (s : State) (r : FRef) (k : Nat) : (s.count r k).cnp = s.cnp := rfl
@[simp] theorem State.count_eng (s : State) (r : FRef) (k : Nat) : (s.count r k).eng = s.eng := rfl
@[simp] theorem State.count_img (s : State) (r : FRef) (k : Nat) : (s.count r k).img = s.img := rfl
@[simp] theorem State.count_rsv (s : State) (r : FRef) (k : Nat) : (s.count r k).rsv = s.rsv := rfl
@[simp] theorem State.count_hwd (s : State) (r : FRef) (k : Nat) : (s.count r k).hwd = s.hwd := rfl
@[simp] theorem State.count_crw (s : State) (r : FRef) (k : Nat) : (s.count r k).crw = s.crw := rfl
@[simp] theorem State.count_tk (s : State) (r : FRef) (k : Nat) : (s.count r k).tk = s.tk := rfl
@[simp] theorem State.count_tks (s : State) (r : FRef) (k : Nat) : (s.count r k).tks = s.tks := rfl
@[simp] theorem State.count_th (s : State) (r : FRef) (k : Nat) : (s.count r k).th = s.th := rfl
@[simp] theorem State.count_crb (s : State) (r : FRef) (k : Nat) : (s.count r k).crb = s.crb := rfl
@[simp] theorem State.count_grv (s : State) (r : FRef) (k : Nat) : (s.count r k).grv = s.grv := rfl
@[simp] theorem State.count_groot (s : State) (r : FRef) (k : Nat) : (s.count r k).groot = s.groot := rfl
@[simp] theorem State.count_saps (s : State) (r : FRef) (k : Nat) : (s.count r k).saps = s.saps := rfl
@[simp] theorem State.count_mot (s : State) (r : FRef) (k : Nat) : (s.count r k).mot = s.mot := rfl
@[simp] theorem State.count_drv (s : State) (r : FRef) (k : Nat) : (s.count r k).drv = s.drv := rfl
@[simp] theorem State.count_jtag (s : State) (r : FRef) (k : Nat) : (s.count r k).jtag = s.jtag := rfl

@[simp] theorem State.setByte_pending (s : State) (a : Nat) (b : Byte) : (s.setByte a b).pending = s.pending := rfl
@[simp] theorem State.setByte_regs (s : State) (a : Nat) (b : Byte) : (s.setByte a b).regs = s.regs := rfl
@[simp] theorem State.setByte_stg (s : State) (a : Nat) (b : Byte) : (s.setByte a b).stg = s.stg := rfl
@[simp] theorem State.setByte_snaps (s : State) (a : Nat) (b : Byte) : (s.setByte a b).snaps = s.snaps := rfl
@[simp] theorem State.setByte_rmem (s : State) (a : Nat) (b : Byte) : (s.setByte a b).rmem = s.rmem := rfl
@[simp] theorem State.setByte_uptime (s : State) (a : Nat) (b : Byte) : (s.setByte a b).uptime = s.uptime := rfl
@[simp] theorem State.setByte_free (s : State) (a : Nat) (b : Byte) : (s.setByte a b).free = s.free := rfl
@[simp] theorem State.setByte_rsp (s : State) (a : Nat) (b : Byte) : (s.setByte a b).rsp = s.rsp := rfl
@[simp] theorem State.setByte_pwr (s : State) (a : Nat) (b : Byte) : (s.setByte a b).pwr = s.pwr := rfl
@[simp] theorem State.setByte_sys (s : State) (a : Nat) (b : Byte) : (s.setByte a b).sys = s.sys := rfl
@[simp] theorem State.setByte_tim (s : State) (a : Nat) (b : Byte) : (s.setByte a b).tim = s.tim := rfl
@[simp] theorem State.setByte_brk (s : State) (a : Nat) (b : Byte) : (s.setByte a b).brk = s.brk := rfl
@[simp] theorem State.setByte_indSap (s : State) (a : Nat) (b : Byte) : (s.setByte a b).indSap = s.indSap := rfl
@[simp] theorem State.setByte_indSched (s : State) (a : Nat) (b : Byte) : (s.setByte a b).indSched = s.indSched := rfl
@[simp] theorem State.setByte_indConf (s : State) (a : Nat) (b : Byte) : (s.setByte a b).indConf = s.indConf := rfl
@[simp] theorem State.setByte_indTbl (s : State) (a : Nat) (b : Byte) : (s.setByte a b).indTbl = s.indTbl := rfl
@[simp] theorem State.setByte_afe (s : State) (a : Nat) (b : Byte) : (s.setByte a b).afe = s.afe := rfl
@[simp] theorem State.setByte_watch (s : State) (a : Nat) (b : Byte) : (s.setByte a b).watch = s.watch := rfl
@[simp] theorem State.setByte_tch (s : State) (a : Nat) (b : Byte) : (s.setByte a b).tch = s.tch := rfl
@[simp] theorem State.setByte_cnp (s : State) (a : Nat) (b : Byte) : (s.setByte a b).cnp = s.cnp := rfl
@[simp] theorem State.setByte_eng (s : State) (a : Nat) (b : Byte) : (s.setByte a b).eng = s.eng := rfl
@[simp] theorem State.setByte_img (s : State) (a : Nat) (b : Byte) : (s.setByte a b).img = s.img := rfl
@[simp] theorem State.setByte_rsv (s : State) (a : Nat) (b : Byte) : (s.setByte a b).rsv = s.rsv := rfl
@[simp] theorem State.setByte_hwd (s : State) (a : Nat) (b : Byte) : (s.setByte a b).hwd = s.hwd := rfl
@[simp] theorem State.setByte_crw (s : State) (a : Nat) (b : Byte) : (s.setByte a b).crw = s.crw := rfl
@[simp] theorem State.setByte_tk (s : State) (a : Nat) (b : Byte) : (s.setByte a b).tk = s.tk := rfl
@[simp] theorem State.setByte_tks (s : State) (a : Nat) (b : Byte) : (s.setByte a b).tks = s.tks := rfl
@[simp] theorem State.setByte_th (s : State) (a : Nat) (b : Byte) : (s.setByte a b).th = s.th := rfl
@[simp] theorem State.setByte_crb (s : State) (a : Nat) (b : Byte) : (s.setByte a b).crb = s.crb := rfl
@[simp] theorem State.setByte_grv (s : State) (a : Nat) (b : Byte) : (s.setByte a b).grv = s.grv := rfl
@[simp] theorem State.setByte_groot (s : State) (a : Nat) (b : Byte) : (s.setByte a b).groot = s.groot := rfl
@[simp] theorem State.setByte_saps (s : State) (a : Nat) (b : Byte) : (s.setByte a b).saps = s.saps := rfl
@[simp] theorem State.setByte_mot (s : State) (a : Nat) (b : Byte) : (s.setByte a b).mot = s.mot := rfl
@[simp] theorem State.setByte_drv (s : State) (a : Nat) (b : Byte) : (s.setByte a b).drv = s.drv := rfl
@[simp] theorem State.setByte_jtag (s : State) (a : Nat) (b : Byte) : (s.setByte a b).jtag = s.jtag := rfl

@[simp] theorem State.setRword_pending (s : State) (a : Nat) (w : Word) : (s.setRword a w).pending = s.pending := rfl
@[simp] theorem State.setRword_regs (s : State) (a : Nat) (w : Word) : (s.setRword a w).regs = s.regs := rfl
@[simp] theorem State.setRword_stg (s : State) (a : Nat) (w : Word) : (s.setRword a w).stg = s.stg := rfl
@[simp] theorem State.setRword_snaps (s : State) (a : Nat) (w : Word) : (s.setRword a w).snaps = s.snaps := rfl
@[simp] theorem State.setRword_mem (s : State) (a : Nat) (w : Word) : (s.setRword a w).mem = s.mem := rfl
@[simp] theorem State.setRword_uptime (s : State) (a : Nat) (w : Word) : (s.setRword a w).uptime = s.uptime := rfl
@[simp] theorem State.setRword_free (s : State) (a : Nat) (w : Word) : (s.setRword a w).free = s.free := rfl
@[simp] theorem State.setRword_rsp (s : State) (a : Nat) (w : Word) : (s.setRword a w).rsp = s.rsp := rfl
@[simp] theorem State.setRword_pwr (s : State) (a : Nat) (w : Word) : (s.setRword a w).pwr = s.pwr := rfl
@[simp] theorem State.setRword_sys (s : State) (a : Nat) (w : Word) : (s.setRword a w).sys = s.sys := rfl
@[simp] theorem State.setRword_tim (s : State) (a : Nat) (w : Word) : (s.setRword a w).tim = s.tim := rfl
@[simp] theorem State.setRword_brk (s : State) (a : Nat) (w : Word) : (s.setRword a w).brk = s.brk := rfl
@[simp] theorem State.setRword_indSap (s : State) (a : Nat) (w : Word) : (s.setRword a w).indSap = s.indSap := rfl
@[simp] theorem State.setRword_indSched (s : State) (a : Nat) (w : Word) : (s.setRword a w).indSched = s.indSched := rfl
@[simp] theorem State.setRword_indConf (s : State) (a : Nat) (w : Word) : (s.setRword a w).indConf = s.indConf := rfl
@[simp] theorem State.setRword_indTbl (s : State) (a : Nat) (w : Word) : (s.setRword a w).indTbl = s.indTbl := rfl
@[simp] theorem State.setRword_afe (s : State) (a : Nat) (w : Word) : (s.setRword a w).afe = s.afe := rfl
@[simp] theorem State.setRword_watch (s : State) (a : Nat) (w : Word) : (s.setRword a w).watch = s.watch := rfl
@[simp] theorem State.setRword_tch (s : State) (a : Nat) (w : Word) : (s.setRword a w).tch = s.tch := rfl
@[simp] theorem State.setRword_cnp (s : State) (a : Nat) (w : Word) : (s.setRword a w).cnp = s.cnp := rfl
@[simp] theorem State.setRword_eng (s : State) (a : Nat) (w : Word) : (s.setRword a w).eng = s.eng := rfl
@[simp] theorem State.setRword_img (s : State) (a : Nat) (w : Word) : (s.setRword a w).img = s.img := rfl
@[simp] theorem State.setRword_rsv (s : State) (a : Nat) (w : Word) : (s.setRword a w).rsv = s.rsv := rfl
@[simp] theorem State.setRword_hwd (s : State) (a : Nat) (w : Word) : (s.setRword a w).hwd = s.hwd := rfl
@[simp] theorem State.setRword_crw (s : State) (a : Nat) (w : Word) : (s.setRword a w).crw = s.crw := rfl
@[simp] theorem State.setRword_tk (s : State) (a : Nat) (w : Word) : (s.setRword a w).tk = s.tk := rfl
@[simp] theorem State.setRword_tks (s : State) (a : Nat) (w : Word) : (s.setRword a w).tks = s.tks := rfl
@[simp] theorem State.setRword_th (s : State) (a : Nat) (w : Word) : (s.setRword a w).th = s.th := rfl
@[simp] theorem State.setRword_crb (s : State) (a : Nat) (w : Word) : (s.setRword a w).crb = s.crb := rfl
@[simp] theorem State.setRword_grv (s : State) (a : Nat) (w : Word) : (s.setRword a w).grv = s.grv := rfl
@[simp] theorem State.setRword_groot (s : State) (a : Nat) (w : Word) : (s.setRword a w).groot = s.groot := rfl
@[simp] theorem State.setRword_saps (s : State) (a : Nat) (w : Word) : (s.setRword a w).saps = s.saps := rfl
@[simp] theorem State.setRword_mot (s : State) (a : Nat) (w : Word) : (s.setRword a w).mot = s.mot := rfl
@[simp] theorem State.setRword_drv (s : State) (a : Nat) (w : Word) : (s.setRword a w).drv = s.drv := rfl
@[simp] theorem State.setRword_jtag (s : State) (a : Nat) (w : Word) : (s.setRword a w).jtag = s.jtag := rfl

@[simp] theorem State.store_pending (s : State) (a : Nat) (bs : List Byte) : (s.store a bs).pending = s.pending := by simp [State.store]
@[simp] theorem State.store_regs (s : State) (a : Nat) (bs : List Byte) : (s.store a bs).regs = s.regs := by simp [State.store]
@[simp] theorem State.store_stg (s : State) (a : Nat) (bs : List Byte) : (s.store a bs).stg = s.stg := by simp [State.store]
@[simp] theorem State.store_snaps (s : State) (a : Nat) (bs : List Byte) : (s.store a bs).snaps = s.snaps := by simp [State.store]
@[simp] theorem State.store_rmem (s : State) (a : Nat) (bs : List Byte) : (s.store a bs).rmem = s.rmem := by simp [State.store]
@[simp] theorem State.store_uptime (s : State) (a : Nat) (bs : List Byte) : (s.store a bs).uptime = s.uptime := by simp [State.store]
@[simp] theorem State.store_free (s : State) (a : Nat) (bs : List Byte) : (s.store a bs).free = s.free := by simp [State.store]
@[simp] theorem State.store_rsp (s : State) (a : Nat) (bs : List Byte) : (s.store a bs).rsp = s.rsp := by simp [State.store]
@[simp] theorem State.store_pwr (s : State) (a : Nat) (bs : List Byte) : (s.store a bs).pwr = s.pwr := by simp [State.store]
@[simp] theorem State.store_sys (s : State) (a : Nat) (bs : List Byte) : (s.store a bs).sys = s.sys := by simp [State.store]
@[simp] theorem State.store_tim (s : State) (a : Nat) (bs : List Byte) : (s.store a bs).tim = s.tim := by simp [State.store]
@[simp] theorem State.store_brk (s : State) (a : Nat) (bs : List Byte) : (s.store a bs).brk = s.brk := by simp [State.store]
@[simp] theorem State.store_indSap (s : State) (a : Nat) (bs : List Byte) : (s.store a bs).indSap = s.indSap := by simp [State.store]
@[simp] theorem State.store_indSched (s : State) (a : Nat) (bs : List Byte) : (s.store a bs).indSched = s.indSched := by simp [State.store]
@[simp] theorem State.store_indConf (s : State) (a : Nat) (bs : List Byte) : (s.store a bs).indConf = s.indConf := by simp [State.store]
@[simp] theorem State.store_indTbl (s : State) (a : Nat) (bs : List Byte) : (s.store a bs).indTbl = s.indTbl := by simp [State.store]
@[simp] theorem State.store_afe (s : State) (a : Nat) (bs : List Byte) : (s.store a bs).afe = s.afe := by simp [State.store]
@[simp] theorem State.store_watch (s : State) (a : Nat) (bs : List Byte) : (s.store a bs).watch = s.watch := by simp [State.store]
@[simp] theorem State.store_tch (s : State) (a : Nat) (bs : List Byte) : (s.store a bs).tch = s.tch := by simp [State.store]
@[simp] theorem State.store_cnp (s : State) (a : Nat) (bs : List Byte) : (s.store a bs).cnp = s.cnp := by simp [State.store]
@[simp] theorem State.store_eng (s : State) (a : Nat) (bs : List Byte) : (s.store a bs).eng = s.eng := by simp [State.store]
@[simp] theorem State.store_img (s : State) (a : Nat) (bs : List Byte) : (s.store a bs).img = s.img := by simp [State.store]
@[simp] theorem State.store_hwd (s : State) (a : Nat) (bs : List Byte) : (s.store a bs).hwd = s.hwd := by simp [State.store]
@[simp] theorem State.store_crw (s : State) (a : Nat) (bs : List Byte) : (s.store a bs).crw = s.crw := by simp [State.store]
@[simp] theorem State.store_tk (s : State) (a : Nat) (bs : List Byte) : (s.store a bs).tk = s.tk := by simp [State.store]
@[simp] theorem State.store_tks (s : State) (a : Nat) (bs : List Byte) : (s.store a bs).tks = s.tks := by simp [State.store]
@[simp] theorem State.store_th (s : State) (a : Nat) (bs : List Byte) : (s.store a bs).th = s.th := by simp [State.store]
@[simp] theorem State.store_crb (s : State) (a : Nat) (bs : List Byte) : (s.store a bs).crb = s.crb := by simp [State.store]
@[simp] theorem State.store_grv (s : State) (a : Nat) (bs : List Byte) : (s.store a bs).grv = s.grv := by simp [State.store]
@[simp] theorem State.store_groot (s : State) (a : Nat) (bs : List Byte) : (s.store a bs).groot = s.groot := by simp [State.store]
@[simp] theorem State.store_saps (s : State) (a : Nat) (bs : List Byte) : (s.store a bs).saps = s.saps := by simp [State.store]
@[simp] theorem State.store_mot (s : State) (a : Nat) (bs : List Byte) : (s.store a bs).mot = s.mot := by simp [State.store]
@[simp] theorem State.store_drv (s : State) (a : Nat) (bs : List Byte) : (s.store a bs).drv = s.drv := by simp [State.store]
@[simp] theorem State.store_jtag (s : State) (a : Nat) (bs : List Byte) : (s.store a bs).jtag = s.jtag := by simp [State.store]

@[simp] theorem State.answer_pending (s : State) (t st : Nat) (d : List Word) : (s.answer t st d).pending = s.pending := rfl
@[simp] theorem State.answer_regs (s : State) (t st : Nat) (d : List Word) : (s.answer t st d).regs = s.regs := rfl
@[simp] theorem State.answer_stg (s : State) (t st : Nat) (d : List Word) : (s.answer t st d).stg = s.stg := rfl
@[simp] theorem State.answer_snaps (s : State) (t st : Nat) (d : List Word) : (s.answer t st d).snaps = s.snaps := rfl
@[simp] theorem State.answer_mem (s : State) (t st : Nat) (d : List Word) : (s.answer t st d).mem = s.mem := rfl
@[simp] theorem State.answer_rmem (s : State) (t st : Nat) (d : List Word) : (s.answer t st d).rmem = s.rmem := rfl
@[simp] theorem State.answer_uptime (s : State) (t st : Nat) (d : List Word) : (s.answer t st d).uptime = s.uptime := rfl
@[simp] theorem State.answer_free (s : State) (t st : Nat) (d : List Word) : (s.answer t st d).free = s.free := rfl
@[simp] theorem State.answer_pwr (s : State) (t st : Nat) (d : List Word) : (s.answer t st d).pwr = s.pwr := rfl
@[simp] theorem State.answer_sys (s : State) (t st : Nat) (d : List Word) : (s.answer t st d).sys = s.sys := rfl
@[simp] theorem State.answer_tim (s : State) (t st : Nat) (d : List Word) : (s.answer t st d).tim = s.tim := rfl
@[simp] theorem State.answer_brk (s : State) (t st : Nat) (d : List Word) : (s.answer t st d).brk = s.brk := rfl
@[simp] theorem State.answer_indSap (s : State) (t st : Nat) (d : List Word) : (s.answer t st d).indSap = s.indSap := rfl
@[simp] theorem State.answer_indSched (s : State) (t st : Nat) (d : List Word) : (s.answer t st d).indSched = s.indSched := rfl
@[simp] theorem State.answer_indConf (s : State) (t st : Nat) (d : List Word) : (s.answer t st d).indConf = s.indConf := rfl
@[simp] theorem State.answer_indTbl (s : State) (t st : Nat) (d : List Word) : (s.answer t st d).indTbl = s.indTbl := rfl
@[simp] theorem State.answer_afe (s : State) (t st : Nat) (d : List Word) : (s.answer t st d).afe = s.afe := rfl
@[simp] theorem State.answer_watch (s : State) (t st : Nat) (d : List Word) : (s.answer t st d).watch = s.watch := rfl
@[simp] theorem State.answer_tch (s : State) (t st : Nat) (d : List Word) : (s.answer t st d).tch = s.tch := rfl
@[simp] theorem State.answer_cnp (s : State) (t st : Nat) (d : List Word) : (s.answer t st d).cnp = s.cnp := rfl
@[simp] theorem State.answer_eng (s : State) (t st : Nat) (d : List Word) : (s.answer t st d).eng = s.eng := rfl
@[simp] theorem State.answer_img (s : State) (t st : Nat) (d : List Word) : (s.answer t st d).img = s.img := rfl
@[simp] theorem State.answer_rsv (s : State) (t st : Nat) (d : List Word) : (s.answer t st d).rsv = s.rsv := rfl
@[simp] theorem State.answer_hwd (s : State) (t st : Nat) (d : List Word) : (s.answer t st d).hwd = s.hwd := rfl
@[simp] theorem State.answer_crw (s : State) (t st : Nat) (d : List Word) : (s.answer t st d).crw = s.crw := rfl
@[simp] theorem State.answer_tk (s : State) (t st : Nat) (d : List Word) : (s.answer t st d).tk = s.tk := rfl
@[simp] theorem State.answer_tks (s : State) (t st : Nat) (d : List Word) : (s.answer t st d).tks = s.tks := rfl
@[simp] theorem State.answer_th (s : State) (t st : Nat) (d : List Word) : (s.answer t st d).th = s.th := rfl
@[simp] theorem State.answer_crb (s : State) (t st : Nat) (d : List Word) : (s.answer t st d).crb = s.crb := rfl
@[simp] theorem State.answer_grv (s : State) (t st : Nat) (d : List Word) : (s.answer t st d).grv = s.grv := rfl
@[simp] theorem State.answer_groot (s : State) (t st : Nat) (d : List Word) : (s.answer t st d).groot = s.groot := rfl
@[simp] theorem State.answer_saps (s : State) (t st : Nat) (d : List Word) : (s.answer t st d).saps = s.saps := rfl
@[simp] theorem State.answer_mot (s : State) (t st : Nat) (d : List Word) : (s.answer t st d).mot = s.mot := rfl
@[simp] theorem State.answer_drv (s : State) (t st : Nat) (d : List Word) : (s.answer t st d).drv = s.drv := rfl
@[simp] theorem State.answer_jtag (s : State) (t st : Nat) (d : List Word) : (s.answer t st d).jtag = s.jtag := rfl

end Sys2Proof.Machine
end

