-- ==== Sys2Proof/Laws/Memory.lean ====
section
/-! SUPPORT. Laws of memory and of the register file: reading back what is written, bytes elsewhere, the canonical form. -/

namespace Sys2Proof.Machine

/-! ### Registers -/

theorem State.word_setWord (s : State) (a b : Nat) (w : Word) :
    (s.setWord a w).word b = if a = b then w else s.word b :=
  SMap.get_set resetWord s.regs a b w

@[simp] theorem State.word_setWord_same (s : State) (a : Nat) (w : Word) : (s.setWord a w).word a = w := by
  simp [State.word_setWord]

theorem State.word_setWord_other (s : State) (a b : Nat) (w : Word) (h : a ≠ b) : (s.setWord a w).word b = s.word b := by
  simp [State.word_setWord, h]

theorem State.setWord_wf (s : State) (a : Nat) (w : Word) (h : Registers.wf s.regs = true) :
    Registers.wf (s.setWord a w).regs = true := SMap.wf_set resetWord s.regs a w h

theorem State.setFld_wf (s : State) (r : FRef) (n : Nat) (h : Registers.wf s.regs = true) :
    Registers.wf (s.setFld r n).regs = true := State.setWord_wf s r.addr _ h

/-! ### Bytes -/

theorem State.byte_setByte (s : State) (a c : Nat) (b : Byte) :
    (s.setByte a b).byte c = if a = c then b else s.byte c :=
  SMap.get_set blankByte s.mem a c b

theorem State.byte_setBytes_below (bs : List Byte) : ∀ (s : State) (a c : Nat), c < a → (s.setBytes a bs).byte c = s.byte c := by
  induction bs with
  | nil => intro s a c _; rfl
  | cons b bs ih =>
    intro s a c h
    rw [State.setBytes, ih _ _ _ (by omega), State.byte_setByte, if_neg (by omega)]

/-- Bytes outside those written are as before; those written read back. -/
theorem State.byte_setBytes (bs : List Byte) : ∀ (s : State) (a c : Nat),
    (s.setBytes a bs).byte c = if a ≤ c then (bs[c - a]?).getD (s.byte c) else s.byte c := by
  induction bs with
  | nil => intro s a c; simp [State.setBytes]
  | cons b bs ih =>
    intro s a c
    rw [State.setBytes, ih]
    by_cases h1 : a + 1 ≤ c
    · have h2 : a ≤ c := by omega
      have h3 : c - a = (c - (a + 1)) + 1 := by omega
      rw [if_pos h1, if_pos h2, h3, List.getElem?_cons_succ, State.byte_setByte, if_neg (by omega)]
    · rw [if_neg h1, State.byte_setByte]
      by_cases h4 : a = c
      · subst h4; simp
      · rw [if_neg h4, if_neg (by omega)]

theorem State.byte_store (s : State) (a c : Nat) (bs : List Byte) :
    (s.store a bs).byte c = if a ≤ c then (bs[c - a]?).getD (s.byte c) else s.byte c :=
  State.byte_setBytes bs s a c

/-- A store leaves every byte outside its range as it was. -/
theorem State.byte_store_outside (s : State) (a c : Nat) (bs : List Byte) (h : c < a ∨ a + bs.length ≤ c) :
    (s.store a bs).byte c = s.byte c := by
  rw [State.byte_store]
  rcases h with h | h
  · rw [if_neg (by omega)]
  · have : bs[c - a]? = none := List.getElem?_eq_none (by omega)
    by_cases h' : a ≤ c <;> simp [h', this]

theorem State.setByte_wf (s : State) (a : Nat) (b : Byte) (h : Memory.wf s.mem = true) :
    Memory.wf (s.setByte a b).mem = true := SMap.wf_set blankByte s.mem a b h

theorem State.setBytes_wf (bs : List Byte) : ∀ (s : State) (a : Nat), Memory.wf s.mem = true →
    Memory.wf (s.setBytes a bs).mem = true := by
  induction bs with
  | nil => intro s a h; exact h
  | cons b bs ih => intro s a h; exact ih _ _ (State.setByte_wf s a b h)

/-- Every write of memory keeps the canonical form. -/
theorem State.store_wf (s : State) (a : Nat) (bs : List Byte) (h : Memory.wf s.mem = true) :
    Memory.wf (s.store a bs).mem = true := State.setBytes_wf bs s a h

theorem storeEnabled_wf (l : List (Bool × Byte)) : ∀ (s : State) (a : Nat), Memory.wf s.mem = true →
    Memory.wf (storeEnabled s a l).mem = true := by
  induction l with
  | nil => intro s a h; exact h
  | cons p l ih =>
    obtain ⟨en, b⟩ := p
    intro s a h
    cases en with
    | true => exact ih _ _ (State.store_wf s a [b] h)
    | false => exact ih _ _ h

theorem State.setRword_wf (s : State) (a : Nat) (w : Word) (h : Memory.wf s.rmem = true) :
    Memory.wf (s.setRword a w).rmem = true := by
  have key : ∀ (l : List (Byte × Nat)) (m : SMap Byte), Memory.wf m = true →
      Memory.wf (l.foldl (fun m (p : Byte × Nat) => SMap.set blankByte m (a + p.2) p.1) m) = true := by
    intro l
    induction l with
    | nil => intro m hm; exact hm
    | cons p l ih => intro m hm; exact ih _ (SMap.wf_set blankByte m _ _ hm)
  exact key _ s.rmem h

theorem reset_wf : State.wf State.reset = true := by decide

/-- Reading `n` bytes back after a store of `n` bytes there. -/
theorem State.bytes_store_same (s : State) (a : Nat) (bs : List Byte) : (s.store a bs).bytes a bs.length = bs := by
  have key : ∀ (l pre : List Byte), bs = pre ++ l → (s.store a bs).bytes (a + pre.length) l.length = l := by
    intro l
    induction l with
    | nil => intro pre _; rfl
    | cons b l ih =>
      intro pre hp
      have h1 : (s.store a bs).byte (a + pre.length) = b := by
        rw [State.byte_store, if_pos (by omega), Nat.add_sub_cancel_left, hp]
        simp
      have h2 := ih (pre ++ [b]) (by simp [hp])
      rw [List.length_append, List.length_singleton, ← Nat.add_assoc] at h2
      rw [List.length_cons, State.bytes, h1, h2]
  simpa using key bs [] rfl

end Sys2Proof.Machine
end

