-- ==== Sys2Proof/Laws/Ops.lean ====
section
/-! SUPPORT. What the shared operations over register fields, the register interface and a step do, said once. -/

namespace Sys2Proof.Machine

/-! ### Fields -/

/-- A field reads what it was set to, modulo its width. -/
theorem State.fld_setFld (s : State) (r : FRef) (n : Nat) (h : r.lo + r.wid ≤ 32) :
    (s.setFld r n).fld r = n % 2 ^ r.wid := by
  simp only [State.setFld, State.fld, State.word_setWord_same]
  exact wordField_wordSet _ _ _ _ h

/-- A field of another register, or another field of the register, reads as before. -/
theorem State.fld_setFld_other (s : State) (r q : FRef) (n : Nat) (h : q.lo + q.wid ≤ 32)
    (apart : r.addr ≠ q.addr ∨ q.lo + q.wid ≤ r.lo ∨ r.lo + r.wid ≤ q.lo) : (s.setFld r n).fld q = s.fld q := by
  simp only [State.setFld, State.fld]
  by_cases ha : r.addr = q.addr
  · rw [ha, State.word_setWord_same]
    exact wordField_wordSet_other _ _ _ _ _ _ h (by tauto)
  · rw [State.word_setWord_other _ _ _ _ ha]

theorem State.fld_setWord_other (s : State) (a : Nat) (w : Word) (q : FRef) (h : a ≠ q.addr) :
    (s.setWord a w).fld q = s.fld q := by
  simp only [State.fld, State.word_setWord_other _ _ _ _ h]

theorem State.fld_lt (s : State) (r : FRef) : s.fld r < 2 ^ r.wid := wordField_lt _ _ _

/-- A counter field counts, and stays at its largest value. -/
theorem State.fld_count (s : State) (r : FRef) (k : Nat) (h : r.lo + r.wid ≤ 32) :
    (s.count r k).fld r = satAdd r.wid (s.fld r) k := by
  rw [State.count, State.fld_setFld _ _ _ h, Nat.mod_eq_of_lt]
  unfold satAdd
  have := Nat.two_pow_pos r.wid
  split <;> omega

/-- A one-bit field reads the flag it was set to. -/
theorem State.bit_setBit (s : State) (r : FRef) (b : Bool) (h : r.lo + r.wid ≤ 32) (w : r.wid = 1) :
    (s.setBit r b).bit r = b := by
  rw [State.bit, State.setBit, State.fld_setFld _ _ _ h, w]
  cases b <;> rfl

/-! ### The register interface -/

/-- A write that is not let through: its status, and at most the refusal that it raises, or the end of a transaction that it
would have taken part in. -/
theorem regWrite_refused (s : State) (t : Nat) (ok : Bool) (a : Nat) (v : Word) (st : Nat) (raise : Bool)
    (h : regJudge s ok a true = (st, raise)) (hst : st ≠ 0) :
    regWrite s t ok a v = (if raise then raiseRefusal s t st else if ok then refusedTxn s t a v else s, st) := by
  unfold regWrite
  rw [h]
  exact if_pos hst

/-- A write that is let through does what its block does. -/
theorem regWrite_done (s : State) (t : Nat) (ok : Bool) (a : Nat) (v : Word) (r : RegRow) (raise : Bool)
    (h : regJudge s ok a true = (0, raise)) (hr : findReg a = some r) :
    regWrite s t ok a v = (wakeCores (writeReg s t a r v).1, (writeReg s t a r v).2) := by
  unfold regWrite
  rw [h, hr]
  exact if_neg (not_not_intro rfl)

theorem regRead_refused (s : State) (t : Nat) (ok : Bool) (a st : Nat) (raise : Bool)
    (h : regJudge s ok a false = (st, raise)) (hst : st ≠ 0) :
    regRead s t ok a = (if raise then raiseRefusal s t st else s, st, 0) := by
  unfold regRead
  rw [h]
  exact if_pos hst

theorem regRead_done (s : State) (t : Nat) (ok : Bool) (a : Nat) (r : RegRow) (raise : Bool)
    (h : regJudge s ok a false = (0, raise)) (hr : findReg a = some r) : regRead s t ok a = readReg s t a r := by
  unfold regRead
  rw [h, hr]
  exact if_neg (not_not_intro rfl)

/-- An access is let through when the node runs, the address is an aligned register of a block, the permission entry allows
it, the node is not in SAFE, and the unit takes accesses. -/
theorem regJudge_ok (s : State) (a : Nat) (wr : Bool) (run : s.running = true) (al : a % 4 = 0)
    (blk : blockRows (blockOf a) ≠ []) (mode : s.pwr.mode ≠ .safe)
    (up : blockUp s (blockOf a) (a % 0x10000) = true) (reg : (findReg a).isSome = true) :
    regJudge s true a wr = (0, false) := by
  have h1 : (findReg a).isNone = false := by cases h : findReg a <;> simp_all
  have h2 : (blockRows (blockOf a)).isEmpty = false := by
    cases h : blockRows (blockOf a) <;> simp_all
  simp [regJudge, run, al, h2, mode, up, h1]

/-! ### A step -/

theorem step_cons (s : State) (c : Instr) : step { s with pending := c :: s.pending } = exec c s := rfl

end Sys2Proof.Machine
end

