-- ==== Sys2Proof/Machine/Lands.lean ====
section
/-! DEFINITION. The output lands as functions of the state: what a board sees of the node (Table 02-5, R29 to R33). No command
reads them. -/

namespace Sys2Proof.Machine

/-- What the node does at an output land: drives it low or high; lets an open-drain land go; leaves it high-impedance; drives it
with its unit's signal; drives it from the boundary-scan register. -/
inductive LandLevel where
  | low
  | high
  | released
  | highZ
  | active
  | scan
  deriving DecidableEq, Repr

/-- A land of the boundary-scan register: cut off from its unit in EXTEST and HIGHZ (R684). -/
def scanned (s : State) (l : LandLevel) : LandLevel :=
  if s.jtag.ir = 0x07 then .highZ else if s.jtag.ir = 0x00 then .scan else l

def levelOf (b : Bool) : LandLevel := if b then .high else .low

/-- An open-drain land pulled low when `b`. -/
def odLevel (b : Bool) : LandLevel := if b then .low else .released

/-- The commit point of a HOLDUP sequence has been reached: lands that work until then have stopped. -/
def pastCommit (s : State) : Bool := s.pwr.mode == .holdup && s.pwr.committed

/-- SAFE_N (R33): low in SAFE and in no other mode. -/
def landSafeN (s : State) : LandLevel := odLevel (s.pwr.mode == .safe)

/-- DRV_FLT_N (R30). -/
def landDrvFltN (s : State) : LandLevel :=
  scanned s (odLevel (drvFltLow s ((List.range 4).all fun n => !axActive s n)))

/-- A flag of SYS_SVC_IRQ is set together with its enable (R163). -/
def svcIrqWanted (s : State) : Bool := (s.word SYS_SVC_IRQ.addr).toNat % 8 &&& s.fld SYS_SVC_IRQ.EN != 0

/-- SVC_IRQ_N (R163): released in reset, in ROOT and from the commit point. -/
def landSvcIrqN (s : State) : LandLevel := scanned s (odLevel (s.running && !pastCommit s && svcIrqWanted s))

/-- SVC_MISO: high-impedance where the port is disabled, in reset, in ROOT and past the commit point (R37, Table 02-5), and from the end
of a frame that R161 cuts short until the next fall of SVC_CS_N. -/
def landSvcMiso (s : State) (selected : Bool) : LandLevel :=
  scanned s (if selected && !s.sys.svcIgnored && s.running && !pastCommit s && s.bit SYS_STRAP.SVC_EN then .active else .highZ)

/-- TIME_PPS (R32): low in SAFE and HOLDUP. -/
def landTimePps (s : State) : LandLevel :=
  scanned s (levelOf (timePps s && s.pwr.mode != .safe && s.pwr.mode != .holdup))

/-- TKxn_TXDIS (R400): low while EN = 1, for PMD = SFI only with the module present; high in reset, in ROOT and from the
commit point (Table 02-5). -/
def landTxdis (s : State) (x l : Nat) : LandLevel :=
  scanned s (levelOf !(s.running && !pastCommit s && s.bit (TK_LANE_CFG.EN x l) &&
    (!s.bit (TK_LANE_CFG.PMD x l) || !s.bit (TK_LANE_STAT.MODABS x l))))

/-- TKxn_TX: electrical idle (high-impedance here) unless the lane has left OFF. -/
def landTrunkTx (s : State) (x l : Nat) : LandLevel :=
  if s.running && !pastCommit s && s.fld (TK_LANE_STAT.STATE x l) != 0 then .active else .highZ

/-- The bits on TKxn_TX for 32 blocks of a lane, as a number, with TXINV: the FEC block where FEC = 1 (R399), else the blocks as
they are, the first in the low bits. -/
def landTrunkBits (s : State) (x l : Nat) (ws : List (BitVec 66)) : BitVec 2112 :=
  let v := if s.bit (TK_LANE_CFG.FEC x l) then fecEncode ws
    else BitVec.ofNat 2112 ((ws.take 32).foldr (fun w n => w.toNat + 2 ^ 66 * n) 0)
  if s.bit (TK_LANE_CFG.TXINV x l) then ~~~v else v

/-- The four coil lands of axis `n`: driven, or high-impedance (R628, R650). -/
def landCoils (s : State) (n : Nat) : LandLevel := if s.running && s.bitAt DRV_STATUS.DRIVEN n then .active else .highZ

/-- What the two H-bridge halves of coil `c` do in a chopper period whose current reaches 0 after `z` ns of the off-phase
(R633, R635): ns of the diagonal toward the target's sign, of the opposite one, of both low sides. -/
def landBridge (s : State) (n c z : Nat) : Nat × Nat × Nat :=
  let k := (drvAx s n).coils.getD c {}
  (k.pulse, offPhase s n k z)

/-- STEP_OUT and DIR_OUT of axis `n` work: not in reset, ROOT and SAFE, nor from the park step, which parks each axis as it
stops (Tables 02-5, 03-7). -/
def stepLandsOn (s : State) (n : Nat) : Bool := s.running && s.pwr.mode != .safe && !parkReached s (!axActive s n)

/-- AXn_DIR_OUT (R619). -/
def landDirOut (s : State) (n : Nat) : LandLevel := scanned s (levelOf (stepLandsOn s n && (axisOf s n).dirOut))

/-- AXn_STEP_OUT (R619): a pulse for each OUT_DIV microsteps of an axis with OUT = STEPDIR. -/
def landStepOut (s : State) (n : Nat) : LandLevel :=
  scanned s (if stepLandsOn s n && s.bit (MOT_CFG.OUT n) && axActive s n then .active else .low)

/-- The bridge's lands work: an active bridge, or one that completes its last cycle (R503, R541, Table 02-5). -/
def crbLandsOn (s : State) : Bool := s.running && (crbActive s || s.crb.stopping)

/-- A pulse of AXn_STEP_OUT in ns (R619): high for the first, which is also the least time low; AXn_DIR_OUT has changed at least the
second before it rises. -/
def stepPulse (s : State) (n : Nat) : Nat × Nat :=
  (10 * Nat.max 10 (s.fld (MOT_STEPIO.PW n)), 10 * s.fld (MOT_STEPIO.DSET n))

/-- CRB_TOE_N and CRB_SDIR (R503). -/
def landToeN (s : State) : LandLevel := scanned s (levelOf !(crbLandsOn s))
def landSdir (s : State) : LandLevel := scanned s (levelOf (crbLandsOn s && s.bit CRB_STATUS.MASTER))

/-- The node's own data strobe is a write. -/
def crbDrivesData (s : State) : Bool :=
  s.crb.cyc == .data && (match s.crb.q with | r :: _ => r.wr | [] => false)

/-- A rack strobe of the node's own (R506 to R509): the address, CRB_WR_N low, CRB_UB_N and CRB_LB_N low, CRB_BLK_N low for more
words of the block, and the word driven with a write. -/
structure RackStrobe where
  addr : Nat
  wr : Bool
  ub : Bool
  lb : Bool
  more : Bool
  data : Nat
  deriving DecidableEq, Repr

/-- The strobe in progress: the head word of the head request, or an IACK cycle's single read of 0xFF_FFF0 + 2L on the odd
lane (R507). -/
def rackStrobe (s : State) : Option RackStrobe :=
  match s.crb.cyc, s.crb.q with
  | .iack l, _ => some ⟨0xFFFFF0 + 2 * l, false, false, true, false, 0⟩
  | .data, r :: _ =>
    match r.words with
    | w :: rest =>
      let lane := fun (o : Option Nat) => match o with | some i => (r.data.getD i 0).toNat | none => 0
      some ⟨w.addr, r.wr, w.ub.isSome, w.lb.isSome, blockGoesOn { r with words := rest } w.addr,
        if r.wr then 256 * lane w.ub + lane w.lb else 0⟩
    | [] => none
  | _, _ => none

/-- CRB_TDIR (R503): high while the node drives data on CRB_AD, as master with a write and as slave with what it answers. -/
def landTdir (s : State) : LandLevel := scanned s (levelOf (crbLandsOn s && (crbDrivesData s || s.crb.drives)))

/-- CRB_AD, CRB_AX, the strobes, CRB_UB_N, CRB_LB_N, CRB_WR_N and CRB_BLK_N: driven during the node's own cycles. -/
def landCrbStrobes (s : State) : LandLevel := scanned s (if crbLandsOn s && crbStrobing s then .active else .highZ)

/-- CRB_RDY_N and CRB_BERR_N: pulled low with the answer to an inbound strobe, by the slave or the bus monitor. -/
def landRdyN (s : State) : LandLevel :=
  scanned s (odLevel (crbLandsOn s && (match s.crb.ans with | some (berr, _) => !berr | none => false)))
def landBerrN (s : State) : LandLevel :=
  scanned s (odLevel (crbLandsOn s && (match s.crb.ans with | some (berr, _) => berr | none => false)))

/-- CRB_IACKOUT_N (R31): follows CRB_IACKIN_N in every mode, but is kept high while the node answers the acknowledge itself;
without VIO_CRB nothing drives it. -/
def landIackOutN (s : State) : LandLevel :=
  if !s.pwr.vioCrbOk then .highZ else scanned s (if s.crb.iackPass then .active else .high)

/-- CRB_BREQ_N (R511). -/
def landBreqN (s : State) : LandLevel := scanned s (odLevel (crbLandsOn s && s.crb.breq))

/-- CRB_IRQL_N (R539): low while the node holds the level. -/
def landCrbIrqN (s : State) (L : Nat) : LandLevel := scanned s (odLevel (crbLandsOn s && s.bitAt CRB_STATUS.OUT L))

/-- GA_TX and GB_TX: idle unless the port works, and from the entry of HOLDUP. -/
def landGroveTx (s : State) (x : Nat) : LandLevel :=
  if s.up (fenceGRV x) && s.pwr.mode != .safe && s.pwr.mode != .holdup && grvState s x != 0 then .active else .highZ

/-- The line levels of a frame on GA_TX, GB_TX or a Sapling's port, two for each bit (R545, R550): PRE, SD, then the frame's
bytes. -/
def landGroveLine (f : GFrame) (seq : Nat) : List Bool := manchester ([0x55, 0x55, 0xD5] ++ grvBytes f seq)

/-- A wake tone (R578): 1 ms of Manchester 0 bits. -/
def landGroveTone : List Bool := (List.replicate 25000 [true, false]).flatten

/-- TDO: driven only while the port shifts. -/
def landTdo (s : State) (shifting : Bool) : LandLevel := if s.running && shifting then .active else .highZ

/-- The IEPE current code of analog channel `c` of die `n`; in ROOT that of a watch channel kept on (Table 02-5, R220). -/
def landIepe (s : State) (n c : Nat) : Nat :=
  if s.pwr.mode = .root then
    (if c < 4 ∧ s.bit (AFE_WCH_CFG.EN n c) ∧ s.bit (AFE_WCH_CFG.IEPE_KEEP n c) then s.watch.iepe.getD (4 * n + c) 0 else 0)
  else if s.running ∧ iepeOn s n c then s.fld (AFE_CH_CFG.IEPE n c) else 0

end Sys2Proof.Machine
end

