-- ==== Sys2Proof/Machine/Services.lean ====
section
/-! DEFINITION. The services of Table 20-1 as functions of the state: which of them the node gives (R654 to R658). No command
reads them. -/

namespace Sys2Proof.Machine

/-- The rows of Table 20-1. -/
inductive Service where
  | statusFloor
  | eventLog
  | bridge
  | alarms
  | records
  | grove
  | survey
  deriving DecidableEq, Repr

/-- An access path of the status floor: a trunk port with a lane UP, or the service port with SVC_EN = 1. -/
def accessPath (s : State) : Bool :=
  (s.up (fenceTK 0) && s.portHasLane 0) || (s.up (fenceTK 1) && s.portHasLane 1) ||
    (s.bit SYS_STRAP.SVC_EN && s.up fenceSVCP)

/-- The status floor: the floor units have no fence and no unit reset, so they work whenever the M-die runs. -/
def floorGiven (s : State) : Bool := s.running && accessPath s

/-- The acquisition row, with and without its A-die and bough. -/
def reducing (s : State) : Bool := s.bit TIM_STATUS.TB_PLL && s.up fenceREC && s.up fenceBUF

def acquisitionGiven (s : State) : Bool :=
  floorGiven s && reducing s && (s.up 0 || s.up 1) && (List.range 4).any fun b => s.up (3 + b)

/-- The node gives service `v` (R654). -/
def serves (s : State) (v : Service) : Bool :=
  match v with
  | .statusFloor => floorGiven s
  | .eventLog => floorGiven s && s.up fenceHWD
  | .bridge => floorGiven s && s.up fenceCRB && s.fld SYS_STRAP.CRB_ROLE != 0 && s.pwr.vioCrbOk
  | .alarms => acquisitionGiven s
  | .records => acquisitionGiven s && ((s.up (fenceTK 0) && s.portHasLane 0) || (s.up (fenceTK 1) && s.portHasLane 1)) && s.up fenceTKS
  | .grove => floorGiven s && reducing s && (s.up 19 || s.up 20) && (List.range 4).any fun n => s.up (11 + n) && (coreState s n == 1 || coreState s n == 2)
  | .survey => acquisitionGiven s && s.up fenceMOT && s.up fenceDRV && s.up fenceTCH && s.vmOk

end Sys2Proof.Machine
end

