-- ==== Sys2Proof/Tests/Slice0.lean ====
section
/-! SUPPORT. Tests: ill-formed commands refused by the checks, witnesses that hypotheses of the statements can be met, and small
steps whose results the spec gives. -/

namespace Sys2Proof.Tests

open Sys2Proof Sys2Proof.Machine

-- One theorem at a time: many evaluations at once take much memory.
set_option Elab.async false

/-! ### States the tests stand on -/

/-- The node in RUN with its supplies good, SVC and LOCAL permitted everywhere, as after a boot. -/
def nodeRun : State :=
  { State.reset with pwr := { mode := .run, base := .run, vinOk := true, vinQual := true, holdOk := true, vbakOk := true,
                              vioGenOk := true, booted := true } }

def nodeOff : State := State.reset

def inMode (m : Mode) (s : State) : State := { s with pwr := { s.pwr with mode := m, base := m } }

def bootAt (m : Mode) (p : Phase) : State := { inMode m nodeRun with pwr := { (inMode m nodeRun).pwr with phase := p } }

def rootless (s : State) : State := { s with pwr := { s.pwr with rootPowered := false } }

def vmGood (s : State) : State := { s with pwr := { s.pwr with vmRisen := true } }

def overVolt (s : State) : State := { s with pwr := { s.pwr with vmOv := true } }

def bootedFrom (x : Nat) (s : State) : State := { s with img := { s.img with booted := some x } }

def seqAt (m : Mode) (q : Seq) (s : State) : State := { inMode m s with pwr := { (inMode m s).pwr with seq := q } }

def vinLost (s : State) : State := { s with pwr := { s.pwr with pdownLost := true } }

def qualifying (s : State) : State := { s with pwr := { s.pwr with vinQual := false, qualRun := true } }

def holdupAt (window committed : Bool) : State :=
  { seqAt .holdup .hold nodeRun with pwr := { (seqAt .holdup .hold nodeRun).pwr with
      fwWindow := window, committed := committed, vinOk := false, vinQual := false } }

def wtRunning : State := (nodeRun.setFld (PWR_WTIMER.COUNT 0) 1).setFld (PWR_WTIMER.COUNT 1) 0xFFFFFF

def watchCycleIn (m : Mode) : State := { inMode m nodeRun with pwr := { (inMode m nodeRun).pwr with watchCycle := true } }

def acquiring (s : State) : State := { s with pwr := { s.pwr with watchAcq := true } }

def rstHeldDown (s : State) : State := { s with pwr := { s.pwr with rstHeld := true, rstLow := true } }

def tapAt (c : BitVec 5) (s : State) : State := { s with jtag := { s.jtag with ir := c } }

/-- Lane `l` of port `x` is UP and the port serves on it. -/
def laneUp (x l : Nat) (s : State) : State :=
  ((s.setFld (TK_LANE_STAT.STATE x l) 6).setFld (TK_STATUS.PORT x) 1).setFld (TK_STATUS.TXMASK x) (2 ^ l)

/-- The service port is enabled, so that an access path is left whatever the trunk does (R182). -/
def svcOn (s : State) : State := s.setBit SYS_STRAP.SVC_EN true

def rmemTop (s : State) : State := s.setFld PWR_RMEM_ADDR.WADDR 0x6400

/-! ### Ill-formed commands, one for each check, and a well-formed one beside each -/

theorem test_wf_word_address : Instr.wf (.registerWrite 7 0x40000002 0) = false ∧ Instr.wf (.registerWrite 7 0x40000004 0) = true := by
  decide

theorem test_wf_read_address : Instr.wf (.rcRead 7 0x40000001) = false ∧ Instr.wf (.rcRead 7 0x40000000) = true := by decide

theorem test_wf_svc_read_address : Instr.wf (.svcReadFrame true 3 0 0 0) = false ∧ Instr.wf (.svcReadFrame true 4 0 0 0) = true := by decide

theorem test_wf_svc_write_lengths :
    Instr.wf (.svcWriteFrame true 0 []) = false ∧ Instr.wf (.svcWriteFrame true 0 (List.replicate 33 0)) = false ∧
      Instr.wf (.svcWriteFrame true 0 (List.replicate 32 0)) = true := by decide

theorem test_wf_svc_abort_length :
    Instr.wf (.svcFrameAbort true 0 (.writes (List.replicate 33 0))) = false ∧ Instr.wf (.svcFrameAbort true 0 (.writes [])) = true ∧
      Instr.wf (.svcFrameAbort true 2 (.reads 1)) = false ∧ Instr.wf (.svcFrameAbort true 4 (.reads 1)) = true := by decide

theorem test_wf_watch_sample : Instr.wf (.watchSample [0] 0 0) = false ∧ Instr.wf (.watchSample (List.replicate 8 0) 0 0) = true := by
  decide

theorem test_wf_frame_tag : Instr.wf (.rdReqRx 0 { tag := 1024 } []) = false ∧ Instr.wf (.rdReqRx 0 { tag := 1023 } []) = true := by decide

theorem test_wf_frame_payload :
    Instr.wf (.wrPostRx 0 { payload := [0] }) = false ∧ Instr.wf (.wrPostRx 0 { payload := List.replicate 264 0 }) = false ∧
      Instr.wf (.wrPostRx 0 { payload := List.replicate 256 0 }) = true := by decide +kernel

theorem test_wf_grove_frame :
    Instr.wf (.groveIdentRx 0 { hop := 256 }) = false ∧
      Instr.wf (.saplingBeacon 0 0 { payload := List.replicate 65 0 }) = false ∧ Instr.wf (.groveIdentRx 0 {}) = true := by decide

theorem test_wf_compressed :
    Instr.wf (.coreLoad 0 true 2 false 0 2 252 0) = false ∧ Instr.wf (.coreLoad 0 true 1 false 8 8 4 0) = false ∧
      Instr.wf (.coreStore 0 true 2 15 7 4) = false ∧ Instr.wf (.coreStore 0 true 2 15 8 124) = true ∧
      Instr.wf (.coreStore 0 true 2 2 0 252) = true := by decide

theorem test_wf_block_channels : Instr.wf (.saplingBlockEnd 0 [] 0) = false ∧
    Instr.wf (.saplingBlockEnd 0 (List.replicate 8 {}) 0) = true := by decide

theorem test_wf_chopper_bridges : Instr.wf (.chopperPeriod [1]) = false ∧ Instr.wf (.chopperPeriod (List.replicate 8 1)) = true := by
  decide


/-- Table 02-5: DRV_FLT_N low and TXDIS high in reset; SAFE_N low in SAFE alone, where the trunk lanes still work. -/
theorem test_lands : landDrvFltN State.reset = .low ∧ landTxdis State.reset 0 0 = .high ∧ landSafeN State.reset = .released ∧
    landSafeN (inMode .safe nodeRun) = .low ∧ landDrvFltN nodeRun = .low ∧ landDrvFltN (vmGood nodeRun) = .released ∧ landTimePps State.reset = .low := by decide +kernel

/-! ### SupplyEventsComplete -/

theorem witness_SupplyEventsComplete :
    nodeRun.pwr.vinOk = true ∧ nodeRun.pwr.rootPowered = true ∧ nodeRun.running = true ∧
      (vmGood nodeRun).vmOk = true ∧ nodeRun.pwr.vmOv = false ∧ (overVolt nodeRun).pwr.vmOv = true ∧ nodeRun.vmOk = false ∧
      (rootless nodeOff).pwr.rootPowered = false ∧ (∃ u, exec .rootPor (rootless nodeOff) = .next u) ∧
      nodeOff.pwr.vinOk = false ∧ nodeOff.pwr.mode = .off ∧ nodeOff.running = false :=
  ⟨by decide +kernel, by decide +kernel, by decide +kernel, by decide +kernel, by decide +kernel, by decide +kernel,
    by decide +kernel, by decide +kernel, ⟨_, rfl⟩, by decide +kernel, by decide +kernel, by decide +kernel⟩

/-! ### BootStepsComplete -/

theorem witness_BootStepsComplete :
    (nodeOff.pwr.rootPowered = true ∧ nodeOff.pwr.mode = .off ∧ nodeOff.pwr.phase = .none ∧ nodeOff.pwr.booted = false) ∧
    (bootAt .off .rootUp).pwr.phase = .rootUp ∧ (bootAt .off .vioWait).pwr.phase = .vioWait ∧
    ((bootAt .waking .rails).pwr.phase = .rails ∧ (bootAt .waking .rails).pwr.rstHeld = false) ∧
    (bootAt .waking .pll).pwr.phase = .pll ∧
    ((bootAt .waking .mdie).pwr.phase = .mdie ∧ (bootAt .waking .mdie).pwr.heldSrc = [] ∧
      (bootAt .waking .mdie).pwr.safeLatch = false ∧ (bootAt .waking .mdie).pwr.latchedReq = none ∧
      (bootAt .waking .mdie).hwd.lostCommit = false) ∧
    (rootless nodeOff).pwr.rootPowered = false ∧ nodeRun.pwr.mode ≠ .off ∧ nodeRun.pwr.phase ≠ .vioWait ∧
    ({ bootAt .off .rootUp with pwr := { (bootAt .off .rootUp).pwr with rstLow := true } } : State).pwr.rstLow = true := by
  decide +kernel

/-! ### LoadCompletes -/

theorem witness_LoadCompletes :
    (bootAt .load .verify).running = true ∧ (bootAt .load .verify).pwr.phase = .verify ∧
    (verifyImage (bootAt .load .verify) (slotImage (bootAt .load .verify) (bootAt .load .verify).pwr.slot)
      (slotDesc (bootAt .load .verify) (bootAt .load .verify).pwr.slot).len [1]).1 = resFORMAT ∧
    (verifySlot (svcOn (bootAt .load .verify)) [1, 2]).2.1 = resREADERR ∧
    (verifySlot (svcOn (bootAt .load .verify)) [1, 2]).1.pwr.mode = .load ∧ (svcOn (bootAt .load .verify)).running = true ∧
    (svcOn (bootAt .load .verify)).pwr.mode = .load ∧ (svcOn (bootAt .load .verify)).pwr.phase = .verify ∧
    (bootAt .load .verify).up fenceHWD = true ∧ nodeRun.pwr.mode ≠ .load ∧
    (bootedFrom 1 (bootAt .load .apply)).running = true ∧ (bootedFrom 1 (bootAt .load .apply)).pwr.phase = .apply ∧
    (bootedFrom 1 (bootAt .load .apply)).img.booted = some 1 := by decide +kernel

/-! ### HoldupAndPowerdownComplete -/

theorem witness_HoldupAndPowerdownComplete :
    (nodeRun.pwr.vinOk = true ∧ nodeRun.pwr.mode = .run ∧ nodeRun.pwr.seq = .none) ∧
    ((bootAt .root .none).pwr.vinOk = true ∧ (bootAt .root .none).pwr.mode = .root) ∧
    ((seqAt .run .pdown nodeRun).pwr.seq = .pdown ∧ (seqAt .run .pdown nodeRun).pwr.mode = .run ∧
      (commitSteps (seqAt .run .pdown nodeRun)).pwr.pdownLost = false ∧
      (commitSteps (seqAt .run .pdown nodeRun)).pwr.latchedRst = false ∧
      (commitSteps (vinLost (seqAt .run .pdown nodeRun))).pwr.pdownLost = true) ∧
    ((qualifying nodeRun).pwr.qualRun = true ∧ (qualifying nodeRun).pwr.vinOk = true ∧ (qualifying nodeRun).pwr.mode = .run) ∧
    ((holdupAt true false).pwr.mode = .holdup ∧ (holdupAt true false).pwr.committed = false ∧
      (holdupAt true false).pwr.fwWindow = true ∧ (commitSteps (holdupAt true false)).pwr.vinQual = false) ∧
    ((holdupAt false true).pwr.committed = true ∧ (holdupAt false true).pwr.retWait = false ∧ (holdupAt false true).pwr.seq ≠ .pdown) ∧
    (nodeRun.pwr.mode.isRunning = true ∧ nodeRun.pwr.seq ≠ .pdown ∧ nodeOff.pwr.vinOk = false) := by decide +kernel

/-! ### WakesAndResetsComplete -/

theorem witness_WakesAndResetsComplete :
    (wtRunning.pwr.rootPowered = true ∧ wtRunning.fld (PWR_WTIMER.COUNT 0) ≠ 0 ∧ wtRunning.fld (PWR_WTIMER.COUNT 1) ≠ 0) ∧
    ((watchCycleIn .root).pwr.watchCycle = true ∧ (watchCycleIn .root).pwr.watchArm = false ∧
      (watchCycleIn .root).pwr.mode = .root ∧ (watchCycleIn .run).pwr.mode ≠ .root ∧ (watchCycleIn .run).pwr.watchCycle = true) ∧
    ((acquiring (watchCycleIn .watch)).pwr.watchAcq = true ∧ (watchCycleIn .watch).pwr.watchAcq = false ∧
      (watchCycleIn .watch).pwr.seq = .none ∧ (watchCycleIn .watch).pwr.mode = .watch) ∧
    (landsCut nodeRun = false ∧ nodeRun.pwr.rootPowered = true ∧ nodeRun.pwr.vioGenOk = true ∧ nodeRun.pwr.mode = .run ∧
      nodeRun.pwr.seq = .none ∧ (rstHeldDown nodeRun).pwr.rstHeld = true) ∧
    landsCut (tapAt 0x00 nodeRun) = true ∧ landsCut (tapAt 0x07 nodeRun) = true ∧ nodeRun.work ≠ .watch ∧
    (watchCycleIn .watch).work = .watch ∧ (seqAt .run .pdown nodeRun).pwr.mode.isRunning = true ∧
    (seqAt .run .pdown nodeRun).pwr.seq = .pdown ∧ nodeRun.fld (PWR_WTIMER.COUNT 0) = 0 ∧ nodeRun.pwr.rstHeld = false ∧
    ({ nodeRun with pwr := { nodeRun.pwr with vioGenOk := false } } : State).pwr.vioGenOk = false := by
  decide +kernel

/-! ### PowerWritesComplete -/

theorem witness_PowerWritesComplete :
    Lets nodeRun 7 SYS_MODE_REQ.addr true ∧ Lets nodeRun 7 (PWR_WTIMER.addr 0) true ∧
    Lets nodeRun 7 (PWR_WTIMER.addr 1) true ∧ Lets nodeRun 7 PWR_RMEM_DATA.addr false ∧
    (Lets (rmemTop nodeRun) 7 PWR_RMEM_DATA.addr true ∧ 0x19000 ≤ rmemByte (rmemTop nodeRun)) ∧
    (Lets nodeRun 7 SYS_NODE_RST.addr true ∧ nodeRun.sys.carrier = none ∧ nodeRun.pwr.mode ≠ .off ∧ nodeRun.pwr.mode ≠ .holdup ∧
      nodeRun.pwr.seq ≠ .pdown ∧ Lets (seqAt .run .pdown nodeRun) 7 SYS_NODE_RST.addr true ∧
      (seqAt .run .pdown nodeRun).pwr.seq = .pdown) ∧ rmemByte nodeRun < 0x19000 := by decide +kernel

/-! ### RefusedModeRequests -/

theorem witness_RefusedModeRequests :
    Lets nodeRun 7 SYS_MODE_REQ.addr true ∧ wordField (7 : Word) 0 4 = 7 ∧ nodeRun.fld SYS_STRAP.CRB_ROLE = 0 ∧
      wordField (6 : Word) 0 4 = 6 ∧ nodeRun.vmOk = false := by decide +kernel

/-! ### VinExcursionRestartsQualification -/

theorem witness_VinExcursionRestartsQualification : nodeRun.pwr.vinOk = true := by decide +kernel

/-! ### TimebaseEventsComplete -/

def withExch (t3 : Option Nat) : State :=
  let s := (nodeRun.setBit TIM_MASTER.VALID true).setFld TIM_MASTER.PORT 1
  { s with tim := { s.tim with now := 1000500, exch := some { port := 1, tag := 9, t1 := 1000000, t2 := 1000400, t3 := t3 } } }

/-- The worked example of chapter 04: after the exchange TIM_DELAY reads 5,201, TIM_OFFSET 734, the frequency adjustment is
−779.875 ppb. -/
def workedExchange : State :=
  let s := (((nodeRun.setBit TIM_MASTER.VALID true).setFld TIM_MASTER.PORT 0).setFld TIM_STATUS.STATE 1)
  doDelayRespRx 0 0 9 1804467
    { s with tim := { s.tim with now := 2000000, exch := some { port := 0, tag := 9, t1 := 1000000, t2 := 1005935, t3 := some 1800000 } } }

theorem test_exchange_example :
    workedExchange.fld TIM_DELAY.NS = 5201 ∧ workedExchange.fld TIM_OFFSET.NS = 734 ∧
      workedExchange.sfld TIM_FREQ_ADJ.PPB = -199648 ∧ timState workedExchange = 1 := by decide +kernel

theorem witness_TimebaseEventsComplete :
    nodeRun.running = true ∧ (nodeRun.pwr.rootPowered = true ∧ nodeRun.pwr.rslowRc = false) ∧
    (fromMaster (withExch none) 0 1 = true ∧ fromMaster (withExch none) 0 0 = false ∧ (withExch none).running = true) ∧
    mayTransmit (laneUp 1 0 (withExch none)) 1 = true ∧ alarmWaits (laneUp 1 0 (withExch none)) 1 = false ∧
    exchangeOk (withExch (some 1000450)) (((1000400 : Int) - 1000000 + (1000500 - 1000450))) = true ∧
    exchangeOk (withExch (some 1000450)) (((1000400 : Int) - 1000000 + (2000500 - 1000450))) = false ∧
    (timState nodeRun = timFREE ∧ timState (nodeRun.setFld TIM_STATUS.STATE 2) = timLOCKED) ∧
    Lets nodeRun 7 TIM_CTRL.addr true ∧ Lets nodeRun 6 TIM_NOW_LO.addr false ∧ nodeRun.tim.exch = none ∧
    nodeRun.tim.realign = false ∧ nodeOff.running = false ∧
    ({ nodeRun with tim := { nodeRun.tim with realign := true } } : State).tim.realign = true := by decide +kernel

/-! ### RegisterAccessesComplete -/

def inReset (u : Nat) (s : State) : State := s.setWord SYS_URST_STAT.addr (BitVec.ofNat 32 (2 ^ u))

/-- The fence of unit `f` is being lifted. -/
def lifting (f : Nat) (s : State) : State := { s with sys := { s.sys with unfencing := 2 ^ f } }

theorem witness_RegisterAccessesComplete :
    (Lets nodeRun 6 (AFE_CH_CFG.addr 1 15) true ∧ AFE_CH_CFG.addr 1 15 % 4 = 0 ∧
      (findReg (AFE_CH_CFG.addr 1 15)).isSome = true) ∧
    (Lets nodeRun 7 (TK_CNT.addr 1) false ∧ (findReg (TK_CNT.addr 1)).isSome = true) ∧
    Lets nodeRun 7 SYS_UPD_APPLY.addr true ∧ Lets nodeRun 7 SYS_UPD_AT_MASK.addr true ∧ Lets nodeRun 7 SYS_URST.addr true ∧
    (nodeRun.setBit SYS_UPD_STAT.ARMED true).bit SYS_UPD_STAT.ARMED = true ∧ nodeRun.bit SYS_UPD_STAT.ARMED = false ∧
    (inReset 22 nodeRun).inUnitReset 22 = true ∧ (inReset 16 nodeRun).inUnitReset 16 = true ∧
    nodeRun.running = true ∧ nodeOff.running = false ∧ nodeRun.inUnitReset 3 = false ∧
    (fenceOfReset 24).any (fun f => nbit (lifting 24 nodeRun).sys.unfencing f) = true ∧
    (fenceOfReset 25).any (fun f => nbit (lifting 19 nodeRun).sys.unfencing f) = true ∧
    (fenceOfReset 30).any (fun f => nbit nodeRun.sys.unfencing f) = false := by decide +kernel

/-! ### RefusedAccesses -/

theorem witness_RefusedAccesses :
    (nodeRun.running = true ∧ blockRows (blockOf SYS_MODE_REQ.addr) ≠ [] ∧ permits nodeRun 0 SYS_MODE_REQ.addr true = false ∧
      permits nodeRun 3 SYS_MODE_REQ.addr false = false) ∧
    blockRows (blockOf 0x40030000) ≠ [] ∧ blockRows (blockOf 0x40070000) = [] ∧ nodeRun.pwr.mode ≠ .safe ∧
    (Lets nodeRun 7 0x40030002 true ∧ findReg 0x4003FFF0 = none ∧ Lets nodeRun 7 0x4003FFF0 true) ∧
    blockUp (inReset 22 nodeRun) (blockOf (CRC_CFG.addr 0)) (CRC_CFG.addr 0 % 0x10000) = false ∧
    permits (inReset 22 nodeRun) 7 (CRC_CFG.addr 0) true = true ∧ nodeOff.running = false ∧ nodeOff.pwr.mode ≠ .safe ∧
    nodeOff.fenced fenceHWD = false ∧ wordField (1 : Word) 0 2 = 1 ∧ nbit (1 : Word).toNat 0 = true := by decide +kernel

/-! ### SafeModeWrites -/

theorem witness_SafeModeWrites :
    (inMode .safe nodeRun).running = true ∧ (inMode .safe nodeRun).pwr.mode = .safe ∧
    permits (inMode .safe nodeRun) 6 BRK_UNFENCE.addr true = true ∧ blockRows (blockOf 0x40070000) = [] ∧
    permits (inMode .safe nodeRun) 6 (HWD_TXN_CTRL.addr 6) true = true ∧ BRK_UNFENCE.addr ≠ HWD_TXN_CTRL.addr 6 ∧
    BRK_UNFENCE.addr ≠ HWD_JE_GO.addr 6 ∧ permits (inMode .safe nodeRun) 6 (CRC_CFG.addr 0) false = true ∧
    safeReg (CRC_CFG.addr 0) = false ∧ safeReg SYS_MODE.addr = true ∧ permits (inMode .safe nodeRun) 6 SYS_MODE.addr false = true ∧
    blockUp (inMode .safe nodeRun) (blockOf SYS_MODE.addr) (SYS_MODE.addr % 0x10000) = true ∧
    (findReg SYS_MODE.addr).isSome = true ∧ SYS_MODE.addr % 4 = 0 := by decide +kernel

/-! ### IndirectPortsComplete -/

def portOwned (p t : Nat) (s : State) : State := indClaim s p t

def portHolds (p : Nat) (s : State) : State := s.modInd p fun i => { i with held := some 0xA5, fetching := true, wq := [(3, 7, 6)] }

def portFull (p : Nat) (s : State) : State := s.modInd p fun i => { i with wq := List.replicate 16 (3, 7, 6) }

theorem witness_IndirectPortsComplete :
    ((List.range 4).all fun p => decide (Lets nodeRun 6 (indBase p) true ∧ Lets nodeRun 6 (indBase p + 4) true ∧
      Lets nodeRun 6 (indBase p + 4) false ∧ indForeign nodeRun p 6 = false ∧ (nodeRun.ind p).held = none ∧
      indForeign (portOwned p 7 nodeRun) p 6 = true ∧ Lets (portOwned p 7 nodeRun) 6 (indBase p) true ∧
      Lets (portOwned p 7 nodeRun) 6 (indBase p + 4) true ∧ Lets (portOwned p 7 nodeRun) 6 (indBase p + 4) false ∧
      (portOwned p 7 nodeRun).bit (indOwned p) = true ∧ ((portHolds p nodeRun).ind p).held = some 0xA5 ∧
      Lets (portHolds p nodeRun) 6 (indBase p + 4) false ∧ indForeign (portHolds p nodeRun) p 6 = false ∧
      ((portFull p nodeRun).ind p).wq.length = 16 ∧ Lets (portFull p nodeRun) 6 (indBase p + 4) true ∧
      ((portHolds p nodeRun).ind p).fetching = true ∧ (nodeRun.ind p).fetching = false ∧ (nodeRun.ind p).wq = [] ∧
      ((portHolds p nodeRun).ind p).wq = [(3, 7, 6)])) = true ∧ nodeRun.running = true ∧
    nodeRun.up fenceHWD = true ∧ nodeRun.up fenceDRV = true ∧ (inReset 10 nodeRun).up fenceHWD = false := by decide +kernel

/-! ### ServicePortComplete -/

/-- A frame of the service port is in hand, its word at the rack bridge. -/
def svcHand (s : State) : State := { s with sys := { s.sys with svc := some { wr := false } } }

theorem witness_ServicePortComplete :
    landsCut (svcOn nodeRun) = false ∧ svcActive (svcOn nodeRun) = true ∧ onRack 0x20000000 = false ∧ onRack 0x100000000 = true ∧
    landsCut (tapAt 0x07 (svcOn nodeRun)) = true ∧ svcActive nodeRun = false ∧ (svcOn nodeRun).sys.svc = none ∧
    (svcHand (svcOn nodeRun)).sys.svc.isSome = true ∧ svcActive (svcHand (svcOn nodeRun)) = true ∧
    (svcWord (svcOn nodeRun) SYS_NODE_RST.addr none 0).2 = .ended 0 0 ∧
    (svcWord (svcOn nodeRun) 0x40070000 none 0).2 = .ended 1 0 := by decide +kernel

/-! ### CheckValueEngines -/

theorem witness_CheckValueEngines :
    Lets nodeRun 6 (CRC_DATA8.addr 0) true ∧ Lets nodeRun 7 (CRC_DATA16.addr 1) true ∧ Lets nodeRun 7 (CRC_DATA32.addr 3) true := by
  decide +kernel

/-- CRC-32 of "123456789" (Table 05-9 preset values are not needed: the check value of the published CRC-32). -/
def crc32Engine : State :=
  ((((nodeRun.setFld (CRC_CFG.WIDTH 0) 2).setBit (CRC_CFG.REFIN 0) true).setBit (CRC_CFG.REFOUT 0) true).setFld
    (CRC_POLY.VALUE 0) 0x04C11DB7).setFld (CRC_VAL.VALUE 0) 0xFFFFFFFF

theorem test_crc32_check_value :
    crcResult (((crcFeed (crcFeed (crcFeed crc32Engine 0 4 0x34333231) 0 4 0x38373635) 0 1 0x39)).setFld
      (CRC_XOROUT.VALUE 0) 0xFFFFFFFF) 0 = 0xCBF43926 := by decide +kernel

/-! ### BarkCommandsComplete -/

/-- Source `src` has counted `k` events in its window. -/
def counted (src k : Nat) (s : State) : State := s.setFld (BRK_SRC_CFG.COUNT src) k

def lineForced (l : List (Nat × Bool)) (s : State) : State := { s with brk := { s.brk with injLine := l } }

theorem witness_BarkCommandsComplete :
    (nodeRun.running = true ∧ (counted 95 2 nodeRun).bitAt (BRK_ESC.ESC (95 / 32)) (95 % 32) = false ∧
      (counted 95 2 nodeRun).fld (BRK_SRC_CFG.COUNT 95) ≠ 0 ∧ nodeRun.fld (BRK_SRC_CFG.COUNT 95) = 0) ∧
    (votedReg BRK_CTRL.addr = true ∧ votedReg (BRK_SRC_CFG.addr 95) = true ∧ (0 : Word) ≠ voteCopy nodeRun 2 BRK_CTRL.addr) ∧
    (nodeRun.railsOn = true ∧ pairLive nodeRun 5 = false ∧ pairLive (setPair nodeRun 5 true false) 5 = true) ∧
    Lets nodeRun 7 (BRK_STICKY.addr 0) true ∧ Lets nodeRun 7 (BRK_STICKY.addr 2) true ∧ Lets nodeRun 7 BRK_UNFENCE.addr true ∧
    Lets nodeRun 7 BRK_INJ.addr true ∧
    (wordField (0x400 : Word) 10 1 = 1 ∧ nodeRun.fld BRK_INJ.STATUS ≠ 1 ∧ injectRefused nodeRun 127 0 0 = true ∧
      injectRefused (svcOn nodeRun) 80 0 0 = false ∧ injectRefused (svcOn (inMode .factory nodeRun)) Src.GRV_CRC 1 0 = false ∧
      (nodeRun.setFld BRK_INJ.STATUS 1).fld BRK_INJ.STATUS = 1) ∧
    ((lineForced [(95, false)] nodeRun).brk.injLine = (95, false) :: [] ∧ nodeRun.brk.injLine = []) := by decide +kernel

/-! ### BarkInfoEvents -/

theorem witness_BarkInfoEvents :
    nodeRun.railsOn = true ∧ nodeRun.mot.owed = [] ∧ pairLive nodeRun Src.GRV_CRC = false ∧ barkBase nodeRun Src.GRV_CRC = 0 ∧
      nodeRun.bitAt (BRK_ESC.ESC (Src.GRV_CRC / 32)) (Src.GRV_CRC % 32) = false ∧ windowOver nodeRun Src.GRV_CRC = false ∧
      nodeRun.fld (BRK_SRC_CFG.COUNT Src.GRV_CRC) + 1 < barkN nodeRun Src.GRV_CRC ∧ fenceTargets Src.GRV_CRC 31 = [] := by
  decide +kernel

/-! ### AnalogAndTachComplete -/

def inRoot : State := inMode .root nodeRun

def iepeChannel : State := (nodeRun.setBit (AFE_CH_CFG.EN 1 15) true).setFld (AFE_CH_CFG.IEPE 1 15) 1

def tachRising : State :=
  ((nodeRun.setFld (TCH_CFG.MODE 7) 1).setFld (TCH_CFG.SEL 7) 1).setFld (TCH_DIV.COUNTS 7) 4

theorem witness_AnalogAndTachComplete :
    (sensing (inRoot.setBit (AFE_WCH_CFG.EN 1 3) true) = true ∧ nbit inRoot.watch.armed 15 = true ∧
      (inRoot.setBit (AFE_WCH_CFG.EN 1 3) true).bit (AFE_WCH_CFG.EN 1 3) = true ∧ inRoot.pwr.mode = .root ∧
      nodeRun.pwr.mode ≠ .root ∧ (inRoot.setFld (AFE_WCH_CMP.THRESH 1 3 1) 9).fld (AFE_WCH_CMP.THRESH 1 3 1) < 65535) ∧ afeActive nodeRun 1 15 = false ∧
    afeActive iepeChannel 1 15 = true ∧
    (iepeOn iepeChannel 1 15 = true ∧ (iepeChannel.setFld (AFE_CH_STAT.SFLT 1 15) 0).fld (AFE_CH_STAT.SFLT 1 15) = 0 ∧
      iepeOn (iepeChannel.setFld (AFE_CH_STAT.SFLT 1 15) 0) 1 15 = true ∧
      (iepeChannel.setFld (AFE_CH_STAT.SFLT 1 15) 2).fld (AFE_CH_STAT.SFLT 1 15) = 2 ∧
      iepeOn (iepeChannel.setFld (AFE_CH_STAT.SFLT 1 15) 2) 1 15 = true) ∧ nodeRun.up 1 = true ∧
    (tchCounts tachRising 7 (tchIn tachRising 7) true false = some false ∧
      tchCounts tachRising 7 (tchIn tachRising 7) false true = none ∧ tchMode nodeRun 7 = 0 ∧
      (tachRising.setBit (TCH_CFG.ZEN 7) true).bit (TCH_CFG.ZEN 7) = true ∧ (tchIn tachRising 7).z = false ∧
      tachHeard (inMode .safe nodeRun) = false ∧ 5 * (tachRising.fld (TCH_CFG.FILT 7) + 1) ≤ 5000) ∧
    (landsCut tachRising = false ∧ tachHeard tachRising = true ∧ tachRising.tch.length = 8 ∧ tchMode tachRising 7 = 1 ∧
      tachRising.fld (TCH_CFG.EDGE 7) = 0 ∧ tachRising.bit (TCH_CFG.ZEN 7) = false ∧ tachRising.fld (TCH_CFG.SEL 7) = 1 ∧
      (tchIn tachRising 7).a = false ∧ (tchIn tachRising 7).cnt < tachRising.fld (TCH_DIV.COUNTS 7) ∧
      tachRising.bitAt TCH_STATUS.STOPPED 7 = false) ∧ tchMode tachRising 7 ≠ 0 ∧
    Lets nodeRun 6 (TCH_CFG.addr 7) true ∧ Lets nodeRun 7 (TCH_DIV.addr 0) true := by decide +kernel

/-! ### IngestComplete -/

/-- Sample port `p` of bough `b` takes channel `ch`, the bough being active. -/
def portTaking (b p ch : Nat) (g : IngPort) : State :=
  setIng (((nodeRun.setBit (CNX_ING.EN b p) true).setFld (CNX_ING.CH b p) ch).setBit (CNP_STATUS.ACTIVE b) true) b p g

def stampWaiting : State := { nodeRun with tch := modAt nodeRun.tch 7 fun y => { y with queue := [{ t := 5, info := 2 }] } }

theorem witness_IngestComplete :
    (portOpen (portTaking 3 15 31 { lastSeq := some 15, inq := [(31, 0x80000000, 7)] }) 3 15 = true ∧
      (ingOf (portTaking 3 15 31 { lastSeq := some 15, inq := [(31, 0x80000000, 7)] }) 3 15).inq = (16 * (1 : Fin 2).val + (15 : Fin 16).val, 0x80000000, 7) :: [] ∧
      (ingOf (portTaking 3 15 31 { lastSeq := some 15, inq := [(31, 0x80000000, 7)] }) 3 15).lastSeq =
        some (((0x80000000 : Word).toNat + 15) % 16)) ∧
    (portOpen (portTaking 0 0 0 { lastSeq := none, inq := [(0, 5, 0)] }) 0 0 = true ∧
      (ingOf (portTaking 0 0 0 { lastSeq := none, inq := [(0, 5, 0)] }) 0 0).lastSeq = none ∧ portOpen nodeRun 0 0 = false) ∧
    ((ingOf (portTaking 0 0 0 { lastSeq := some 16 }) 0 0).lastSeq = some 16 ∧ (2 : Nat) < 16 ∧
      (2 : Nat) ≠ ((0x80000000 : Word).toNat + 15) % 16) ∧
    ((tchIn stampWaiting 7).queue = { t := 5, info := 2 } :: [] ∧ stampWaiting.up fenceTCH = true ∧ stampStalled stampWaiting 7 = false ∧
      nodeRun.up (3 + 3) = true) ∧
    (ctxOf (setCtx nodeRun 2047 { hit := 1 }) 2047).hit = 1 ∧ (ctxOf nodeRun 2047).hit = 0 := by decide +kernel

/-! ### TilesComplete -/

theorem witness_TilesComplete :
    (let s := setCtx nodeRun (ctxKey 1 0 7) { q := [{ w := 0x100 }] }
     (ctxOf s (ctxKey 1 0 7)).q ≠ [] ∧ tileFree s 1 0 = true ∧ tileAccepts 0 0 = true ∧ tileAccepts 0 1 = false ∧
       tileTypeOf 0 = 0 ∧ tileTypeOf 15 ≠ 2 ∧ (ctxOf s (ctxKey 1 0 6)).q = []) ∧
    (∃ t : Fin 16, tileTypeOf t = 2 ∧ tileAccepts t 0 = true ∧ tileAccepts t 1 = false) ∧
    (rsmpOf (setRsmp nodeRun 2 { evs := [5] }) 2).evs ≠ [] ∧ tileFree nodeRun 3 10 = true ∧
    (ctxOf (setCtx nodeRun (ctxKey 3 6 3) { done := [{ t := 16 }] }) (ctxKey 3 6 3)).done ≠ [] ∧
    SMap.get (fun _ => []) (nodeRun.modCnp fun x => { x with ffq := [(16 * 3 + 6, [(3, ({} : Blk))])] }).cnp.ffq (16 * 3 + 6) ≠ [] := by
  decide +kernel

/-! ### AlarmsAndPackComplete -/

theorem witness_AlarmsAndPackComplete :
    (let s := setPoint nodeRun (32 * 3 + 31) { q := [{ valid := false, v := 0, t := 0 }] }
     (pointOf s (32 * 3 + 31)).q ≠ [] ∧ s.up (3 + 3) = true) ∧
    (pointOf (setPoint nodeRun 0 { q := [{ valid := true, v := 0x3F800000, t := 9 }] }) 0).q ≠ [] ∧
    Lets nodeRun 7 (CNP_T_AACK.addr 3 14) true ∧
    (ctxOf (setCtx nodeRun (ctxKey 0 15 15) { done := [{ t := 1 }] }) (ctxKey 0 15 15)).done ≠ [] ∧
    alarmsWaiting nodeRun 0 < 64 ∧
    64 ≤ alarmsWaiting { nodeRun with eng := { nodeRun.eng with offered := List.replicate 64 (.alarm 0, {}) } } 0 := by
  decide +kernel

theorem test_alarm_high_persists :
    judgeLevel false 3 0 0 2 (some 1) false 1 = (false, 2) ∧ judgeLevel false 3 0 0 2 (some 1) false 2 = (true, 0) := by
  decide +kernel

/-! ### ImageOperationsComplete -/

/-- An enclave operation in hand at this step. -/
def imgOpAt (op step : Nat) : State := nodeRun.modImg fun i => { i with op := some ⟨op, step, 3, 0, 64⟩ }

theorem witness_ImageOperationsComplete :
    Lets nodeRun 7 SEC_IMG_CTRL.addr true ∧ Lets nodeRun 6 SEC_IMG_CTRL.addr true ∧ imgPermitted nodeRun 0 5 = false ∧
    (imgPermitted (nodeRun.setFld SEC_IMG_PERM.INSTALL 0x80) 7 3 = true ∧ nodeRun.img.op = none ∧ nodeRun.img.booted ≠ some 1 ∧
      imgPermitted ((imgOpAt 1 0).setFld SEC_IMG_PERM.INSTALL 0x80) 7 2 = true ∧
      (bootedFrom 0 nodeRun).img.booted = some 0 ∧ graftMode nodeRun = true ∧ graftMode (inMode .safe nodeRun) = false ∧
      nodeRun.fenced (3 + 3) = false ∧ (nodeRun.setFld SEC_IMG_ADDR.VALUE 4).fld SEC_IMG_ADDR.VALUE % 8 ≠ 0) ∧
    (verifyImage (imgOpAt 1 0) (stagedImage (imgOpAt 1 0) ⟨1, 0, 3, 0, 64⟩) 64 (kindsFor 1)).1 ≠ resOK ∧
    (imgOpAt 2 1).running = true ∧ hwdTakes ((imgOpAt 2 1).setBit HWD_STATUS.READY true) = true ∧ hwdTakes (imgOpAt 2 1) = false ∧
    (imgOpAt 4 2).img.op = some ⟨4, 2, 3, 0, 64⟩ := by decide +kernel

/-! ### RecordsAndBuffersComplete -/

/-- The node after a boot whose image gave this partition, with `own` as buffer owners. -/
def partedBy (logs : List Nat) (own : SMap Nat) : State :=
  (nodeRun.setBit BUF_STATUS.PARTED true).modEng fun e => { e with logs := logs, own := own }

def withDelivery (d : Delivery) (s : State) : State := s.modEng fun e => { e with dlv := [d] }

def offering (p : Producer) (r : Rec) : State := nodeRun.modEng fun e => { e with offered := [(p, r)] }

def copying (subs : List Nat) : State := nodeRun.modEng fun e => { e with inq := [(.alarm 0, {}, subs)] }

def capturing (n : Nat) (c : Capture) : State :=
  setCapture ((partedBy (List.replicate 32 2) []).modEng fun e => { e with rings := [(n, ⟨5000, []⟩)] }) n (some c)

theorem witness_RecordsAndBuffersComplete :
    Lets nodeRun 7 BUF_PART.addr true ∧ Lets nodeRun 7 BUF_CMD.addr true ∧ Lets nodeRun 7 REC_POST.addr true ∧
    Lets nodeRun 6 REC_POST.addr true ∧ Lets nodeRun 7 (REC_SUB_RDPTR.addr 255) true ∧ Lets nodeRun 7 REC_CAP_TRIG.addr true ∧
    ((offering (.alarm 5) {}).eng.offered = (.alarm 5, {}) :: [] ∧ nodeRun.eng.offered = [] ∧
      (offering (.pack 63) { ty := 0xE1 }).eng.offered = (.pack 63, { ty := 0xE1 }) :: []) ∧
    nodeRun.up fenceREC = true ∧ ({ ty := 0x10 } : Rec).reservedType = false ∧ ({ ty := 0xE1 } : Rec).reservedType = true ∧
    ((copying [255]).eng.inq = (.alarm 0, {}, 255 :: []) :: [] ∧ nodeRun.eng.inq = []) ∧
    (let d : Delivery := { sub := 255, tenant := 3, chain := [9], bytes := List.replicate 32 0, r := {} }
     nextDelivery (withDelivery d nodeRun) 255 = some d ∧ bound (withDelivery d nodeRun) 3 = false ∧
       nodeRun.bit (REC_SUB_CTL.METHOD 255) = false ∧ (pushWrites (withDelivery d nodeRun) 255 d).isSome = true ∧
       nextPull ((withDelivery d nodeRun).setBit (REC_SUB_CTL.METHOD 255) true) 255 = some d ∧
       (withDelivery { d with left := true } nodeRun).eng.dlv.find? (fun d => d.sub == 255 && d.left) = some { d with left := true }) ∧
    (captureOf (capturing 31 { next := 0, stop := 9000, multi := true, short := false, cfg := 0 }) 31).isSome = true ∧
    captureOf nodeRun 31 = none ∧ nodeRun.bit (AFE_CH_CFG.EN (31 / 16) (31 % 16)) = false := by decide +kernel

/-! ### HeartwoodCommandsComplete -/

def txnAt (t st pend : Nat) : State := (setTx nodeRun t st 0).setFld (HWD_TXN_STAT.PEND t) pend

/-- A commit is applied, or replayed. -/
def hwdApplying (t : Nat) (replay : Bool) : State :=
  (((setTx nodeRun t 2 0).modHwd fun h => { h with applying := some (t, []) }).setBit HWD_STATUS.READY true).setBit HWD_STATUS.REPLAY replay

def hwdQueued (t : Nat) : State :=
  ((setTx nodeRun t 2 0).modHwd fun h => { h with queue := [t] }).setBit HWD_STATUS.READY true

theorem witness_HeartwoodCommandsComplete :
    Lets nodeRun 7 (HWD_TXN_CTRL.addr 7) true ∧ Lets nodeRun 6 (HWD_JE_GO.addr 6) true ∧ Lets nodeRun 7 (HWD_TXN_CTRL.addr 0) true ∧
    (txState (nodeRun.setBit HWD_STATUS.READY true) 7 = txIDLE ∧
      hwdReadonly (nodeRun.setBit HWD_STATUS.READY true) = false ∧ nodeRun.hwd.fwOver = false ∧ txState (txnAt 0 4 0) 0 = txFAILED) ∧
    txState (txnAt 7 1 1) 7 = txOPEN ∧ (txnAt 7 1 1).fld (HWD_TXN_STAT.PEND 7) ≠ 0 ∧ nodeRun.up fenceHWD = true ∧
    (nodeRun.running = true ∧ (nodeRun.ind 2).wq = [] ∧
      ((nodeRun.modInd 2 fun p => { p with wq := [(65535, 9, 3)] }).ind 2).wq = (65535, 9, 3) :: []) ∧
    ((hwdQueued 7).hwd.queue = 7 :: [] ∧ (hwdQueued 7).hwd.applying = none ∧ (hwdQueued 7).fld (HWD_TXN_STAT.PEND 7) = 0 ∧
      (hwdQueued 7).bit HWD_STATUS.READY = true ∧ (hwdQueued 7).bit HWD_STATUS.REPLAY = false ∧ (hwdQueued 7).pwr.noJournal = false) ∧
    ((hwdApplying 7 false).hwd.applying = some (7, []) ∧ (hwdApplying 7 false).bit HWD_STATUS.REPLAY = false ∧
      txState (hwdApplying 7 false) 7 = txCOMMITTING ∧ (hwdApplying 7 false).railsOn = true) ∧
    ((hwdApplying 0 true).bit HWD_STATUS.REPLAY = true ∧ (hwdApplying 0 true).hwd.applying.isSome = true) ∧
    Lets nodeRun 7 HWD_KEYS_LOCK_SET.addr true := by decide +kernel

/-! ### CrewControlComplete -/

/-- Core `n` runs with its pc in its own I-TCM. -/
def coreUp (n : Nat) (user : Bool) (s : State) : State :=
  setCoreState (modCore s n fun _ => { pc := BitVec.ofNat 32 (itcm n + 0x40), user := user }) n 1

theorem witness_CrewControlComplete :
    Lets nodeRun 7 (CRW_CORE_CTL.addr 3) true ∧ coreState nodeRun 3 = 0 ∧ bootAddrOk 3 0x20000000 = true ∧ bootAddrOk 3 1 = false ∧
    ((coreUp 3 false (nodeRun.setBit (CRW_WDOG.EN 3) true)).bit (CRW_WDOG.EN 3) = true ∧
      coreState (coreUp 3 false (nodeRun.setBit (CRW_WDOG.EN 3) true)) 3 = 1) ∧ nodeRun.crw.cores.length = 4 ∧
    Lets nodeRun 6 (CRW_WDOG_KICK.addr 0) true ∧
    (∃ u, Executes (coreUp 3 false nodeRun) 3 u ∧ (coreOf u 3).user = false) ∧ (coreOf (coreUp 3 true nodeRun) 3).user = true ∧
    (csrMask 0x7C5).isSome = true ∧ csrMask 0x7FF = none ∧ mtime nodeRun < (setCmp nodeRun 3 5).crw.acl.cmp.getD 3 0 :=
  ⟨by decide +kernel, by decide +kernel, by decide +kernel, by decide +kernel, by decide +kernel, by decide +kernel, by decide +kernel,
    ⟨(fetchAt (coreUp 3 false nodeRun) 3 4 0).1, by decide +kernel⟩, by decide +kernel⟩

/-! ### CoreMemoryInstructions -/

/-- As `coreUp`, in machine mode, with x5 = `a`. -/
def coreAt (n a : Nat) (s : State) : State := setX (coreUp n false s) n 5 (BitVec.ofNat 32 a)

theorem witness_CoreMemoryInstructions :
    (let s := coreAt 2 (dtcm 2 + 0xFFFC) nodeRun
     coreRuns s 2 = true ∧ haltNow s 2 = s ∧ (coreOf s 2).halt = none ∧ (fetchAt s 2 4 0).2 = true ∧
       trigHit (fetchAt s 2 4 0).1 2 2 (coreOf s 2).pc.toNat (some (leNat (fetchBytes s 2 (coreOf s 2).pc.toNat 4))) = none) ∧
    (let s := coreAt 2 (dtcm 2 + 0xFFFC) nodeRun
     (dataCheck s 2 (coreAddr s 2 5 0) 4 false).isOk = true ∧ (dataCheck s 2 (coreAddr s 2 5 0) 4 true).isOk = true ∧
       trigHit s 2 0 (coreAddr s 2 5 0) none = none ∧ (coreMemWrite s 2 (coreAddr s 2 5 0) [1, 2, 3, 4]).2 = 0 ∧
       (atomCheck s 2 (xreg s 2 5).toNat true true).isOk = true ∧ (atomCheck s 2 (xreg s 2 5).toNat true false).isOk = true ∧
       (coreMemRead s 2 (xreg s 2 5).toNat 4).2.1 = 0 ∧ (coreOf s 2).sb = [] ∧ storeAtRack s 2 = false ∧
       s.rsv.getD 2 none ≠ some (granule (xreg s 2 5).toNat) ∧ (drainAll s 2).2 = false ∧
       ({ s with rsv := modAt s.rsv 2 fun _ => some (granule (xreg s 2 5).toNat) }).rsv.getD 2 none =
         some (granule (xreg s 2 5).toNat)) ∧
    (let s := setCsr (setCsr (coreUp 2 false nodeRun) 2 4096 0x44) 2 4097 (BitVec.ofNat 32 (itcm 2 + 0x40))
     coreRuns s 2 = true ∧ trigHit (fetchAt s 2 4 0).1 2 2 (itcm 2 + 0x40) (some 0) = some 0) ∧
    (let s := modCore (coreUp 2 false nodeRun) 2 fun c => { c with pc := 4 }
     coreRuns s 2 = true ∧ (fetchAt s 2 4 0).2 = false ∧ coreRuns nodeRun 2 = false) ∧
    (dataCheck (coreAt 2 0x40000000 nodeRun) 2 0x40000000 4 true).isOk = true ∧
    (dataCheck (coreAt 2 0x40000002 nodeRun) 2 0x40000002 4 true).isOk = false ∧
    (eccRead nodeRun (dtcm 2) 2).2 ≠ 0 ∧ (atomCheck nodeRun 2 2 true true).isOk = false ∧
    ownTcm 3 (dtcm 3 + 0xFFFF) = true ∧ ownTcm 3 (dtcm 3 + 0xFFFC) = true ∧
    (let s := (coreUp 1 false nodeRun).store (itcm 1 + 0x40) [0x05, 0x05, 0x13, 0x05, 0x15, 0x00]
     feNext s 1 = none ∧ takesIrq s 1 = false ∧ leNat (fetchBytes s 1 (coreOf s 1).pc.toNat 2) = 0x0505 ∧
       rvExpand 0x0505 = some 0x00150513 ∧ rvExpand 0 = none ∧
       coreRuns s 1 = true ∧ (fetchAt s 1 2 0).2 = true) := by decide +kernel

/-- Compressed instructions and what they stand for: C.ADDI a0,1; C.LWSP ra,12; C.JR ra; C.ADDI16SP -64; C.SWSP ra,28;
C.ADDI4SPN a0,8; C.LUI a0,1; C.AND a0,a1; C.BNEZ a5,-2; C.J -2; C.EBREAK. By hand from the C extension's tables (R360). -/
theorem test_compressed :
    [0x0505, 0x40B2, 0x8082, 0x7139, 0xCE06, 0x0028, 0x6505, 0x8D6D, 0xFFFD, 0xBFFD, 0x9002].map rvExpand =
      [0x00150513, 0x00C12083, 0x00008067, 0xFC010113, 0x00112E23, 0x00810513, 0x00001537, 0x00B57533, 0xFE079FE3, 0xFFFFF06F,
       0x00100073].map some ∧ rvExpand 0 = none := by decide +kernel

/-- x10 after one instruction word, x10 and x11 given. -/
def aluRun (w a b : Word) : Word :=
  xreg (rvRun (setX (setX (coreUp 0 false nodeRun) 0 10 a) 0 11 b) 0 w 0) 0 10

/-- SUB, CLZ, REV8, ORC.B, SH2ADD, DIV by 0, MULHSU, REM. Words and results by hand from the named extensions (R360). -/
theorem test_instructions :
    aluRun 0x40B50533 5 7 = 0xFFFFFFFE ∧ aluRun 0x60051513 0x10000 0 = 15 ∧ aluRun 0x69855513 0x11223344 0 = 0x44332211 ∧
    aluRun 0x28755513 0x00220001 0 = 0x00FF00FF ∧ aluRun 0x20B54533 3 100 = 112 ∧ aluRun 0x02B54533 9 0 = 0xFFFFFFFF ∧
    aluRun 0x02B52533 0xFFFFFFFF 0xFFFFFFFF = 0xFFFFFFFF ∧ aluRun 0x02B56533 0xFFFFFFF9 2 = 0xFFFFFFFF := by decide +kernel

/-- BNE back by 8 is taken; an all-zero word is illegal and traps (mtvec is 0 here). -/
theorem test_flow :
    (coreOf (rvRun (setX (coreUp 0 false nodeRun) 0 10 1) 0 0xFE051CE3 0) 0).pc = BitVec.ofNat 32 (itcm 0 + 0x38) ∧
    csrRaw (rvBytes (coreUp 0 false nodeRun) 0 [0, 0, 0, 0] 0) 0 csrMcause = 2 := by decide +kernel

/-! ### CrewTrapsComplete -/

/-- Core `n` in machine mode with interrupts on, its software interrupt pending, sp = `sp`, mlkfecfg = `cfg`. -/
def softIrq (n sp : Nat) (cfg : Word) : State :=
  let s := setCsr (setCsr (setCsr (coreUp n false nodeRun) n csrMstatus 8) n csrMie 8) n csrFecfg cfg
  let s := setX s n 2 (BitVec.ofNat 32 sp)
  { s with crw := { s.crw with acl := { s.crw.acl with msip := modAt s.crw.acl.msip n fun _ => true } } }

theorem witness_CrewTrapsComplete :
    (haltNow (softIrq 3 0 0) 3 = softIrq 3 0 0 ∧ takesIrq (softIrq 3 0 0) 3 = true ∧ plainIrq (softIrq 3 0 0) 3 = some 3 ∧
      loadAtRack (softIrq 3 0 0) 3 = false ∧ (softIrq 3 0 0).running = true ∧ plainIrq nodeRun 3 = none) ∧
    (let s := softIrq 1 (dtcm 1 + 0xFFC0) 0x3004
     feNext s 1 = some (3, 32, 3) ∧ spCheck s 1 (feSp s 1) = none ∧
       spCheck (setCoreState s 1 1) 1 (xreg (setCoreState s 1 1) 1 2).toNat = none ∧ (feEntry s 1).2 = false ∧
       (eccRead s (feVecAddr s 1 32) 0).2 = 0 ∧ (eccRead s (feVecAddr s 1 32) 2).2 ≠ 0) ∧
    (let s := softIrq 1 (dtcm 1 + 8) 0x3004
     spCheck (setCoreState s 1 1) 1 (xreg (setCoreState s 1 1) 1 2).toNat = some 0 ∧ (spCheck s 1 (feSp s 1)).isSome = true ∧
       feSf s 1 = false ∧ feSf (setCsr s 1 csrFestat 2) 1 = true) ∧
    ((coreOf (coreUp 0 false nodeRun) 0).user = false ∧ feFrame (coreUp 0 false nodeRun) 0 = false ∧
      feFrame (setCsr (coreUp 0 false nodeRun) 0 csrFestat 1) 0 = true ∧ (coreOf (coreUp 0 true nodeRun) 0).user = true ∧
      0 < nodeRun.crw.cores.length ∧ (coreOf nodeRun 0).prog = none ∧
      (coreOf (modCore nodeRun 0 fun c => { c with prog := some (0, false) }) 0).prog.isSome = true) ∧
    (mipOf (retire (coreUp 0 false nodeRun) 0) 0 &&& (csrRaw (retire (coreUp 0 false nodeRun) 0) 0 csrMie).toNat) = 0 ∧
    (mipOf (retire (softIrq 0 0 0) 0) 0 &&& (csrRaw (retire (softIrq 0 0 0) 0) 0 csrMie).toNat) ≠ 0 := by decide +kernel

/-! ### DebugAndJtagComplete -/

def debugOn (n st : Nat) : State := setCoreState (nodeRun.setBitAt CRW_DBG.EN n true) n st

/-- The system bus address of the debug module is `a`, and SBA is `on`. -/
def sbAt (a : Nat) (on : Bool) : State := (nodeRun.setBit CRW_DBG.SBA on).modDm fun d => { d with sbaddr := a }

theorem witness_DebugAndJtagComplete :
    (debugOn 3 1).bitAt CRW_DBG.EN 3 = true ∧ coreState (debugOn 3 2) 3 = 2 ∧ loadAtRack (debugOn 3 1) 3 = false ∧
    (coreOf (modCore (debugOn 3 1) 3 fun c => { c with halt := some 3 }) 3).halt = some 3 ∧ coreState nodeRun 3 = 0 ∧
    nodeRun.bitAt CRW_DBG.EN 3 = false ∧ coreState (debugOn 3 3) 3 = 3 ∧ nodeRun.crw.dm.cmderr = 0 ∧ nodeRun.crw.dm.sberror = 0 ∧
    ((sbAt 0x40000000 true).bit CRW_DBG.SBA = true ∧ nodeRun.bit CRW_DBG.SBA = false ∧ onRack 0x40000000 = false ∧
      onRack 0x100000000 = true ∧ (0x100000002 : Nat) % 4 ≠ 0 ∧ winAllows (sbAt 0x100000000 true) 7 0x100000000 4 true = true) ∧
    nodeRun.jtag.dmistat = 0 ∧ (coreOf (debugOn 3 3) 3).prog = none := by decide +kernel

/-- The program buffer: C.ADDI a0,1 three times, then C.EBREAK ends it; a jump in it fails with cmderr 3 (R396). -/
def bufferRun (p : List Word) : State :=
  doDebugAbstractCmd 0 0x100A false true 0 ((debugOn 0 3).modDm fun d => { d with prog := p })

theorem test_program_buffer :
    (xreg (bufferRun [0x05050505, 0x90020505]) 0 10, (bufferRun [0x05050505, 0x90020505]).dm.cmderr) = (3, 0) ∧
    (coreState (bufferRun [0x05050505, 0x90020505]) 0, (coreOf (bufferRun [0x05050505, 0x90020505]) 0).prog) = (3, none) ∧
    (bufferRun [0x00150513, 0x0000006F]).dm.cmderr = 3 := by decide +kernel

/-! ### LaneCommandsComplete -/

def laneAt (x l st : Nat) (s : State) : State := s.setFld (TK_LANE_STAT.STATE x l) st

theorem witness_LaneCommandsComplete :
    (landsCut nodeRun = false ∧ portOn nodeRun 1 = true ∧ laneState (laneAt 1 1 1 nodeRun) 1 1 = 1) ∧
    (nodeRun.setBit (TK_LANE_CFG.PMD 0 1) true).bit (TK_LANE_CFG.PMD 0 1) = true ∧ laneState (laneAt 0 1 6 nodeRun) 0 1 = 6 ∧
    landsCut (tapAt 0x00 nodeRun) = true ∧ laneState (laneAt 0 0 5 nodeRun) 0 0 = 5 ∧
    (nodeRun.setBit (TK_LANE_STAT.FEC_LOCK 1 0) true).bit (TK_LANE_STAT.FEC_LOCK 1 0) = true ∧
    (Lets nodeRun 7 (TK_LANE_CFG.addr 1 1) true ∧
      (nodeRun.put (TK_LANE_CFG.addr 1 1) 0).word (TK_LANE_CFG.addr 1 1) ≠ nodeRun.word (TK_LANE_CFG.addr 1 1)) ∧
    (let s := (nodeRun.setBit (TK_CTRL.EN 1) true)
     Lets s 6 (TK_CTRL.addr 1) true ∧ (s.put (TK_CTRL.addr 1) 3).bit (TK_CTRL.EN 1) = true ∧ portOn (s.put (TK_CTRL.addr 1) 3) 1 = true) ∧
    (nodeRun.bitAt (TK_STATUS.TXMASK 1) 1 = false ∧ laneState (laneAt 1 1 4 nodeRun) 1 1 = 4) ∧
    ((inMode .root nodeRun).setBitAt (TK_WAKE.LANE 1) 1 true).bitAt (TK_WAKE.LANE 1) 1 = true ∧
    ((nodeRun.modPort 1 fun p => { p with idle := true }).port 1).idle = true := by decide +kernel

/-! ### LinkLayerComplete -/

/-- Port `x` serves on lane 0 with the partner 7 port 1 shown, and its link is `p`. -/
def serving (x : Nat) (p : TkPort) : State :=
  let s := ((laneAt x 0 6 (laneUp x 0 nodeRun)).setFld (TK_STATUS.RXMASK x) 1).setBit (TK_PARTNER.VALID x) true
  ((s.setFld (TK_PARTNER.NODE_ID x) 7).setFld (TK_PARTNER.PORT x) 1).modPort x fun _ => p

theorem witness_LinkLayerComplete :
    (portOn (serving 1 {}) 1 = true ∧ portCode (serving 1 {}) 1 ≠ 0 ∧ (serving 1 {}).bitAt (TK_STATUS.TXMASK 1) 0 = true) ∧
    ((serving 1 {}).bit (TK_PARTNER.VALID 1) = true ∧ partnerShown (serving 1 {}) 1 = (7, 1)) ∧
    laneState (serving 1 {}) 1 1 < 5 ∧ ((serving 1 { markPend := some 3 }).port 1).markPend = some 3 ∧
    ((2 : Nat) &&& upMask (serving 1 {}) 1) = 0 ∧ ((1 : Nat) &&& upMask (serving 1 {}) 1) = 1 ∧ (serving 1 {}).tk.length = 2 ∧
    (upMask (laneAt 1 1 6 (serving 1 {})) 1 = 3 ∧ ((laneAt 1 1 6 (serving 1 {})).port 1).lead < 2 ∧
      (laneOf (serving 1 {}) 1 0).partner = (laneOf (serving 1 {}) 1 1).partner ∧ portCode (serving 1 {}) 1 = 1 ∧
      (serving 1 {}).bit (TK_STATUS.RESYNC 1) = false) ∧
    ((serving 1 { nreq := 8 }).setBit (TK_STATUS.RESYNC 1) true).bit (TK_STATUS.RESYNC 1) = true ∧
    ((serving 1 { answered := some (5, 9, 0) }).port 1).answered = some (5, 9, 0) ∧
    (serving 1 {}).fld (TK_SEQ.TX 1) = 0 ∧ (5 + 65536 - 0 : Nat) % 65536 = 5 ∧
    ((serving 1 { ackDue := true, maskWait := true }).port 1).ackDue = true := by decide +kernel

/-- CRC-32C of "123456789" is the published check value 0xE3069283. -/
theorem test_crc32c_check_value : crc32c [0x31, 0x32, 0x33, 0x34, 0x35, 0x36, 0x37, 0x38, 0x39] = 0xE3069283 := by
  decide +kernel

/-! ### FrameRoundTrip -/

theorem witness_FrameRoundTrip :
    ({ ty := 9, cls := 5, fbe := 255, lbe := 255, sub := 15, status := 15, src := 65535, tag := 1023, oid := 63, ackSeq := 65535,
       ackV := true, addr := 2 ^ 48 - 8, aux := 2 ^ 32 - 1, payload := List.replicate 256 0xA5 } : Frame).wf = true := by
  decide +kernel

/-- Table 13-2: TYPE in bits 3 to 0 and CLASS in bits 6 to 4 of byte 1, LEN in byte 2, TAG and OID in bytes 8 and 9. -/
theorem test_frame_header_bytes :
    (frameHeader { ty := 2, cls := 3, tag := 0x2A5, oid := 0x21, src := 0x1234, payload := List.replicate 16 0 }).take 10 =
      [0x5C, 0x32, 0x02, 0x00, 0x00, 0x00, 0x34, 0x12, 0xA5, 0x86] := by decide +kernel

/-! ### EgressComplete -/

theorem witness_EgressComplete :
    (portOn (serving 1 { linkq := [linkFrame 8 1 0] }) 1 = true ∧ streaming (serving 1 {}) 1 = true ∧
      ((serving 1 { linkq := [linkFrame 8 1 0] }).port 1).linkq = [linkFrame 8 1 0]) ∧
    streaming nodeRun 0 = false ∧
    (markersDue (serving 1 { blk := [4096, 0] }) 1 = true ∧ markersDue (serving 1 {}) 1 = false) ∧
    ((serving 1 { held := [(4, { f := {} })] }).port 1).held[0]? = some (4, { f := {} }) ∧
    (let u := setEgQueue (serving 1 {}) (qkey 1 4 0) [{ f := { ty := 5, payload := List.replicate 8 0 } }]
     mayTransmit u 1 = true ∧ (selectFrom (refreshGates u 1) 1 [0, 1, 2, 3, 4, 5]).isSome = true ∧
       (selectBypass u 1 [0, 1, 2]).isSome = true ∧ u.fenced fenceTKS = false ∧ u.inUnitReset 17 = false ∧
       mayTransmit (serving 1 { held := List.replicate 128 (4, { f := {} }), pos := 128 }) 1 = false ∧
       selectFrom (refreshGates (serving 1 {}) 1) 1 [0, 1, 2, 3, 4, 5] = none ∧ tenantOf u 0 = none) ∧
    (let g : Gates := { cur := { en := true, cycle := 10000, base := 0, ents := [(5000, 31), (5000, 3)] } }
     nextCycle (setGates nodeRun 1 g) 1 = some 10000 ∧ gateView (gatesOf (setGates nodeRun 1 g) 1) 5000 = (3, 1, 5000) ∧
       (setGates nodeRun 1 g).fenced fenceTKS = false) := by decide +kernel

/-! ### TenantRequestsComplete -/

/-- Host tenant `t` is bound to node 77 on port 1, its limits sent. -/
def boundTo (t : Nat) : State :=
  let s := (serving 1 {}).setWord (TEN_T_BIND.addr t) 0x1004D
  s.modTen t fun h => { h with sent := (64, 64, 2048) }

theorem witness_TenantRequestsComplete :
    (let f : Frame := { ty := 0, fbe := 0xFF, src := 77, tag := 1023, addr := 0x20000000, aux := 1 }
     portOn (boundTo 3) 1 = true ∧ transBad f = false ∧ tenantOf (boundTo 3) 77 = some 3 ∧
       (tenOf (boundTo 3) 3).tags.contains 1023 = false ∧ overCredit (boundTo 3) 3 (creditNeed f) = false ∧
       transBad { f with aux := 33 } = true ∧ tenantOf (boundTo 3) 78 = none ∧
       (tenOf ((boundTo 3).modTen 3 fun h => { h with tags := [1023] }) 3).tags.contains 1023 = true) ∧
    (let f : Frame := { ty := 2, fbe := 0xFF, src := 77, addr := 0x20000000, payload := List.replicate 8 0 }
     transBad f = false ∧ overCredit (boundTo 3) 3 (creditNeed f) = false ∧
       overCredit ((boundTo 3).modTen 3 fun h => { h with sent := (64, 0, 2048) }) 3 (creditNeed f) = true) ∧
    transBad { ty := 3, fbe := 0xFF, src := 77, payload := List.replicate 8 0 } = false ∧
    transBad { ty := 5, sub := 8, src := 77 } = false ∧
    transBad { ty := 5, sub := 9, cls := 1, fbe := 0xFF, src := 77, payload := List.replicate 8 0 } = false ∧
    (let r : Req := { id := 5, t := 3, x := 1, kind := 0, f := { oid := 63 } }
     ((boundTo 3).modTh fun h => { h with reqs := [r] }).th.reqs.find? (fun r => r.t == 3 && r.x == 1 && r.f.oid == 63 && !r.started &&
       r.ans.isNone && mayRun ((boundTo 3).modTh fun h => { h with reqs := [r] }) r) = some r) := by decide +kernel

/-! ### TenantBindingComplete -/

theorem witness_TenantBindingComplete :
    (let f : Frame := { ty := 5, cls := 5, sub := 12, src := 77, aux := 3, payload := List.replicate 16 0, fbe := 0xFF, lbe := 0xFF }
     transBad f = false ∧ portOn (serving 1 {}) 1 = true ∧ (tenOf (serving 1 {}) 3).lockout = false ∧
       (tenOf (serving 1 {}) 3).lastReq = none ∧ bindAllowed (serving 1 {}) 3 77 = false ∧
       (let s := (((serving 1 {}).setBit (TEN_T_HOST.EN 3) true).setFld (TEN_T_HOST.NODE_ID 3) 77).setBitAt SEC_TKEY_STAT.PRESENT 3 true
        bindAllowed s 3 77 = true ∧ (tenOf s 3).exch = none)) ∧
    transBad { ty := 5, cls := 5, sub := 14, src := 77, aux := 3, payload := List.replicate 32 0, fbe := 0xFF, lbe := 0xFF } = false ∧
    (tenOf (setExch (serving 1 {}) 3 (some { node := 77, port := 1, nh := [], nn := [] })) 3).exch =
      some { node := 77, port := 1, nh := [], nn := [] } ∧
    (tenantOf (boundTo 3) 77 = some 3 ∧ tenantOf (boundTo 3) 78 = none ∧ (boundTo 3).th.ten.length = 4) ∧
    transBad { ty := 5, cls := 5, sub := 11, src := 77, aux := 3 } = false ∧
    (bound (boundTo 3) 3 = true ∧ ((boundTo 3).setFld (TEN_T_CFG.IDLE_S 3) 5).fld (TEN_T_CFG.IDLE_S 3) ≠ 0) ∧
    transBad { ty := 7, cls := 1, fbe := 0xFF, src := 77, payload := List.replicate 6 255 ++ [0, 0] } = false ∧
    (tenOf ((boundTo 3).modTen 3 fun h => { h with owed := true }) 3).owed = true ∧ tcQueue (boundTo 3) 1 = [] ∧
    Lets nodeRun 6 SEC_TKEY_DATA.addr true ∧ Lets nodeRun 7 SEC_TKEY_CTRL.addr true ∧ nodeRun.bit SEC_TKEY_STAT.BUSY = false ∧
    (let s := nodeRun.setWord (TEN_T_PERM.addr 0 2) 0xC0
     Lets s 0 SEC_TKEY_DATA.addr true ∧ Lets s 0 SEC_TKEY_CTRL.addr true) ∧
    (nodeRun.setBitAt HWD_KEYS_LOCK.LOCKED 4 true).bitAt HWD_KEYS_LOCK.LOCKED 4 = true ∧
    ((nodeRun.modTh fun h => { h with commit := some (3, []) }).th.commit = some (3, []) ∧ nodeRun.th.commit = none ∧
      nodeRun.fenced fenceHWD = false) := by decide +kernel

/-! ### RequestSlotsComplete -/

/-- Slot 2 waits for the completion of tag 9 on port 1. -/
def slotWaits (rd out late : Bool) : State :=
  ((boundTo 3).setBit (TEN_HRQ_STAT.BUSY 2) true).modPort 1 fun p =>
    { p with tags := [(9, some { addr := 0, slot := some 2, rd := rd, words := 1, out := out, late := late })] }

theorem witness_RequestSlotsComplete :
    Lets nodeRun 7 (TEN_HRQ_CTRL.addr 3) true ∧ Lets nodeRun 6 (TEN_HRQ_CTRL.addr 0) true ∧
    (nodeRun.bit (TEN_HRQ_STAT.BUSY 3) = false ∧ (slotWaits true true false).bit (TEN_HRQ_STAT.BUSY 2) = true) ∧
    (bound nodeRun 0 = false ∧ bound (boundTo 3) 3 = true ∧ portCode (boundTo 3) 0 = 0 ∧ portCode (boundTo 3) (portFor (boundTo 3) 3) ≠ 0 ∧
      (boundTo 3).bit (TEN_T_CFG.FWMSG 3) = false) ∧
    (let f : Frame := { ty := 1, tag := 9, fbe := 0xFF, payload := List.replicate 8 1 }
     let g : OwnTag := { addr := 0, slot := some 2, words := 1 }
     cplBad g f = false ∧ cplBad g { f with oid := 1 } = true ∧ cplBad g { f with payload := [], status := 7 } = false ∧
       portOn (slotWaits true true false) 1 = true ∧
       SMap.get (fun _ => none) ((slotWaits true true false).port 1).tags 9 = some g) ∧
    (cplBad { addr := 0, slot := some 2, rd := false, words := 1 } { ty := 4, tag := 9 } = false ∧
       (SMap.get (fun _ => none) ((slotWaits false true false).port 1).tags 9).isSome = true) ∧
    (transBad { ty := 1, tag := 9 } = false ∧
       (SMap.get (fun _ => none) ((slotWaits true false true).port 1).tags 9).isSome = true ∧
       SMap.get (fun _ => none) ((slotWaits true false true).port 1).tags 8 = none) ∧
    (let s := ((boundTo 3).modTen 3 fun h => { h with hostLim := some (0, 0) }).setBit (TEN_HRQ_STAT.BUSY 2) true
     let s := s.modTh fun h => { h with slots := modAt h.slots 2 fun _ => (3, 1) }
     let s := setEgQueue s (qkey 1 3 4) [{ f := { ty := 2, payload := List.replicate 8 0 }, use := .slot 2 }]
     (egQueue s (qkey 1 3 4)).any (fun e => e.use == .slot 2 && !hostCreditOk s (s.th.slots.getD 2 (0, 0)).1 e.f) = true) ∧
    Lets nodeRun 6 (TEN_MB_POP.addr 3) true := by decide +kernel

/-! ### RackMastershipComplete -/

/-- The bridge is active with role BOTH. -/
def rackOn : State := nodeRun.setFld SYS_STRAP.CRB_ROLE 3

/-- The bridge holds the rack with requests `q` waiting, in cycle `c`. -/
def rackMaster (q : List CrbOut) (c : CrbCyc) : State :=
  (rackOn.setBit CRB_STATUS.MASTER true).modCrb fun x => { x with q := q, cyc := c }

/-- A host's non-posted read of one rack word. -/
def rackReq (id : Nat) : CrbOut :=
  { src := .req id, t := 0, np := true, performed := false, wr := false, blk := false,
    words := [⟨0x8000, some 0, some 1⟩], data := [0, 0] }

theorem witness_RackMastershipComplete :
    (let s := rackOn.modCrb fun x => { x with q := [rackReq 1] }
     crbActive s = true ∧ crbMaster s = true ∧ s.bit CRB_STATUS.MASTER = false ∧ s.bit CRB_STATUS.HUNG = false ∧ s.crb.q ≠ []) ∧
    (let s := rackOn.modCrb fun x => { x with q := [rackReq 1], breq := true }
     landsCut s = false ∧ crbActive s = true ∧ s.crb.breq = true ∧ s.bit CRB_STATUS.MASTER = false ∧ s.crb.cyc = .idle) ∧
    (let s := rackMaster [rackReq 1] .idle
     s.bit CRB_STATUS.MASTER = true ∧ s.crb.cyc = .idle ∧ s.crb.q = [rackReq 1] ∧ crbActive s = true ∧ (rackReq 1).cut = false) ∧
    (let s := rackMaster [rackReq 1, rackReq 2, rackReq 3] .data
     landsCut s = false ∧ s.crb.cyc = .data ∧ s.crb.lost = false ∧ crbWatching (s.setBit CRB_CFG.MON_EN true) = true ∧
       s.crb.q[1]? = some (rackReq 2) ∧ (rackReq 2).np = true ∧ s.crb.q[3]? = none) ∧
    (rackMaster [] (.iack 3)).crb.cyc = .iack 3 ∧ (rackMaster [] .foreign).crb.cyc = .foreign := by decide +kernel

/-! ### RackInboundComplete -/

/-- Inbound window 7 shows 64 KB of L2 to tenant 7 at rack address 0x30000. -/
def rackShows : State :=
  ((((rackOn.setBit (CRB_IW_CFG.EN 7) true).setFld (CRB_IW_CFG.OWNER 7) 7).setFld (CRB_IW_RBASE.RBASE 7) 3).setFld
    (CRB_IW_TBASE.TBASE 7) 0x2000)

theorem witness_RackInboundComplete :
    (landsCut rackShows = false ∧ landsCut (tapAt 0x00 rackShows) = true ∧ rackShows.bit CRB_STATUS.MASTER = false ∧
      crbActive rackShows = true ∧ crbSlave rackShows = true ∧
      iwFind rackShows 0x30000 = some 7 ∧ iwFind rackShows 0x3FFFE = some 7 ∧ iwFind rackShows 0x40000 = none ∧
      rackShows.bit (CRB_IW_CFG.ORD 7) = false ∧ rackShows.bit (CRB_IW_CFG.KIND 7) = false ∧ rackShows.crb.inb.length < 16 ∧
      iwTarget rackShows 7 0x3FFFE = 0x2000FFFE ∧ (rackShows.setBit CRB_STATUS.MASTER true).bit CRB_STATUS.MASTER = true) ∧
    (let s := (rackOn.setBit CRB_CFG.MON_EN true).setWord BRK_FENCE.addr 0x40000
     landsCut s = false ∧ crbActive s = false ∧ crbWatching s = true ∧ s.bit CRB_STATUS.MASTER = false ∧ s.crb.cyc = .idle) ∧
    (let i : CrbIn := { t := 0, bytes := [(0x5000, 1)], mbox := none }
     let s := rackOn.modCrb fun c => { c with inb := [i] }
     s.running = true ∧ s.crb.inb = [i] ∧ inStatus s 0 [0x5000] true ≠ 0 ∧ rackOn.crb.inb = [] ∧
       ({ i with mbox := some 3 } : CrbIn).mbox = some 3) := by decide +kernel

/-! ### RackInterruptsComplete -/

theorem witness_RackInterruptsComplete :
    (let s := rackOn.setBitAt CRB_IRQ_HANDLE.EN 3 true
     let u := s.setFld CRB_STATUS.LINES 8
     landsCut s = false ∧ crbHandler s = true ∧ s.bit CRB_STATUS.HUNG = false ∧ levelReady u 3 = true ∧ u.crb.cyc = .idle ∧
       crbHandler u = true) ∧
    (let s := (rackOn.setFld (CRB_OUTIRQ_CFG.OWNER 3) 7).setFld (CRB_OUTIRQ_CFG.OWNER 0) 6
     Lets s 7 CRB_OUTIRQ_SET.addr true ∧ crbInterrupter s = true ∧ s.fld (CRB_OUTIRQ_CFG.OWNER 3) = 7 ∧
       s.fld (CRB_OUTIRQ_CFG.OWNER 0) ≠ 7 ∧ s.bitAt CRB_IRQ_HANDLE.EN 3 = false ∧
       (s.setBitAt CRB_IRQ_HANDLE.EN 3 true).bitAt CRB_IRQ_HANDLE.EN 3 = true) ∧
    (let s := (rackOn.setBit (CRB_VEC.EN 255) true).setBit (CRB_VEC.LOCAL 255) true
     s.bit (CRB_VEC.EN 255) = true ∧ s.bit (CRB_VEC.LOCAL 255) = true ∧ s.fld (CRB_VEC.HOST 255) = 0 ∧ s.bit (CRB_VEC.EN 254) = false) ∧
    (rackOn.setBitAt CRB_STATUS.OUT 3 true).bitAt CRB_STATUS.OUT 3 = true ∧ rackOn.bitAt CRB_STATUS.OUT 0 = false ∧
    Lets rackOn 7 CRB_LVEC_POP.addr true ∧ crbActive nodeOff = false ∧ crbStrobing nodeOff = false ∧
    crbStrobing (rackMaster [rackReq 1] .data) = true := by decide +kernel

/-! ### GroveCommandsComplete -/

/-- Both ports enabled, CHAINS or RING, sessions of port `x` in state `st`. -/
def groveAt (ring : Bool) (x st : Nat) : State :=
  let s := nodeRun.setBit SYS_STRAP.GROVE_MODE (!ring)
  let s := (s.setBit (GRV_CFG.EN 0) true).setBit (GRV_CFG.EN 1) true
  s.setFld (GRV_STAT.STATE x) st

theorem witness_GroveCommandsComplete :
    (let s := groveAt true 0 2
     Lets s 7 (GRV_CMD.addr 1) true ∧ grvSess (s.put (GRV_CMD.addr 1) 1) 1 = 0 ∧ grvCan (s.put (GRV_CMD.addr 1) 1) 0 = true ∧
       grvState (s.put (GRV_CMD.addr 1) 1) 0 = 2 ∧ ((grvClearSent s).gport 1).cur = none ∧ s.tim.now ≤ grvNext s 0) ∧
    (let s := groveAt false 1 4
     Lets s 7 (GRV_CMD.addr 1) true ∧ grvSess (s.put (GRV_CMD.addr 1) 3) 1 = 1 ∧ grvCan s 1 = true ∧ grvState s 1 = 4 ∧
       grvWakePend s 1 = false ∧ grvState (s.put (GRV_CMD.addr 1) 3) 1 = 4 ∧ grvSess s 1 = 1 ∧ s.grv.length = 2) ∧
    (let c : GCmd := { src := .bypass, f := {} }
     let s := (groveAt false 1 2).modGrv 1 fun g => { g with cur := some c }
     ((grvClearSent (s.put (GRV_CMD.addr 1) 4)).gport 1).cur ≠ none ∧ grvState (s.put (GRV_CMD.addr 1) 4) 1 = 2) ∧
    grvCan (nodeRun.setBit (GRV_CFG.EN 1) false) 1 = false := by decide +kernel

/-! ### GroveSessionsComplete -/

/-- Port 1 of CHAINS is AWAKE with its check-in window `w` and Saplings `l` missing. -/
def checkingIn (w : GWin) (l : List Nat) : State :=
  (groveAt false 1 2).modGrv 1 fun g => { g with win := w, missing := l, wait := true }

theorem witness_GroveSessionsComplete :
    (grvRing (grvClearSent (checkingIn .window [61])) = false ∧ ((grvClearSent (checkingIn .window [61])).gport 1).wait = true ∧
      ((grvClearSent (checkingIn .window [61])).gport 1).win = .window ∧ ((grvClearSent (checkingIn .window [61])).gport 1).missing = [61] ∧
      grvState (checkingIn .window []) (grvSess (checkingIn .window []) 1) = 2 ∧
      ((grvClearSent (checkingIn .window [])).gport 1).missing = []) ∧
    (let s := (groveAt true 0 2).modGrv 0 fun g => { g with wait := true, win := .listen }
     grvRing (grvClearSent s) = true ∧ ((grvClearSent s).gport 0).wait = true ∧ ((grvClearSent s).gport 1).wait = false ∧
       (s.gport (grvSess s 1)).win = .listen ∧ ((grvClearSent s).gport 0).win = .listen) ∧
    (let s := checkingIn .window [61]
     grvUp s 1 = true ∧ grvState s 1 ≠ 0 ∧ grvSess s 1 = 1 ∧ (s.gport 1).win ≠ .shut ∧ hopVal 62 = 62 ∧
       leAt [0, 0, 0, 0] 0 1 / 2 % 4 = 0 ∧ hopMode 62 = 0) ∧
    ((checkingIn .shut []).gport 1).win = .shut ∧ grvState (checkingIn .shut []) 1 ≠ 1 := by decide +kernel

/-! ### GroveTrafficComplete -/

/-- Port 1 of CHAINS is AWAKE with command `c` on the line. -/
def onTheLine (c : GCmd) : State := (groveAt false 1 2).modGrv 1 fun g => { g with cur := some c }

theorem witness_GroveTrafficComplete :
    (let s := (groveAt false 1 2).setFld (GRV_TXQ_WPTR.PTR 1) 1
     grvUp s 1 = true ∧ grvState s 1 = 2 ∧ (s.gport 1).cur = none ∧ ((grvClearSent s).gport 1).auto = [] ∧
       grvSapWork (grvClearSent s) 1 = none ∧ grvTxWaiting (grvClearSent s) 1 = true) ∧
    (let c : GCmd := { src := .entry 9, f := ⟨3, 62, []⟩, most := 2 }
     ((onTheLine c).gport 1).cur = some c ∧ c.burst = false ∧ c.tries < c.most ∧ grvAnswers c ⟨0x43, 62, []⟩ = true ∧
       (((grvClearSent (onTheLine c)).modGrv 1 fun g => { g with handed := none }).gport 1).cur = some c) ∧
    upLenOk 0x43 64 = true ∧ upLenOk 0x46 64 = true ∧ upLenOk 0x4A 2 = true ∧
    ((groveAt false 1 2).setBit (GRV_SAP_INFO.PRESENT 61) true).bit (GRV_SAP_INFO.PRESENT 61) = true ∧
    (let c : GCmd := { src := .entry 9, f := ⟨5, 62, []⟩, most := 1, burst := true }
     grvAnswers c ⟨0x45, 62, List.replicate 7 0⟩ = true ∧ ((onTheLine c).gport 1).cur = some c ∧ c.most ≤ c.tries) ∧
    (let c : GCmd := { src := .enum 62, f := ⟨2, 65, []⟩, most := 1 }
     (((grvClearSent (onTheLine c)).modGrv 1 fun g => { g with handed := none }).gport 1).cur = some c ∧ hopVal 62 = 62) := by
  decide +kernel

/-! ### GroveSleepComplete -/

/-- Port 1 of CHAINS runs the sleep agreement `z`. -/
def agreeing (z : GSleep) : State := (groveAt false 1 3).modGrv 1 fun g => { g with sleep := z, here := [61] }

theorem witness_GroveSleepComplete :
    (grvUp (agreeing {}) 1 = true ∧ grvState (agreeing {}) 1 = 3 ∧ grvSess (agreeing {}) 1 = 1 ∧ ((agreeing {}).gport 1).sleep.commit = false ∧
      ((grvClearSent (agreeing {})).gport 1).sleep.again = false ∧ grvNotOk (grvClearSent (agreeing {})) 1 = [61] ∧
      ((grvClearSent (agreeing { again := true })).gport 1).sleep.again = true ∧
      ((agreeing { commit := true }).gport 1).sleep.commit = true ∧ ((grvClearSent (agreeing { commit := true })).gport 1).sleep.cut = false ∧
      ((grvClearSent (agreeing { commit := true, cut := true })).gport 1).sleep.cut = true) ∧
    (let u := (grvClearSent (agreeing {})).modGrv 1 fun g => { g with handed := none }
     ((SMap.get (fun _ => []) (u.gport 1).reqs 62).filter fun t => u.uptime < t + 60000000000) = [] ∧ grvSess u 1 = 1 ∧
       grvState u 1 = 3 ∧ hopVal 62 = 62) ∧
    (((groveAt false 1 5).modGrv 1 fun g => { g with tone := some .session }).gport 1).tone = some .session ∧
    (sensing (groveAt false 1 4) = false ∧ grvState ((grvClearSent (groveAt false 1 4)).setBit (GRV_STAT.CARRIER 1) true) 1 = 4 ∧
      grvCan (grvClearSent (groveAt false 1 4)) 1 = true) := by decide +kernel

/-! ### SaplingAnswersComplete -/

/-- Sapling 61 is enumerated at address 62 with hop distances 62 and 1. -/
def sapUp : State := setSap nodeRun 61 { addr := 62, hops := [some 62, some 1], link := 3, down := 255, home := 1 }

theorem witness_SaplingAnswersComplete :
    (let x := sapNow sapUp 61
     x.mode ≠ .asleep ∧ nbit x.jam 1 = false ∧ nbit x.bypass 1 = false ∧ x.addr = 62 ∧ x.down = 255) ∧
    ((sapNow sapUp 61).take 1 ⟨3, 62, [1, 2]⟩ 255).1 = .fresh ∧ ((sapNow sapUp 61).take 1 ⟨3, 62, [1, 2]⟩ 254).1 = .again ∧
    ((sapNow sapUp 61).take 1 ⟨3, 62, [1, 2]⟩ 7).1 = .skip ∧ sapForm ⟨3, 62, [1, 2]⟩ = true ∧ sapForm ⟨2, 62, [1, 0]⟩ = false ∧
    SapTakes sapUp 61 1 2 0 ⟨2, 65, [62, 0]⟩ ((sapNow sapUp 61).take 1 ⟨2, 65, [62, 0]⟩ 0).2 ∧
    SapTakes sapUp 61 1 4 255 ⟨4, 62, [255]⟩ ((sapNow sapUp 61).take 1 ⟨4, 62, [255]⟩ 255).2 ∧
    SapTakes sapUp 61 1 6 255 ⟨6, 62, [5, 1]⟩ ((sapNow sapUp 61).take 1 ⟨6, 62, [5, 1]⟩ 255).2 ∧
    (sapNow sapUp 61).reg 61 6 = some 0x3E8 ∧ (sapNow sapUp 61).reg 61 5 = some 0 ∧ (sapNow sapUp 61).reg 61 7 = none ∧
    SapTakes sapUp 61 1 7 255 ⟨7, 62, [6, 1, 0, 0, 1, 0]⟩ ((sapNow sapUp 61).take 1 ⟨7, 62, [6, 1, 0, 0, 1, 0]⟩ 255).2 ∧
    SapTakes sapUp 61 1 14 255 ⟨14, 62, [1]⟩ ((sapNow sapUp 61).take 1 ⟨14, 62, [1]⟩ 255).2 ∧
    SapTakes sapUp 61 1 15 255 ⟨15, 62, [1, 0x52]⟩ ((sapNow sapUp 61).take 1 ⟨15, 62, [1, 0x52]⟩ 255).2 ∧
    SapTakes sapUp 61 1 15 0 ⟨15, 63, [2, 0x52]⟩ ((sapNow sapUp 61).take 1 ⟨15, 63, [2, 0x52]⟩ 0).2 ∧
    SapTakes sapUp 61 1 16 255 ⟨16, 62, []⟩ ((sapNow sapUp 61).take 1 ⟨16, 62, []⟩ 255).2 := by decide +kernel

theorem witness_SaplingBurst :
    (let s := setSap nodeRun 61 { addr := 62, chCfg := [0, 0, 0, 1, 0, 0, 0, 0] }
     SapTakes s 61 1 5 0 ⟨5, 62, [3, 0, 1, 0, 0, 0, 0, 0]⟩ ((sapNow s 61).take 1 ⟨5, 62, [3, 0, 1, 0, 0, 0, 0, 0]⟩ 0).2 ∧
       ((sapNow s 61).take 1 ⟨5, 62, [3, 0, 1, 0, 0, 0, 0, 0]⟩ 0).2.burst = none ∧ nbit (((sapNow s 61).chCfg.getD 3 0).toNat) 0 = true) ∧
    3 < sapChannels 61 := by
  refine ⟨by decide +kernel, ?_⟩
  unfold sapChannels
  split <;> decide

/-! ### SaplingLineComplete -/

theorem witness_SaplingLineComplete :
    (let x := sapNow sapUp 61
     x.mode ≠ .asleep ∧ nbit x.jam 1 = false ∧ nbit x.bypass 1 = false ∧ x.wakeReq = none ∧ 0 ≠ x.addr ∧ nbit x.link 0 = true ∧
       nbit (clrBit x.link 0) 0 = false) ∧
    SapTakes sapUp 61 1 8 0 ⟨8, 63, List.replicate 8 255⟩ ((sapNow sapUp 61).take 1 ⟨8, 63, List.replicate 8 255⟩ 0).2 ∧
    (let s := setSap nodeRun 61 { addr := 62, chCfg := [0, 0, 0, 1, 0, 0, 0, 0] }
     nbit (((sapNow s 61).chCfg.getD 3 0).toNat) 0 = true ∧ (sapNow s 61).settle.getD 3 0 = 0) := by decide +kernel

/-! ### SaplingSleepComplete -/

/-- Sapling 61 in mode `m` with wake request `w`, its comparator of channel 3 on. -/
def sapIn (m : SapMode) (w : Option (Nat × Nat × Nat)) : State :=
  setSap nodeRun 61 { mode := m, addr := 62, hops := [some 62, some 1], link := 3, wakeReq := w, committed := w.isSome, ctrl := 0x103E8,
                      chWake := [0, 0, 0, 0x100FE, 0, 0, 0, 0] }

theorem witness_SaplingSleepComplete :
    SapTakes (sapIn .awake none) 61 1 9 0 ⟨9, 63, List.replicate 16 0⟩ ((sapNow (sapIn .awake none) 61).take 1 ⟨9, 63, List.replicate 16 0⟩ 0).2 ∧
    SapTakes (sapIn .awake none) 61 1 10 0 ⟨10, 63, [0, 0, 0, 0]⟩ ((sapNow (sapIn .awake none) 61).take 1 ⟨10, 63, [0, 0, 0, 0]⟩ 0).2 ∧
    SapTakes (sapIn .awake none) 61 1 11 0 ⟨11, 63, []⟩ ((sapNow (sapIn .awake none) 61).take 1 ⟨11, 63, []⟩ 0).2 ∧
    SapTakes (sapIn .toned none) 61 1 12 0 ⟨12, 63, []⟩ ((sapNow (sapIn .toned none) 61).take 1 ⟨12, 63, []⟩ 0).2 ∧
    SapTakes (sapIn .awake (some (1, 3, 255))) 61 1 13 0 ⟨13, 62, []⟩
      ((sapNow (sapIn .awake (some (1, 3, 255))) 61).take 1 ⟨13, 62, []⟩ 0).2 ∧
    (sapForm ⟨9, 63, []⟩ = true ∧ sapForm ⟨10, 63, []⟩ = true ∧ sapForm ⟨12, 63, []⟩ = true ∧ sapForm ⟨13, 62, []⟩ = true) ∧
    (sapNow (sapIn .asleep none) 61).mode = .asleep ∧ (sapNow (sapIn .listen none) 61).mode = .listen ∧
    (sapNow (sapIn .toned none) 61).mode = .toned ∧ (sapNow (sapIn .awake none) 61).mode = .awake ∧
    (let x := sapNow (sapIn .awake (some (1, 3, 255))) 61
     nbit x.ctrl.toNat 16 = true ∧ nbit (x.chWake.getD 3 0).toNat 16 = true ∧ wordField (x.chWake.getD 3 0) 0 16 < 255 ∧
       (x.hops.getD x.home none).isSome = true ∧ x.committed = true ∧ x.wakeReq = some (1, 3, 255)) ∧
    (sapOf (setSap nodeRun 61 { commitAt := some 7 }) 61).commitAt = some 7 := by decide +kernel

/-! ### MotionCommandsComplete -/

/-- SURVEY, with axis 3 in state `st` of MOT_n_STAT and cause `c`. -/
def axisIn (st c : Nat) : State :=
  ((inMode .survey nodeRun).setFld (MOT_STAT.STATE 3) st).setFld (MOT_STAT.CAUSE 3) c

theorem witness_MotionCommandsComplete :
    (Lets (axisIn 1 0) 7 (MOT_CMD.addr 3) true ∧ axActive (cmdOk ((axisIn 1 0).put (MOT_CMD.addr 3) 1) 3) 3 = true ∧
      axState (cmdOk ((axisIn 1 0).put (MOT_CMD.addr 3) 1) 3) 3 = axMOVING ∧
      axActive (cmdOk ((axisIn 4 1).put (MOT_CMD.addr 3) 1) 3) 3 = false ∧
      axActive (cmdOk ((axisIn 1 0).put (MOT_CMD.addr 3) 3) 3) 3 = true) ∧
    (Lets nodeRun 7 (MOT_CMD.addr 3) true ∧ motEnabled (nodeRun.put (MOT_CMD.addr 3) 2) = false) ∧
    (let u := (axisIn 3 1).put (MOT_CMD.addr 3) 2
     resumeRefused u 3 = false ∧ (axesWith (cmdOk u 3) 3).filter (atRest (cmdOk u 3)) = [3] ∧ keptLine (cmdOk u 3) [3] = none) ∧
    resumeRefused ((axisIn 4 8).put (MOT_CMD.addr 3) 2) 3 = true ∧
    (let u := (axisIn 0 0).put (MOT_CMD.addr 3) 4
     motEnabled u = true ∧ axState u 3 = axIDLE ∧ u.fld (MOT_HOME_CFG.METHOD 3) = 0) ∧
    axState ((axisIn 0 0).put (MOT_CMD.addr 3) 5) 3 = axIDLE ∧ axState ((axisIn 1 0).put (MOT_CMD.addr 3) 5) 3 ≠ axIDLE ∧
    (let u := (axisIn 4 3).put (MOT_CMD.addr 3) 6
     motEnabled u = true ∧ axState u 3 = axHALTED ∧ axesWith u 3 = [3]) ∧
    ((axisIn 1 0).mot.ax.length = 4 ∧ (axisIn 1 0).mot.grp = none ∧ axState (axisIn 1 0) 3 ≠ axHOMING ∧
      (axisIn 1 0).fld (MOT_STAT.HPHASE 3) = 0) := by decide +kernel

/-! ### MotionEventsComplete -/

theorem witness_MotionEventsComplete :
    ((axisIn 1 0).up fenceMOT = true ∧ (∀ k : Fin 4, k < 3 → axActive (axisIn 1 0) k = false) ∧
      (∀ k : Fin 4, axActive (axisIn 0 0) k = false) ∧ landsCut (axisIn 1 0) = false) ∧
    (let s := axisIn 6 0
     motEnabled s = true ∧ axState s 3 = axGEARED ∧ gearEntry s 3 (gearRel s 3) = gearEntry s 3 (axisOf s 3).gear.m ∧
       (let u := s.setFld (MOT_GEAR_REL.M 3) (ofSigned 32 (gearRel s 3))
        u.bit (MOT_GEAR_CFG.BLEND 3) = false ∧ (axisOf u 3).gear.slew = false ∧ drvHolds u 3 = false)) ∧
    (let s := (axisIn 6 0).setWord (MOT_GR.RATIO 3 0).addr 0x7FFFFFFF
     (rampOf (s.setFld (MOT_GEAR_REL.M 3) 0) 3).cruise * 1000000 <
       (gearGR s 3 (gearEntry s 3 0) * 256000000000000000 / 65536 / (Nat.max 1 1 : Nat)).natAbs) ∧
    axState (axisIn 7 0) 3 = axFOLLOW ∧
    (let s := ((axisIn 1 0).setBit (MOT_ENC_CFG.EN 3) true).setFld (MOT_POS.POS 3) 500
     motEnabled s = true ∧ axState s 3 ≠ axHALTED ∧ Nat.max 1 (s.fld (MOT_ENC_CFG.DEV 3)) < (axPos s 3 - encPos s 3).natAbs) ∧
    (let s := modAxis ((axisIn 1 0).setBit (MOT_CFG.LIM_EN 3) true) 3 fun x => { x with v := 5, neg := true }
     let u := s.setBit (MOT_STAT.LIMIT 3) true
     axState u 3 = axMOVING ∧ (axisOf u 3).v ≠ 0 ∧ limitBlocks u 3 (axisOf u 3).neg = true) ∧
    ((axisIn 5 0).setFld (MOT_STAT.HPHASE 3) 3).fld (MOT_STAT.HPHASE 3) = 3 ∧ axState (axisIn 5 0) 3 = axHOMING ∧
    (axisIn 1 0).mot.hist = [] := by decide +kernel

/-! ### RampNeverOverruns -/

theorem witness_RampNeverOverruns :
    ((0 : Int) < 5 ∧ (-5 : Int) < 0) ∧ 1 ≤ (rampOf (nodeRun.setFld (MOT_VCRUISE.V 3) 256) 3).cruise ∧
      0 ≤ (rampOf (nodeRun.setFld (MOT_VCRUISE.V 3) 256) 3).cruise * 1000000 := by decide +kernel

/-! ### DriveComplete -/

/-- Axis 3 drives its motor itself, in state `st` of DRV_AX_STAT. -/
def driveAt (st : Nat) : State :=
  let s := (nodeRun.setBit (DRV_AX_CFG.EN 3) true).setBit (MOT_CFG.OUT 3) false
  { setDrvState s 3 st with pwr := { s.pwr with vmRisen := true, vioGenOk := true } }

theorem witness_DriveComplete :
    (nodeRun.running = true ∧ (driveAt 1).up fenceDRV = true ∧ drvOn (driveAt 1) 3 = true ∧ drvAllowed (driveAt 1) 3 = true ∧
      drvState (driveAt 1) 3 = 1 ∧ (driveAt 1).bitAt MOT_STATUS.MOVING 3 = false ∧ drvState (driveAt 4) 3 = 4) ∧
    ((driveAt 1).setBitAt MOT_STATUS.MOVING 3 true).bitAt MOT_STATUS.MOVING 3 = true ∧
    ((driveAt 1).setFld DRV_TEMP.DEGC 206).bit DRV_FAULT.OTW = false ∧ ((driveAt 1).setFld DRV_TEMP.DEGC 206).drv.otpHot = false ∧
    (nodeRun.drv.clkLost = false ∧ { nodeRun with drv := { nodeRun.drv with clkLost := true } }.up fenceDRV = true) ∧
    ((driveAt 1).drv.tblPend = 0 ∧ (driveAt 1).pwr.vioGenOk = true ∧
      ([0, 1, 2, 3].foldl (fun s n => modDrvAx s n fun a => { a with bank := s.fld (DRV_AX_CFG.TBL n) }) (driveAt 1)).fld DRV_STATUS.DRIVEN = 8) ∧
    (let s := (driveAt 1).setFld (DRV_AX_CFG.STALL 3) 2
     let s := s.setFld (DRV_AX_LOAD_CFG2.LOAD_VMIN 3) 5
     drvOn s 3 = true ∧ drvLoad s 3 = true ∧ loadFast s 3 = false) ∧
    (let s := (driveAt 1).setFld (DRV_AX_CFG.STALL 3) 2
     let s := (s.setFld (DRV_AX_LOAD_CFG2.LOAD_VMIN 3) 0).setFld (DRV_AX_LOAD_CFG.LA_LIMIT 3) 200
     drvOn s 3 = true ∧ drvLoad s 3 = true ∧ loadFast s 3 = true ∧ s.fld (DRV_AX_LOAD_CFG.LA_LIMIT 3) < 255) ∧
    Lets nodeRun 7 DRV_TRIP_CLR.addr true := by decide +kernel

/-! ### StepRunsFront -/

theorem witness_StepRunsFront : State.reset.pending = [] := by decide

/-! ### RootMemoryFirmwareArea -/

theorem witness_RootMemoryFirmwareArea :
    Lets nodeRun 7 PWR_RMEM_DATA.addr true ∧ nodeRun.fld PWR_RMEM_ADDR.WADDR < 0x6400 ∧
      Lets (nodeRun.setFld PWR_RMEM_ADDR.WADDR 0x7FFF) 6 PWR_RMEM_DATA.addr true ∧
      (nodeRun.setFld PWR_RMEM_ADDR.WADDR 0x7FFF).fld PWR_RMEM_ADDR.WADDR = 0x7FFF := by decide +kernel

/-! ### OrdinaryRegisterWrites -/

theorem witness_OrdinaryRegisterWrites :
    (∃ r, findReg (MOT_VCRUISE.addr 3) = some r ∧ r.rws ≠ 0) ∧ (lockMask TIM_CTRL.addr).getLsbD 31 = false ∧
    (∃ r, findReg TIM_CTRL.addr = some r ∧ r.rw.getLsbD 0 = true) ∧
    (∃ r, findReg (AFE_SFLT_STICKY.addr 1) = some r ∧ r.w1c.getLsbD 15 = true ∧ r.rw.getLsbD 15 = false ∧ r.rwl.getLsbD 15 = false) := by
  refine ⟨?_, by decide +kernel, ?_, ?_⟩
  · exact ⟨(findReg (MOT_VCRUISE.addr 3)).getD ⟨0, [], 0, 0, 0, 0, 0, (0, 0), 0, 0, 0, .word 0⟩, by decide +kernel⟩
  · exact ⟨(findReg TIM_CTRL.addr).getD ⟨0, [], 0, 0, 0, 0, 0, (0, 0), 0, 0, 0, .word 0⟩, by decide +kernel⟩
  · exact ⟨(findReg (AFE_SFLT_STICKY.addr 1)).getD ⟨0, [], 0, 0, 0, 0, 0, (0, 0), 0, 0, 0, .word 0⟩, by decide +kernel⟩

/-! ### UpdateGroupsApply -/

theorem witness_UpdateGroupsApply :
    (let s := nodeRun.put (MOT_VCRUISE.addr 3) 77
     SMap.wf (fun _ => none) s.stg = true ∧ SMap.get (fun _ => none) s.stg (MOT_VCRUISE.addr 3) = some 77 ∧
       groupOf (MOT_VCRUISE.addr 3) = 7 ∧ (findReg (MOT_VCRUISE.addr 3)).isSome = true ∧ groupOf DRV_CHOP.addr ≠ 7 ∧
       s.perm 7 (groupBlock 7) = 3 ∧ groupUp s 7 = true ∧ s.perm 0 (groupBlock 7) ≠ 3 ∧
       (s.setBit (CNP_STATUS.GRAFT 3) true).bit (CNP_STATUS.GRAFT (5 - 2)) = true) := by decide +kernel

/-- An apply makes the staged value effective. -/
theorem test_apply : (applyGroup (nodeRun.put (MOT_VCRUISE.addr 3) 77) true 7).word (MOT_VCRUISE.addr 3) = 77 := by decide +kernel

/-! ### LandsCutOff -/

theorem witness_LandsCutOff : landsCut (tapAt 0 nodeRun) = true ∧ landsCut (tapAt 7 nodeRun) = true ∧ nodeRun.running = true ∧
    nodeRun.bit DRV_TRIP.TRIPN = false ∧ (tapAt 0 nodeRun).running = true := by decide +kernel

/-! ### AlarmFirst -/

theorem witness_AlarmFirst :
    (let s := setEgQueue nodeRun (qkey 1 4 0) [{ f := { ty := 5, cls := 0, payload := List.replicate 256 0 } }]
     headReady s 1 4 0 = true ∧ (headOf s 1 4 0).isSome = true ∧
       (∀ v : Fin 5, (match headOf s 1 v 0 with | some e => decide (fsize e.f ≤ 288) | none => true) = true)) := by decide +kernel

/-! ### SaplingFrame -/

theorem witness_SaplingFrame :
    saplingCommand (.saplingWakeWindow 61) = true ∧
    (match exec (.saplingWakeWindow 61) (sapIn .asleep none) with | .next t => (sapOf t 61).mode == .listen | _ => false) = true := by decide +kernel

/-! ### RackFrame -/

theorem witness_RackFrame :
    (match exec (.crbIackRespond 3) (rackOn.setBitAt CRB_STATUS.OUT 3 true) with
     | .next t => !t.crb.iackPass && !t.bitAt CRB_STATUS.OUT 3 | _ => false) = true := by decide +kernel

/-! ### CoreMemoryFrame -/

theorem witness_CoreMemoryFrame :
    (let s := coreAt 2 (dtcm 2 + 0xFFFC) nodeRun
     Executes s 2 s ∧ ownTcm 2 (coreAddr s 2 5 0) = true ∧ trigHit s 2 1 (coreAddr s 2 5 0) (some (leNat (toLE 4 (xreg s 2 7).toNat))) = none ∧
       (match dataCheck s 2 (coreAddr s 2 5 0) 4 true with | .ok r => r.dest == .memory | _ => false) = true ∧
       (match dataCheck s 2 (coreAddr s 2 5 0) 4 false with | .ok r => r.dest == .memory | _ => false) = true) := by decide +kernel

/-! ### SaplingsStayWellFormed -/

theorem witness_SaplingsStayWellFormed : saplingCommand (.saplingReset 61 1 {} 0) = true ∧ (sapOf (sapIn .awake (some (1, 3, 255))) 61).wf = true ∧
    (sapOf State.reset 61).wf = true := by decide +kernel

end Sys2Proof.Tests
end

section
/-! What an ordinary write leaves (R8, R138, R150), bit by bit and with its frame, and the state after reset. -/

namespace Sys2Proof.Machine

/-! ### Ordinary writes -/

theorem setCopies_word (s : State) (a b : Nat) (w : Word) : (setCopies s a w).word b = if a = b then w else s.word b := by
  unfold setCopies
  split <;> exact State.word_setWord s a b w

@[simp] theorem setCopies_stg (s : State) (a : Nat) (w : Word) : (setCopies s a w).stg = s.stg := by
  unfold setCopies
  split <;> rfl

theorem plainWrite_word (s : State) (r : RegRow) (a b : Nat) (v : Word) :
    (plainWrite s r a v).word b = if a = b then writtenWord s r a v else s.word b := by
  unfold plainWrite
  split <;> exact setCopies_word s a b _

/-- What is staged after an ordinary write: the RWS bits of the word written, where the register has any (R138). -/
theorem plainWrite_stg_get (s : State) (r : RegRow) (a b : Nat) (v : Word) :
    SMap.get (fun _ => none) (plainWrite s r a v).stg b =
      if a = b ∧ r.rws ≠ 0 then some (v &&& r.rws) else SMap.get (fun _ => none) s.stg b := by
  unfold plainWrite
  split
  next hs => simp [hs]
  next hs => simp only [setCopies_stg, SMap.get_set, ne_eq, hs, not_false_eq_true, and_true]

/-- The bits of row `r` that take the value written: RW, and RWL while the lock bit is clear (R8, R150). -/
def writeMask (s : State) (r : RegRow) : Word :=
  if nbit (regWord s r.lock.1).toNat r.lock.2 then r.rw else r.rw ||| r.rwl

theorem writeMask_bit (s : State) (r : RegRow) (i : Nat) :
    (writeMask s r).getLsbD i = (r.rw.getLsbD i || (r.rwl.getLsbD i && !nbit (regWord s r.lock.1).toNat r.lock.2)) := by
  unfold writeMask
  split <;> simp [*]

/-- One bit of the word that a write leaves, lock bits aside. -/
theorem writtenWord_bit (s : State) (r : RegRow) (a i : Nat) (v : Word) (hlock : (lockMask a).getLsbD i = false) :
    (writtenWord s r a v).getLsbD i =
      if (writeMask s r).getLsbD i then v.getLsbD i
      else (regWord s a).getLsbD i && !(r.w1c.getLsbD i && v.getLsbD i) := by
  by_cases hi : i < 32
  · change (((regWord s a &&& ~~~ writeMask s r &&& ~~~ (r.w1c &&& v)) ||| (v &&& writeMask s r) |||
      (regWord s a &&& lockMask a)).getLsbD i) = _
    simp only [BitVec.getLsbD_or, BitVec.getLsbD_and, BitVec.getLsbD_not, hi, hlock]
    cases (writeMask s r).getLsbD i <;> simp
  · simp [BitVec.getLsbD_of_ge _ i (Nat.le_of_not_lt hi)]

theorem State.put_of_findReg {a : Nat} {r : RegRow} (hr : findReg a = some r) (s : State) (v : Word) :
    s.put a v = plainWrite s r a v := by
  simp only [State.put, hr]

theorem State.put_word_bit {a : Nat} {r : RegRow} (hr : findReg a = some r) (s : State) (i : Nat) (v : Word)
    (hlock : (lockMask a).getLsbD i = false) :
    ((s.put a v).word a).getLsbD i =
      if (writeMask s r).getLsbD i then v.getLsbD i
      else (regWord s a).getLsbD i && !(r.w1c.getLsbD i && v.getLsbD i) := by
  rw [State.put_of_findReg hr, plainWrite_word, if_pos rfl, writtenWord_bit s r a i v hlock]

theorem State.put_stg_same {a : Nat} {r : RegRow} (hr : findReg a = some r) (hs : r.rws ≠ 0) (s : State) (v : Word) :
    SMap.get (fun _ => none) (s.put a v).stg a = some (v &&& r.rws) := by
  rw [State.put_of_findReg hr, plainWrite_stg_get, if_pos ⟨rfl, hs⟩]

theorem State.put_word_other (s : State) {a b : Nat} (v : Word) (h : a ≠ b) : (s.put a v).word b = s.word b := by
  unfold State.put
  split
  · rw [plainWrite_word, if_neg h]
  · rfl

theorem State.put_stg_other (s : State) {a b : Nat} (v : Word) (h : a ≠ b) :
    SMap.get (fun _ => none) (s.put a v).stg b = SMap.get (fun _ => none) s.stg b := by
  unfold State.put
  split
  · rw [plainWrite_stg_get, if_neg fun hab => h hab.1]
  · rfl

/-- Settles O53: each access kind says whether its bit lies in the write mask (`writeMask_bit`), and so what
`State.put_word_bit` makes of it. -/
theorem ordinaryRegisterWrites : Obligations.OrdinaryRegisterWrites := by
  refine ⟨fun s a i v r hr hlock => ?_, fun s a v w r hr hs => ⟨State.put_stg_same hr hs s v, State.put_stg_same hr hs _ w⟩,
    fun s a b v h => ⟨State.put_word_other s v h, State.put_stg_other s v h⟩⟩
  rw [State.put_word_bit hr s i v hlock, writeMask_bit]
  refine ⟨fun hrw => ?rw, fun hrw hrwl hw1c => ?w1c, fun hrw hrwl hw1c locked => ?rwlLocked, fun hrwl opened => ?rwlOpen,
    fun hrw hrwl hw1c => ?other⟩
  case rw => simp [hrw]
  case w1c => simp [hrw, hrwl, hw1c]
  case rwlLocked => simp [hrw, hw1c, locked]
  case rwlOpen => simp [hrwl, opened]
  case other => simp [hrw, hrwl, hw1c]

/-! ### The state after reset -/

theorem State.word_reset (a : Nat) : State.reset.word a = resetWord a := rfl

theorem sapOf_reset (p : Nat) : sapOf State.reset p = {} := rfl

theorem saplingsWf_reset : SaplingsWf State.reset := fun p => by
  rw [sapOf_reset]
  decide

/-- Settles O51: no sparse map lists anything, so every register reads its table's reset word; the named ones are
evaluated. -/
theorem resetValues : Obligations.ResetValues :=
  ⟨rfl, rfl, rfl, rfl, reset_wf, saplingsWf_reset, State.word_reset, by decide⟩

end Sys2Proof.Machine
end

section
/-! The register interface for accesses that are let through, the commands that are an access to a named register, timed
applies and the end of unit resets (R130 to R144, R154, R186, R188). -/

namespace Sys2Proof.Machine

/-! ### Accesses that are let through -/

theorem blockRows_ne_nil_of_findReg {a : Nat} {r : RegRow} (hr : findReg a = some r) : blockRows (blockOf a) ≠ [] := by
  intro h
  simp [findReg, h] at hr

theorem regJudge_of_lets {s : State} {t a : Nat} {wr : Bool} {r : RegRow} (lets : Lets s t a wr) (al : a % 4 = 0)
    (hr : findReg a = some r) : regJudge s (permits s t a wr) a wr = (0, false) := by
  obtain ⟨run, perm, mode, up⟩ := lets
  rw [perm]
  exact regJudge_ok s a wr run al (blockRows_ne_nil_of_findReg hr) mode up (by simp [hr])

/-- A permitted write runs its block's effect. -/
theorem doWrite_of_lets {s : State} {t a : Nat} {r : RegRow} (lets : Lets s t a true) (al : a % 4 = 0)
    (hr : findReg a = some r) (v : Word) :
    doWrite s t a v = written (writeReg s t a r v).1 t (writeReg s t a r v).2 := by
  rw [doWrite, busWrite, regWrite_done s t _ a v r false (regJudge_of_lets lets al hr) hr, written]

/-- A permitted read returns its word. -/
theorem doRead_of_lets {s : State} {t a : Nat} {r : RegRow} (lets : Lets s t a false) (al : a % 4 = 0)
    (hr : findReg a = some r) :
    doRead s t a = readBack (readReg s t a r).1 t (readReg s t a r).2.1 (readReg s t a r).2.2 := by
  rw [doRead, busRead, regRead_done s t _ a r false (regJudge_of_lets lets al hr) hr, readBack]

/-- A permitted write of a named register whose effect `act` follows the ordinary write. -/
theorem doWrite_named {s : State} {t a : Nat} {v : Word} (act : State → State) (lets : Lets s t a true) (al : a % 4 = 0)
    (reg : (findReg a).isSome = true) (effect : ∀ r, writeReg s t a r v = (act (plainWrite s r a v), 0)) :
    doWrite s t a v = written (act (s.put a v)) t 0 := by
  obtain ⟨r, hr⟩ := Option.isSome_iff_exists.mp reg
  rw [doWrite_of_lets lets al hr, effect, State.put, hr]

theorem doWrite_updApply {s : State} {t : Nat} (v : Word) (lets : Lets s t SYS_UPD_APPLY.addr true) :
    doWrite s t SYS_UPD_APPLY.addr v =
      written (applyGroups (s.put SYS_UPD_APPLY.addr v) t (wordField v 0 16)) t 0 :=
  doWrite_named (fun u => applyGroups u t (wordField v 0 16)) lets rfl (by decide) fun _ => rfl

theorem doWrite_updAtMask {s : State} {t : Nat} (v : Word) (lets : Lets s t SYS_UPD_AT_MASK.addr true) :
    doWrite s t SYS_UPD_AT_MASK.addr v = written (armApply (s.put SYS_UPD_AT_MASK.addr v) t) t 0 :=
  doWrite_named (fun u => armApply u t) lets rfl (by decide) fun _ => rfl

theorem doWrite_urst {s : State} {t : Nat} (v : Word) (lets : Lets s t SYS_URST.addr true) :
    doWrite s t SYS_URST.addr v = written (writeUrst (s.put SYS_URST.addr v) v) t 0 :=
  doWrite_named (fun u => writeUrst u v) lets rfl (by decide) fun _ => rfl

/-! ### Timed applies (R143, R144) -/

@[simp] theorem State.advanceTo_regs (s : State) (t : Nat) : (s.advanceTo t).regs = s.regs := by
  unfold State.advanceTo
  split <;> rfl

@[simp] theorem State.advanceTo_sys (s : State) (t : Nat) : (s.advanceTo t).sys = s.sys := by
  unfold State.advanceTo
  split <;> rfl

@[simp] theorem State.advanceTo_now (s : State) (t : Nat) : (s.advanceTo t).tim.now = Nat.max s.tim.now t := by
  unfold State.advanceTo
  split
  next h => exact (Nat.max_eq_right (Nat.le_of_lt h)).symm
  next h => exact (Nat.max_eq_left (Nat.le_of_not_lt h)).symm

@[simp] theorem State.advanceTo_word (s : State) (t a : Nat) : (s.advanceTo t).word a = s.word a := by
  simp only [State.word, State.advanceTo_regs]

@[simp] theorem State.advanceTo_fld (s : State) (t : Nat) (r : FRef) : (s.advanceTo t).fld r = s.fld r := by
  simp only [State.fld, State.advanceTo_word]

/-- The state in which the groups of a timed apply are applied: its instant reached, the apply no longer armed, its service
interrupt raised. -/
def applyInstant (s : State) : State :=
  (((s.advanceTo s.sys.atTime).setFld SYS_UPD_AT_MASK.MASK 0).setBit SYS_UPD_STAT.ARMED false).setBit SYS_SVC_IRQ.UPD true

theorem doTimedApplyFire_armed {s : State} (run : s.running = true) (armed : s.bit SYS_UPD_STAT.ARMED = true) :
    doTimedApplyFire s = applyGroups (applyInstant s) s.sys.atTenant (s.fld SYS_UPD_AT_MASK.MASK) := by
  simp [doTimedApplyFire, run, armed, applyInstant]

theorem applyInstant_now (s : State) : (applyInstant s).tim.now = Nat.max s.tim.now s.sys.atTime :=
  State.advanceTo_now s s.sys.atTime

theorem doTimedApplyFire_unarmed {s : State} (h : s.running = false ∨ s.bit SYS_UPD_STAT.ARMED = false) :
    doTimedApplyFire s = s := by
  unfold doTimedApplyFire
  rcases h with h | h <;> simp [h]

/-! ### The end of a unit reset (R154, R186, R188) -/

theorem clrBit_le (n k : Nat) : clrBit n k ≤ n := by
  unfold clrBit
  split
  · exact Nat.sub_le n _
  · exact Nat.le_refl n

@[simp] theorem nbit_clrBit_same (n k : Nat) : nbit (clrBit n k) k = false := by
  unfold clrBit
  split
  next h =>
    have odd : n / 2 ^ k % 2 = 1 := by simpa [nbit] using h
    have : (n - 2 ^ k) / 2 ^ k = n / 2 ^ k - 1 := by simpa using Nat.sub_mul_div n (2 ^ k) 1
    rw [nbit, this]
    simp only [beq_eq_false_iff_ne]
    omega
  next h => simpa using h

/-- Reset `u` can end: the unit is in reset, or, of 23 and above, a fence is being lifted through it (R188). -/
def resetRuns (s : State) (u : Nat) : Bool :=
  if u < 23 then s.inUnitReset u else (fenceOfReset u).any fun f => nbit s.sys.unfencing f

@[simp] theorem endReset_sys (s : State) (u : Nat) : (endReset s u).sys = s.sys := by
  unfold endReset
  split
  · rfl
  · split <;> rfl

/-- The reset of unit `u` is over, and the fence it lifts is open. -/
def resetOver (s : State) (u : Nat) : State :=
  match fenceOfReset u with
  | some f => if nbit s.sys.unfencing f then liftFence (endReset s u) f else endReset s u
  | none => endReset s u

theorem doUnitResetEnd_runs {s : State} {u : Nat} (run : s.running = true) (runs : resetRuns s u = true) :
    doUnitResetEnd u s =
      if u = 15 ∨ u = 16 then restartPort (resetOver s u) (u - 15)
      else if u = 24 then (resetOver s u).setWord SYS_SVC_CNT.addr 0 else resetOver s u := by
  rw [resetRuns] at runs
  simp only [doUnitResetEnd, resetOver, run, runs, Bool.not_true, Bool.or_self, Bool.false_eq_true, if_false]
  cases fenceOfReset u with
  | none => simp only [Option.any_none, Bool.false_eq_true, if_false]
  | some f => simp only [Option.any_some]

theorem doUnitResetEnd_idle {s : State} {u : Nat} (h : s.running = false ∨ resetRuns s u = false) :
    doUnitResetEnd u s = s := by
  unfold doUnitResetEnd
  rw [resetRuns] at h
  rcases h with h | h <;> simp [h]

theorem endReset_inUnitReset (s : State) {u : Nat} (hu : u < 23) : (endReset s u).inUnitReset u = false := by
  have fits : clrBit (s.word SYS_URST_STAT.addr).toNat u < 2 ^ 32 :=
    Nat.lt_of_le_of_lt (clrBit_le _ u) (s.word SYS_URST_STAT.addr).isLt
  simp only [endReset, hu, if_true, State.inUnitReset, State.word_setWord_same, BitVec.toNat_ofNat,
    Nat.mod_eq_of_lt fits, nbit_clrBit_same]

theorem resetRuns_eq_iff (s : State) (u : Nat) (b : Bool) :
    resetRuns s u = b ↔
      if u < 23 then s.inUnitReset u = b else (fenceOfReset u).any (fun f => nbit s.sys.unfencing f) = b := by
  unfold resetRuns
  split <;> rfl

/-! ### Commands that are an access to a named register -/

/-- The address operand of an access reads as the address of the space of 2^40 bytes that it names. -/
theorem toNat_ofNat_address {a : Nat} (ha : a < 2 ^ 40) : (BitVec.ofNat 40 a).toNat = a := Nat.mod_eq_of_lt ha

theorem next_congr {s u : State} (h : s = u) : (.next s : Host.Outcome State Fault Refusal) = .next u :=
  congrArg _ h

theorem exec_registerWrite (s : State) (t : Fin 8) (a : BitVec 40) (v : Word) :
    exec (.registerWrite t a v) s = .next (doWrite s t a.toNat v) := rfl

theorem exec_rcRead (s : State) (t : Fin 8) (a : BitVec 40) : exec (.rcRead t a) s = .next (doRead s t a.toNat) := rfl

/-- A command that writes `v` at `a` is the register write of that address. -/
theorem exec_eq_registerWrite {c : Instr} {s : State} {t : Fin 8} {a : Nat} {v : Word} (ha : a < 2 ^ 40)
    (h : exec c s = .next (doWrite s t a v)) : exec c s = exec (.registerWrite t (BitVec.ofNat 40 a) v) s := by
  rw [h, exec_registerWrite, toNat_ofNat_address ha]

/-- A command that reads at `a` is the register read of that address. -/
theorem exec_eq_rcRead {c : Instr} {s : State} {t : Fin 8} {a : Nat} (ha : a < 2 ^ 40)
    (h : exec c s = .next (doRead s t a)) : exec c s = exec (.rcRead t (BitVec.ofNat 40 a)) s := by
  rw [h, exec_rcRead, toNat_ofNat_address ha]

/-- A field set above all bits of a word adds its value at its place. -/
theorem wordSet_above {x lo wid n : Nat} (hx : x < 2 ^ lo) (hn : n < 2 ^ wid) :
    wordSet (BitVec.ofNat 32 x) lo wid n = BitVec.ofNat 32 (x + 2 ^ lo * n) := by
  apply BitVec.eq_of_getLsbD_eq
  intro i hi
  rw [wordSet_bit _ lo wid n i hi, BitVec.getLsbD_ofNat, BitVec.getLsbD_ofNat, Nat.add_comm x,
    Nat.testBit_two_pow_mul_add n hx]
  have beyond : lo + wid ≤ i → n.testBit (i - lo) = false := fun h =>
    Nat.testBit_lt_two_pow (Nat.lt_of_lt_of_le hn (Nat.pow_le_pow_right (by omega) (by omega)))
  have above : lo ≤ i → x.testBit i = false := fun h =>
    Nat.testBit_lt_two_pow (Nat.lt_of_lt_of_le hx (Nat.pow_le_pow_right (by omega) h))
  by_cases h1 : lo ≤ i
  · by_cases h2 : i < lo + wid
    · simp [hi, h1, h2, Nat.not_lt.mpr h1]
    · simp [hi, h2, Nat.not_lt.mpr h1, beyond (Nat.le_of_not_lt h2), above h1]
  · simp [hi, h1, Nat.lt_of_not_le h1]

/-- Settles O10: accesses by `doWrite_of_lets` and `doRead_of_lets`, the timed apply and the end of a unit reset by what
their operations do, and each named command by the access that it is. -/
theorem registerAccessesComplete : Obligations.RegisterAccessesComplete := by
  refine ⟨fun s t a v r lets al hr => ?write, fun s t a r lets al hr => ?read, fun s t v lets => ?apply,
    fun s t v lets => ?arm, fun s t v lets => ?reset, fun s u run armed hu => ?fire, fun s h => ?unarmed,
    fun s v u run runs hv => ?resetEnd, fun s u h => ?noReset, fun s u => endReset_inUnitReset s u.isLt, ?named, ?namedReads⟩
  case write =>
    have effect := next_congr (doWrite_of_lets lets al hr v)
    exact ⟨effect, effect, effect⟩
  case read =>
    have effect := next_congr (doRead_of_lets lets al hr)
    exact ⟨effect, effect⟩
  case apply => exact next_congr (doWrite_updApply v lets)
  case arm => exact next_congr (doWrite_updAtMask v lets)
  case reset => exact next_congr (doWrite_urst v lets)
  case fire =>
    subst hu
    exact ⟨next_congr (doTimedApplyFire_armed run armed), applyInstant_now s⟩
  case unarmed => exact next_congr (doTimedApplyFire_unarmed h)
  case resetEnd =>
    subst hv
    exact next_congr (doUnitResetEnd_runs run ((resetRuns_eq_iff s u true).mpr runs))
  case noReset =>
    exact next_congr (doUnitResetEnd_idle (h.imp_right (resetRuns_eq_iff s u false).mpr))
  case namedReads =>
    exact fun s t => ⟨exec_eq_rcRead (by decide) rfl, exec_eq_rcRead (by decide) rfl,
      fun p => exec_eq_rcRead (by decide +revert) rfl⟩
  case named =>
    rintro s t _ rfl
    refine ⟨fun v => ?single, fun v n => ?wakeTimer, fun v k => ?sticky, fun v i => ?tach, fun v n => ?four, fun v i => ?readPointer,
      fun v x l => ?lane, fun n => ?alloc, fun u => ?free, fun u => ?transaction, fun n => ?axis, fun x => ?grove, fun L => ?lines⟩
    case single => and_intros <;> exact exec_eq_registerWrite (by decide) rfl
    case wakeTimer => exact exec_eq_registerWrite (by decide +revert) rfl
    case sticky => exact exec_eq_registerWrite (by decide +revert) rfl
    case tach => and_intros <;> exact exec_eq_registerWrite (by decide +revert) rfl
    case four => and_intros <;> exact exec_eq_registerWrite (by decide +revert) rfl
    case readPointer => exact exec_eq_registerWrite (by simp only [REC_SUB_RDPTR.addr]; omega) rfl
    case lane => exact exec_eq_registerWrite (by decide +revert) rfl
    case alloc =>
      have word : wordSet 1 3 9 n.val = BitVec.ofNat 32 (1 + 8 * n.val) := wordSet_above (by decide) n.isLt
      exact exec_eq_registerWrite (by decide) (word ▸ rfl)
    case free =>
      have one : wordSet 2 16 14 u.val = BitVec.ofNat 32 (2 + 65536 * u.val) := wordSet_above (by decide) u.isLt
      have chain : wordSet 3 16 14 u.val = BitVec.ofNat 32 (3 + 65536 * u.val) := wordSet_above (by decide) u.isLt
      exact ⟨exec_eq_registerWrite (by decide) (one ▸ rfl), exec_eq_registerWrite (by decide) (chain ▸ rfl)⟩
    case transaction => and_intros <;> exact exec_eq_registerWrite (by decide +revert) rfl
    case axis => and_intros <;> exact exec_eq_registerWrite (by decide +revert) rfl
    case grove => and_intros <;> exact exec_eq_registerWrite (by decide +revert) rfl
    case lines =>
      have bit (k : Nat) : wordSet 0 k 1 1 = BitVec.ofNat 32 (2 ^ k) := by
        simpa using wordSet_above (Nat.two_pow_pos k) (show 1 < 2 ^ 1 by decide)
      exact ⟨exec_eq_registerWrite (by decide) (bit L.val ▸ rfl), exec_eq_registerWrite (by decide) (bit (4 + L.val) ▸ rfl)⟩

end Sys2Proof.Machine
end

section
/-! Class ALARM at the scheduler (R25, R474 to R476, R483): deficit round robin finds an eligible subscriber within one
round, so an ALARM head that may be sent is not passed over. -/

namespace Sys2Proof.Machine

/-! ### Heads of queues -/

theorem headCredited_iff (s : State) (x u c : Nat) :
    headCredited s x u c = true ↔ ∃ e, headOf s x u c = some e ∧ (u = 4 ∨ hostCreditOk s u e.f = true) := by
  unfold headCredited
  split
  next noHead => simp [noHead]
  next e head => simp [head]

theorem headCredited_of_headReady {s : State} {x u c : Nat} (ready : headReady s x u c = true) :
    headCredited s x u c = true := by
  unfold headReady at ready
  split at ready
  · contradiction
  · exact (Bool.and_eq_true_iff.mp ready).2

theorem exists_head_of_headReady {s : State} {x u c : Nat} (ready : headReady s x u c = true) :
    ∃ e, headOf s x u c = some e := by
  obtain ⟨e, head, -⟩ := (headCredited_iff s x u c).mp (headCredited_of_headReady ready)
  exact ⟨e, head⟩

/-! ### Deficit round robin (R475) -/

theorem drrWeight_pos (s : State) (x u : Nat) : 0 < drrWeight s x u := by
  unfold drrWeight
  split
  · exact Nat.one_pos
  · exact Nat.le_max_left 1 _

section RoundRobin
variable {elig : Nat → Bool} {size weight : Nat → Nat} {empty : Nat → Bool}

theorem drr_elig {fuel u v : Nat} {d d' : List Nat} (h : drr elig size weight empty fuel u d = some (v, d')) :
    elig v = true := by
  induction fuel generalizing u d with
  | zero => cases h
  | succ fuel ih =>
    unfold drr at h
    split at h
    next sends =>
      obtain ⟨rfl, -⟩ := Prod.mk.inj (Option.some.inj h)
      exact (Bool.and_eq_true_iff.mp sends).1
    next => exact ih h

/-- A subscriber whose deficit covers its head sends at its turn. -/
theorem drr_ne_none_of_covered {fuel u : Nat} {d : List Nat} (eligible : elig u = true) (covered : size u ≤ d.getD u 0) :
    drr elig size weight empty (fuel + 1) u d ≠ none := by
  simp only [drr, eligible, covered, decide_true, Bool.and_self, if_true]
  exact Option.some_ne_none _

/-- The turn comes to the subscriber `k + 1` places ahead, and what it then gains covers its head. -/
theorem drr_ne_none_of_ahead (gain : ∀ v, elig v = true → size v ≤ weight v * 288) {k fuel u : Nat} {d : List Nat}
    (five : d.length = 5) (eligible : elig ((u + k + 1) % 5) = true) (long : k + 2 ≤ fuel) :
    drr elig size weight empty fuel u d ≠ none := by
  induction k generalizing fuel u d with
  | zero =>
    obtain ⟨fuel, rfl⟩ : ∃ n, fuel = n + 2 := ⟨fuel - 2, by omega⟩
    rw [drr]
    split
    · exact Option.some_ne_none _
    · simp only [Nat.add_zero] at eligible
      refine drr_ne_none_of_covered eligible ?_
      have inRange : (u + 1) % 5 < (if empty u then modAt d u fun _ => 0 else d).length := by
        simp only [apply_ite List.length, modAt_length, five, ite_self]
        omega
      rw [if_pos eligible, modAt_getD _ _ _ _ inRange]
      exact Nat.le_add_left_of_le (gain _ eligible)
  | succ k ih =>
    obtain ⟨fuel, rfl⟩ : ∃ n, fuel = n + 1 := ⟨fuel - 1, by omega⟩
    rw [drr]
    split
    · exact Option.some_ne_none _
    · refine ih (by simp only [apply_ite List.length, modAt_length, five, ite_self]) ?_ (by omega)
      rwa [show ((u + 1) % 5 + k + 1) % 5 = (u + (k + 1) + 1) % 5 by omega]

/-- One round from any place finds a sender where some subscriber is eligible. -/
theorem drr_ne_none (gain : ∀ v, elig v = true → size v ≤ weight v * 288) {fuel u v : Nat} {d : List Nat}
    (five : d.length = 5) (hv : v < 5) (eligible : elig v = true) (long : 6 ≤ fuel) :
    drr elig size weight empty fuel u d ≠ none := by
  have place : (u + (v + 4 - u % 5) % 5 + 1) % 5 = v := by omega
  exact drr_ne_none_of_ahead gain five (place.symm ▸ eligible) (by omega)

end RoundRobin

/-! ### Selection -/

/-- A class with a head that may be sent, open and outside its guard band, gives one of its heads. -/
theorem selectClass_takes_head {s : State} {x u c : Nat} (hu : u < 5) (ready : headReady s x u c = true)
    (opened : gateOpen s x c = true) (unguarded : inGuard s x c = false)
    (fits : ∀ v e, headOf s x v c = some e → fsize e.f ≤ 288) :
    ∃ t e v, selectClass s x c = some (t, e) ∧ headOf s x v c = some e := by
  have someElig : (List.range 5).any (fun u => headReady s x u c) = true :=
    List.any_eq_true.mpr ⟨u, List.mem_range.mpr hu, ready⟩
  simp only [selectClass, opened, unguarded, Bool.and_true, Bool.not_false, someElig, Bool.not_true,
    Bool.false_eq_true, if_false]
  split
  next stuck =>
    refine absurd stuck (drr_ne_none (fun v eligible => ?_) (by simp) hu ready (by decide))
    obtain ⟨e, head⟩ := exists_head_of_headReady eligible
    simp only [head]
    calc fsize e.f ≤ 1 * 288 := fits v e head
      _ ≤ drrWeight s x v * 288 := Nat.mul_le_mul_right 288 (drrWeight_pos s x v)
  next v d turn =>
    obtain ⟨e, head⟩ := exists_head_of_headReady (drr_elig (elig := fun u => headReady s x u c) turn)
    simp only [head]
    exact ⟨_, e, v, rfl, head⟩

theorem gateOpen_alarm (s : State) (x : Nat) : gateOpen s x 0 = true := rfl

theorem inGuard_alarm (s : State) (x : Nat) : inGuard s x 0 = false := rfl

/-- Class ALARM comes before the TIME and CREDIT frames and every other class (R476). -/
theorem selectFrom_alarm {s : State} {x : Nat} {r : State × EgFrame} (cs : List Nat) (h : selectClass s x 0 = some r) :
    selectFrom s x (0 :: cs) = some r := by
  simp only [selectFrom, h]

theorem selectBypass_takes_alarm {s : State} {x u : Nat} (cs : List Nat) (hu : u < 5)
    (credited : headCredited s x u 0 = true) :
    ∃ t e v, selectBypass s x (0 :: cs) = some (t, e) ∧ headOf s x v 0 = some e := by
  obtain ⟨v, found⟩ : ∃ v, (List.range 5).find? (fun u => headCredited s x u 0) = some v :=
    Option.isSome_iff_exists.mp (List.find?_isSome.mpr ⟨u, List.mem_range.mpr hu, credited⟩)
  have first : headCredited s x v 0 = true := List.find?_some (p := fun u => headCredited s x u 0) found
  obtain ⟨e, head, -⟩ := (headCredited_iff s x v 0).mp first
  refine ⟨takeHead s x v 0, e, v, ?_, head⟩
  simp only [selectBypass, found, head]

/-! ### DELAY_REQ (R25, R108) -/

theorem alarmWaits_of_headReady {s : State} {x u : Nat} (hu : u < 5) (unfenced : s.fenced fenceTKS = false)
    (ready : headReady s x u 0 = true) : alarmWaits s x = true :=
  List.any_eq_true.mpr ⟨u, List.mem_range.mpr hu, by simpa [unfenced] using ready⟩

theorem doDelayReqTx_of_alarmWaits {s : State} {e : Exch} (exch : s.tim.exch = some e) (waits : alarmWaits s e.port = true) :
    doDelayReqTx s = s := by
  simp [doDelayReqTx, exch, waits]

/-- Settles O56: the scheduler's part rests on `drr_ne_none`, since every weight gains at least one longest frame. -/
theorem alarmFirst : Obligations.AlarmFirst := by
  refine ⟨fun s x => ⟨gateOpen_alarm s x, inGuard_alarm s x⟩, fun s x u ready fits => ?scheduler,
    fun s x u e head credit => ?bypass, fun s e u exch unfenced ready => ?delayReq⟩
  case scheduler =>
    obtain ⟨t, e, v, taken, head⟩ := selectClass_takes_head u.isLt ready (gateOpen_alarm s x) (inGuard_alarm s x) fits
    exact ⟨t, e, v, selectFrom_alarm _ taken, head⟩
  case bypass =>
    have credited : headCredited s x u 0 = true :=
      (headCredited_iff s x u 0).mpr ⟨e, head, credit.imp_left fun four => congrArg Fin.val four⟩
    exact selectBypass_takes_alarm [1, 2] u.isLt credited
  case delayReq =>
    exact next_congr (doDelayReqTx_of_alarmWaits exch (alarmWaits_of_headReady u.isLt unfenced ready))

end Sys2Proof.Machine
end

section
/-! Boots and resets (R34, R36, R48, R64 to R67, R375, R713): what telling the cores and hosts of a change leaves alone,
and the steps of Table 03-5. -/

namespace Sys2Proof.Machine

/-! ### Fields of registers that an operation does not name -/

theorem State.word_setFld_other (s : State) {r : FRef} {a : Nat} (n : Nat) (h : r.addr ≠ a) :
    (s.setFld r n).word a = s.word a := State.word_setWord_other _ _ _ _ h

theorem State.fld_of_word_eq {s t : State} {r : FRef} (h : t.word r.addr = s.word r.addr) : t.fld r = s.fld r := by
  simp only [State.fld, h]

theorem State.bit_of_word_eq {s t : State} {r : FRef} (h : t.word r.addr = s.word r.addr) : t.bit r = s.bit r := by
  simp only [State.bit, State.fld_of_word_eq h]

/-- A flag of another register, or another flag of the register, reads as before. -/
theorem State.bit_setFld_other (s : State) {r q : FRef} (n : Nat) (h : q.lo + q.wid ≤ 32)
    (apart : r.addr ≠ q.addr ∨ q.lo + q.wid ≤ r.lo ∨ r.lo + r.wid ≤ q.lo) : (s.setFld r n).bit q = s.bit q := by
  simp only [State.bit, State.fld_setFld_other s r q n h apart]

theorem State.bit_setBit_other (s : State) {r q : FRef} (b : Bool) (h : q.lo + q.wid ≤ 32)
    (apart : r.addr ≠ q.addr ∨ q.lo + q.wid ≤ r.lo ∨ r.lo + r.wid ≤ q.lo) : (s.setBit r b).bit q = s.bit q :=
  State.bit_setFld_other s (b2n b) h apart

@[simp] theorem State.bit_modPwr (s : State) (f : Pwr → Pwr) (r : FRef) : (s.modPwr f).bit r = s.bit r := rfl

/-! ### What interrupts and messages leave alone -/

/-- From `s` to `t` power state, memory and the registers below the crew cores' block stay: interrupts go to the cores and
messages to the trunk, both above it. -/
structure SameBelowCrew (s t : State) : Prop where
  pwr : t.pwr = s.pwr
  mem : t.mem = s.mem
  word : ∀ a < CRW_STATUS.addr, t.word a = s.word a

theorem SameBelowCrew.refl (s : State) : SameBelowCrew s s := ⟨rfl, rfl, fun _ _ => rfl⟩

theorem SameBelowCrew.trans {s t u : State} (hst : SameBelowCrew s t) (htu : SameBelowCrew t u) : SameBelowCrew s u :=
  ⟨htu.pwr.trans hst.pwr, htu.mem.trans hst.mem, fun a ha => (htu.word a ha).trans (hst.word a ha)⟩

theorem SameBelowCrew.setFld {s t : State} (h : SameBelowCrew s t) {r : FRef} (n : Nat) (hr : CRW_STATUS.addr ≤ r.addr) :
    SameBelowCrew s (t.setFld r n) :=
  h.trans ⟨rfl, rfl, fun _ ha => State.word_setFld_other t n (Nat.ne_of_gt (Nat.lt_of_lt_of_le ha hr))⟩

theorem sameBelowCrew_foldl {α : Type} (f : State → α → State) (step : ∀ s x, SameBelowCrew s (f s x)) (l : List α) (s : State) :
    SameBelowCrew s (l.foldl f s) := by
  induction l generalizing s with
  | nil => exact .refl s
  | cons x l ih => exact (step s x).trans (ih (f s x))

theorem sameBelowCrew_wakeCores (s : State) : SameBelowCrew s (wakeCores s) := by
  refine sameBelowCrew_foldl _ (fun s c => ?_) _ s
  dsimp only
  split
  · exact SameBelowCrew.setFld (s := s) (t := wdogNote s c (wdogSpent s c)) (r := ⟨CRW_STATUS.addr, 3 * c, 3⟩)
      ⟨rfl, rfl, fun _ _ => rfl⟩ 1 (Nat.le_refl _)
  · exact .refl s

theorem sameBelowCrew_plicRaise (s : State) (n : Nat) : SameBelowCrew s (plicRaise s n) := by
  unfold plicRaise
  refine SameBelowCrew.trans ?_ (sameBelowCrew_wakeCores _)
  split <;> exact ⟨rfl, rfl, fun _ _ => rfl⟩

theorem crwStatus_le_tksCnt (x : Nat) : CRW_STATUS.addr ≤ TKS_CNT.addr x :=
  Nat.le_trans (by decide : CRW_STATUS.addr ≤ 0x401a1018) (Nat.le_add_right _ _)

theorem sameBelowCrew_enqueue (s : State) (x u : Nat) {e : EgFrame} (plain : e.use = .plain) :
    SameBelowCrew s (enqueue s x u e) := by
  have dropped : SameBelowCrew s (s.count (TKS_CNT.QDROP x)) := (SameBelowCrew.refl s).setFld _ (crwStatus_le_tksCnt x)
  unfold enqueue
  split
  · simp only [loseFrame, discardFrame, plain]
    split
    · exact .refl s
    · exact dropped
  · split
    · exact ⟨rfl, rfl, fun _ _ => rfl⟩
    · dsimp only
      split
      · refine SameBelowCrew.trans (dropped.setFld _ ?_) (sameBelowCrew_plicRaise _ 18)
        split <;> decide
      · exact ⟨rfl, rfl, fun _ _ => rfl⟩

theorem sameBelowCrew_routeMsg (s : State) (route : Nat → Bool) (f : Frame) : SameBelowCrew s (routeMsg s route f) := by
  refine sameBelowCrew_foldl _ (fun s t => ?_) _ s
  split
  · exact sameBelowCrew_enqueue s _ t rfl
  · exact .refl s

/-! ### Entering a mode -/

/-- The base mode that goes with mode `m` (R51). -/
def baseOf (s : State) (m : Mode) : Mode := if m = .degraded then s.pwr.mode else m

/-- Mode `m` is told to the cores and hosts. -/
def tellMode (s : State) (m : Mode) : State :=
  let raised := plicRaise (s.setBit SYS_SVC_IRQ.MODE_CHG true) plicMODE
  sendModeMsg { raised with pwr := { raised.pwr with base := baseOf s m } } m raised.pwr.mode

theorem enter_eq (s : State) (m : Mode) (q : Seq) :
    let told := if m != s.pwr.mode && m != .off && m != .root then tellMode s m else s
    s.enter m q = { told with pwr := { told.pwr with mode := m, base := baseOf s m, seq := q } } := rfl

/-- But for the base mode and SYS_SVC_IRQ, all below the crew cores stays. -/
theorem tellMode_same (s : State) (m : Mode) :
    (tellMode s m).pwr = { s.pwr with base := baseOf s m } ∧ (tellMode s m).mem = s.mem ∧
      ∀ a < CRW_STATUS.addr, SYS_SVC_IRQ.addr ≠ a → (tellMode s m).word a = s.word a := by
  have raised := sameBelowCrew_plicRaise (s.setBit SYS_SVC_IRQ.MODE_CHG true) plicMODE
  have sent (u : State) (old : Mode) : SameBelowCrew u (sendModeMsg u m old) := sameBelowCrew_routeMsg _ _ _
  refine ⟨(sent _ _).pwr.trans ?_, (sent _ _).mem.trans raised.mem, fun a ha hne => ?_⟩
  · rw [raised.pwr, State.setBit_pwr]
  · exact ((sent _ _).word a ha).trans ((raised.word a ha).trans (State.word_setFld_other s _ hne))

@[simp] theorem enter_pwr (s : State) (m : Mode) (q : Seq) :
    (s.enter m q).pwr = { s.pwr with mode := m, base := baseOf s m, seq := q } := by
  rw [enter_eq]
  split
  · rw [(tellMode_same s m).1]
  · rfl

@[simp] theorem enter_mem (s : State) (m : Mode) (q : Seq) : (s.enter m q).mem = s.mem := by
  rw [enter_eq]
  split
  · exact (tellMode_same s m).2.1
  · rfl

theorem enter_word (s : State) (m : Mode) (q : Seq) {a : Nat} (ha : a < CRW_STATUS.addr) (hne : SYS_SVC_IRQ.addr ≠ a) :
    (s.enter m q).word a = s.word a := by
  rw [enter_eq]
  split
  · exact (tellMode_same s m).2.2 a ha hne
  · rfl

/-! ### The boot's event (R352) and the hold without an image (R67) -/

/-- The entry of a boot waits for its commit, or is counted as lost: no word but those two counters', no memory. -/
theorem logBoot_same (s : State) : (logBoot s).mem = s.mem ∧ (logBoot s).pwr = { s.pwr with bootLogged := true } ∧
    ∀ a, BRK_STATUS.addr ≠ a → HWD_EVT_CNT.addr ≠ a → (logBoot s).word a = s.word a := by
  unfold logBoot
  split
  next logged => exact ⟨rfl, by rw [← logged], fun _ _ _ => rfl⟩
  next =>
    unfold logOther addEvent
    split
    · exact ⟨rfl, rfl, fun a lost _ => State.word_setFld_other _ _ lost⟩
    · split
      · exact ⟨rfl, rfl, fun a _ dropped => State.word_setFld_other _ _ dropped⟩
      · exact ⟨rfl, rfl, fun _ _ _ => rfl⟩

@[simp] theorem logBoot_mem (s : State) : (logBoot s).mem = s.mem := (logBoot_same s).1

@[simp] theorem logBoot_pwr (s : State) : (logBoot s).pwr = { s.pwr with bootLogged := true } := (logBoot_same s).2.1

theorem logBoot_word (s : State) {a : Nat} (lost : BRK_STATUS.addr ≠ a) (dropped : HWD_EVT_CNT.addr ≠ a) :
    (logBoot s).word a = s.word a := (logBoot_same s).2.2 a lost dropped

@[simp] theorem holdNoImage_mem (s : State) : (holdNoImage s).mem = s.mem := by
  rw [holdNoImage, logBoot_mem]
  rfl

@[simp] theorem holdNoImage_pwr (s : State) :
    (holdNoImage s).pwr = { s.pwr with phase := .held, bootLogged := true } := by
  rw [holdNoImage, logBoot_pwr]
  rfl

/-- NO_IMAGE is set, the other flags of SYS_BOOT_STAT stay. -/
theorem holdNoImage_word (s : State) {a : Nat} (lost : BRK_STATUS.addr ≠ a) (dropped : HWD_EVT_CNT.addr ≠ a) :
    (holdNoImage s).word a = (s.setBit SYS_BOOT_STAT.NO_IMAGE true).word a := logBoot_word _ lost dropped

/-! ### Power-on reset (R53, R713) -/

/-- From `s` to `t` power state, Root memory and staged words stay. -/
structure SameRoot (s t : State) : Prop where
  pwr : t.pwr = s.pwr
  rmem : t.rmem = s.rmem
  stg : t.stg = s.stg

theorem SameRoot.trans {s t u : State} (hst : SameRoot s t) (htu : SameRoot t u) : SameRoot s u :=
  ⟨htu.pwr.trans hst.pwr, htu.rmem.trans hst.rmem, htu.stg.trans hst.stg⟩

theorem sameRoot_foldl {α : Type} (f : State → α → State) (step : ∀ s x, SameRoot s (f s x)) (l : List α) (s : State) :
    SameRoot s (l.foldl f s) := by
  induction l generalizing s with
  | nil => exact ⟨rfl, rfl, rfl⟩
  | cons x l ih => exact (step s x).trans (ih (f s x))

theorem sameRoot_axesAtRest (s : State) : SameRoot s (axesAtRest s) := by
  refine sameRoot_foldl _ (fun s n => ?_) _ s
  exact ⟨rfl, rfl, rfl⟩

theorem sameRoot_clearAxes (s : State) : SameRoot s (clearAxes s) := by
  obtain ⟨pwr, rmem, stg⟩ := sameRoot_axesAtRest
    { s with mot := {}, drv := { tripN := s.drv.tripN, otpHot := s.drv.otpHot, clkLost := s.drv.clkLost } }
  exact ⟨pwr, rmem, stg⟩

theorem sameRoot_clearTrunk (s : State) : SameRoot s (clearTrunk s) := by
  refine SameRoot.trans (t := { s with tk := [{}, {}], tks := {}, th := {} }) ⟨rfl, rfl, rfl⟩
    (sameRoot_foldl _ (fun s x => ?_) _ _)
  exact ⟨rfl, rfl, rfl⟩

theorem sameRoot_clearVolatile (old s : State) : SameRoot s (clearVolatile old s) := by
  have units : SameRoot s (clearAxes (clearTrunk (resetCrew (hwdVolatileLost s)))) :=
    SameRoot.trans (t := resetCrew (hwdVolatileLost s)) ⟨rfl, rfl, rfl⟩ ((sameRoot_clearTrunk _).trans (sameRoot_clearAxes _))
  unfold clearVolatile
  generalize clearAxes (clearTrunk (resetCrew (hwdVolatileLost s))) = u at units ⊢
  exact ⟨units.pwr, units.rmem, units.stg⟩

theorem sameRoot_porVolatile (s : State) : SameRoot s (porVolatile s) := by
  obtain ⟨pwr, rmem, stg⟩ := sameRoot_clearVolatile s s
  exact SameRoot.trans (t := { clearVolatile s s with groot := {}, watch := {} }) ⟨pwr, rmem, stg⟩ (sameRoot_axesAtRest _)

/-- After a power-on reset Root has power, no retained state, and the node stays in OFF. -/
theorem powerOnReset_root (s : State) : let t := powerOnReset s
    t.pwr.rootPowered = true ∧ t.pwr.mode = .off ∧ t.pwr.phase = .none ∧ t.pwr.booted = false ∧ t.pwr.safeLatch = false ∧
      t.rmem = [] ∧ t.stg = [] := by
  obtain ⟨pwr, rmem, stg⟩ : SameRoot (porState s) (powerOnReset s) := sameRoot_porVolatile _
  dsimp only
  rw [pwr, rmem, stg]
  exact ⟨rfl, rfl, rfl, rfl, rfl, rfl, rfl⟩

/-! ### Starting a boot (R48, R64) -/

theorem startBoot_of_high {s : State} (q : Seq) (why : BootWhy) (high : s.pwr.rstLow = false) :
    startBoot s q why = startRails s q why := by
  have : (startRails s q why).pwr.rstLow = false := high
  simp [startBoot, this]

theorem startBoot_of_low {s : State} (q : Seq) (why : BootWhy) (low : s.pwr.rstLow = true) (vio : s.pwr.vioGenOk = true) :
    startBoot s q why = nodeReset (startRails s q why) true := by
  have lowStill : (startRails s q why).pwr.rstLow = true := low
  have vioStill : (startRails s q why).pwr.vioGenOk = true := vio
  simp [startBoot, lowStill, vioStill]

theorem startRails_word (s : State) (q : Seq) (why : BootWhy) {a : Nat} (h : SYS_BOOT_STAT.addr ≠ a) :
    (startRails s q why).word a = s.word a := State.word_setFld_other _ _ h

/-- The word that SYS_STRAP takes at sampling: its low byte is the straps' levels (Table 05-13). -/
def strapWord (s : State) (straps : Nat) (vio18 : Bool) : Word :=
  BitVec.ofNat 32 (straps % 256 + (if 5 ≤ straps % 8 then 0x100 else 0) + (if vio18 then 0x200 else 0) +
    (s.word SYS_STRAP.addr).toNat / 0x400 % 2 * 0x400)

theorem strapWord_levels (s : State) (straps : Nat) (vio18 : Bool) : (strapWord s straps vio18).toNat % 256 = straps % 256 := by
  rw [strapWord, BitVec.toNat_ofNat]
  split <;> split <;> omega

/-- The straps are sampled, and VIO_GEN is in range. -/
def strapsRead (s : State) (straps : Nat) (vio18 : Bool) : State :=
  resetCrewDbg ((s.setWord SYS_STRAP.addr (strapWord s straps vio18)).modPwr fun p => { p with vioGenOk := true })

theorem sampleStraps_eq (s : State) (straps : Nat) (vio18 : Bool) :
    sampleStraps s straps vio18 = (startBoot (strapsRead s straps vio18) .cold (.start true)).modPwr fun p =>
      if p.rstHeld then p else { p with bootStart := s.pwr.bootStart } := rfl

theorem strapsRead_word (s : State) (straps : Nat) (vio18 : Bool) :
    (strapsRead s straps vio18).word SYS_STRAP.addr = strapWord s straps vio18 := by
  have apart : CRW_DBG.addr ≠ SYS_STRAP.addr := by decide
  exact (State.word_setWord_other _ _ _ _ apart).trans (State.word_setWord_same s SYS_STRAP.addr _)

/-- With RST_N high, sampling the straps starts the rails step. -/
theorem sampleStraps_of_high {s : State} (straps : Nat) (vio18 : Bool) (high : s.pwr.rstLow = false) :
    let t := sampleStraps s straps vio18
    t.pwr.mode = .waking ∧ t.pwr.phase = .rails ∧ t.pwr.booted = true ∧ t.mem = s.mem ∧
      (t.word SYS_STRAP.addr).toNat % 256 = straps % 256 := by
  have boots : startBoot (strapsRead s straps vio18) .cold (.start true) =
      startRails (strapsRead s straps vio18) .cold (.start true) := startBoot_of_high _ _ high
  have word : (startRails (strapsRead s straps vio18) .cold (.start true)).word SYS_STRAP.addr = strapWord s straps vio18 :=
    (startRails_word _ _ _ (by decide)).trans (strapsRead_word s straps vio18)
  simp only [sampleStraps_eq, boots]
  refine ⟨?_, ?_, ?_, rfl, (congrArg (fun w => w.toNat % 256) word).trans (strapWord_levels s straps vio18)⟩ <;>
    simp only [State.modPwr] <;> split <;> rfl

/-- With RST_N low the boot is held in its rails step. -/
theorem sampleStraps_of_low {s : State} (straps : Nat) (vio18 : Bool) (low : s.pwr.rstLow = true) :
    let t := sampleStraps s straps vio18
    t.pwr.mode = .waking ∧ t.pwr.phase = .rails ∧ t.pwr.rstHeld = true := by
  have boots : startBoot (strapsRead s straps vio18) .cold (.start true) =
      nodeReset (startRails (strapsRead s straps vio18) .cold (.start true)) true := startBoot_of_low _ _ low rfl
  simp only [sampleStraps_eq, boots]
  exact ⟨rfl, rfl, rfl⟩

/-! ### The steps of a boot -/

/-- VIN is valid in `s`, Root having power. -/
def vinTaken (s : State) : State := s.modPwr fun p => { p with vinOk := true, qualRun := !p.vinQual }

/-- A cold boot starts with VIN valid in OFF (R64, R713). -/
theorem startColdBoot_vinTaken {s : State} (mode : s.pwr.mode = .off) : let t := startColdBoot (vinTaken s)
    t.pwr.vinOk = true ∧ t.pwr.phase = .rootUp ∧ t.pwr.seq = .cold ∧ t.pwr.mode = .off ∧ t.bit SYS_BOOT_STAT.POR = true ∧
      t.mem = s.mem ∧ t.rmem = s.rmem :=
  ⟨rfl, rfl, rfl, mode, State.bit_setBit (vinTaken s) SYS_BOOT_STAT.POR true (by decide) rfl, rfl, rfl⟩

theorem doVinValid_cold {s : State} (root : s.pwr.rootPowered = true) (mode : s.pwr.mode = .off) (phase : s.pwr.phase = .none)
    (booted : s.pwr.booted = false) : doVinValid s = startColdBoot (vinTaken s) := by
  have cold : (vinTaken s).pwr.mode = .off ∧ (vinTaken s).pwr.phase = .none ∧ (!(vinTaken s).pwr.booted) = true :=
    ⟨mode, phase, by simp [vinTaken, State.modPwr, booted]⟩
  simp only [doVinValid, root, if_true]
  exact if_pos cold

theorem doVinValid_warm {s : State} (root : s.pwr.rootPowered = true)
    (warm : s.pwr.mode ≠ .off ∨ s.pwr.phase ≠ .none ∨ s.pwr.booted = true) : doVinValid s = vinTaken s := by
  simp only [doVinValid, root, if_true]
  refine if_neg ?_
  rintro ⟨mode, phase, booted⟩
  have unbooted : s.pwr.booted = false := by simpa [State.modPwr] using booted
  rcases warm with h | h | h
  · exact h mode
  · exact h phase
  · exact absurd h (by simp [unbooted])

/-- Without power in Root a power-on reset comes first, and the boot is cold. -/
theorem doVinValid_rootless {s : State} (root : s.pwr.rootPowered = false) :
    doVinValid s = startColdBoot (vinTaken (powerOnReset s)) := by
  obtain ⟨powered, mode, phase, booted, -⟩ := powerOnReset_root s
  calc doVinValid s
    _ = doVinValid (powerOnReset s) := by simp only [doVinValid, root, powered, if_true, Bool.false_eq_true, if_false]
    _ = startColdBoot (vinTaken (powerOnReset s)) := doVinValid_cold powered mode phase booted

/-- The four PLLs are shown locked. -/
def pllsLocked (s : State) : State :=
  (((s.setBit TIM_STATUS.SYS_PLL true).setBit TIM_STATUS.TB_PLL true).setBit TIM_STATUS.TRK_PLL_A true).setBit
    TIM_STATUS.TRK_PLL_B true

/-- The clocks of the M-die run: after a wake the timebase starts in HOLDOVER (R106). -/
def clocksRun (s : State) : State :=
  (if s.pwr.seq = .warm then (pllsLocked s).setFld TIM_STATUS.STATE 3 else pllsLocked s).modPwr fun p => { p with phase := .mdie }

theorem pllsLocked_bit (s : State) {r : FRef}
    (h : r ∈ [TIM_STATUS.SYS_PLL, TIM_STATUS.TB_PLL, TIM_STATUS.TRK_PLL_A, TIM_STATUS.TRK_PLL_B]) :
    (pllsLocked s).bit r = true := by
  unfold pllsLocked
  simp only [List.mem_cons, List.not_mem_nil, or_false] at h
  rcases h with rfl | rfl | rfl | rfl <;> simp (disch := decide) only [State.bit_setBit, State.bit_setBit_other]

theorem clocksRun_bit (s : State) {r : FRef}
    (h : r ∈ [TIM_STATUS.SYS_PLL, TIM_STATUS.TB_PLL, TIM_STATUS.TRK_PLL_A, TIM_STATUS.TRK_PLL_B]) :
    (clocksRun s).bit r = true := by
  have apart : r.lo + r.wid ≤ 32 ∧ TIM_STATUS.STATE.lo + TIM_STATUS.STATE.wid ≤ r.lo := by
    revert r
    decide
  refine Eq.trans ?_ (pllsLocked_bit s h)
  rw [clocksRun, State.bit_modPwr]
  split
  · exact State.bit_setFld_other _ _ apart.1 (.inr (.inr apart.2))
  · rfl

theorem clocksRun_same (s : State) : (clocksRun s).pwr.phase = .mdie ∧ (clocksRun s).mem = s.mem ∧ (clocksRun s).tim = s.tim := by
  unfold clocksRun
  split <;> exact ⟨rfl, rfl, rfl⟩

theorem doPllStepEnd_pll {s : State} (mode : s.pwr.mode = .waking) (phase : s.pwr.phase = .pll) :
    doPllStepEnd s = driveStarts (trunkRestart (clocksRun s)) := if_pos ⟨mode, phase⟩

/-- MTIME starts at 0 with the rails (R375). -/
theorem mtime_setMtime_zero (s : State) (p : Pwr) : mtime { setMtime s 0 with pwr := p } = 0 := by
  simp [mtime, setMtime]

/-- With nothing held for Bark, nothing is handed to it. -/
theorem handHeldEvents_none {s : State} (none : s.pwr.heldSrc = []) :
    handHeldEvents s = { s with pwr := { s.pwr with heldSrc := [] } } := by
  rw [handHeldEvents, none]
  rfl

theorem selectBootSlot_same (s : State) : (selectBootSlot s).pwr.mode = s.pwr.mode ∧ (selectBootSlot s).mem = s.mem ∧
    (selectBootSlot s).bit HWD_STATUS.READY = s.bit HWD_STATUS.READY := by
  unfold selectBootSlot
  split
  · exact ⟨rfl, rfl, rfl⟩
  · refine ⟨by rw [holdNoImage_pwr], holdNoImage_mem s, State.bit_of_word_eq ?_⟩
    rw [holdNoImage_word s (by decide) (by decide)]
    exact State.word_setFld_other s _ (by decide)

theorem enterLoad_same (s : State) (q : Seq) : (enterLoad s q).pwr.mode = .load ∧ (enterLoad s q).mem = s.mem ∧
    (enterLoad s q).bit HWD_STATUS.READY = s.bit HWD_STATUS.READY := by
  have mode : (s.enter .load q).pwr.mode = .load := by rw [enter_pwr]
  have mem := enter_mem s .load q
  have ready : (s.enter .load q).bit HWD_STATUS.READY = s.bit HWD_STATUS.READY :=
    State.bit_of_word_eq (enter_word s _ _ (by decide) (by decide))
  unfold enterLoad
  generalize s.enter .load q = u at mode mem ready ⊢
  dsimp only
  split
  · refine ⟨mode, mem, Eq.trans ?_ ready⟩
    exact (State.bit_setFld_other (u.setBit SYS_BOOT_STAT.PATH true) _ (by decide) (by decide)).trans
      (State.bit_setBit_other u true (by decide) (by decide))
  · obtain ⟨slotMode, slotMem, slotReady⟩ := selectBootSlot_same (u.modPwr fun p => { p with verif := none })
    exact ⟨slotMode.trans mode, slotMem.trans mem, slotReady.trans ready⟩

/-- The M-die is ready: Heartwood has checked its journal, and Bark has nothing to take over. -/
def mdieReady (s : State) : State := { (hwdBootRestore s).1 with pwr := { s.pwr with heldSrc := [] } }

theorem mdieReady_bit (s : State) : (mdieReady s).bit HWD_STATUS.READY = true :=
  (State.bit_setBit_other (s.setBit HWD_STATUS.READY true) _ (by decide) (by decide)).trans
    (State.bit_setBit s _ true (by decide) rfl)

theorem doMdieReadyEnd_load {s : State} (mode : s.pwr.mode = .waking) (phase : s.pwr.phase = .mdie) (held : s.pwr.heldSrc = [])
    (latch : s.pwr.safeLatch = false) (request : s.pwr.latchedReq = none) (commit : s.hwd.lostCommit = false) :
    doMdieReadyEnd s = enterLoad (mdieReady s) s.pwr.seq := by
  have kept : (hwdBootRestore s).2 = false := commit
  have handed : handHeldEvents (hwdBootRestore s).1 = mdieReady s := handHeldEvents_none held
  have modeStill : (mdieReady s).pwr.mode = .waking := mode
  have latchStill : (mdieReady s).pwr.safeLatch = false := latch
  have requestStill : (mdieReady s).pwr.latchedReq = none := request
  have seqStill : (mdieReady s).pwr.seq = s.pwr.seq := rfl
  unfold doMdieReadyEnd
  rw [if_pos ⟨mode, phase⟩]
  simp only [kept, Bool.false_eq_true, if_false, handed, modeStill, ne_eq, not_true_eq_false, latchStill, requestStill,
    seqStill]

/-- The M-die is not ready, and Bark has nothing to take over. -/
def mdieFailed (s : State) : State :=
  { s.setBit SYS_BOOT_STAT.MDIE_FAIL true with pwr := { s.pwr with heldSrc := [] } }

theorem doMdieReadyTimeout_held {s : State} (mode : s.pwr.mode = .waking) (phase : s.pwr.phase = .mdie)
    (held : s.pwr.heldSrc = []) (latch : s.pwr.safeLatch = false) :
    doMdieReadyTimeout s = holdNoImage ((mdieFailed s).enter .load s.pwr.seq) := by
  have handed : handHeldEvents (s.setBit SYS_BOOT_STAT.MDIE_FAIL true) = mdieFailed s := handHeldEvents_none held
  have modeStill : (mdieFailed s).pwr.mode = .waking := mode
  have latchStill : (mdieFailed s).pwr.safeLatch = false := latch
  have seqStill : (mdieFailed s).pwr.seq = s.pwr.seq := rfl
  unfold doMdieReadyTimeout
  rw [if_pos ⟨mode, phase⟩]
  simp only [handed, modeStill, ne_eq, not_true_eq_false, if_false, latchStill, Bool.false_eq_true, seqStill]

/-- A hold in LOAD for an M-die that is not ready shows both causes (R67). -/
theorem mdieHold_bits (s : State) (q : Seq) : let t := holdNoImage ((mdieFailed s).enter .load q)
    t.bit SYS_BOOT_STAT.MDIE_FAIL = true ∧ t.bit SYS_BOOT_STAT.NO_IMAGE = true := by
  have failed : (mdieFailed s).bit SYS_BOOT_STAT.MDIE_FAIL = true := State.bit_setBit s _ true (by decide) rfl
  have entered : ((mdieFailed s).enter .load q).word SYS_BOOT_STAT.addr = (mdieFailed s).word SYS_BOOT_STAT.addr :=
    enter_word _ _ _ (by decide) (by decide)
  generalize (mdieFailed s).enter .load q = u at entered ⊢
  have shown : (holdNoImage u).word SYS_BOOT_STAT.addr = (u.setBit SYS_BOOT_STAT.NO_IMAGE true).word SYS_BOOT_STAT.addr :=
    holdNoImage_word u (by decide) (by decide)
  constructor
  · calc (holdNoImage u).bit SYS_BOOT_STAT.MDIE_FAIL
      _ = (u.setBit SYS_BOOT_STAT.NO_IMAGE true).bit SYS_BOOT_STAT.MDIE_FAIL := State.bit_of_word_eq shown
      _ = u.bit SYS_BOOT_STAT.MDIE_FAIL := State.bit_setBit_other u true (by decide) (by decide)
      _ = (mdieFailed s).bit SYS_BOOT_STAT.MDIE_FAIL := State.bit_of_word_eq entered
      _ = true := failed
  · exact (State.bit_of_word_eq shown).trans (State.bit_setBit u _ true (by decide) rfl)

/-- Settles O2: each step of Table 03-5 by the equation that says what it leaves; a change of mode is told to the cores and
hosts without touching memory or the flags shown (`enter_word`). -/
theorem bootStepsComplete : Obligations.BootStepsComplete := by
  refine ⟨fun s root mode phase booted => ?cold, fun s root warm => ?warm, fun s root => ?rootless, fun s root => ?por,
    fun s root => ?powered, fun s straps vio18 mode phase high => ?sample, fun s straps vio18 mode phase low => ?sampleHeld,
    fun s straps vio18 mode phase => ?wait, fun s straps vio18 mode phase high => ?waited, fun s straps vio18 phase => ?inRange,
    fun s mode phase held => ?rails, fun s mode phase => ?plls, fun s mode phase held => ?railFail,
    fun s mode phase held => ?pllFail, fun s mode phase held latch => ?mdieFail,
    fun s mode phase held latch request commit => ?mdieReady⟩
  case cold =>
    obtain ⟨vin, phase', seq, mode', por, mem, -⟩ := startColdBoot_vinTaken mode
    exact ⟨_, next_congr (doVinValid_cold root mode phase booted), vin, phase', seq, mode', por, mem⟩
  case warm => exact next_congr (doVinValid_warm root warm)
  case rootless =>
    obtain ⟨-, mode, -, -, -, cleared, -⟩ := powerOnReset_root s
    obtain ⟨vin, phase, seq, mode', por, -, rmem⟩ := startColdBoot_vinTaken mode
    exact ⟨_, next_congr (doVinValid_rootless root), vin, phase, seq, mode', por, rmem.trans cleared⟩
  case por =>
    obtain ⟨powered, mode, -, booted, latch, rmem, stg⟩ := powerOnReset_root s
    exact ⟨_, next_congr (if_neg (by simp [root])), powered, mode, booted, latch, rmem, stg⟩
  case powered => exact next_congr (if_pos root)
  case sample =>
    obtain ⟨mode', phase', booted, mem, levels⟩ := sampleStraps_of_high straps.toNat vio18 high
    exact ⟨_, next_congr ((if_pos ⟨mode, phase⟩).trans (if_pos rfl)), mode', phase',
      levels.trans (Nat.mod_eq_of_lt straps.isLt), booted, mem⟩
  case sampleHeld =>
    exact ⟨_, next_congr ((if_pos ⟨mode, phase⟩).trans (if_pos rfl)), sampleStraps_of_low straps.toNat vio18 low⟩
  case wait =>
    exact ⟨_, next_congr ((if_pos ⟨mode, phase⟩).trans (if_neg Bool.false_ne_true)), mode, rfl,
      State.bit_setBit s SYS_BOOT_STAT.STRAP_WAIT true (by decide) rfl, rfl⟩
  case waited =>
    obtain ⟨mode', phase', -, mem, levels⟩ := sampleStraps_of_high straps.toNat vio18 high
    exact ⟨_, next_congr (if_pos ⟨mode, phase⟩), mode', phase', levels.trans (Nat.mod_eq_of_lt straps.isLt), mem⟩
  case inRange => exact next_congr (if_neg fun h => phase h.2)
  case rails =>
    exact ⟨_, next_congr (if_pos ⟨mode, phase, by simp [held]⟩), rfl, mtime_setMtime_zero s _⟩
  case plls =>
    obtain ⟨started, mem, tim⟩ := clocksRun_same s
    exact ⟨_, next_congr (doPllStepEnd_pll mode phase), started, clocksRun_bit s (by decide), clocksRun_bit s (by decide),
      clocksRun_bit s (by decide), clocksRun_bit s (by decide), mem, tim⟩
  case railFail =>
    refine next_congr ((if_pos ⟨mode, by simp [held]⟩).trans (if_pos phase))
  case pllFail =>
    refine next_congr ((if_pos ⟨mode, by simp [held]⟩).trans ((if_neg ?_).trans (if_pos phase)))
    simp [phase]
  case mdieFail =>
    obtain ⟨failed, noImage⟩ := mdieHold_bits s s.pwr.seq
    refine ⟨_, next_congr (doMdieReadyTimeout_held mode phase held latch), ?_⟩
    rw [holdNoImage_pwr, enter_pwr, holdNoImage_mem, enter_mem]
    exact ⟨rfl, rfl, failed, noImage, rfl⟩
  case mdieReady =>
    obtain ⟨loaded, mem, ready⟩ := enterLoad_same (mdieReady s) s.pwr.seq
    exact ⟨_, next_congr (doMdieReadyEnd_load mode phase held latch request commit), loaded,
      ready.trans (mdieReady_bit s), mem⟩

end Sys2Proof.Machine
end

section
/-! The handling of rack interrupts (R513, R534). -/

namespace Sys2Proof.Machine

/-- Where a step leaves the instant at which CRB_BREQ_N fell (R513). -/
def reqAtAfter : Host.Outcome State Fault Refusal → Nat
  | .next t => t.crb.reqAt
  | _ => 0

/-- A handler of rack interrupts in RUN that does not hold the rack, its level 3 enabled, at 1 ns of its clock; CRB_BREQ_N
last fell at 0. -/
def handlerWithoutRack : State :=
  let s := { State.reset with uptime := 1, pwr := { mode := .run, base := .run, booted := true } }
  (s.setFld SYS_STRAP.CRB_ROLE 3).setBitAt CRB_IRQ_HANDLE.EN 3 true

/-- Level 3 falls: the handler asks for the rack and notes the instant, from which ARB_US counts (R513). -/
theorem reqAtAfter_irqServe : reqAtAfter (exec (.crbIrqServe 8) handlerWithoutRack) = 1 := by decide

/-- Refutes O38: a handler that asks for the rack also notes the instant at which CRB_BREQ_N falls (`crbAsk`, R513), where the
first clause gives a state with CRB_BREQ_N low and the old instant. -/
theorem not_rackInterruptsComplete : ¬ Obligations.RackInterruptsComplete := by
  rintro ⟨serve, -⟩
  have asked := congrArg reqAtAfter (serve handlerWithoutRack 8 _ rfl)
  rw [reqAtAfter_irqServe] at asked
  revert asked
  decide

end Sys2Proof.Machine
end

section
/-! Wake timers, watch cycles and RST_N (R47 to R49, R70 to R73, R156). -/

namespace Sys2Proof.Machine

/-! ### Time running on -/

@[simp] theorem State.advanceTo_pwr (s : State) (t : Nat) : (s.advanceTo t).pwr = s.pwr := by
  unfold State.advanceTo
  split <;> rfl

@[simp] theorem State.advanceTo_mem (s : State) (t : Nat) : (s.advanceTo t).mem = s.mem := by
  unfold State.advanceTo
  split <;> rfl

@[simp] theorem State.runTo_pwr (s : State) (u : Nat) : (s.runTo u).pwr = s.pwr := State.advanceTo_pwr s _

@[simp] theorem State.runTo_mem (s : State) (u : Nat) : (s.runTo u).mem = s.mem := State.advanceTo_mem s _

/-! ### Wake timers (R70) -/

/-- The instant at which wake timer `n` reads zero. -/
def wakeTimerEnd (s : State) (n : Nat) : Nat :=
  (if n = 0 then s.pwr.wt0At else s.pwr.wt1At) + (s.fld (PWR_WTIMER.COUNT n) * 1000000000 + 1023) / 1024

/-- Wake timer `n` has run out. -/
def wakeTimerOut (s : State) (n : Nat) : State := (s.runTo (wakeTimerEnd s n)).setFld (PWR_WTIMER.COUNT n) 0

theorem doWakeTimerExpiry_running {s : State} {n : Nat} (root : s.pwr.rootPowered = true) (counts : s.fld (PWR_WTIMER.COUNT n) ≠ 0) :
    doWakeTimerExpiry n s = senseCause (wakeTimerOut s n) (16 + n) := if_pos ⟨root, counts⟩

theorem doWakeTimerExpiry_stopped {s : State} {n : Nat} (stopped : s.fld (PWR_WTIMER.COUNT n) = 0) : doWakeTimerExpiry n s = s :=
  if_neg fun h => h.2 stopped

theorem wakeTimerOut_fld (s : State) (n : Nat) : (wakeTimerOut s n).fld (PWR_WTIMER.COUNT n) = 0 :=
  (State.fld_setFld _ _ 0 (Nat.le_of_ble_eq_true rfl)).trans (Nat.zero_mod _)

theorem wakeTimerOut_mem (s : State) (n : Nat) : (wakeTimerOut s n).mem = s.mem :=
  (State.setFld_mem _ _ _).trans (State.runTo_mem s _)

theorem wakeTimerOut_pwr (s : State) (n : Nat) : (wakeTimerOut s n).pwr = s.pwr :=
  (State.setFld_pwr _ _ _).trans (State.runTo_pwr s _)

/-! ### The watch cycle (R71 to R73) -/

/-- Mill time runs on to the next instant of the watch cycle. -/
def watchInstant (s : State) : State :=
  (s.modPwr fun p => { p with watchN := p.watchN + 1 }).advanceTo
    (s.pwr.watchT0 + (s.pwr.watchN + 1) * watchPeriod s * 1000000000)

/-- The instant is recorded as a wake cause while Root senses them (R70). -/
def watchShown (s : State) : State :=
  if sensing (watchInstant s) then (watchInstant s).setBit PWR_WAKE_CAUSE.WATCH true else watchInstant s

theorem doWatchPeriodInstant_due {s : State} (cycle : s.pwr.watchCycle = true) (arm : s.pwr.watchArm = false) :
    doWatchPeriodInstant s = if (watchShown s).pwr.mode = .root then startWake (watchShown s) (2 ^ 21)
      else (watchShown s).count PWR_WATCH_SKIP.COUNT := if_pos (by simp [cycle, arm])

theorem doWatchPeriodInstant_idle {s : State} (h : s.pwr.watchCycle = false ∨ s.pwr.watchArm = true) :
    doWatchPeriodInstant s = s := by
  refine if_neg ?_
  rcases h with h | h <;> simp [h]

theorem watchInstant_pwr (s : State) : (watchInstant s).pwr = { s.pwr with watchN := s.pwr.watchN + 1 } :=
  State.advanceTo_pwr _ _

theorem watchInstant_now (s : State) :
    (watchInstant s).tim.now = Nat.max s.tim.now (s.pwr.watchT0 + (s.pwr.watchN + 1) * watchPeriod s * 1000000000) :=
  State.advanceTo_now _ _

theorem watchShown_pwr (s : State) : (watchShown s).pwr = { s.pwr with watchN := s.pwr.watchN + 1 } := by
  rw [← watchInstant_pwr, watchShown]
  split
  · exact State.setBit_pwr _ _ _
  · rfl

theorem watchShown_now (s : State) :
    (watchShown s).tim.now = Nat.max s.tim.now (s.pwr.watchT0 + (s.pwr.watchN + 1) * watchPeriod s * 1000000000) := by
  rw [← watchInstant_now, watchShown]
  split
  · rw [State.setBit_tim]
  · rfl

theorem watchShown_skips (s : State) : (watchShown s).fld PWR_WATCH_SKIP.COUNT = s.fld PWR_WATCH_SKIP.COUNT := by
  have ran : (watchInstant s).fld PWR_WATCH_SKIP.COUNT = s.fld PWR_WATCH_SKIP.COUNT := State.advanceTo_fld _ _ _
  unfold watchShown
  split
  · exact (State.fld_setFld_other _ _ _ _ (by decide) (by decide)).trans ran
  · exact ran

/-- Root senses causes in ROOT. -/
theorem watchShown_cause {s : State} (mode : s.pwr.mode = .root) : (watchShown s).bit PWR_WAKE_CAUSE.WATCH = true := by
  have senses : sensing (watchInstant s) = true := by
    rw [sensing, watchInstant_pwr]
    simp [mode]
  rw [watchShown, if_pos senses]
  exact State.bit_setBit _ _ true (by decide) rfl

/-- The acquisition of a snapshot ends (R72). -/
theorem doWatchAcquisitionEnd_due {s : State} (work : s.work = .watch) (acq : s.pwr.watchAcq = true) :
    doWatchAcquisitionEnd s = { s with pwr := { s.pwr with watchAcq := false } } := if_pos ⟨work, acq⟩

theorem watch_ends_idle {s : State} (work : s.work ≠ .watch) : doWatchAcquisitionEnd s = s ∧ doWatchSnapEnd s = s :=
  ⟨if_neg fun h => work h.1, if_neg fun h => work h.1⟩

/-! ### RST_N (R47 to R49) -/

/-- RST_N reads low. -/
def rstLowered (s : State) : State := { s with pwr := { s.pwr with rstLow := true } }

theorem doRstLow_eq {s : State} (root : s.pwr.rootPowered = true) (vio : s.pwr.vioGenOk = true) :
    doRstLow s = requestNodeReset (rstLowered s) true := if_pos (by simp [root, vio])

theorem requestNodeReset_ignored {s : State} (hold : Bool) (mode : s.pwr.mode = .off ∨ s.pwr.mode = .safe) :
    requestNodeReset s hold = s := by
  unfold requestNodeReset
  rcases mode with mode | mode <;> rw [mode]

theorem requestNodeReset_latched {s : State} (hold : Bool) (off : s.pwr.mode ≠ .off) (safe : s.pwr.mode ≠ .safe)
    (busy : s.pwr.mode = .holdup ∨ s.pwr.seq = .pdown) :
    requestNodeReset s hold = (s.setBit PWR_WAKE_CAUSE.RSTN true).modPwr fun p => { p with latchedRst := true } := by
  unfold requestNodeReset
  split
  · contradiction
  · contradiction
  · exact if_pos busy

theorem requestNodeReset_acts {s : State} (hold : Bool) (off : s.pwr.mode ≠ .off) (safe : s.pwr.mode ≠ .safe)
    (holdup : s.pwr.mode ≠ .holdup) (pdown : s.pwr.seq ≠ .pdown) : requestNodeReset s hold = nodeReset s hold := by
  unfold requestNodeReset
  split
  · contradiction
  · contradiction
  · exact if_neg (by simp [holdup, pdown])

theorem fromLands_connected {s : State} (f : State → State) (connected : landsCut s = false) : fromLands s f = f s :=
  if_neg (by simp [connected])

theorem fromLands_cut {s : State} (f : State → State) (cut : landsCut s = true) : fromLands s f = s := if_pos cut

/-- A mode in which requests act, or HOLDUP, is neither OFF nor SAFE. -/
theorem Mode.not_off_safe {m : Mode} (h : m = .holdup ∨ m.isRunning = true) : m ≠ .off ∧ m ≠ .safe := by
  constructor <;> (rintro rfl; simp [Mode.isRunning] at h)

/-- Settles O5: each event by the equation for its case, `doWatchPeriodInstant_due` and `doRstLow_eq` naming the state that
the event first leaves. -/
theorem wakesAndResetsComplete : Obligations.WakesAndResetsComplete := by
  refine ⟨fun s n root counts => ?timer, fun s n stopped => ?noTimer, fun s cycle arm mode => ?watchWake,
    fun s cycle arm mode => ?watchSkip, fun s h => ?noWatch, fun s work acq => ?acquired, fun s drop work seq acq hdrop => ?snapEnd,
    fun s work => ?noSnap, fun s u connected root vio hu => ?rstLow, fun s vio => ?rstVio,
    fun s connected held vio => ?release, fun s connected h => ?releaseOnly, fun s cut => ?cut⟩
  case timer =>
    exact ⟨_, next_congr (doWakeTimerExpiry_running root counts), wakeTimerOut_fld s n, wakeTimerOut_mem s n,
      wakeTimerOut_pwr s n⟩
  case noTimer => exact next_congr (doWakeTimerExpiry_stopped stopped)
  case watchWake =>
    have still : (watchShown s).pwr.mode = .root := by rw [watchShown_pwr, mode]
    refine ⟨_, next_congr ((doWatchPeriodInstant_due cycle arm).trans (if_pos still)), watchShown_cause mode, ?_,
      watchShown_now s⟩
    rw [watchShown_pwr]
  case watchSkip =>
    have still : (watchShown s).pwr.mode ≠ .root := by rwa [watchShown_pwr]
    refine ⟨_, next_congr ((doWatchPeriodInstant_due cycle arm).trans (if_neg still)), ?_, ?_, ?_⟩
    · rw [State.count_pwr, watchShown_pwr]
    · rw [State.count_pwr, watchShown_pwr]
    · rw [State.fld_count _ _ _ (by decide), watchShown_skips]
  case noWatch => exact next_congr (doWatchPeriodInstant_idle h)
  case acquired => exact next_congr (doWatchAcquisitionEnd_due work acq)
  case snapEnd =>
    subst hdrop
    exact next_congr (if_pos ⟨work, seq, by simp [acq]⟩)
  case noSnap =>
    obtain ⟨acquisition, snap⟩ := watch_ends_idle work
    exact ⟨next_congr acquisition, next_congr snap⟩
  case rstLow =>
    subst hu
    have reset : fromLands s doRstLow = requestNodeReset (rstLowered s) true :=
      (fromLands_connected _ connected).trans (doRstLow_eq root vio)
    refine ⟨fun mode => ?ignored, fun off safe holdup pdown => ?acts, fun busy => ?latched⟩
    case ignored => exact next_congr (reset.trans (requestNodeReset_ignored true mode))
    case acts => exact next_congr (reset.trans (requestNodeReset_acts true off safe holdup pdown))
    case latched =>
      obtain ⟨off, safe⟩ := Mode.not_off_safe (busy.imp_right And.left)
      exact ⟨_, next_congr (reset.trans (requestNodeReset_latched true off safe (busy.imp_right And.right))), rfl,
        State.bit_setBit (rstLowered s) PWR_WAKE_CAUSE.RSTN true (by decide) rfl, rfl⟩
  case rstVio =>
    have ignored : doRstLow s = s := if_neg (by simp [vio])
    exact next_congr (by rw [fromLands, ignored, ite_self])
  case release =>
    exact next_congr ((fromLands_connected _ connected).trans (if_pos (by simp [State.modPwr, held, vio])))
  case releaseOnly =>
    refine next_congr ((fromLands_connected _ connected).trans (if_neg ?_))
    rcases h with h | h <;> simp [State.modPwr, h]
  case cut => exact ⟨next_congr (fromLands_cut _ cut), next_congr (fromLands_cut _ cut)⟩

end Sys2Proof.Machine
end

section
/-! Mill time: TIME exchanges, TIME_PPS, clock monitors and the accesses of the timebase (R32, R96, R97, R103 to R120). -/

namespace Sys2Proof.Machine

/-! ### Whole seconds (R32, R120) -/

/-- The first whole second of mill time at or after `t` ns. -/
def wholeSecond (t : Nat) : Nat := (t + 999999999) / 1000000000 * 1000000000

theorem wholeSecond_spec (t : Nat) : t ≤ wholeSecond t ∧ wholeSecond t < t + 1000000000 ∧ wholeSecond t % 1000000000 = 0 := by
  unfold wholeSecond
  omega

@[simp] theorem State.advanceTo_ppsAt (s : State) (t : Nat) : (s.advanceTo t).tim.ppsAt = s.tim.ppsAt := by
  unfold State.advanceTo
  split <;> rfl

/-- Mill time has run on to the next whole second. -/
def secondReached (s : State) : State := s.advanceTo (wholeSecond s.tim.now)

theorem secondReached_now (s : State) : s.tim.now ≤ (secondReached s).tim.now ∧
    (secondReached s).tim.now < s.tim.now + 1000000000 ∧ (secondReached s).tim.now % 1000000000 = 0 := by
  have now : (secondReached s).tim.now = wholeSecond s.tim.now :=
    (State.advanceTo_now s _).trans (Nat.max_eq_right (wholeSecond_spec _).1)
  rw [now]
  exact wholeSecond_spec s.tim.now

theorem secondReached_same (s : State) : (secondReached s).regs = s.regs ∧ (secondReached s).mem = s.mem ∧
    (secondReached s).tim.ppsAt = s.tim.ppsAt :=
  ⟨State.advanceTo_regs s _, State.advanceTo_mem s _, State.advanceTo_ppsAt s _⟩

/-- TIME_PPS in `u`, at a whole second: it rises where the timebase of `s` is LOCKED and the land enabled (R32). -/
def showPps (s u : State) : State :=
  if timState s = timLOCKED ∧ s.bit TIM_CTRL.PPS_EN = true then u.modTim fun t => { t with ppsAt := some t.now } else u

theorem showPps_same (s u : State) :
    (showPps s u).tim.now = u.tim.now ∧ (showPps s u).regs = u.regs ∧ (showPps s u).mem = u.mem := by
  unfold showPps
  split <;> exact ⟨rfl, rfl, rfl⟩

theorem showPps_rises {s : State} (u : State) (state : timState s = timLOCKED) (enabled : s.bit TIM_CTRL.PPS_EN = true) :
    (showPps s u).tim.ppsAt = some (showPps s u).tim.now := by
  rw [showPps, if_pos ⟨state, enabled⟩]
  rfl

theorem showPps_stays {s : State} (u : State) (h : ¬ (timState s = timLOCKED ∧ s.bit TIM_CTRL.PPS_EN = true)) :
    (showPps s u).tim.ppsAt = u.tim.ppsAt := by
  rw [showPps, if_neg h]

theorem doPps_running {s : State} (run : s.running = true) : doPps s = showPps s (secondReached s) := by
  have state : timState (secondReached s) = timState s := State.advanceTo_fld _ _ _
  have enabled : (secondReached s).bit TIM_CTRL.PPS_EN = s.bit TIM_CTRL.PPS_EN :=
    State.bit_of_word_eq (State.advanceTo_word _ _ _)
  rw [showPps, ← state, ← enabled]
  exact if_pos run

theorem doAfeRealign_due {s : State} (run : s.running = true) (realign : s.tim.realign = true) :
    doAfeRealign s = settleAll (ingestNeedTime ((secondReached s).modTim fun t => { t with realign := false })) :=
  if_pos (by simp [run, realign])

theorem doAfeRealign_idle {s : State} (h : s.running = false ∨ s.tim.realign = false) : doAfeRealign s = s := by
  refine if_neg ?_
  rcases h with h | h <;> simp [h]

/-! ### The port that the master is heard on (R107, R717) -/

theorem timPort_now (s : State) : (timPort s).tim.now = s.tim.now := by
  unfold timPort
  split <;> rfl

theorem timPort_mem (s : State) : (timPort s).mem = s.mem := by
  unfold timPort
  split <;> rfl

theorem timPort_fld (s : State) {r : FRef} (h : TIM_STATUS.addr ≠ r.addr) : (timPort s).fld r = s.fld r := by
  unfold timPort
  split
  · exact State.fld_setWord_other (clearTimHistory s) _ _ r h
  · rfl

/-! ### Exchanges (R107 to R110) -/

/-- SYNC of the master rejects an exchange that still waits (R110). -/
def syncRejects (s : State) : State := if s.tim.exch.isSome then s.count TIM_CNT.REJECT else s

theorem syncRejects_same (s : State) : (syncRejects s).tim.now = s.tim.now ∧ (syncRejects s).mem = s.mem ∧
    (syncRejects s).fld TIM_CNT.REJECT =
      satAdd TIM_CNT.REJECT.wid (s.fld TIM_CNT.REJECT) (if s.tim.exch.isSome then 1 else 0) := by
  unfold syncRejects
  split
  · exact ⟨rfl, rfl, State.fld_count s _ 1 (by decide)⟩
  · exact ⟨rfl, rfl, (if_pos (State.fld_lt s TIM_CNT.REJECT)).symm⟩

theorem doSyncRx_master {s : State} {h p tag t1 : Nat} (run : s.running = true) (master : fromMaster s h p = true) :
    doSyncRx h p tag t1 s = (timPort (syncRejects s)).modTim fun x =>
      { x with exch := some { port := p, tag := tag, t1 := t1, t2 := x.now } } := by
  simp only [doSyncRx, run, master, Bool.not_true, Bool.false_eq_true, if_false, syncRejects]

theorem doSyncRx_foreign {s : State} {h p tag t1 : Nat} (run : s.running = true) (foreign : fromMaster s h p = false) :
    doSyncRx h p tag t1 s = s.count TIM_CNT.FOREIGN := by
  simp only [doSyncRx, run, foreign, Bool.not_true, Bool.not_false, Bool.false_eq_true, if_false, if_true]

theorem doDelayReqTx_waits {s : State} {e : Exch} (exch : s.tim.exch = some e) :
    doDelayReqTx s = if s.running = true ∧ e.t3 = none ∧ mayTransmit s e.port = true ∧ alarmWaits s e.port = false then
      sendDelayReq (s.modTim fun t => { t with exch := some { e with t3 := some t.now } }) e.port e.tag else s := by
  simp only [doDelayReqTx, exch, Bool.not_eq_eq_eq_not, Bool.not_true]

theorem doDelayReqTx_none {s : State} (exch : s.tim.exch = none) : doDelayReqTx s = s := by
  simp only [doDelayReqTx, exch]

theorem lateResp_eq (s : State) (p tag : Nat) : lateResp s p tag = if (p, tag) ∈ s.tim.late then
    bark (s.modTim fun t => { t with late := t.late.erase (p, tag) }) Src.LATE else s := by
  simp only [lateResp, List.contains_iff_mem]

section DelayResp
variable {s : State} {h p tag t4 : Nat}

theorem doDelayRespRx_foreign (run : s.running = true) (foreign : fromMaster s h p = false) :
    doDelayRespRx h p tag t4 s = s.count TIM_CNT.FOREIGN := by
  simp only [doDelayRespRx, run, foreign, Bool.not_true, Bool.not_false, Bool.false_eq_true, if_false, if_true]

/-- One that no exchange waits for is late, or says nothing (R103). -/
theorem doDelayRespRx_unexpected (run : s.running = true) (master : fromMaster s h p = true)
    (unexpected : ∀ e, s.tim.exch = some e → e.t3 = none ∨ e.tag ≠ tag ∨ e.port ≠ p) :
    doDelayRespRx h p tag t4 s = lateResp s p tag := by
  simp only [doDelayRespRx, run, master, Bool.not_true, Bool.false_eq_true, if_false]
  split
  next x g t1 t2 t3 exch =>
    rcases unexpected _ exch with h3 | other
    · cases h3
    · exact if_pos other
  next => rfl

/-- The delay of an exchange in half ns (R109). -/
def exchDelay (e : Exch) (t3 t4 : Nat) : Int := ((e.t2 : Int) - e.t1) + ((t4 : Int) - t3)

/-- The offset of an exchange in half ns (R109). -/
def exchOffset (s : State) (e : Exch) (d : Int) : Int := 2 * ((e.t2 : Int) - e.t1) - d - 2 * s.sfld TIM_ASYM.NS

/-- An exchange of delay `d` and offset `o` passes the checks: both are reported, to the nearest ns. -/
def exchAccepted (s : State) (d o : Int) : State :=
  let s := s.modTim fun x => { x with exch := none, dHist := (d :: x.dHist).take 16 }
  let s := s.setFld TIM_OFFSET.NS (ofSigned 32 (clampI (-2147483648) 2147483647 ((o + 1) / 2)))
  (s.setFld TIM_DELAY.NS ((d + 1) / 2).toNat).setBit TIM_STATUS.MASTER_OK true

theorem exchAccepted_discEn (s : State) (d o : Int) : (exchAccepted s d o).bit TIM_CTRL.DISC_EN = s.bit TIM_CTRL.DISC_EN :=
  (State.bit_setBit_other _ _ (by decide) (by decide)).trans
    ((State.bit_setFld_other _ _ (by decide) (by decide)).trans (State.bit_setFld_other _ _ (by decide) (by decide)))

theorem doDelayRespRx_ends {e : Exch} {t3 : Nat} {d o : Int} (run : s.running = true) (master : fromMaster s h p = true)
    (exch : s.tim.exch = some e) (sent : e.t3 = some t3) (hTag : e.tag = tag) (hPort : e.port = p)
    (hd : d = exchDelay e t3 t4) (ho : o = exchOffset s e d) :
    doDelayRespRx h p tag t4 s =
      if exchangeOk s d = true then
        if s.bit TIM_CTRL.DISC_EN then discipline (exchAccepted s d o) o else exchAccepted s d o
      else (s.modTim fun x => { x with exch := none }).count TIM_CNT.REJECT := by
  obtain ⟨x, g, t1, t2, t3'⟩ := e
  subst hTag hPort
  cases sent
  have checks : exchangeOk (s.modTim fun x => { x with exch := none }) d = exchangeOk s d := rfl
  rw [← exchAccepted_discEn s d o]
  subst ho hd
  simp only [exchDelay] at checks
  simp only [doDelayRespRx, run, master, exch, Bool.not_true, Bool.false_eq_true, if_false, ne_eq, not_true_eq_false, or_self,
    exchDelay, checks]
  by_cases ok : exchangeOk s ((t2 : Int) - t1 + ((t4 : Int) - t3)) = true
  · exact (if_neg (by simpa using ok)).trans (if_pos ok).symm
  · exact (if_pos (by simpa using ok)).trans (if_neg ok).symm

end DelayResp

theorem exchAccepted_delay (s : State) (d o : Int) :
    (exchAccepted s d o).fld TIM_DELAY.NS = ((d + 1) / 2).toNat % 2 ^ 32 :=
  (State.fld_setFld_other _ _ _ _ (by decide) (by decide)).trans (State.fld_setFld _ TIM_DELAY.NS _ (by decide))

theorem ofSigned_lt (w : Nat) (i : Int) : ofSigned w i < 2 ^ w := by
  unfold ofSigned
  have := Int.emod_lt_of_pos i (b := (2 ^ w : Nat)) (by positivity)
  have := Int.emod_nonneg i (b := (2 ^ w : Nat)) (by positivity)
  omega

theorem exchAccepted_offset (s : State) (d o : Int) :
    (exchAccepted s d o).fld TIM_OFFSET.NS = ofSigned 32 (clampI (-2147483648) 2147483647 ((o + 1) / 2)) := by
  refine ((State.fld_setFld_other _ _ _ _ (by decide) (by decide)).trans
    (State.fld_setFld_other _ _ _ _ (by decide) (by decide))).trans ?_
  rw [State.fld_setFld _ TIM_OFFSET.NS _ (by decide)]
  exact Nat.mod_eq_of_lt (ofSigned_lt 32 _)

theorem exchAccepted_master (s : State) (d o : Int) : (exchAccepted s d o).bit TIM_STATUS.MASTER_OK = true :=
  State.bit_setBit _ _ true (by decide) rfl

theorem doExchangeMiss_waits {s : State} {e : Exch} (exch : s.tim.exch = some e) (run : s.running = true) :
    doExchangeMiss s = if e.t3 = none then s else
      (s.modTim fun t => { t with exch := none, late := t.late ++ [(e.port, e.tag)] }).count TIM_CNT.MISS := by
  obtain ⟨x, g, t1, t2, t3⟩ := e
  cases t3 <;> simp [doExchangeMiss, exch, run]

theorem doExchangeMiss_none {s : State} (exch : s.tim.exch = none) : doExchangeMiss s = s := by
  simp only [doExchangeMiss, exch]

/-- No exchange was accepted for 8 intervals (R112). -/
theorem doHoldover_running {s : State} (run : s.running = true) :
    doHoldover s = if timState s = timACQUIRE ∨ timState s = timLOCKED then
        setTimState (s.setBit TIM_STATUS.MASTER_OK false) timHOLDOVER else s.setBit TIM_STATUS.MASTER_OK false := by
  have state : timState (s.setBit TIM_STATUS.MASTER_OK false) = timState s :=
    State.fld_setFld_other s _ _ _ (by decide) (by decide)
  rw [← state]
  exact if_pos run

/-! ### Accesses (R105, R114) -/

theorem doWrite_timCtrl {s : State} {t : Nat} (v : Word) (lets : Lets s t TIM_CTRL.addr true) :
    doWrite s t TIM_CTRL.addr v = written (timCtrlWritten (s.put TIM_CTRL.addr v) v) t 0 :=
  doWrite_named (fun u => timCtrlWritten u v) lets rfl (by decide) fun _ => rfl

/-- A read of TIM_NOW_LO shows the low word of mill time and snapshots the high one. -/
theorem readReg_timNowLo (s : State) (t : Nat) {r : RegRow} (hr : findReg TIM_NOW_LO.addr = some r) :
    readReg s t TIM_NOW_LO.addr r = (snapWide s t TIM_NOW_LO.addr, 0, BitVec.ofNat 32 s.tim.now) := by
  have plain : r.rc = 0 := by
    have : (findReg TIM_NOW_LO.addr).map RegRow.rc = some 0 := by decide
    simpa [hr] using this
  have word : plainRead s t TIM_NOW_LO.addr r = (snapWide s t TIM_NOW_LO.addr, BitVec.ofNat 32 s.tim.now) := by
    rw [plainRead, plain]
    rfl
  calc readReg s t TIM_NOW_LO.addr r
    _ = ((plainRead s t TIM_NOW_LO.addr r).1, 0, (plainRead s t TIM_NOW_LO.addr r).2) := rfl
    _ = (snapWide s t TIM_NOW_LO.addr, 0, BitVec.ofNat 32 s.tim.now) := by rw [word]

theorem doRead_timNowLo {s : State} {t : Nat} (lets : Lets s t TIM_NOW_LO.addr false) :
    doRead s t TIM_NOW_LO.addr = readBack (snapWide s t TIM_NOW_LO.addr) t 0 (BitVec.ofNat 32 s.tim.now) := by
  obtain ⟨r, hr⟩ := Option.isSome_iff_exists.mp (show (findReg TIM_NOW_LO.addr).isSome = true by decide)
  rw [doRead_of_lets lets rfl hr, readReg_timNowLo s t hr]

/-! ### While the node does not run -/

theorem timebase_idle {s : State} (stopped : s.running = false) (k h p tag w : Nat) :
    doPps s = s ∧ doPllLoss k s = s ∧ doSyncRx h p tag w s = s ∧ doDelayReqTx s = s ∧ doDelayRespRx h p tag w s = s ∧
      doExchangeMiss s = s ∧ doHoldover s = s ∧ doAfeRealign s = s := by
  have pass {α : Type} (x y : α) : (if s.running = true then x else y) = y := if_neg (by simp [stopped])
  refine ⟨pass _ _, pass _ _, if_pos (by simp [stopped]), ?req, if_pos (by simp [stopped]), ?miss, pass _ _,
    doAfeRealign_idle (.inl stopped)⟩
  case req =>
    cases exch : s.tim.exch with
    | none => exact doDelayReqTx_none exch
    | some e => exact (doDelayReqTx_waits exch).trans (if_neg (by simp [stopped]))
  case miss =>
    unfold doExchangeMiss
    split
    · exact pass _ _
    · rfl

/-- Settles O9: the instants by `wholeSecond_spec`, an exchange's end by `doDelayRespRx_ends`, and each other event by the
equation for its case. -/
theorem timebaseEventsComplete : Obligations.TimebaseEventsComplete := by
  refine ⟨fun s run => ?pps, fun s => ?slow, fun s run => ?plls, fun s h p tag t1 run master => ?sync,
    fun s h p tag w run foreign => ?foreign, fun s e exch => ?req, fun s h p tag t4 run master unexpected => ?late,
    fun s h p tag t4 e t3 run master exch sent hTag hPort bad => ?rejected,
    fun s u h p tag t4 e t3 d o run master exch sent hTag hPort hd ho hu good => ?accepted, fun s e exch run => ?miss,
    fun s exch => ?noExch, fun s run => ?holdover, fun s t v lets => ?set, fun s t lets => ?now,
    fun s u run realign hu => ?realign, fun s idle => ?noRealign, fun s k h p tag w stopped => ?stopped⟩
  case pps =>
    obtain ⟨now, regs, mem⟩ := showPps_same s (secondReached s)
    obtain ⟨regsStill, memStill, ppsAt⟩ := secondReached_same s
    obtain ⟨later, soon, whole⟩ := secondReached_now s
    rw [← now] at later soon whole
    exact ⟨_, next_congr (doPps_running run), later, soon, whole, regs.trans regsStill, mem.trans memStill,
      showPps_rises _, fun h => (showPps_stays _ h).trans ppsAt⟩
  case slow => exact next_congr (by simp only [doRootSlowFallback, Bool.not_eq_eq_eq_not, Bool.not_true]; rfl)
  case plls => exact ⟨next_congr (if_pos run), next_congr (if_pos run), next_congr (if_pos run), next_congr (if_pos run),
    next_congr (if_pos run)⟩
  case sync =>
    obtain ⟨now, mem, reject⟩ := syncRejects_same s
    have now' := (timPort_now (syncRejects s)).trans now
    refine ⟨_, next_congr (doSyncRx_master run master), now', (timPort_mem _).trans mem, ?_,
      (timPort_fld _ (by decide)).trans reject⟩
    simp only [State.modTim, now']
  case foreign => exact ⟨next_congr (doSyncRx_foreign run foreign), next_congr (doDelayRespRx_foreign run foreign)⟩
  case req => exact next_congr (doDelayReqTx_waits exch)
  case late =>
    exact next_congr ((doDelayRespRx_unexpected run master unexpected).trans (lateResp_eq s p tag))
  case rejected =>
    exact next_congr ((doDelayRespRx_ends run master exch sent hTag hPort rfl rfl).trans (if_neg (by simpa [exchDelay] using bad)))
  case accepted =>
    subst hu
    exact ⟨next_congr ((doDelayRespRx_ends run master exch sent hTag hPort hd ho).trans (if_pos good)),
      exchAccepted_delay s d o, exchAccepted_offset s d o, exchAccepted_master s d o⟩
  case miss => exact next_congr (doExchangeMiss_waits exch run)
  case noExch => exact ⟨next_congr (doExchangeMiss_none exch), next_congr (doDelayReqTx_none exch)⟩
  case holdover => exact next_congr (doHoldover_running run)
  case set => exact next_congr (doWrite_timCtrl v lets)
  case now => exact next_congr (doRead_timNowLo lets)
  case realign =>
    have reached : u = secondReached s := hu
    obtain ⟨later, soon, whole⟩ := secondReached_now s
    rw [reached]
    exact ⟨next_congr (doAfeRealign_due run realign), whole, later, soon⟩
  case noRealign => exact next_congr (doAfeRealign_idle (.inr idle))
  case stopped =>
    obtain ⟨pps, pll, sync, req, resp, miss, holdover, realign⟩ := timebase_idle stopped k h p tag w.toNat
    exact ⟨next_congr pps, next_congr pll, next_congr sync, next_congr req, next_congr resp, next_congr miss,
      next_congr holdover, next_congr realign⟩

end Sys2Proof.Machine
end

section
/-! Permitted writes of SYS and PWR: mode requests, wake timers, Root memory and the node reset (R56, R57, R60, R62, R70,
R156). -/

namespace Sys2Proof.Machine

/-! ### What an access leaves alone -/

@[simp] theorem setCopies_pwr (s : State) (a : Nat) (w : Word) : (setCopies s a w).pwr = s.pwr := by
  unfold setCopies
  split <;> rfl

@[simp] theorem plainWrite_pwr (s : State) (r : RegRow) (a : Nat) (v : Word) : (plainWrite s r a v).pwr = s.pwr := by
  unfold plainWrite
  split <;> exact setCopies_pwr s a _

@[simp] theorem State.put_pwr (s : State) (a : Nat) (v : Word) : (s.put a v).pwr = s.pwr := by
  unfold State.put
  split
  · exact plainWrite_pwr s _ a v
  · rfl

theorem State.put_fld_other (s : State) {a : Nat} (v : Word) {r : FRef} (h : a ≠ r.addr) : (s.put a v).fld r = s.fld r :=
  State.fld_of_word_eq (State.put_word_other s v h)

theorem sameRoot_wakeCores (s : State) : SameRoot s (wakeCores s) := by
  refine sameRoot_foldl _ (fun s c => ?_) _ s
  dsimp only
  split <;> exact ⟨rfl, rfl, rfl⟩

@[simp] theorem written_pwr (u : State) (t st : Nat) : (written u t st).pwr = u.pwr := (sameRoot_wakeCores u).pwr

@[simp] theorem written_rmem (u : State) (t st : Nat) : (written u t st).rmem = u.rmem := (sameRoot_wakeCores u).rmem

theorem written_fld (u : State) (t st : Nat) {r : FRef} (h : r.addr < CRW_STATUS.addr) : (written u t st).fld r = u.fld r :=
  State.fld_of_word_eq ((sameBelowCrew_wakeCores u).word r.addr h)

/-- A permitted write of a named register that leaves `u`. -/
theorem doWrite_leaves {s u : State} {t a : Nat} {v : Word} (lets : Lets s t a true) (al : a % 4 = 0)
    (reg : (findReg a).isSome = true) (effect : ∀ r, findReg a = some r → writeReg s t a r v = (u, 0)) :
    doWrite s t a v = written u t 0 := by
  obtain ⟨r, hr⟩ := Option.isSome_iff_exists.mp reg
  rw [doWrite_of_lets lets al hr, effect r hr]

/-! ### Mode requests (R56, R57) -/

theorem doWrite_modeReq {s : State} {t : Nat} {v : Word} (lets : Lets s t SYS_MODE_REQ.addr true) (target : wordField v 0 4 ≠ 0) :
    doWrite s t SYS_MODE_REQ.addr v = written (requestMode (s.put SYS_MODE_REQ.addr v) t (wordField v 0 4)) t 0 := by
  refine doWrite_leaves lets rfl (by decide) fun r hr => ?_
  rw [State.put_of_findReg hr]
  exact congrArg (·, 0) (if_neg target)

theorem doWrite_modeReq_noTarget {s : State} {t : Nat} {v : Word} (lets : Lets s t SYS_MODE_REQ.addr true)
    (target : wordField v 0 4 = 0) :
    doWrite s t SYS_MODE_REQ.addr v = written (s.put SYS_MODE_REQ.addr (wordSet v 0 4 (s.fld SYS_MODE_REQ.TARGET))) t 0 := by
  refine doWrite_leaves lets rfl (by decide) fun r hr => ?_
  rw [State.put_of_findReg hr]
  exact congrArg (·, 0) (if_pos target)

/-- The request asks for a mode that the node cannot enter: BRIDGE without a rack role, SURVEY without motor power (R57). -/
def CannotEnter (s : State) (code : Nat) : Prop :=
  (code = 7 ∧ s.fld SYS_STRAP.CRB_ROLE = 0) ∨ (code = 6 ∧ s.vmOk = false)

theorem CannotEnter.congr {s u : State} {code : Nat} (h : CannotEnter s code) (pwr : u.pwr = s.pwr)
    (straps : u.word SYS_STRAP.addr = s.word SYS_STRAP.addr) : CannotEnter u code := by
  have role : u.fld SYS_STRAP.CRB_ROLE = s.fld SYS_STRAP.CRB_ROLE := State.fld_of_word_eq straps
  have vm : u.vmOk = s.vmOk := by simp only [State.vmOk, pwr]
  rwa [CannotEnter, role, vm]

/-- Such a request has a reason to be refused in every mode. -/
theorem CannotEnter.reason {s : State} {code : Nat} (h : CannotEnter s code) : requestReason s code ≠ 0 := by
  unfold requestReason
  rcases h with ⟨rfl, role⟩ | ⟨rfl, vm⟩
  · simp only [role, and_self, if_true]
    split_ifs <;> decide
  · simp only [vm, Bool.not_false, and_self, if_true]
    split_ifs <;> decide

/-- The request of tenant `t` shows in SYS_MODE_REQ. -/
def requestShown (s : State) (t code : Nat) : State :=
  (s.setFld SYS_MODE_REQ.TENANT t).setFld SYS_MODE_REQ.REASON (requestReason s code)

theorem requestShown_straps (s : State) (t code : Nat) :
    (requestShown s t code).word SYS_STRAP.addr = s.word SYS_STRAP.addr :=
  (State.word_setFld_other _ _ (by decide)).trans (State.word_setFld_other s _ (by decide))

theorem CannotEnter.refused {s : State} {code : Nat} (h : CannotEnter s code) (t : Nat) (target : code ≠ 0) :
    requestMode s t code = (requestShown s t code).setFld SYS_MODE_REQ.STATUS 3 := by
  have still : CannotEnter (requestShown s t code) code := h.congr rfl (requestShown_straps s t code)
  rw [requestMode, if_neg target]
  exact if_pos still.reason

/-- Settles O7: the request has a reason to be refused whatever the mode (`CannotEnter.reason`), and a refused request only
shows itself. -/
theorem refusedModeRequests : Obligations.RefusedModeRequests := by
  intro s t v lets asks
  have cannot : CannotEnter (s.put SYS_MODE_REQ.addr v) (wordField v 0 4) :=
    CannotEnter.congr asks (State.put_pwr s _ v) (State.put_word_other s v (by decide))
  have target : wordField v 0 4 ≠ 0 := by
    rcases asks with ⟨code, -⟩ | ⟨code, -⟩ <;> rw [code] <;> decide
  have refused := cannot.refused t target
  refine ⟨_, next_congr (doWrite_modeReq lets target), rfl, ?status, ?pwr⟩
  case status =>
    rw [written_fld _ _ _ (by decide), refused, State.fld_setFld _ _ _ (by decide)]
    rfl
  case pwr => rw [written_pwr, refused, State.setFld_pwr, requestShown, State.setFld_pwr, State.setFld_pwr, State.put_pwr]

/-! ### Root memory (R60, R62) -/

theorem leNat_toLE (k : Nat) : ∀ n : Nat, leNat (toLE k n) = n % 256 ^ k := by
  induction k with
  | zero => intro n; rw [toLE, leNat, Nat.pow_zero, Nat.mod_one]
  | succ k ih =>
    intro n
    rw [toLE, leNat, ih, Nat.pow_succ', Nat.mod_mul, BitVec.toNat_ofNat]

/-- Bytes of Root memory after a word is set: those of the word, and elsewhere those before. -/
theorem State.rmem_setRword (s : State) (a c : Nat) (w : Word) :
    SMap.get blankByte (s.setRword a w).rmem c =
      if a ≤ c then ((toLE 4 w.toNat)[c - a]?).getD (SMap.get blankByte s.rmem c) else SMap.get blankByte s.rmem c := by
  have key : ∀ (bs : List Byte) (m : SMap Byte) (k : Nat),
      SMap.get blankByte ((bs.zipIdx k).foldl (fun m (b, i) => SMap.set blankByte m (a + i) b) m) c =
        if a + k ≤ c then (bs[c - (a + k)]?).getD (SMap.get blankByte m c) else SMap.get blankByte m c := by
    intro bs
    induction bs with
    | nil => intro m k; simp
    | cons b bs ih =>
      intro m k
      rw [List.zipIdx_cons, List.foldl_cons, ih, SMap.get_set]
      rcases Nat.lt_trichotomy (a + k) c with below | same | above
      · have next : c - (a + k) = (c - (a + (k + 1))) + 1 := by omega
        rw [if_pos (by omega), if_neg (by omega), if_pos (by omega), next, List.getElem?_cons_succ]
      · subst same
        simp
      · rw [if_neg (by omega), if_neg (by omega), if_neg (by omega)]
  exact key _ s.rmem 0

theorem State.rmem_setRword_outside (s : State) {a c : Nat} (w : Word) (h : c < a ∨ a + 4 ≤ c) :
    SMap.get blankByte (s.setRword a w).rmem c = SMap.get blankByte s.rmem c := by
  rw [State.rmem_setRword]
  rcases h with below | above
  · exact if_neg (by omega)
  · have past : (toLE 4 w.toNat)[c - a]? = none := List.getElem?_eq_none (by simp only [toLE, List.length_cons, List.length_nil]; omega)
    rw [past, Option.getD_none, ite_self]

theorem State.rword_setRword (s : State) (a : Nat) (w : Word) : (s.setRword a w).rword a = w := by
  have bytes : ((List.range 4).map fun i => SMap.get blankByte (s.setRword a w).rmem (a + i)) = toLE 4 w.toNat := by
    simp [State.rmem_setRword, List.range_succ, toLE]
  rw [State.rword, bytes, leNat_toLE, Nat.mod_eq_of_lt (show w.toNat < 256 ^ 4 from w.isLt), BitVec.ofNat_toNat, BitVec.setWidth_eq]

theorem State.rword_of_rmem_eq {s t : State} (h : t.rmem = s.rmem) (a : Nat) : t.rword a = s.rword a := by
  simp only [State.rword, h]

@[simp] theorem rmemNext_rmem (s : State) : (rmemNext s).rmem = s.rmem := by
  unfold rmemNext
  split <;> rfl

theorem doWrite_rmemData {s : State} {t : Nat} {v : Word} (lets : Lets s t PWR_RMEM_DATA.addr true) :
    doWrite s t PWR_RMEM_DATA.addr v = written (rmemWrite s v) t 0 :=
  doWrite_leaves lets rfl (by decide) fun _ _ => rfl

theorem rmemWrite_firmware {s : State} (v : Word) (area : 0x19000 ≤ rmemByte s) :
    rmemWrite s v = rmemNext (s.setRword (rmemByte s) v) := by
  rw [rmemWrite, if_pos area]

theorem rmemWrite_discarded {s : State} (v : Word) (below : rmemByte s < 0x19000) : rmemWrite s v = rmemNext s := by
  rw [rmemWrite, if_neg (Nat.not_le.mpr below)]

theorem doRead_rmemData {s : State} {t : Nat} (lets : Lets s t PWR_RMEM_DATA.addr false) :
    doRead s t PWR_RMEM_DATA.addr = readBack (rmemNext s) t 0 (s.rword (rmemByte s)) := by
  obtain ⟨r, hr⟩ := Option.isSome_iff_exists.mp (show (findReg PWR_RMEM_DATA.addr).isSome = true by decide)
  rw [doRead_of_lets lets rfl hr]
  rfl

/-- Settles O52: below the firmware area the write only moves the address on, in it the word is stored (`rword_setRword`). -/
theorem rootMemoryFirmwareArea : Obligations.RootMemoryFirmwareArea := by
  refine ⟨fun s t v lets low => ?discarded, fun s t v w lets addr high top => ?stored⟩
  case discarded =>
    have below : rmemByte s < 0x19000 := by rw [rmemByte]; omega
    refine ⟨_, next_congr (doWrite_rmemData lets), ?_, rfl⟩
    rw [written_rmem, rmemWrite_discarded v below, rmemNext_rmem]
  case stored =>
    have byte : rmemByte s = 4 * w := by rw [rmemByte, addr]
    have rmem : (written (rmemWrite s v) t 0).rmem = (s.setRword (4 * w) v).rmem := by
      rw [written_rmem, rmemWrite_firmware v (by omega), rmemNext_rmem, byte]
    refine ⟨_, next_congr (doWrite_rmemData lets), rfl, ?_, fun a outside => ?_⟩
    · rw [State.rword_of_rmem_eq rmem, State.rword_setRword]
    · rw [rmem, State.rmem_setRword_outside s v outside]

/-! ### The node reset (R156) -/

theorem doWrite_nodeRst {s : State} {t : Nat} {v : Word} (lets : Lets s t SYS_NODE_RST.addr true) :
    doWrite s t SYS_NODE_RST.addr v = written (writeNodeRst s v) t 0 :=
  doWrite_leaves lets rfl (by decide) fun _ _ => rfl

theorem writeNodeRst_other (s : State) {v : Word} (other : v ≠ 0x4E52) : writeNodeRst s v = s := if_pos other

/-- The key, written by no trunk or service port completion, requests the reset at once. -/
theorem writeNodeRst_key {s : State} (direct : s.sys.carrier = none) : writeNodeRst s 0x4E52 = requestNodeReset s false := by
  simp only [writeNodeRst, direct, ne_eq, not_true_eq_false, if_false]

/-- Settles O6: each access by what a write or read of its register does; the key by the cases of `requestNodeReset`. -/
theorem powerWritesComplete : Obligations.PowerWritesComplete := by
  refine ⟨fun s t v lets target => ?request, fun s t v lets target => ?noTarget, fun s t v lets => ?timer0, fun s t v lets => ?timer1,
    fun s t lets => ?rmemRead, fun s t v lets area => ?rmemWrite, fun s t v lets below => ?rmemDiscarded,
    fun s t v lets other => ?noKey, fun s t lets direct off holdup pdown => ?reset, fun s t lets direct off busy => ?latched⟩
  case request => exact next_congr (doWrite_modeReq lets target)
  case noTarget => exact next_congr (doWrite_modeReq_noTarget lets target)
  case timer0 =>
    exact next_congr (doWrite_named (fun u => u.modPwr fun p => { p with wt0At := s.uptime }) lets rfl (by decide) fun _ => rfl)
  case timer1 =>
    exact next_congr (doWrite_named (fun u => u.modPwr fun p => { p with wt1At := s.uptime }) lets rfl (by decide) fun _ => rfl)
  case rmemRead => exact next_congr (doRead_rmemData lets)
  case rmemWrite => exact next_congr ((doWrite_rmemData lets).trans (by rw [rmemWrite_firmware v area]))
  case rmemDiscarded => exact next_congr ((doWrite_rmemData lets).trans (by rw [rmemWrite_discarded v below]))
  case noKey => exact next_congr ((doWrite_nodeRst lets).trans (by rw [writeNodeRst_other s other]))
  case reset =>
    have ⟨_, _, safe, _⟩ := lets
    exact next_congr ((doWrite_nodeRst lets).trans
      (by rw [writeNodeRst_key direct, requestNodeReset_acts false off safe holdup pdown]))
  case latched =>
    have ⟨_, _, safe, _⟩ := lets
    refine next_congr ((doWrite_nodeRst lets).trans ?_)
    rw [writeNodeRst_key direct, requestNodeReset_latched false off safe busy]
    rfl

end Sys2Proof.Machine
end

section
/-! What SAFE lets through (R162, R354, R359, R714). -/

namespace Sys2Proof.Machine

/-! ### Judging accesses in SAFE -/

/-- In SAFE a write, or a read of a register that SAFE does not show, is denied without an event, where the tenant's permission
stands or the block is unassigned. -/
theorem regJudge_safe_denied {s : State} {ok wr : Bool} {a : Nat} (run : s.running = true) (safe : s.pwr.mode = .safe)
    (allowed : blockRows (blockOf a) = [] ∨ ok = true) (denied : wr = true ∨ safeReg a = false) :
    regJudge s ok a wr = (2, false) := by
  have permitted : (!(blockRows (blockOf a)).isEmpty && !ok) = false := by
    rcases allowed with none | rfl
    · simp [none]
    · simp
  have kept : (wr || !safeReg a) = true := by
    rcases denied with rfl | h
    · rfl
    · simp [h]
  simp [regJudge, run, permitted, safe, kept]

theorem regJudge_safe_read {s : State} {a : Nat} {r : RegRow} (run : s.running = true) (al : a % 4 = 0)
    (shown : safeReg a = true) (up : blockUp s (blockOf a) (a % 0x10000) = true) (hr : findReg a = some r) :
    regJudge s true a false = (0, false) := by
  have known : (blockRows (blockOf a)).isEmpty = false := by
    simpa [List.isEmpty_eq_false_iff] using blockRows_ne_nil_of_findReg hr
  simp [regJudge, run, known, shown, up, al, hr]

theorem memJudge_safe {s : State} {r : Row} {t a n : Nat} {wr : Bool} (denied : safeMem s r a n wr = false) :
    memJudge s t true r a n wr = (2, false) := by
  simp [memJudge, denied]

theorem safeMem_write {s : State} (safe : s.pwr.mode = .safe) (r : Row) (a n : Nat) : safeMem s r a n true = false := by
  simp [safeMem, safe]

/-- A read that is not wholly in the event log. -/
theorem safeMem_read_outside {s : State} {r : Row} {a n : Nat} (safe : s.pwr.mode = .safe)
    (outside : r ≠ .heartwood ∨ a < 0x10000000 + eventOff ∨ 0x10000000 + journalOff < a + n) :
    safeMem s r a n false = false := by
  rcases outside with row | below | above
  · simp [safeMem, safe, row]
  · simp [safeMem, safe, below]
  · simp [safeMem, safe, above]

/-! ### Register accesses in SAFE -/

theorem doWrite_safe {s : State} {t a : Nat} (v : Word) (run : s.running = true) (safe : s.pwr.mode = .safe)
    (allowed : blockRows (blockOf a) = [] ∨ permits s t a true = true) :
    doWrite s t a v = (if permits s t a true then refusedTxn s t a v else s).answer t 2 [] := by
  rw [doWrite, busWrite, regWrite_refused s t _ a v 2 false (regJudge_safe_denied run safe allowed (.inl rfl)) (by decide)]
  rfl

theorem doRead_safe_denied {s : State} {t a : Nat} (run : s.running = true) (safe : s.pwr.mode = .safe)
    (allowed : blockRows (blockOf a) = [] ∨ permits s t a false = true) (hidden : safeReg a = false) :
    doRead s t a = s.answer t 2 [0] := by
  rw [doRead, busRead, regRead_refused s t _ a 2 false (regJudge_safe_denied run safe allowed (.inr hidden)) (by decide)]
  rfl

theorem doRead_safe_shown {s : State} {t a : Nat} {r : RegRow} (run : s.running = true) (al : a % 4 = 0)
    (perm : permits s t a false = true) (shown : safeReg a = true) (up : blockUp s (blockOf a) (a % 0x10000) = true)
    (hr : findReg a = some r) :
    doRead s t a = readBack (readReg s t a r).1 t (readReg s t a r).2.1 (readReg s t a r).2.2 := by
  have judge : regJudge s (permits s t a false) a false = (0, false) := by
    rw [perm, regJudge_safe_read run al shown up hr]
  rw [doRead, busRead, regRead_done s t _ a r false judge hr, readBack]

/-! ### The tenant's transaction (R359) -/

theorem refusedTxn_of_other {s : State} {t a : Nat} (v : Word) (ctrl : a ≠ HWD_TXN_CTRL.addr t) (entry : a ≠ HWD_JE_GO.addr t) :
    refusedTxn s t a v = s := by
  simp [refusedTxn, ctrl, entry]

theorem txnCtrl_ne_jeGo (t : Nat) : HWD_TXN_CTRL.addr t ≠ HWD_JE_GO.addr t := by
  simp [HWD_TXN_CTRL.addr, HWD_JE_GO.addr]

theorem refusedTxn_open {s : State} {t : Nat} (v : Word) (safe : s.pwr.mode = .safe) :
    refusedTxn s t (HWD_TXN_CTRL.addr t) v = if wordField v 0 2 = 1 then s.setFld (HWD_TXN_STAT.RESULT t) 8 else s := by
  simp only [refusedTxn, safe, txnCtrl_ne_jeGo, true_or, true_and, false_and, or_false]

theorem refusedTxn_entry {s : State} {t : Nat} (v : Word) (safe : s.pwr.mode = .safe) :
    refusedTxn s t (HWD_JE_GO.addr t) v = if nbit v.toNat 0 then s.setFld (HWD_TXN_STAT.RESULT t) 8 else s := by
  simp only [refusedTxn, safe, (txnCtrl_ne_jeGo t).symm, true_or, true_and, false_and, false_or]

/-- Both registers of a tenant's transaction lie in Heartwood's block. -/
theorem blockOf_txn (t : Fin 8) : blockOf (HWD_JE_GO.addr t) = blockOf (HWD_TXN_CTRL.addr t) := by
  decide +revert

theorem txn_address (t : Fin 8) : HWD_TXN_CTRL.addr t < 2 ^ 40 ∧ HWD_JE_GO.addr t < 2 ^ 40 := by
  decide +revert

/-- Settles O12: SAFE judges every write, and every read of what it hides, DENIED before anything is performed
(`regJudge_safe_denied`, `safeMem`); a read that it shows is judged as ever. -/
theorem safeModeWrites : Obligations.SafeModeWrites := by
  refine ⟨fun s t a v run safe allowed ctrl entry => ?write, fun s t v run safe perm => ⟨?openTxn, ?entryTxn⟩,
    fun s t a run safe allowed hidden => ?hidden, fun s t a r run safe al perm shown up hr => ?shown,
    fun s r t a n safe => memJudge_safe (safeMem_write safe r a n),
    fun s r t a n safe outside => memJudge_safe (safeMem_read_outside safe outside)⟩
  case write =>
    exact next_congr ((doWrite_safe v run safe allowed).trans (by rw [refusedTxn_of_other v ctrl entry, ite_self]))
  case openTxn =>
    have addr : (BitVec.ofNat 40 (HWD_TXN_CTRL.addr t)).toNat = HWD_TXN_CTRL.addr t := toNat_ofNat_address (txn_address t).1
    rw [exec_registerWrite, addr, doWrite_safe v run safe (.inr perm), if_pos perm, refusedTxn_open v safe]
  case entryTxn =>
    have addr : (BitVec.ofNat 40 (HWD_JE_GO.addr t)).toNat = HWD_JE_GO.addr t := toNat_ofNat_address (txn_address t).2
    have permGo : permits s t (HWD_JE_GO.addr t) true = true := by rwa [permits, blockOf_txn]
    rw [exec_registerWrite, addr, doWrite_safe v run safe (.inr permGo), if_pos permGo, refusedTxn_entry v safe]
  case hidden => exact next_congr (doRead_safe_denied run safe allowed hidden)
  case shown => exact next_congr (doRead_safe_shown run al perm shown up hr)

end Sys2Proof.Machine
end

section
/-! The end of LOAD (R58, R67, R68, R283, R286, R287): boot verification and image apply. -/

namespace Sys2Proof.Machine

/-- Slot `x` shows as the booted one. -/
def slotShown (s : State) (x : Nat) : State := (s.setFld SYS_BOOT_STAT.SLOT x).modImg fun i => { i with booted := some x }

/-- Slot `x` is verified, at the BOOT write counter that Root records (R68). -/
def slotBooted (s : State) (x : Nat) : State :=
  (slotShown s x).modPwr fun p => { p with phase := .apply, verif := some (bootWriteCounter (slotShown s x)) }

/-- The slot in hand failed with result `r` of section `sect`: the result shows, and its Bark source is raised (R283). -/
def verifyFailed (s : State) (r sect : Nat) : State :=
  verifyBark ((s.setFld SEC_IMG_STAT.RESULT r).setFld SEC_IMG_STAT.SECT sect) r

theorem bootWriteCounter_slotShown (s : State) (x : Nat) : bootWriteCounter (slotShown s x) = bootWriteCounter s :=
  State.fld_setFld_other s _ _ _ (by decide) (by decide)

/-- Every word being good, the verification is that of the slot's image. -/
theorem verifySlot_good {s : State} (up : s.up fenceHWD = true) :
    verifySlot s [] = (s, verifyImage s (slotImage s s.pwr.slot) (slotDesc s s.pwr.slot).len [1]) := by
  simp [verifySlot, up, eccReads]

theorem doSignatureCheckDone_verify {s u : State} {ecc : List (Fin 3)} {r sect : Nat} (run : s.running = true)
    (mode : s.pwr.mode = .load) (phase : s.pwr.phase = .verify) (verdict : verifySlot s ecc = (u, r, sect))
    (still : u.pwr.mode = .load) :
    doSignatureCheckDone ecc s =
      if r = resOK then slotBooted u s.pwr.slot
      else if (verifyFailed u r sect).pwr.mode = .load then bootSlotFailed (verifyFailed u r sect)
      else verifyFailed u r sect := by
  simp only [doSignatureCheckDone, run, mode, phase, verdict, still, beq_self_eq_true, Bool.and_self, if_true, ne_eq,
    not_true_eq_false, if_false]
  rfl

theorem doSignatureCheckDone_idle {s : State} (ecc : List (Fin 3)) (idle : s.pwr.mode ≠ .load ∨ s.pwr.phase ≠ .verify) :
    doSignatureCheckDone ecc s = s := by
  refine if_neg ?_
  rcases idle with h | h <;> simp [h]

theorem doImageApply_booted {s : State} {x : Nat} (run : s.running = true) (mode : s.pwr.mode = .load)
    (phase : s.pwr.phase = .apply) (booted : s.img.booted = some x) :
    doImageApply s = payOwed (finishLoad (applyImage s (slotImage s x))) := by
  simp only [doImageApply, run, mode, phase, booted, beq_self_eq_true, Bool.and_self, if_true, Option.getD_some]

theorem doImageApply_idle {s : State} (idle : s.pwr.mode ≠ .load ∨ s.pwr.phase ≠ .apply) : doImageApply s = s := by
  refine if_neg ?_
  rcases idle with h | h <;> simp [h]

/-- Settles O3: the end of a verification by its verdict (`doSignatureCheckDone_verify`), which without a lost word is that of
`verifyImage` (`verifySlot_good`). -/
theorem loadCompletes : Obligations.LoadCompletes := by
  refine ⟨fun s run mode phase up ok => ?passes, fun s u ecc r sect run mode phase verdict still bad => ?fails,
    fun s ecc idle => next_congr (doSignatureCheckDone_idle ecc idle),
    fun s x run mode phase booted => next_congr (doImageApply_booted run mode phase booted),
    fun s idle => next_congr (doImageApply_idle idle)⟩
  case passes =>
    have done := (doSignatureCheckDone_verify run mode phase (verifySlot_good up) mode).trans (if_pos ok)
    exact ⟨_, next_congr done, rfl, rfl, congrArg some (bootWriteCounter_slotShown s _), mode, rfl⟩
  case fails =>
    exact ⟨_, rfl, next_congr ((doSignatureCheckDone_verify run mode phase verdict still).trans (if_neg bad))⟩

end Sys2Proof.Machine
end

section
/-! Supply monitors, HOLDUP and power-down (R75 to R93, R713). -/

namespace Sys2Proof.Machine

/-! ### Supply monitors (R76 to R79, R713) -/

theorem doRootPor_powered {s : State} (root : s.pwr.rootPowered = true) : doRootPor s = s := if_pos root

/-- VBAK comes back; Root has power already, or gets it by a power-on reset. -/
theorem doVbakPresent_back {s u : State} (root : doRootPor s = u) :
    doVbakPresent true s = u.modPwr fun p => { p with vbakOk := true } := by
  rw [doVbakPresent, if_pos rfl, root]

/-- VBAK is gone in `s`. -/
def vbakLost (s : State) : State := s.modPwr fun p => { p with vbakOk := false }

/-- Root keeps its power where the node is not in OFF or VIN supplies it (R53). -/
theorem checkRootPower_kept {s : State} (supplied : s.pwr.vinOk = true ∨ s.pwr.mode ≠ .off) : checkRootPower s = s := by
  refine if_neg ?_
  rcases supplied with h | h <;> simp [h]

theorem doVbakPresent_lost {s : State} (vin : s.pwr.vinOk = false) (mode : s.pwr.mode = .off) :
    doVbakPresent false s = (vbakLost s).modPwr fun p => { p with rootPowered := false } := by
  have unsupplied : (vbakLost s).pwr.mode = .off ∧ !(vbakLost s).pwr.vinOk ∧ !(vbakLost s).pwr.vbakOk :=
    ⟨mode, by simp [vbakLost, State.modPwr, vin], rfl⟩
  exact if_pos unsupplied

theorem doVmOver_rises {s : State} (below : s.pwr.vmOv = false) :
    doVmOver true s = vmFault (s.modPwr fun p => { p with vmOv := true }) false := if_pos (by simp [below])

theorem doVmOver_stays {s : State} {high : Bool} (h : high = false ∨ s.pwr.vmOv = true) :
    doVmOver high s = vmPair (vmBack (s.modPwr fun p => { p with vmOv := high })) := by
  refine if_neg ?_
  rcases h with h | h <;> simp [h]

@[simp] theorem State.fld_modPwr (s : State) (f : Pwr → Pwr) (r : FRef) : (s.modPwr f).fld r = s.fld r := rfl

/-- The four figures stand in the monitor registers. -/
def vmonShown (s : State) (vin hold vm vbak : Nat) : State :=
  (((s.setFld PWR_VMON0.VIN_MV vin).setFld PWR_VMON0.HOLD_MV hold).setFld PWR_VMON1.VM_MV vm).setFld PWR_VMON1.VBAK_MV vbak

theorem doVmon_running {s : State} {vin hold vm vbak : Nat} (run : s.running = true) :
    doVmon vin hold vm vbak s = (vmonShown s vin hold vm vbak).modPwr fun p =>
      { p with holdOk := p.holdOk && 17000 ≤ hold, vbakLow := p.vbakLow && vbak < 2600,
               charging := (vmonShown s vin hold vm vbak).bit PWR_HOLD_CFG.CHG_EN && hold + 500 < vin } := if_pos run

theorem vmonShown_fld (s : State) (vin hold vm vbak : BitVec 16) :
    let t := vmonShown s vin.toNat hold.toNat vm.toNat vbak.toNat
    t.fld PWR_VMON0.VIN_MV = vin.toNat ∧ t.fld PWR_VMON0.HOLD_MV = hold.toNat ∧ t.fld PWR_VMON1.VM_MV = vm.toNat ∧
      t.fld PWR_VMON1.VBAK_MV = vbak.toNat := by
  have fits (x : BitVec 16) : x.toNat % 2 ^ 16 = x.toNat := Nat.mod_eq_of_lt x.isLt
  dsimp only [vmonShown]
  refine ⟨?_, ?_, ?_, ?_⟩ <;> simp (disch := decide) only [State.fld_setFld_other, State.fld_setFld] <;> exact fits _

theorem vmonShown_chgEn (s : State) (vin hold vm vbak : Nat) :
    (vmonShown s vin hold vm vbak).bit PWR_HOLD_CFG.CHG_EN = s.bit PWR_HOLD_CFG.CHG_EN := by
  simp (disch := decide) only [vmonShown, State.bit_setFld_other]

@[simp] theorem vmonShown_pwr (s : State) (vin hold vm vbak : Nat) : (vmonShown s vin hold vm vbak).pwr = s.pwr := rfl

@[simp] theorem vmonShown_mem (s : State) (vin hold vm vbak : Nat) : (vmonShown s vin hold vm vbak).mem = s.mem := rfl

/-- Settles O1: each event by the equation for its case. -/
theorem supplyEventsComplete : Obligations.SupplyEventsComplete := by
  refine ⟨fun s => rfl, fun s => rfl, fun s => rfl, fun s vin => ?excursion, fun s vin => ?noExcursion, fun s root => ?vbak,
    fun s u root por => ?vbakPor, fun s supplied => ?vbakGone, fun s vin mode => ?rootLost, fun s => rfl, fun s ok => ?under,
    fun s ok => ?noUnder, fun s below => ?rises, fun s high h => ?back, fun s vin hold vm vbak run => ?monitors,
    fun s vin hold vm vbak stopped => ?noMonitors⟩
  case excursion => exact next_congr (if_pos vin)
  case noExcursion => exact next_congr (if_neg (by simp [vin]))
  case vbak => exact next_congr (doVbakPresent_back (doRootPor_powered root))
  case vbakPor => exact next_congr (doVbakPresent_back (Host.Outcome.next.inj por))
  case vbakGone => exact next_congr (checkRootPower_kept (s := vbakLost s) supplied)
  case rootLost => exact next_congr (doVbakPresent_lost vin mode)
  case under => exact next_congr (if_pos ok)
  case noUnder => exact next_congr (if_neg (by simp [ok]))
  case rises => exact next_congr (doVmOver_rises below)
  case back => exact next_congr (doVmOver_stays h)
  case monitors =>
    obtain ⟨vinMv, holdMv, vmMv, vbakMv⟩ := vmonShown_fld s vin hold vm vbak
    refine ⟨_, next_congr (doVmon_running run), (State.fld_modPwr _ _ _).trans vinMv,
      (State.fld_modPwr _ _ _).trans holdMv, (State.fld_modPwr _ _ _).trans vmMv, (State.fld_modPwr _ _ _).trans vbakMv, ?_, ?_⟩
    · simp only [State.modPwr, vmonShown_pwr, vmonShown_chgEn]
    · simp only [State.modPwr, vmonShown_mem]
  case noMonitors => exact next_congr (if_neg (by simp [stopped]))

/-! ### VIN fails (R80, R93) -/

/-- VIN has failed in `s`, and the failure is counted. -/
def vinFailed (s : State) : State :=
  (s.count PWR_VIN_FAILS.COUNT).modPwr fun p => { p with vinOk := false, vinQual := false, qualRun := false }

section VinFail
variable {s : State} (low : Bool)

theorem doVinFail_off (vin : s.pwr.vinOk = true) (mode : s.pwr.mode = .off) :
    doVinFail low s = checkRootPower ((vinFailed s).modPwr fun p => { p with phase := .none, seq := .none }) := by
  simp [doVinFail, vinFailed, vin, State.modPwr, mode]

theorem doVinFail_root (vin : s.pwr.vinOk = true) (mode : s.pwr.mode = .root) :
    doVinFail low s = enterOff (vinFailed s) .root := by
  simp [doVinFail, vinFailed, vin, State.modPwr, mode]

theorem doVinFail_safe (vin : s.pwr.vinOk = true) (mode : s.pwr.mode = .safe) :
    doVinFail low s = enterOff (vinFailed s) .safe := by
  simp [doVinFail, vinFailed, vin, State.modPwr, mode]

theorem doVinFail_holdup (vin : s.pwr.vinOk = true) (mode : s.pwr.mode = .holdup) : doVinFail low s = vinFailed s := by
  simp [doVinFail, vinFailed, vin, State.modPwr, mode]

/-- A power-down in which VIN fails: the record on HOLD begins, and the power-down ends in OFF (R93). -/
def pdownFailed (s : State) : State :=
  (holdRecord (vinFailed s)).modPwr fun p => { p with pdownLost := true, seqStart := s.uptime }

/-- In every other mode a power-down notes the failure, and a node without one enters HOLDUP. -/
theorem doVinFail_other (vin : s.pwr.vinOk = true) (off : s.pwr.mode ≠ .off) (root : s.pwr.mode ≠ .root)
    (safe : s.pwr.mode ≠ .safe) (holdup : s.pwr.mode ≠ .holdup) :
    doVinFail low s =
      if s.pwr.seq = .pdown then (if low then holdAborted (pdownFailed s) else pdownFailed s)
      else (if low then holdAborted (enterHoldup (vinFailed s)) else enterHoldup (vinFailed s)) := by
  have mode : (vinFailed s).pwr.mode = s.pwr.mode := rfl
  simp only [doVinFail, vin, Bool.not_true, Bool.false_eq_true, if_false]
  split
  · exact absurd ‹_› off
  · exact absurd ‹_› root
  · exact absurd ‹_› safe
  · exact absurd ‹_› holdup
  · rfl

end VinFail

theorem vinFailed_count (s : State) :
    (vinFailed s).fld PWR_VIN_FAILS.COUNT = satAdd PWR_VIN_FAILS.COUNT.wid (s.fld PWR_VIN_FAILS.COUNT) 1 :=
  State.fld_count s PWR_VIN_FAILS.COUNT 1 (by decide)

theorem Mode.isRunning_ne {m : Mode} (run : m.isRunning = true) : m ≠ .off ∧ m ≠ .root ∧ m ≠ .safe ∧ m ≠ .holdup := by
  refine ⟨?_, ?_, ?_, ?_⟩ <;> (rintro rfl; simp [Mode.isRunning] at run)

theorem Mode.code_lt (m : Mode) : m.code < 2 ^ 4 := by
  cases m <;> decide

theorem holdRecord_from (s : State) : (holdRecord s).fld PWR_HOLD_STAT.FROM = s.pwr.mode.code :=
  (State.fld_setFld _ PWR_HOLD_STAT.FROM _ (by decide)).trans (Nat.mod_eq_of_lt (Mode.code_lt _))

/-! ### HOLDUP's and power-down's own events (R75, R82 to R93) -/

theorem doVinQualified_runs {s : State} (vin : s.pwr.vinOk = true) (runs : s.pwr.qualRun = true) :
    doVinQualified s = (let u := s.modPwr fun p => { p with vinQual := true, qualRun := false }
      if s.pwr.mode = .off ∧ s.pwr.booted = true then offResume u
      else if s.pwr.mode = .holdup ∧ s.pwr.retWait = true then holdupReturn u else u) := if_pos (by simp [vin, runs])

theorem doVinQualified_idle {s : State} (h : s.pwr.vinOk = false ∨ s.pwr.qualRun = false) : doVinQualified s = s := by
  refine if_neg ?_
  rcases h with h | h <;> simp [h]

theorem doHoldExhausted_aborts {s : State}
    (h : (s.pwr.mode = .holdup ∧ s.pwr.committed = false) ∨ (s.pwr.seq = .pdown ∧ s.pwr.pdownLost = true)) :
    doHoldExhausted s = holdAborted s := if_pos (by simpa using h)

theorem doHoldExhausted_committed {s : State} (mode : s.pwr.mode = .holdup) (committed : s.pwr.committed = true)
    (pdown : s.pwr.seq ≠ .pdown) : doHoldExhausted s = enterOff (recordSeqTime s) .holdup := by
  simp [doHoldExhausted, mode, committed, pdown]

/-- The commit point of HOLDUP is reached (R87). -/
def holdupCommitted (s : State) : State :=
  ((commitSteps s).setBit PWR_HOLD_STAT.COMMIT true).modPwr fun p => { p with committed := true }

theorem doHoldupCommit_commits {s : State} (mode : s.pwr.mode = .holdup) (committed : s.pwr.committed = false) :
    doHoldupCommit s = if mayReturn (holdupCommitted s) = false then holdupCommitted s
      else if (holdupCommitted s).pwr.vinQual then holdupReturn (holdupCommitted s)
      else (holdupCommitted s).modPwr fun p => { p with retWait := p.qualRun } := by
  rw [doHoldupCommit, if_pos ⟨mode, by simp [committed]⟩]
  simp only [Bool.not_eq_true']
  rfl

/-- Outside HOLDUP and a power-down none of the sequence's events does anything. -/
theorem sequence_idle {s : State} (mode : s.pwr.mode ≠ .holdup) (pdown : s.pwr.seq ≠ .pdown) :
    doHoldupFwWindowEnd s = s ∧ doHoldupAxisCut s = s ∧ doHoldupCommit s = s ∧ doHoldupEnd s = s ∧ doHoldExhausted s = s := by
  refine ⟨?_, ?_, ?_, ?_, ?_⟩
  · simp [doHoldupFwWindowEnd, mode, pdown]
  · simp [doHoldupAxisCut, mode, pdown]
  · simp [doHoldupCommit, mode]
  · simp [doHoldupEnd, mode]
  · simp [doHoldExhausted, mode, pdown]

/-- Settles O4: VIN_FAIL by the mode that it meets (`doVinFail_off` to `doVinFail_other`), each event of a sequence by the
equation for its case. -/
theorem holdupAndPowerdownComplete : Obligations.HoldupAndPowerdownComplete := by
  refine ⟨fun s low vin => ?noFail, fun s u low vin hu => ?fail, fun s low vin run pdown => ?failPdown,
    fun s u vin runs hu => ?qualified, fun s h => next_congr (doVinQualified_idle h),
    fun s h => next_congr (doHoldExhausted_aborts h),
    fun s mode committed pdown => next_congr (doHoldExhausted_committed mode committed pdown), fun s u pdown hu => ?pdownCommit,
    fun s pdown => next_congr (if_neg pdown), fun s busy window => ?fwWindow, fun s busy => next_congr (if_pos busy),
    fun s mode pdown => ?idle, fun s u mode committed hu => ?commit, fun s => rfl, fun s mode committed wait => ?seqEnd⟩
  case noFail => exact next_congr (if_pos (by simp [vin]))
  case fail =>
    have failed : u = vinFailed s := hu
    subst failed
    refine ⟨vinFailed_count s, fun mode => next_congr (doVinFail_off low vin mode),
      fun mode => next_congr (doVinFail_root low vin mode), fun mode => next_congr (doVinFail_safe low vin mode),
      fun mode => next_congr (doVinFail_holdup low vin mode), fun off root safe holdup pdown => ?_⟩
    exact next_congr ((doVinFail_other low vin off root safe holdup).trans (if_neg pdown))
  case failPdown =>
    obtain ⟨off, root, safe, holdup⟩ := Mode.isRunning_ne run
    exact ⟨pdownFailed s, next_congr ((doVinFail_other low vin off root safe holdup).trans (if_pos pdown)), rfl, rfl, pdown, rfl,
      holdRecord_from (vinFailed s), rfl⟩
  case qualified =>
    subst hu
    exact next_congr (doVinQualified_runs vin runs)
  case pdownCommit =>
    subst hu
    exact next_congr (if_pos pdown)
  case fwWindow => exact ⟨_, next_congr (if_pos ⟨busy, window⟩), rfl, rfl, rfl⟩
  case idle =>
    obtain ⟨window, cut, commit, ended, exhausted⟩ := sequence_idle mode pdown
    exact ⟨next_congr window, next_congr cut, next_congr commit, next_congr ended, next_congr exhausted⟩
  case commit =>
    have done : u = holdupCommitted s := hu
    subst done
    exact next_congr (doHoldupCommit_commits mode committed)
  case seqEnd => exact next_congr (if_pos ⟨mode, committed, by simp [wait]⟩)

end Sys2Proof.Machine
end

section
/-! Register accesses that are not let through, outside SAFE (R99, R130, R131, R135, R136, R359). -/

namespace Sys2Proof.Machine

/-! ### What an access does once it is refused -/

theorem doWrite_refused {s : State} {t a st : Nat} {raise : Bool} (v : Word)
    (judged : regJudge s (permits s t a true) a true = (st, raise)) (bad : st ≠ 0) :
    doWrite s t a v =
      (if raise then raiseRefusal s t st else if permits s t a true then refusedTxn s t a v else s).answer t st [] := by
  rw [doWrite, busWrite, regWrite_refused s t _ a v st raise judged bad]

theorem doRead_refused {s : State} {t a st : Nat} {raise : Bool}
    (judged : regJudge s (permits s t a false) a false = (st, raise)) (bad : st ≠ 0) :
    doRead s t a = (if raise then raiseRefusal s t st else s).answer t st [0] := by
  rw [doRead, busRead, regRead_refused s t _ a st raise judged bad]

/-! ### The judgement, check by check (log entry 23) -/

theorem permits_read_of_write {s : State} {t a : Nat} (perm : permits s t a true = true) : permits s t a false = true := by
  have full : s.perm t (blockOf a) = 3 := by simpa [permits] using perm
  simp [permits, full]

/-- Every block that has a gate names registers, so an unassigned block takes every access (Table 05-2). -/
theorem blockUp_of_unassigned {s : State} {b : Nat} (o : Nat) (unassigned : blockRows b = []) : blockUp s b o = true := by
  have noFence : blockFence b = none := by
    unfold blockFence
    split
    case h_19 => rfl
    all_goals exact absurd unassigned (List.cons_ne_nil _ _)
  have noGrove : b ≠ 0x1E := by
    rintro rfl
    exact absurd unassigned (List.cons_ne_nil _ _)
  simp only [blockUp, noFence, if_neg noGrove]

section
variable {s : State} {ok wr : Bool} {a : Nat}

theorem regJudge_stopped (stopped : s.running = false) : regJudge s ok a wr = (3, false) := by
  simp [regJudge, stopped]

/-- Permission is judged before SAFE, the unit's gate and the offset. -/
theorem regJudge_denied (run : s.running = true) (block : blockRows (blockOf a) ≠ []) (perm : ok = false) :
    regJudge s ok a wr = (2, true) := by
  simp [regJudge, run, block, perm]

/-- The unit's gate is judged before the offset. -/
theorem regJudge_gated (run : s.running = true) (perm : ok = true) (mode : s.pwr.mode ≠ .safe)
    (gated : blockUp s (blockOf a) (a % 0x10000) = false) : regJudge s ok a wr = (3, false) := by
  simp [regJudge, run, perm, mode, gated]

theorem regJudge_unassigned (run : s.running = true) (mode : s.pwr.mode ≠ .safe) (unassigned : blockRows (blockOf a) = []) :
    regJudge s ok a wr = (1, true) := by
  simp [regJudge, run, mode, unassigned, blockUp_of_unassigned]

theorem regJudge_undecoded (run : s.running = true) (perm : ok = true) (mode : s.pwr.mode ≠ .safe)
    (up : blockUp s (blockOf a) (a % 0x10000) = true) (undecoded : findReg a = none ∨ a % 4 ≠ 0) :
    regJudge s ok a wr = (1, true) := by
  rcases undecoded with unnamed | unaligned
  · simp [regJudge, run, perm, mode, up, unnamed]
  · simp [regJudge, run, perm, mode, up, unaligned]

end

/-! ### Both accesses, by what refuses them -/

section
variable {s : State} {t a : Nat}

theorem doWrite_denied (v : Word) (run : s.running = true) (block : blockRows (blockOf a) ≠ [])
    (perm : permits s t a true = false) : doWrite s t a v = (bark s Src.TEN_PERM t).answer t 2 [] :=
  doWrite_refused v (regJudge_denied run block perm) (by decide)

theorem doRead_denied (run : s.running = true) (block : blockRows (blockOf a) ≠ []) (perm : permits s t a false = false) :
    doRead s t a = (bark s Src.TEN_PERM t).answer t 2 [0] :=
  doRead_refused (regJudge_denied run block perm) (by decide)

theorem doWrite_decodeErr {v : Word} (judged : regJudge s (permits s t a true) a true = (1, true)) :
    doWrite s t a v = (bark s Src.BUS_DECODE t).answer t 1 [] := doWrite_refused v judged (by decide)

theorem doRead_decodeErr (judged : regJudge s (permits s t a false) a false = (1, true)) :
    doRead s t a = (bark s Src.BUS_DECODE t).answer t 1 [0] := doRead_refused judged (by decide)

theorem doWrite_gated (v : Word) (run : s.running = true) (perm : permits s t a true = true) (mode : s.pwr.mode ≠ .safe)
    (gated : blockUp s (blockOf a) (a % 0x10000) = false) : doWrite s t a v = (refusedTxn s t a v).answer t 3 [] := by
  rw [doWrite_refused v (regJudge_gated run perm mode gated) (by decide), perm]
  rfl

theorem doRead_gated (run : s.running = true) (perm : permits s t a false = true) (mode : s.pwr.mode ≠ .safe)
    (gated : blockUp s (blockOf a) (a % 0x10000) = false) : doRead s t a = s.answer t 3 [0] :=
  doRead_refused (regJudge_gated run perm mode gated) (by decide)

end

/-! ### The tenant's own OPEN or entry write (R359) -/

/-- Heartwood refuses transactions neither for SAFE nor for a fence. -/
theorem refusedTxn_of_taken {s : State} {t a : Nat} (v : Word) (mode : s.pwr.mode ≠ .safe)
    (unfenced : s.fenced fenceHWD = false) : refusedTxn s t a v = s := by
  simp [refusedTxn, mode, unfenced]

/-- A write of the control register that is no OPEN. -/
theorem refusedTxn_of_not_open {s : State} {t : Nat} {v : Word} (other : wordField v 0 2 ≠ 1) :
    refusedTxn s t (HWD_TXN_CTRL.addr t) v = s := by
  simp [refusedTxn, other, txnCtrl_ne_jeGo]

theorem refusedTxn_of_no_entry {s : State} {t : Nat} {v : Word} (other : nbit v.toNat 0 = false) :
    refusedTxn s t (HWD_JE_GO.addr t) v = s := by
  simp [refusedTxn, other, (txnCtrl_ne_jeGo t).symm]

theorem refusedTxn_aborts {s : State} {t a : Nat} {v : Word} (refused : s.pwr.mode = .safe ∨ s.fenced fenceHWD = true)
    (own : (a = HWD_TXN_CTRL.addr t ∧ wordField v 0 2 = 1) ∨ (a = HWD_JE_GO.addr t ∧ nbit v.toNat 0 = true)) :
    refusedTxn s t a v = s.setFld (HWD_TXN_STAT.RESULT t) 8 := if_pos ⟨refused, own⟩

/-- Settles O11: the first check that refuses an access gives its status (`regJudge_stopped` to `regJudge_undecoded`), and the
status its event and what a write ends of the tenant's transaction (`doWrite_refused`, `doRead_refused`). -/
theorem refusedAccesses : Obligations.RefusedAccesses := by
  refine ⟨fun s t a v run block perm => next_congr (doWrite_denied v run block perm),
    fun s t a run block perm => next_congr (doRead_denied run block perm), fun s t a v run mode unassigned => ?unassigned,
    fun s t a v lets block undecoded => ?undecoded, fun s t a v run perm mode gated => ?gated,
    fun s t a run perm mode gated => next_congr (doRead_gated run perm mode gated),
    fun s t a v stopped mode unfenced => ?stopped, fun s t a v spared => ?spared, fun s t v refused => ?aborted⟩
  case unassigned =>
    exact ⟨next_congr (doWrite_decodeErr (regJudge_unassigned run mode unassigned)),
      next_congr (doRead_decodeErr (regJudge_unassigned run mode unassigned))⟩
  case undecoded =>
    obtain ⟨run, perm, mode, up⟩ := lets
    exact ⟨next_congr (doWrite_decodeErr (regJudge_undecoded run perm mode up undecoded)),
      next_congr (doRead_decodeErr (regJudge_undecoded run (permits_read_of_write perm) mode up undecoded))⟩
  case gated =>
    exact ⟨next_congr (doWrite_gated v run perm mode gated),
      next_congr (doRead_gated run (permits_read_of_write perm) mode gated)⟩
  case stopped =>
    refine ⟨next_congr ((doWrite_refused v (regJudge_stopped stopped) (by decide)).trans ?_),
      next_congr (doRead_refused (regJudge_stopped stopped) (by decide))⟩
    rw [refusedTxn_of_taken v mode unfenced, ite_self]
    rfl
  case spared =>
    rcases spared with ⟨mode, unfenced⟩ | ⟨ctrl, entry⟩ | ⟨rfl, noOpen⟩ | ⟨rfl, noEntry⟩
    · exact refusedTxn_of_taken v mode unfenced
    · exact refusedTxn_of_other v ctrl entry
    · exact refusedTxn_of_not_open noOpen
    · exact refusedTxn_of_no_entry noEntry
  case aborted =>
    exact ⟨fun opens => refusedTxn_aborts refused (.inl ⟨rfl, opens⟩),
      fun enters => refusedTxn_aborts refused (.inr ⟨rfl, enters⟩)⟩

end Sys2Proof.Machine
end

section
/-! Update groups (R138 to R142, R296, R463): what applying a group makes of each register and of what is staged. -/

namespace Sys2Proof.Machine

/-! ### Entries of a sparse map -/

section
variable {α : Type} {d : Nat → α} {m : SMap α}

/-- What a key reads as other than its default is listed. -/
theorem SMap.mem_of_get {a : Nat} {v : α} (h : SMap.get d m a = v) (hv : v ≠ d a) : (a, v) ∈ m := by
  induction m with
  | nil => exact absurd h.symm hv
  | cons p m ih =>
    obtain ⟨k, w⟩ := p
    rw [SMap.get] at h
    split at h
    next same => simp [← same, ← h]
    next => exact List.mem_cons_of_mem _ (ih h)

theorem SMap.get_filter (d : Nat → α) (keep : Nat → Bool) (m : SMap α) (a : Nat) :
    SMap.get d (m.filter fun p => keep p.1) a = if keep a = true then SMap.get d m a else d a := by
  induction m with
  | nil => simp [SMap.get]
  | cons p m ih =>
    obtain ⟨k, w⟩ := p
    by_cases hk : k = a
    · subst hk
      by_cases kept : keep k = true <;> simp [kept, SMap.get, ih]
    · by_cases kept : keep k = true <;> simp [kept, SMap.get, ih, hk]

theorem SMap.le_of_rising {lo : Nat} (rising : SMap.rising lo m = true) {p : Nat × α} (hp : p ∈ m) : lo ≤ p.1 := by
  induction m generalizing lo with
  | nil => cases hp
  | cons q m ih =>
    simp only [SMap.rising, Bool.and_eq_true, decide_eq_true_eq] at rising
    rcases List.mem_cons.mp hp with rfl | hp
    · exact rising.1
    · exact Nat.le_of_succ_le (Nat.le_trans (Nat.succ_le_succ rising.1) (ih rising.2 hp))

/-- A canonical map lists each key once. -/
theorem SMap.keys_nodup {lo : Nat} (rising : SMap.rising lo m = true) : m.Pairwise fun p q => p.1 ≠ q.1 := by
  induction m generalizing lo with
  | nil => exact List.Pairwise.nil
  | cons q m ih =>
    simp only [SMap.rising, Bool.and_eq_true, decide_eq_true_eq] at rising
    exact List.pairwise_cons.mpr ⟨fun p hp => Nat.ne_of_lt (SMap.le_of_rising rising.2 hp), ih rising.2⟩

/-- A listed key reads as what is listed. -/
theorem SMap.get_of_mem (once : m.Pairwise fun p q => p.1 ≠ q.1) {a : Nat} {v : α} (h : (a, v) ∈ m) :
    SMap.get d m a = v := by
  induction m with
  | nil => cases h
  | cons q m ih =>
    obtain ⟨apart, once⟩ := List.pairwise_cons.mp once
    rcases List.mem_cons.mp h with rfl | h
    · exact if_pos rfl
    · exact (if_neg (apart _ h)).trans (ih once h)

end

/-- In canonical form no key is listed that reads as its default. -/
theorem SMap.not_mem_of_get {α : Type} [DecidableEq α] {d : Nat → α} {m : SMap α} (wf : SMap.wf d m = true) {a : Nat}
    (h : SMap.get d m a = d a) : ∀ p ∈ m, p.1 ≠ a := by
  rintro ⟨k, v⟩ hp rfl
  simp only [SMap.wf, Bool.and_eq_true, List.all_eq_true, decide_eq_true_eq] at wf
  obtain ⟨rising, listed⟩ := wf
  exact listed _ hp ((SMap.get_of_mem (SMap.keys_nodup rising) hp).symm.trans h)

/-! ### A group's staged values take effect (R138, R139) -/

/-- Word `w` of a register of row `r`, the staged value `v` now effective in it. -/
def tookEffect (w : Word) (r : RegRow) (v : Word) : Word := (w &&& ~~~ r.rws) ||| (v &&& r.rws)

/-- One staged value becomes effective. -/
def takeStaged (s : State) (p : Nat × Option Word) : State :=
  match p.2, findReg p.1 with
  | some v, some r => s.setWord p.1 (tookEffect (s.word p.1) r v)
  | _, _ => s

/-- What is staged of group `g`. -/
def stagedOf (s : State) (g : Nat) : SMap (Option Word) := s.stg.filter fun p => groupOf p.1 == g

/-- Nothing of group `g` is staged any more. -/
def unstaged (s : State) (g : Nat) : State := { s with stg := s.stg.filter fun p => groupOf p.1 != g }

theorem commitGroup_eq (s : State) (g : Nat) : commitGroup s g = (stagedOf s g).foldl takeStaged (unstaged s g) := rfl

theorem takeStaged_word_same {a : Nat} {r : RegRow} (hr : findReg a = some r) (s : State) (v : Word) :
    (takeStaged s (a, some v)).word a = tookEffect (s.word a) r v := by
  simp only [takeStaged, hr, State.word_setWord_same]

theorem takeStaged_word_other (s : State) {p : Nat × Option Word} {a : Nat} (h : p.1 ≠ a) :
    (takeStaged s p).word a = s.word a := by
  unfold takeStaged
  split
  · exact State.word_setWord_other _ _ _ _ h
  · rfl

@[simp] theorem takeStaged_stg (s : State) (p : Nat × Option Word) : (takeStaged s p).stg = s.stg := by
  unfold takeStaged
  split <;> rfl

theorem foldl_takeStaged_word_other (l : SMap (Option Word)) (s : State) {a : Nat} (h : ∀ p ∈ l, p.1 ≠ a) :
    (l.foldl takeStaged s).word a = s.word a := by
  induction l generalizing s with
  | nil => rfl
  | cons p l ih =>
    obtain ⟨hp, hl⟩ := List.forall_mem_cons.mp h
    exact (ih _ hl).trans (takeStaged_word_other s hp)

theorem foldl_takeStaged_stg (l : SMap (Option Word)) (s : State) : (l.foldl takeStaged s).stg = s.stg := by
  induction l generalizing s with
  | nil => rfl
  | cons p l ih => exact (ih _).trans (takeStaged_stg s p)

/-- Of keys listed once each, only the register's own staged value reaches it. -/
theorem foldl_takeStaged_word_same {l : SMap (Option Word)} (once : l.Pairwise fun p q => p.1 ≠ q.1) (s : State) {a : Nat}
    {v : Word} {r : RegRow} (listed : (a, some v) ∈ l) (hr : findReg a = some r) :
    (l.foldl takeStaged s).word a = tookEffect (s.word a) r v := by
  obtain ⟨before, after, rfl⟩ := List.append_of_mem listed
  obtain ⟨-, onceAfter, apart⟩ := List.pairwise_append.mp once
  have notBefore : ∀ p ∈ before, p.1 ≠ a := fun p hp => apart p hp _ List.mem_cons_self
  have notAfter : ∀ p ∈ after, p.1 ≠ a := fun p hp => ((List.pairwise_cons.mp onceAfter).1 p hp).symm
  rw [List.foldl_append, List.foldl_cons, foldl_takeStaged_word_other after _ notAfter, takeStaged_word_same hr,
    foldl_takeStaged_word_other before s notBefore]

theorem mem_stagedOf {s : State} {g : Nat} {p : Nat × Option Word} : p ∈ stagedOf s g ↔ p ∈ s.stg ∧ groupOf p.1 = g := by
  simp only [stagedOf, List.mem_filter, beq_iff_eq]

/-- A register whose own key is not staged in the group keeps its word. -/
theorem commitGroup_word_other (s : State) {g a : Nat} (h : ∀ p ∈ stagedOf s g, p.1 ≠ a) :
    (commitGroup s g).word a = s.word a :=
  (congrArg (State.word · a) (commitGroup_eq s g)).trans (foldl_takeStaged_word_other _ _ h)

theorem commitGroup_word_staged {s : State} {a : Nat} {v : Word} {r : RegRow} (wf : SMap.wf (fun _ => none) s.stg = true)
    (staged : SMap.get (fun _ => none) s.stg a = some v) (hr : findReg a = some r) :
    (commitGroup s (groupOf a)).word a = tookEffect (s.word a) r v := by
  have once : (stagedOf s (groupOf a)).Pairwise fun p q => p.1 ≠ q.1 :=
    (SMap.keys_nodup (Bool.and_eq_true_iff.mp wf).1).filter _
  have listed : (a, some v) ∈ stagedOf s (groupOf a) := mem_stagedOf.mpr ⟨SMap.mem_of_get staged (by simp), rfl⟩
  rw [commitGroup_eq, foldl_takeStaged_word_same once _ listed hr]
  rfl

theorem commitGroup_stg_get (s : State) (g a : Nat) :
    SMap.get (fun _ => none) (commitGroup s g).stg a =
      if groupOf a = g then none else SMap.get (fun _ => none) s.stg a := by
  rw [commitGroup_eq, foldl_takeStaged_stg]
  refine (SMap.get_filter (fun _ => none) (fun a => groupOf a != g) s.stg a).trans ?_
  simp only [bne_iff_ne, ne_eq, ite_not]

/-! ### Which groups a tenant may apply (R142, R463) -/

/-- The mask of the places below `n` for which `may` holds. -/
def maskBelow (may : Nat → Bool) (n : Nat) : Nat := (List.range n).foldl (fun m g => if may g = true then setBit m g else m) 0

theorem maskBelow_succ (may : Nat → Bool) (n : Nat) :
    maskBelow may (n + 1) = if may n = true then setBit (maskBelow may n) n else maskBelow may n := by
  simp only [maskBelow, List.range_succ, List.foldl_append, List.foldl_cons, List.foldl_nil]

theorem nbit_eq_testBit (n k : Nat) : nbit n k = n.testBit k := by
  rw [Nat.testBit_eq_decide_div_mod_eq]
  rfl

/-- Setting a bit above all bits of a number adds its value. -/
theorem setBit_above {x n : Nat} (h : x < 2 ^ n) : setBit x n = 2 ^ n + x := by
  rw [setBit, nbit_eq_testBit, Nat.testBit_lt_two_pow h, if_neg Bool.false_ne_true, Nat.add_comm]

theorem maskBelow_lt (may : Nat → Bool) (n : Nat) : maskBelow may n < 2 ^ n := by
  induction n with
  | zero => exact Nat.one_pos
  | succ n ih =>
    rw [maskBelow_succ, setBit_above ih]
    split <;> omega

theorem nbit_maskBelow (may : Nat → Bool) {n k : Nat} (hk : k < n) : nbit (maskBelow may n) k = may k := by
  induction n with
  | zero => exact absurd hk (Nat.not_lt_zero k)
  | succ n ih =>
    have fits := maskBelow_lt may n
    have top : (maskBelow may n).testBit n = false := Nat.testBit_lt_two_pow fits
    rw [maskBelow_succ, setBit_above fits, nbit_eq_testBit]
    rcases Nat.lt_or_eq_of_le (Nat.le_of_lt_succ hk) with below | rfl
    · have kept := Nat.testBit_two_pow_add_gt below (maskBelow may n)
      rw [← ih below, nbit_eq_testBit]
      split
      · exact kept
      · rfl
    · by_cases h : may k = true
      · rw [if_pos h, Nat.testBit_two_pow_add_eq, top, h, Bool.not_false]
      · rw [if_neg h, top, Bool.eq_false_of_not_eq_true h]

theorem nbit_mayApply (s : State) (t : Nat) {g : Nat} (hg : g < 16) :
    nbit (mayApply s t) g = (s.perm t (groupBlock g) == 3) := by
  have mask : mayApply s t = maskBelow (fun g => s.perm t (groupBlock g) == 3) 16 := by
    simp only [mayApply, maskBelow, beq_iff_eq]
  rw [mask, nbit_maskBelow _ hg]

/-! ### Applies -/

theorem applyGroups_eq (s : State) (t m : Nat) : applyGroups s t m = (List.range 16).foldl (fun u g =>
    if nbit m g = true then applyGroup u (s.perm t (groupBlock g) == 3) g else u) s :=
  List.foldl_ext _ _ s fun u g hg => by rw [nbit_mayApply s t (List.mem_range.mp hg)]

theorem graftHolds_iff (s : State) (g : Nat) :
    graftHolds s g = true ↔ 2 ≤ g ∧ g ≤ 5 ∧ s.bit (CNP_STATUS.GRAFT (g - 2)) = true := by
  simp only [graftHolds, Bool.and_eq_true, decide_eq_true_eq, and_assoc]

theorem applyGroup_eq (s : State) (may : Bool) (g : Nat) :
    applyGroup s may g =
      if may = true ∧ groupUp s g = true ∧ ¬ (2 ≤ g ∧ g ≤ 5 ∧ s.bit (CNP_STATUS.GRAFT (g - 2)) = true) then
        groupTakes s (commitGroup s g) g
      else s.setBitAt SYS_UPD_STAT.SKIPPED g true := by
  simp only [applyGroup, ← graftHolds_iff, Bool.and_eq_true, Bool.not_eq_true', Bool.not_eq_true, and_assoc]

/-- Settles O54: a commit is a fold over the group's staged values, of which one at most names a given register
(`foldl_takeStaged_word_same`). -/
theorem updateGroupsApply : Obligations.UpdateGroupsApply := by
  refine ⟨fun s g a v r wf staged hg hr => ?staged, fun s g a wf hg => ?gone, fun s g a wf hg => ⟨?otherStaged, ?otherWord⟩,
    fun s g a wf unstaged => ?unstaged, applyGroups_eq, applyGroup_eq⟩
  case staged => exact hg ▸ commitGroup_word_staged wf staged hr
  case gone => rw [commitGroup_stg_get, if_pos hg]
  case otherStaged => rw [commitGroup_stg_get, if_neg hg]
  case otherWord =>
    exact commitGroup_word_other s fun p hp same => hg (same ▸ (mem_stagedOf.mp hp).2)
  case unstaged =>
    exact commitGroup_word_other s fun p hp => SMap.not_mem_of_get wf unstaged p (mem_stagedOf.mp hp).1

end Sys2Proof.Machine
end

section
/-! Frames of the service port (R132, R158 to R161). -/

namespace Sys2Proof.Machine

/-! ### The words of a frame (R132, R160) -/

theorem eccMasks_get (cor lost : BitVec 32) (k : Fin 32) :
    (eccMasks cor lost)[k.val]? =
      some (if lost.getLsbD k.val = true then 2 else if cor.getLsbD k.val = true then 1 else 0) := by
  simp only [eccMasks, List.getElem?_map, List.getElem?_range k.isLt, Option.map_some]

section
variable {s u : State} {wr : Bool} {data : List Word} {a st : Nat} {v : Option Word} {l : List (Nat × Option Word)} {w : Word}

/-- After a word that ends well the next one is performed. -/
theorem svcGo_ok {e : Fin 3} {es : List (Fin 3)} (word : svcWord s a v e.val = (u, .ended 0 w)) :
    svcGo s wr data ((a, v) :: l) (e :: es) = svcGo u wr (if wr then data else data ++ [w]) l es := by
  simp only [svcGo, List.headD_cons, word, ne_eq, not_true_eq_false, if_false, List.tail_cons]

/-- At the first word that fails the frame ends. -/
theorem svcGo_failed {ecc : List (Fin 3)} (word : svcWord s a v (ecc.headD 0).val = (u, .ended st w)) (bad : st ≠ 0) :
    svcGo s wr data ((a, v) :: l) ecc = svcFinish u wr data (l.length + 1) st := by
  simp only [svcGo, word, if_pos bad]

/-- A word that waits at the rack bridge leaves the rest in hand. -/
theorem svcGo_waits {ecc : List (Fin 3)} (word : svcWord s a v (ecc.headD 0).val = (u, .waits)) :
    svcGo s wr data ((a, v) :: l) ecc =
      { u with sys := { u.sys with svc := some { wr := wr, left := l, data := data } } } := by
  simp only [svcGo, word]

end

/-- A frame that ends leaves its answer and is counted. -/
theorem svcFinish_answers (s : State) (wr : Bool) (data : List Word) (k st : Nat) :
    (svcFinish s wr data k st).rsp =
      { tenant := 6, status := st, data := if wr then [] else data ++ List.replicate k 0 } ∧
    (svcFinish s wr data k st).fld SYS_SVC_CNT.FRAMES = satAdd SYS_SVC_CNT.FRAMES.wid (s.fld SYS_SVC_CNT.FRAMES) 1 ∧
    (svcFinish s wr data k st).sys.svc = none ∧ (svcFinish s wr data k st).mem = s.mem :=
  ⟨rfl, State.fld_count _ SYS_SVC_CNT.FRAMES 1 (by decide), rfl, rfl⟩

/-! ### Frames (R158 to R161) -/

theorem fromLands_congr {s : State} {f g : State → State} (h : f s = g s) : fromLands s f = fromLands s g := by
  simp only [fromLands, h]

/-- An event that changes nothing changes nothing either with the lands cut off. -/
theorem fromLands_id {s : State} {f : State → State} (h : f s = s) : fromLands s f = s := by
  simp only [fromLands, h, ite_self]

section
variable {s : State} (fixed : Bool) {a : Nat}

theorem svcFrames_inactive (inactive : svcActive s = false) (a n : Nat) (ecc : List (Fin 3)) (ws : List Word) (part : SvcPart) :
    doSvcReadFrame fixed a n ecc s = s ∧ doSvcWriteFrame fixed a ws s = s ∧ doSvcInvalidFrame s = s ∧
      doSvcFrameAbort fixed a part s = s := by
  simp [doSvcReadFrame, doSvcWriteFrame, doSvcInvalidFrame, doSvcFrameAbort, inactive]

variable (active : svcActive s = true)
include active

theorem doSvcReadFrame_aligned (al : a % 4 = 0) (n : Nat) (ecc : List (Fin 3)) :
    doSvcReadFrame fixed a n ecc s = svcGo (svcListen s) false [] ((svcAddrs fixed a n).map fun a => (a, none)) ecc := by
  simp [doSvcReadFrame, active, al]

theorem doSvcWriteFrame_aligned (al : a % 4 = 0) (ws : List Word) :
    doSvcWriteFrame fixed a ws s = svcGo (svcListen s) true [] ((svcAddrs fixed a ws.length).zip (ws.map some)) [] := by
  simp [doSvcWriteFrame, active, al, svcPairs]

theorem doSvcReadFrame_unaligned (unaligned : a % 4 ≠ 0) (n : Nat) (ecc : List (Fin 3)) :
    doSvcReadFrame fixed a n ecc s = doSvcInvalidFrame s := by
  simp [doSvcReadFrame, active, unaligned]

theorem doSvcWriteFrame_unaligned (unaligned : a % 4 ≠ 0) (ws : List Word) :
    doSvcWriteFrame fixed a ws s = doSvcInvalidFrame s := by
  simp [doSvcWriteFrame, active, unaligned]

theorem doSvcInvalidFrame_active :
    doSvcInvalidFrame s = bark ((svcListen s).count SYS_SVC_CNT.ERR) Src.SVC_PROTO := if_pos active

/-- A frame in hand at the rack bridge is the one that ends. -/
theorem doSvcFrameAbort_inHand (al : a % 4 = 0) (part : SvcPart) (inHand : s.sys.svc.isSome = true) :
    doSvcFrameAbort fixed a part s = svcListen s := by
  simp [doSvcFrameAbort, active, al, inHand]

end

/-- The words of a frame that is cut short, in order. -/
def partWords (fixed : Bool) (a : Nat) : SvcPart → List (Nat × Option Word)
  | .reads n => (svcAddrs fixed a n.val).map fun a => (a, none)
  | .writes ws => (svcAddrs fixed a (ws.take 32).length).zip ((ws.take 32).map some)

/-- No completion is left to carry what a frame of the service port asked for. -/
def carryGone (s : State) : State :=
  { s with sys := { s.sys with carry := s.sys.carry.map fun c => if c.port = 2 then { c with gone := true } else c } }

theorem doSvcFrameAbort_cutShort {s : State} (fixed : Bool) {a : Nat} (part : SvcPart) (active : svcActive s = true)
    (al : a % 4 = 0) (free : s.sys.svc = none) :
    doSvcFrameAbort fixed a part s =
      bark ((carryGone (svcPart (svcListen s) (partWords fixed a part))).count SYS_SVC_CNT.ABORT) Src.SVC_PROTO := by
  cases part <;> simp [doSvcFrameAbort, active, al, free, carryGone, partWords, svcPairs]

/-- Settles O14: with the lands connected each frame is its operation (`fromLands_connected`), whose words go on by
`svcGo_ok`, `svcGo_failed` and `svcGo_waits`. -/
theorem servicePortComplete : Obligations.ServicePortComplete := by
  refine ⟨fun s fixed a n cor lost lands active al => ?read, eccMasks_get, fun s fixed a ws lands active al short => ?write,
    fun s u wr data a v l e es w word => svcGo_ok word, fun s u wr data a st v l ecc w word bad => svcGo_failed word bad,
    fun s u wr data a v l ecc word => svcGo_waits word, fun s wr data ecc => rfl, svcFinish_answers,
    fun s fixed a ws n cor lost lands active => ?invalid, fun s fixed a part l u v lands active al free hl hu hv => ?abort,
    fun s fixed a part lands active al inHand => ?inHand, fun s fixed a ws n cor lost part idle => ?idle⟩
  case read =>
    exact next_congr ((fromLands_connected _ lands).trans (doSvcReadFrame_aligned fixed active al _ _))
  case write =>
    have whole : ws.take 32 = ws := List.take_of_length_le short
    refine next_congr ((fromLands_connected _ lands).trans ?_)
    rw [whole, doSvcWriteFrame_aligned fixed active al]
  case invalid =>
    refine ⟨next_congr ((fromLands_connected _ lands).trans (doSvcInvalidFrame_active active)), fun unaligned => ⟨?_, ?_⟩⟩
    · exact next_congr (fromLands_congr (doSvcReadFrame_unaligned fixed active unaligned _ _))
    · exact next_congr (fromLands_congr (doSvcWriteFrame_unaligned fixed active unaligned _))
  case abort =>
    have words : l = partWords fixed a.toNat part := by
      cases part <;> exact hl
    subst hu hv words
    exact next_congr ((fromLands_connected _ lands).trans (doSvcFrameAbort_cutShort fixed part active al free))
  case inHand => exact next_congr ((fromLands_connected _ lands).trans (doSvcFrameAbort_inHand fixed active al part inHand))
  case idle =>
    rcases idle with cut | inactive
    · exact ⟨next_congr (fromLands_cut _ cut), next_congr (fromLands_cut _ cut), next_congr (fromLands_cut _ cut),
        next_congr (fromLands_cut _ cut)⟩
    · obtain ⟨read, write, invalid, cutShort⟩ :=
        svcFrames_inactive fixed inactive a.toNat (n.val + 1) (eccMasks cor lost) (ws.take 32) part
      exact ⟨next_congr (fromLands_id read), next_congr (fromLands_id write), next_congr (fromLands_id invalid),
        next_congr (fromLands_id cutShort)⟩

end Sys2Proof.Machine
end

section
/-! One step (R133). -/

namespace Sys2Proof.Machine

theorem step_front (c : Instr) (s : State) (rest : List Instr) :
    step { s with pending := c :: rest } = exec c { s with pending := rest } := rfl

theorem step_idle {s : State} (idle : s.pending = []) : step s = .next (coresTick (canopySettle (unitsTick (idleTick s)))) := by
  simp only [step, idle]

/-- Settles O50: a step's two cases, by its queue. -/
theorem stepRunsFront : Obligations.StepRunsFront := ⟨step_front, fun _ => step_idle⟩

end Sys2Proof.Machine
end

section
/-! The four indirect ports (R147 to R149, R335, R344). -/

namespace Sys2Proof.Machine

/-! ### The state of a port -/

@[simp] theorem State.ind_modInd (s : State) (p : Nat) (f : IndPort → IndPort) : (s.modInd p f).ind p = f (s.ind p) := by
  rcases p with _ | _ | _ | p <;> rfl

@[simp] theorem State.ind_setBit (s : State) (p : Nat) (r : FRef) (b : Bool) : (s.setBit r b).ind p = s.ind p := by
  simp only [State.ind, State.setBit_indSap, State.setBit_indSched, State.setBit_indConf, State.setBit_indTbl]

@[simp] theorem State.modInd_regs (s : State) (p : Nat) (f : IndPort → IndPort) : (s.modInd p f).regs = s.regs := by
  rcases p with _ | _ | _ | p <;> rfl

@[simp] theorem State.modInd_mem (s : State) (p : Nat) (f : IndPort → IndPort) : (s.modInd p f).mem = s.mem := by
  rcases p with _ | _ | _ | p <;> rfl

@[simp] theorem State.modInd_fld (s : State) (p : Nat) (f : IndPort → IndPort) (r : FRef) : (s.modInd p f).fld r = s.fld r := by
  simp only [State.fld, State.word, State.modInd_regs]

@[simp] theorem indDrop_wq (s : State) (p : Nat) : ((indDrop s p).ind p).wq = (s.ind p).wq := by
  simp only [indDrop, State.ind_setBit, State.ind_modInd]

/-- Dropping the held word leaves the port's address. -/
theorem indDrop_waddr (s : State) (p : Nat) : (indDrop s p).fld (indWaddr p) = s.fld (indWaddr p) := by
  have apart : (indReady p).addr ≠ (indWaddr p).addr := by simp [indReady, indWaddr]
  exact (State.fld_setFld_other _ _ _ _ (Nat.le_of_ble_eq_true rfl) (.inl apart)).trans (State.modInd_fld s p _ _)

/-! ### Accesses (R147 to R149) -/

theorem indBase_aligned (p : Fin 4) : indBase p % 4 = 0 ∧ (indBase p + 4) % 4 = 0 := by decide +revert

theorem indBase_named (p : Fin 4) : (findReg (indBase p)).isSome = true ∧ (findReg (indBase p + 4)).isSome = true := by
  decide +revert

theorem portAt_data (p : Fin 4) : portAt (indBase p + 4) = some (p.val, true) := by decide +revert

theorem writeReg_indAddr (s : State) (t : Nat) (p : Fin 4) (r : RegRow) (v : Word) :
    writeReg s t (indBase p) r v = indAddrWrite s p t v :=
  match p with | 0 | 1 | 2 | 3 => rfl

theorem writeReg_indData (s : State) (t : Nat) (p : Fin 4) (r : RegRow) (v : Word) :
    writeReg s t (indBase p + 4) r v = indDataWrite s p t v :=
  match p with | 0 | 1 | 2 | 3 => rfl

theorem readReg_indData (s : State) (t : Nat) (p : Fin 4) (r : RegRow) :
    readReg s t (indBase p + 4) r = ((indDataRead s p t).1, (indDataRead s p t).2.2, (indDataRead s p t).2.1) := by
  simp only [readReg, portAt_data]

section
variable {s u : State} {t : Nat} {p : Fin 4} {v : Word} {st : Nat}

/-- A permitted write of IADDR is the port's own. -/
theorem doWrite_indAddr (lets : Lets s t (indBase p) true) (h : indAddrWrite s p t v = (u, st)) :
    doWrite s t (indBase p) v = written u t st := by
  obtain ⟨r, hr⟩ := Option.isSome_iff_exists.mp (indBase_named p).1
  rw [doWrite_of_lets lets (indBase_aligned p).1 hr, writeReg_indAddr, h]

theorem doWrite_indData (lets : Lets s t (indBase p + 4) true) (h : indDataWrite s p t v = (u, st)) :
    doWrite s t (indBase p + 4) v = written u t st := by
  obtain ⟨r, hr⟩ := Option.isSome_iff_exists.mp (indBase_named p).2
  rw [doWrite_of_lets lets (indBase_aligned p).2 hr, writeReg_indData, h]

theorem doRead_indData {w : Word} (lets : Lets s t (indBase p + 4) false) (h : indDataRead s p t = (u, w, st)) :
    doRead s t (indBase p + 4) = readBack u t st w := by
  obtain ⟨r, hr⟩ := Option.isSome_iff_exists.mp (indBase_named p).2
  rw [doRead_of_lets lets (indBase_aligned p).2 hr, readReg_indData, h]

end

/-! ### What an access does at the port -/

/-- A word for IADDR with its RELEASE bit cleared asks for no release and names the same address. -/
theorem release_cleared (v : Word) :
    wordField (wordSet v 31 1 0) 31 1 = 0 ∧ wordSet v 31 1 0 &&& 0x7FFFFFFF = v &&& 0x7FFFFFFF := by
  have cleared : wordSet v 31 1 0 = v &&& 0x7FFFFFFF := BitVec.or_zero
  exact ⟨wordField_wordSet v 31 1 0 (by decide), by rw [cleared, BitVec.and_assoc, BitVec.and_self]⟩

section
variable {s : State} {p t : Nat} (v : Word)

theorem ind_foreign (foreign : indForeign s p t = true) :
    indAddrWrite s p t v = (s, 4) ∧ indDataWrite s p t v = (s, 4) ∧ indDataRead s p t = (s, 0, 4) :=
  ⟨if_pos foreign, if_pos foreign, if_pos foreign⟩

variable (own : indForeign s p t = false)
include own

theorem indAddrWrite_releases (release : wordField v 31 1 = 1) : indAddrWrite s p t v =
    (indReleasePort (s.setWord (indBase p) (wordSet (s.word (indBase p)) 24 6 (wordField v 24 6))) p, 0) :=
  (if_neg (by simp [own])).trans (if_pos release)

theorem indAddrWrite_claims (claim : wordField v 31 1 = 0) : indAddrWrite s p t v =
    (indFetch ((indClaim s p t).setWord (indBase p) (v &&& 0x7FFFFFFF)) p, 0) :=
  (if_neg (by simp [own])).trans (if_neg (by simp [claim]))

theorem indDataRead_none (empty : (s.ind p).held = none) : indDataRead s p t = (s.setBit (indUnderrun p) true, 0, 0) := by
  simp [indDataRead, own, empty]

theorem indDataRead_held {w : Word} (held : (s.ind p).held = some w) :
    indDataRead s p t = (if s.bit (indAuto p) then indFetch (indAdvance s p) p else s, w, 0) := by
  simp only [indDataRead, own, held, Bool.false_eq_true, if_false]
  split <;> rfl

theorem indDataWrite_overflows (full : 16 ≤ (s.ind p).wq.length) :
    indDataWrite s p t v = ((indDrop s p).setBit (indOverflow p) true, 0) := by
  simp [indDataWrite, own, full]

end

/-- The port with a write of `v` for tenant `t` at the end of its queue, its address advanced (R148). -/
def indQueued (s : State) (p t : Nat) (v : Word) : State :=
  indAdvance (((indDrop s p).modInd p fun i => { i with wq := i.wq ++ [(s.fld (indWaddr p), v, t)] }).setBit (indBusy p) true) p

theorem indDataWrite_queues {s : State} {p t : Nat} (v : Word) (own : indForeign s p t = false)
    (room : (s.ind p).wq.length < 16) :
    indDataWrite s p t v =
      (if (s.ind p).wq = [] then indNext (indQueued s p t v) p else indQueued s p t v, 0) := by
  simp [indDataWrite, own, Nat.not_le.mpr room, indDrop_waddr, indQueued]

/-! ### Completions (R147, R148, R335, R344) -/

theorem indFetched_some {s : State} {p : Nat} (fetching : (s.ind p).fetching = true) (w : Word) :
    indFetched s p (some w) =
      (s.modInd p fun i => { i with held := some w, fetching := false }).setBit (indReady p) true := by
  simp [indFetched, fetching]

theorem indFetched_none {s : State} {p : Nat} (fetching : (s.ind p).fetching = true) :
    indFetched s p none = (s.modInd p fun i => { i with fetching := false }).setBit (indErr p) true := by
  simp [indFetched, fetching]

theorem doIndirectFetchDone_idle {s : State} {p : Nat} (idle : s.running = false ∨ (s.ind p).fetching = false)
    (answer : Option Word) (ecc : Nat) : doIndirectFetchDone p answer ecc s = s := by
  rcases idle with h | h <;> simp [doIndirectFetchDone, h]

section
variable {s : State} (run : s.running = true) (answer : Option Word) (ecc : Nat)
include run

theorem doIndirectFetchDone_sap (fetching : s.indSap.fetching = true) :
    doIndirectFetchDone 0 answer ecc s = sapAccessOver (indFetched s 0 answer) := by
  simp [doIndirectFetchDone, State.ind, run, fetching]

theorem doIndirectFetchDone_sched (fetching : s.indSched.fetching = true) :
    doIndirectFetchDone 1 answer ecc s = indFetched s 1 (some (schedWord s (s.fld (indWaddr 1)))) := by
  simp [doIndirectFetchDone, State.ind, run, fetching]

theorem doIndirectFetchDone_conf (fetching : s.indConf.fetching = true) :
    doIndirectFetchDone 2 answer ecc s =
      indFetched (confFetch s (s.fld (indWaddr 2)) ecc).1 2 (confFetch s (s.fld (indWaddr 2)) ecc).2 := by
  simp [doIndirectFetchDone, State.ind, run, fetching]

theorem doIndirectFetchDone_tbl (fetching : s.indTbl.fetching = true) :
    doIndirectFetchDone 3 answer ecc s = indFetched s 3 (if s.up fenceDRV then
      some (BitVec.ofNat 32 (tblEntry s (s.fld (indWaddr 3) / 256 % 2) (s.fld (indWaddr 3) % 256))) else none) := by
  simp [doIndirectFetchDone, State.ind, run, fetching]

end

/-- Address of the CONF word at word address `wa`. -/
def confAddr (wa : Nat) : Nat := hwdBase + confOff + 4 * (wa % 65536)

/-- A CONF word comes back good, corrected or lost. -/
theorem confFetch_up {s : State} (up : s.up fenceHWD = true) (wa : Nat) :
    confFetch s wa 0 = (s, some (s.mword (confAddr wa))) ∧
    confFetch s wa 1 = (eccCorrected s (confAddr wa), some (s.mword (confAddr wa))) ∧
    confFetch s wa 2 = (eccLost s (confAddr wa), none) := by
  simp [confFetch, up, eccRead, confAddr]

theorem confFetch_fenced {s : State} (down : s.up fenceHWD = false) (wa ecc : Nat) : confFetch s wa ecc = (s, none) := by
  simp [confFetch, down]

theorem doIndirectQueueWriteDone_idle {s : State} {p : Nat} (idle : s.running = false ∨ (s.ind p).wq = []) (ok : Bool) :
    doIndirectQueueWriteDone p ok s = s := by
  rcases idle with h | h <;> simp [doIndirectQueueWriteDone, h]

section
variable {s : State} (run : s.running = true) (ok : Bool) {wa t : Nat} {v : Word} {l : List (Nat × Word × Nat)}
include run

theorem doIndirectQueueWriteDone_sap (queued : s.indSap.wq = (wa, v, t) :: l) :
    doIndirectQueueWriteDone 0 ok s = sapAccessOver (indWritten s 0 ok) := by
  simp [doIndirectQueueWriteDone, State.ind, run, queued]

theorem doIndirectQueueWriteDone_sched (queued : s.indSched.wq = (wa, v, t) :: l) :
    doIndirectQueueWriteDone 1 ok s = indWritten (setSched s wa v) 1 true := by
  simp [doIndirectQueueWriteDone, State.ind, run, queued]

theorem doIndirectQueueWriteDone_conf (queued : s.indConf.wq = (wa, v, t) :: l) :
    doIndirectQueueWriteDone 2 ok s = confPortWrite s := by
  simp [doIndirectQueueWriteDone, State.ind, run, queued]

theorem doIndirectQueueWriteDone_tbl (queued : s.indTbl.wq = (wa, v, t) :: l) :
    doIndirectQueueWriteDone 3 ok s = if s.up fenceDRV then
      indWritten (tblWrite s wa v.toNat).1 3 (tblWrite s wa v.toNat).2 else indWritten s 3 false := by
  simp only [doIndirectQueueWriteDone, State.ind, run, queued, Bool.not_true, Bool.false_eq_true, if_false]
  split <;> rfl

end

/-- Settles O13: accesses by `doWrite_indAddr`, `doWrite_indData` and `doRead_indData` over what the port makes of them,
completions by the target of each port. -/
theorem indirectPortsComplete : Obligations.IndirectPortsComplete := by
  refine ⟨fun s t p v lets own => ?claim, fun s t p lets own => ?release, fun s t p lets own empty => ?underrun,
    fun s t p w lets own held => ?held, fun s t p v lets own full => ?overflow, fun s t p v u lets own room hu => ?queue,
    fun s t p v foreign => ?foreign, fun s p ans e idle => next_congr (doIndirectFetchDone_idle idle ans e),
    fun s ans e run fetching => next_congr (doIndirectFetchDone_sap run ans e fetching),
    fun s ans e run fetching => next_congr (doIndirectFetchDone_sched run ans e fetching),
    fun s ans a run fetching up ha => ?conf, fun s ans e run fetching down => ?confFenced,
    fun s ans e run fetching => next_congr (doIndirectFetchDone_tbl run ans e fetching), fun s p w fetching => ?fetched,
    fun s p ok idle => next_congr (doIndirectQueueWriteDone_idle idle ok), fun s ok wa t v l run => ?written, fun s p => ?timeout⟩
  case claim =>
    obtain ⟨claim, address⟩ := release_cleared v
    exact next_congr (doWrite_indAddr lets (address ▸ indAddrWrite_claims _ own claim))
  case release => exact next_congr (doWrite_indAddr lets (indAddrWrite_releases 0x80000000 own (by decide)))
  case underrun => exact next_congr (doRead_indData lets (indDataRead_none own empty))
  case held => exact next_congr (doRead_indData lets (indDataRead_held own held))
  case overflow => exact next_congr (doWrite_indData lets (indDataWrite_overflows v own full))
  case queue =>
    subst hu
    exact next_congr (doWrite_indData lets (indDataWrite_queues v own room))
  case foreign =>
    have refused (x : Word) := ind_foreign x foreign
    exact ⟨fun lets => ⟨next_congr (doWrite_indAddr lets (refused _).1), next_congr (doWrite_indAddr lets (refused _).1)⟩,
      fun lets => next_congr (doWrite_indData lets (refused v).2.1),
      fun lets => next_congr (doRead_indData lets (refused v).2.2)⟩
  case conf =>
    subst ha
    obtain ⟨good, corrected, lost⟩ := confFetch_up up (s.fld (indWaddr 2))
    have fetched (ecc : Nat) := doIndirectFetchDone_conf run ans ecc fetching
    refine ⟨next_congr ((fetched 0).trans ?_), next_congr ((fetched 1).trans ?_), next_congr ((fetched 2).trans ?_)⟩
    · rw [good]; rfl
    · rw [corrected]; rfl
    · rw [lost]; rfl
  case confFenced =>
    refine next_congr ((doIndirectFetchDone_conf run ans e fetching).trans ?_)
    rw [confFetch_fenced down]
  case fetched =>
    have ready := State.bit_setBit (s.modInd p fun i => { i with held := some w, fetching := false }) (indReady p) true
      (Nat.le_of_ble_eq_true rfl) rfl
    have err := State.bit_setBit (s.modInd p fun i => { i with fetching := false }) (indErr p) true
      (Nat.le_of_ble_eq_true rfl) rfl
    simp [indFetched_some fetching, indFetched_none fetching, ready, err]
  case written =>
    exact ⟨fun queued => next_congr (doIndirectQueueWriteDone_sap run ok queued),
      fun queued => next_congr (doIndirectQueueWriteDone_sched run ok queued),
      fun queued => next_congr (doIndirectQueueWriteDone_conf run ok queued),
      fun queued => next_congr (doIndirectQueueWriteDone_tbl run ok queued)⟩
  case timeout =>
    refine next_congr ?_
    by_cases run : s.running = true <;> simp [indClaimTimeout, run]

end Sys2Proof.Machine
end

section
/-! Bark's commands: pairs, count windows, voted registers, sticky bits and fault injection (R167 to R169, R178, R179, R195 to
R199). -/

namespace Sys2Proof.Machine

/-! ### Bits of a field that holds one bit per item -/

@[simp] theorem nbit_setBit_same (n k : Nat) : nbit (setBit n k) k = true := by
  unfold setBit
  split
  next h => exact h
  next h =>
    rw [nbit_eq_testBit] at h ⊢
    rw [Nat.add_comm, Nat.testBit_two_pow_add_eq, Bool.eq_false_of_not_eq_true h, Bool.not_false]

/-- An item's bit reads the flag it was set to. -/
theorem State.bitAt_setBitAt (s : State) {r : FRef} {i : Nat} (b : Bool) (h : r.lo + r.wid ≤ 32) (hi : i < r.wid) :
    (s.setBitAt r i b).bitAt r i = b := by
  rw [State.bitAt, State.setBitAt, State.fld_setFld _ _ _ h, nbit_eq_testBit, Nat.testBit_mod_two_pow, ← nbit_eq_testBit]
  cases b <;> simp [hi]

/-- The bits of another register read as before. -/
theorem State.bitAt_setBitAt_other (s : State) {r q : FRef} (i j : Nat) (b : Bool) (h : r.addr ≠ q.addr) :
    (s.setBitAt r i b).bitAt q j = s.bitAt q j :=
  congrArg (nbit · j) (State.fld_setWord_other s _ _ q h)

/-! ### Pairs (R167) -/

theorem brkPair_ne_live {j k : Nat} (h : j < 3) : BRK_PAIR.addr k ≠ BRK_LIVE.addr j := by
  unfold BRK_PAIR.addr BRK_LIVE.addr
  omega

theorem setPair_shows {s : State} (src : Fin 96) (live broken : Bool) (rails : s.railsOn = true) :
    pairLive (setPair s src live broken) src = live ∧
      (setPair s src live broken).bitAt (BRK_PAIR.PAIR (src.val / 32)) (src.val % 32) = broken := by
  have place : src.val % 32 < 32 := Nat.mod_lt _ (by decide)
  have apart : BRK_PAIR.addr (src.val / 32) ≠ BRK_LIVE.addr (src.val / 32) := brkPair_ne_live (by omega)
  rw [setPair, if_pos rails]
  constructor
  · rw [pairLive, State.bitAt_setBitAt_other _ _ _ _ apart]
    exact State.bitAt_setBitAt s live (Nat.le_refl 32) place
  · exact State.bitAt_setBitAt _ broken (Nat.le_refl 32) place

/-! ### Count windows (R178) -/

@[simp] theorem State.advanceTo_brk (s : State) (t : Nat) : (s.advanceTo t).brk = s.brk := by
  unfold State.advanceTo
  split <;> rfl

/-- Time has run on to the end of the count window of `src`. -/
def windowEnded (s : State) (src : Nat) : State :=
  s.advanceTo (s.tim.now + (SMap.get (fun _ => 0) s.brk.closes src - s.uptime))

theorem doBarkWindowExpiry_runs {s : State} {src : Nat} (run : s.running = true)
    (base : s.bitAt (BRK_ESC.ESC (src / 32)) (src % 32) = false) (counts : s.fld (BRK_SRC_CFG.COUNT src) ≠ 0) :
    doBarkWindowExpiry src s = (windowEnded s src).setFld (BRK_SRC_CFG.COUNT src) 0 :=
  if_pos (by simp [run, base, counts])

theorem doBarkWindowExpiry_idle {s : State} {src : Nat} (idle : s.running = false ∨
    s.bitAt (BRK_ESC.ESC (src / 32)) (src % 32) = true ∨ s.fld (BRK_SRC_CFG.COUNT src) = 0) : doBarkWindowExpiry src s = s := by
  refine if_neg ?_
  rcases idle with stopped | escalated | uncounted
  · simp [stopped]
  · simp [escalated]
  · simp [uncounted]

theorem windowEnded_now (s : State) (src : Nat) :
    (windowEnded s src).tim.now = s.tim.now + (SMap.get (fun _ => 0) s.brk.closes src - s.uptime) :=
  (State.advanceTo_now s _).trans (Nat.max_eq_right (Nat.le_add_right _ _))

/-! ### Voted registers (R195, R196) -/

theorem votedReg_ne_status {a : Nat} (voted : votedReg a = true) : BRK_STATUS.addr ≠ a := by
  rintro rfl
  exact absurd voted (by decide)

theorem voteCopy_congr {s u : State} {a : Nat} (word : u.word a = s.word a) (brk : u.brk = s.brk) (c : Nat) :
    voteCopy u c a = voteCopy s c a := by
  simp only [voteCopy, word, brk]

/-- Copy `copy` of the register at `a` holds `v`. -/
def copyKept (s : State) (copy a : Nat) (v : Word) : State :=
  let u := if copy = 0 then s.setWord a v else s
  let b := if copy = 1 then v else voteCopy s 1 a
  let c := if copy = 2 then v else voteCopy s 2 a
  { u with brk := { u.brk with
    voteB := SMap.set (fun _ => none) u.brk.voteB a (if b = u.word a then none else some b)
    voteC := SMap.set (fun _ => none) u.brk.voteC a (if c = u.word a then none else some c) } }

theorem doVoteMismatch_differs {s : State} {copy a : Nat} {v : Word} (run : s.running = true) (voted : votedReg a = true)
    (differs : v ≠ voteCopy s copy a) :
    doVoteMismatch copy a v s = bark ((copyKept s copy a v).setBit BRK_STATUS.VOTE_OK false) Src.BRK_VOTE := by
  simp only [doVoteMismatch, run, voted, differs, Bool.and_self, if_true, if_false, copyKept]

theorem doVoteMismatch_idle {s : State} {copy a : Nat} {v : Word}
    (idle : s.running = false ∨ votedReg a = false ∨ v = voteCopy s copy a) : doVoteMismatch copy a v s = s := by
  unfold doVoteMismatch
  rcases idle with stopped | other | same
  · simp [stopped]
  · simp [other]
  · simp [same]

/-- A copy reads as it was noted: where it differs from the register's word it is listed, where it agrees it is not. -/
theorem noted_getD (m : SMap (Option Word)) (a : Nat) (b w : Word) :
    (SMap.get (fun _ => none) (SMap.set (fun _ => none) m a (if b = w then none else some b)) a).getD w = b := by
  rw [SMap.get_set, if_pos rfl]
  split
  next agrees => exact agrees.symm
  next => rfl

theorem copyKept_mem (s : State) (copy a : Nat) (v : Word) : (copyKept s copy a v).mem = s.mem := by
  unfold copyKept
  split <;> rfl

theorem copyKept_word (s : State) (copy a : Nat) (v : Word) :
    (copyKept s copy a v).word a = if copy = 0 then v else s.word a := by
  unfold copyKept
  split
  · exact State.word_setWord_same s a v
  · rfl

theorem voteCopy_copyKept (s : State) (copy a : Nat) (v : Word) (c : Fin 3) :
    voteCopy (copyKept s copy a v) c a = if copy = c then v else voteCopy s c a :=
  match c with
  | 0 => copyKept_word s copy a v
  | 1 | 2 => noted_getD _ a _ _

/-! ### Permitted writes of Bark's registers (R179, R186, R197) -/

theorem brkSticky_named (k : Fin 3) : BRK_STICKY.addr k % 4 = 0 ∧ (findReg (BRK_STICKY.addr k)).isSome = true := by
  decide +revert

/-- BRK_STICKYk has no RW bits. -/
theorem brkSticky_rw (k : Fin 3) : ∀ r ∈ findReg (BRK_STICKY.addr k), r.rw = 0 := by
  decide +revert

theorem writeReg_sticky (s : State) (t : Nat) (k : Fin 3) (r : RegRow) (v : Word) :
    writeReg s t (BRK_STICKY.addr k) r v = (writeSticky (plainWrite s r (BRK_STICKY.addr k) (v &&& r.rw)) k v, 0) :=
  match k with | 0 | 1 | 2 => rfl

theorem doWrite_sticky {s : State} {t : Nat} {k : Fin 3} (v : Word) (lets : Lets s t (BRK_STICKY.addr k) true) :
    doWrite s t (BRK_STICKY.addr k) v = written (writeSticky (s.put (BRK_STICKY.addr k) 0) k v) t 0 := by
  obtain ⟨aligned, named⟩ := brkSticky_named k
  refine doWrite_leaves lets aligned named fun r hr => ?_
  have unused : v &&& r.rw = 0 := by
    rw [brkSticky_rw k r hr]
    exact BitVec.and_zero
  rw [writeReg_sticky, unused, State.put_of_findReg hr]

theorem doWrite_unfence {s : State} {t : Nat} (v : Word) (lets : Lets s t BRK_UNFENCE.addr true) :
    doWrite s t BRK_UNFENCE.addr v = written (payOwed (writeUnfence (s.put BRK_UNFENCE.addr v) v)) t 0 :=
  doWrite_named (fun u => payOwed (writeUnfence u v)) lets rfl (by decide) fun _ => rfl

theorem doWrite_inj {s : State} {t : Nat} (v : Word) (lets : Lets s t BRK_INJ.addr true) :
    doWrite s t BRK_INJ.addr v = written (writeInj s v) t 0 :=
  doWrite_leaves lets rfl (by decide) fun _ _ => rfl

/-! ### Fault injection (R197 to R199) -/

theorem writeInj_pending {s : State} {v : Word} (go : wordField v 10 1 = 1) (pending : s.fld BRK_INJ.STATUS = 1) :
    writeInj s v = s := by
  rw [writeInj, if_neg (by omega), if_pos pending]

section
variable {s u : State} {v : Word} {src mode inst : Nat} (go : wordField v 10 1 = 1) (idle : s.fld BRK_INJ.STATUS ≠ 1)
  (hsrc : src = wordField v 0 7) (hmode : mode = wordField v 8 2) (hinst : inst = wordField v 14 2)
  (hu : u = s.setWord BRK_INJ.addr (v &&& 0xFFFFCBFF))
include go idle hsrc hmode hinst hu

theorem writeInj_refused (refused : injectRefused u src mode inst = true) : writeInj s v = u.setFld BRK_INJ.STATUS 3 := by
  subst hsrc hmode hinst hu
  rw [writeInj, if_neg (by omega), if_neg idle]
  exact if_pos refused

theorem writeInj_waits (taken : injectRefused u src mode inst = false) (check : mode = 0 ∨ mode = 3) :
    writeInj s v = { u with brk := { u.brk with inj := some (src, injInst src inst) } }.setFld BRK_INJ.STATUS 1 := by
  have line : ¬ (mode = 1 ∨ mode = 2) := by omega
  subst hsrc hmode hinst hu
  rw [writeInj, if_neg (by omega), if_neg idle]
  exact (if_neg (by rw [taken]; decide)).trans (if_neg line)

theorem writeInj_forces (taken : injectRefused u src mode inst = false) (line : mode = 1 ∨ mode = 2) :
    writeInj s v = setPair (bark { u.setFld BRK_INJ.STATUS 2 with
        brk := { s.brk with injLine := s.brk.injLine ++ [(src, pairLive (u.setFld BRK_INJ.STATUS 2) src)] } } src (injInst src inst))
      src true true := by
  subst hsrc hmode hinst hu
  rw [writeInj, if_neg (by omega), if_neg idle]
  exact (if_neg (by rw [taken]; decide)).trans (if_pos line)

end

theorem doInjectLineRelease_oldest {s : State} {src : Nat} {was : Bool} {l : List (Nat × Bool)}
    (forced : s.brk.injLine = (src, was) :: l) :
    doInjectLineRelease s =
      if l.any (fun p => p.1 == src) then { s with brk := { s.brk with injLine := l } }
      else setPair { s with brk := { s.brk with injLine := l } } src was false := by
  rw [doInjectLineRelease, forced]

theorem doInjectLineRelease_idle {s : State} (free : s.brk.injLine = []) : doInjectLineRelease s = s := by
  rw [doInjectLineRelease, free]

/-- Settles O16: each command by the equation for its case; a pair shows what it was set to (`setPair_shows`), a voted register
what its copies hold (`voteCopy_copyKept`). -/
theorem barkCommandsComplete : Obligations.BarkCommandsComplete := by
  refine ⟨fun s src inst stays u v hu hv => ?source, fun _ _ _ _ => rfl, fun _ src live broken => setPair_shows src live broken,
    fun s src run base counts => ?expiry, fun s src idle => next_congr (doBarkWindowExpiry_idle idle),
    fun s copy a v run voted differs => ?vote, fun s copy a v idle => next_congr (doVoteMismatch_idle idle),
    fun s t k v lets => next_congr (doWrite_sticky v lets),
    fun s t v lets => next_congr (doWrite_unfence v lets), fun s t v lets => next_congr (doWrite_inj v lets),
    fun s v src mode inst u go idle hsrc hmode hinst hu => ?inject, fun s v go pending => writeInj_pending go pending,
    fun s src was l forced => next_congr (doInjectLineRelease_oldest forced),
    fun s free => next_congr (doInjectLineRelease_idle free)⟩
  case source =>
    subst hu hv
    rfl
  case expiry =>
    refine ⟨_, next_congr (doBarkWindowExpiry_runs run base counts), State.fld_setFld _ _ _ (Nat.le_refl 32),
      windowEnded_now s src, State.advanceTo_brk s _, State.advanceTo_mem s _, fun a other => ?_⟩
    exact (State.word_setFld_other _ _ other.symm).trans (State.advanceTo_word s _ a)
  case vote =>
    refine ⟨_, next_congr (doVoteMismatch_differs run voted differs), State.bit_setBit _ _ _ (by decide) rfl,
      copyKept_mem s copy _ v, fun c => ?_⟩
    have word := State.word_setFld_other (copyKept s copy a.toNat v) (r := BRK_STATUS.VOTE_OK) 0 (votedReg_ne_status voted)
    have same : copy.val = c ↔ c = copy := eq_comm.trans Fin.ext_iff.symm
    calc voteCopy ((copyKept s copy a.toNat v).setBit BRK_STATUS.VOTE_OK false) c a.toNat
      _ = voteCopy (copyKept s copy a.toNat v) c a.toNat := voteCopy_congr word rfl c
      _ = if copy.val = c then v else voteCopy s c a.toNat := voteCopy_copyKept s copy a.toNat v c
      _ = if c = copy then v else voteCopy s c a.toNat := if_congr same rfl rfl
  case inject =>
    refine ⟨fun refused => ?_, fun taken check => ?_, writeInj_forces go idle hsrc hmode hinst hu⟩
    · rw [writeInj_refused go idle hsrc hmode hinst hu refused]
      exact ⟨State.fld_setFld _ _ _ (by decide), hu ▸ rfl⟩
    · rw [writeInj_waits go idle hsrc hmode hinst hu taken check]
      exact ⟨State.fld_setFld _ _ _ (by decide), rfl⟩

end Sys2Proof.Machine
end

section
/-! An edge on a tach input while Bark is owed an event (R224 to R229). -/

namespace Sys2Proof.Machine

/-- REV of input 0 after a step. -/
def revAfter : Host.Outcome State Fault Refusal → Nat
  | .next t => t.fld (TCH_REV.REV 0)
  | _ => 0

/-- A number past Bark's 96 sources, whose bit of BRK_STICKY would stand where ZEN of TCH_0_CFG stands. -/
def srcOverZen : Nat := 32 * ((TCH_CFG.addr 0 - BRK_STICKY.addr 0) / 4) + (TCH_CFG.ZEN 0).lo

/-- Input 0 counts rising edges with ZEN clear, COUNTS asking for a second one before an index event; 256 of its stamps wait,
TCH_OVR is INFO, and Bark is owed an event of `srcOverZen`. -/
def owesEventOverZen : State :=
  let s := { State.reset with
    pwr := { mode := .run, base := .run, booted := true }
    tch := modAt State.reset.tch 0 fun x => { x with queue := List.replicate 256 { t := 0, info := 0 } }
    mot := { State.reset.mot with owed := [(srcOverZen, 0)] } }
  ((s.setFld (TCH_CFG.MODE 0) 1).setFld (TCH_DIV.COUNTS 0) 1).setWord (BRK_SRC_CFG.addr Src.TCH_OVR) 0

/-- The state in which input 0 takes the levels _A and _Z high, changed at 0 and accepted at 5 ns. -/
def levelsTaken : State :=
  modTch (owesEventOverZen.advanceTo 5) 0 fun x => { x with a := true, b := false, z := true }

/-- The edge finds 256 stamps waiting: the loss raises TCH_OVR, Bark takes the owed event with it, and its sticky bit sets
ZEN, with which the model takes the rise of _Z for an index event. -/
theorem revAfter_tachEdge : revAfter (exec (.tachEdge 0 true false true 0 5) owesEventOverZen) = 1 := by decide +kernel

/-- The edge alone is no index event. -/
theorem revAfter_tchEdgeEvent : revAfter (.next (tchEdgeEvent levelsTaken 0 0 false false)) = 0 := by decide +kernel

/-- Refutes O18: the model reads ZEN after what the counted edge has done, the statement before it, and a state may owe Bark an
event of any number (`mot.owed`), which sets ZEN where Bark takes it with the overrun that the edge raises. -/
theorem not_analogAndTachComplete : ¬ Obligations.AnalogAndTachComplete := by
  rintro ⟨-, -, -, -, -, -, -, -, -, -, edges, -⟩
  have held : 5 * (owesEventOverZen.fld (TCH_CFG.FILT 0) + 1) ≤ (5 : BitVec 32).toNat := by decide
  obtain ⟨-, -, counted, -⟩ := edges owesEventOverZen 0 true false true 0 5 levelsTaken (by decide) held rfl
  have zen : owesEventOverZen.bit (TCH_CFG.ZEN 0) = false := by decide
  have rev := congrArg revAfter (counted false (by decide) (by decide) (by decide) (.inl zen))
  exact absurd (revAfter_tachEdge.symm.trans (rev.trans revAfter_tchEdgeEvent)) (by decide)

end Sys2Proof.Machine
end

section
/-! Samples and stamps on their way into the boughs (R238, R240 to R244). -/

namespace Sys2Proof.Machine

/-! ### Words of a sample (R240) -/

/-- The word that a sample of channel `ch` is at its port. -/
def portWord (ch : Nat) (w : Word) : SWord := { w := w, settle := w.getLsbD 7, mark := w.getLsbD 4, src := ch }

section
variable (s : State) (ch : Nat) (w : Word) (inst : Nat)

theorem sampleWords_untimed : sampleWords s ch w inst false false =
    if (portWord ch w).mark = true then timePair inst ch ++ [ctrlWord 2 (sampleInterval s ch) ch, portWord ch w]
    else [portWord ch w] := by
  simp [sampleWords, portWord]

theorem sampleWords_timed : sampleWords s ch w inst true false =
    timePair inst ch ++ [ctrlWord 2 (sampleInterval s ch) ch, portWord ch w] := by
  simp [sampleWords, portWord]

theorem sampleWords_gap (timed : Bool) : sampleWords s ch w inst timed true =
    [{ ctrlWord 0 inst ch with gap := true }, { ctrlWord 1 (inst / 2 ^ 32) ch with gap := false },
      { ctrlWord 2 (sampleInterval s ch) ch with gap := false }, { portWord ch w with gap := false }] := by
  simp [sampleWords, portWord, timePair]

end

/-! ### Samples at a port (R240 to R242) -/

section
variable {s : State} {b p : Nat} {g : IngPort} {ws : List SWord}

theorem enterPort_of_room (room : g.q.length + ws.length ≤ 512) :
    enterPort s b p g ws = setIng s b p { g with q := g.q ++ ws, needTime := false, gapNext := false } := by
  have none_lost : ws.length - (512 - g.q.length) = 0 := by omega
  have all : ws.take (512 - g.q.length) = ws := List.take_of_length_le (by omega)
  simp [enterPort, none_lost, all]

theorem enterPort_of_full (full : 512 < g.q.length + ws.length) (held : g.q.length ≤ 512) :
    enterPort s b p g ws = setIng (s.count (CNP_DROP.ING b) (g.q.length + ws.length - 512)) b p
      { g with q := g.q ++ ws.take (512 - g.q.length), needTime := true, gapNext := true } := by
  have lost : ws.length - (512 - g.q.length) = g.q.length + ws.length - 512 := by omega
  have some_lost : 0 < g.q.length + ws.length - 512 := by omega
  simp [enterPort, lost, some_lost]

end

/-- A port whose last sample had SEQ `last` (16: a fence since) finds samples lost before one of SEQ `seq` (R242). -/
def seqBreaks (last : Option Nat) (seq : Nat) : Bool :=
  match last with
  | some l => l == 16 || seq != (l + 1) % 16
  | none => false

theorem seqBreaks_of_follows {last : Option Nat} {n : Nat} (h : last = none ∨ last = some ((n + 15) % 16)) :
    seqBreaks last (n % 16) = false := by
  rcases h with rfl | rfl
  · rfl
  · have small : (n + 15) % 16 ≠ 16 := by omega
    have next : n % 16 = ((n + 15) % 16 + 1) % 16 := by omega
    simp [seqBreaks, small, ← next]

theorem seqBreaks_of_not_follows {l n : Nat} (h : l = 16 ∨ (l < 16 ∧ l ≠ (n + 15) % 16)) :
    seqBreaks (some l) (n % 16) = true := by
  rcases h with rfl | ⟨small, other⟩
  · rfl
  · have next : n % 16 ≠ (l + 1) % 16 := by omega
    simp [seqBreaks, next]

section
variable {s : State} {b p ch : Nat}

theorem doIngestSample_idle
    (idle : ∀ x rest, (ingOf s b p).inq = x :: rest → x.1 ≠ ch ∨ portOpen s b p = false) :
    doIngestSample b p ch s = s := by
  dsimp only [doIngestSample]
  cases queued : (ingOf s b p).inq with
  | nil => rfl
  | cons x rest => exact if_pos ((idle x rest queued).imp_right fun shut => by simp [shut])

theorem doIngestSample_takes {w : Word} {inst : Nat} {rest : List (Nat × Word × Nat)} (opened : portOpen s b p = true)
    (queued : (ingOf s b p).inq = (ch, w, inst) :: rest) {u : State} {broke : Bool}
    (seq : seqBreaks (ingOf s b p).lastSeq (w.toNat % 16) = broke)
    (counted : u = if broke then s.count (CNP_GAP_CNT.COUNT b) else s) :
    doIngestSample b p ch s = canopySettle (enterPort u b p
      { ingOf s b p with lastSeq := some (w.toNat % 16), inq := rest }
      (sampleWords u ch w inst (ingOf s b p).needTime ((ingOf s b p).gapNext || broke))) := by
  subst seq counted
  cases last : (ingOf s b p).lastSeq <;> simp [doIngestSample, queued, opened, seqBreaks, last]

end

/-! ### Parity on entry (R238) -/

section
variable {s : State} {key : Nat} (w : SWord)

theorem deliver_hit (hit : 0 < (ctxOf s key).hit) :
    deliver s key w = setCtx s key { ctxOf s key with hit := (ctxOf s key).hit - 1, gapNext := true } :=
  if_pos hit

theorem deliver_enters (clean : (ctxOf s key).hit = 0) :
    deliver s key w = setCtx s key { ctxOf s key with
      q := (ctxOf s key).q ++ [{ w with gap := w.gap || (ctxOf s key).gapNext }], gapNext := false } := by
  rw [deliver, if_neg (by omega)]
  cases (ctxOf s key).gapNext <;> simp

end

/-! ### Stamps (R228, R243, R244) -/

theorem foldl_keeps {σ ι α : Type} (read : σ → α) {f : σ → ι → σ} (step : ∀ s x, read (f s x) = read s) (l : List ι)
    (s : σ) : read (l.foldl f s) = read s :=
  List.foldlRecOn l f (motive := fun u => read u = read s) rfl fun u kept x _ => (step u x).trans kept

theorem deliver_refs (s : State) (key : Nat) (w : SWord) : (deliver s key w).cnp.refs = s.cnp.refs := by
  rcases Nat.eq_zero_or_pos (ctxOf s key).hit with clean | hit
  · rw [deliver_enters w clean]; rfl
  · rw [deliver_hit w hit]; rfl

theorem deliverAll_refs (s : State) (keys : List Nat) (w : SWord) : (deliverAll s keys w).cnp.refs = s.cnp.refs :=
  foldl_keeps (·.cnp.refs) (fun s key => deliver_refs s key w) keys s

/-- An index stamp is the newest of the two that its reference path holds; no other stamp enters it. -/
theorem refOf_stampToBough {s : State} {b : Nat} (i : Nat) (x : Stamp) (up : s.up (3 + b) = true) :
    refOf (stampToBough s b i x) b i =
      if nbit x.info.toNat 1 then { stamps := ((x.t, x.rev) :: (refOf s b i).stamps).take 2 } else refOf s b i := by
  have words (ws : List SWord) (s : State) (ports : List Nat) :
      (ports.foldl (fun s q => ws.foldl (fun s w => deliverAll s (portReaders s b 2 q w.src) w) s) s).cnp.refs = s.cnp.refs :=
    foldl_keeps (·.cnp.refs) (fun s q => foldl_keeps (·.cnp.refs) (fun s w => deliverAll_refs s _ w) ws s) ports s
  simp only [stampToBough, up, refOf, words, Bool.not_true, Bool.false_eq_true, if_false]
  split <;> split <;> simp [State.modCnp, setRsmp, SMap.get_set]

section
variable {s : State} {i : Nat}

theorem doStampIngest_idle (idle : (tchIn s i).queue = [] ∨ s.up fenceTCH = false ∨ stampStalled s i = true) :
    doStampIngest i s = s := by
  rw [doStampIngest, ← tchIn]
  cases queued : (tchIn s i).queue with
  | nil => rfl
  | cons x rest =>
    rcases idle with empty | down | stalled
    · simp [queued] at empty
    · simp [down]
    · simp [stalled]

theorem doStampIngest_leaves {x : Stamp} {rest : List Stamp} (queued : (tchIn s i).queue = x :: rest)
    (up : s.up fenceTCH = true) (room : stampStalled s i = false) :
    doStampIngest i s = canopySettle ((List.range 4).foldl (fun s b => stampToBough s b i x)
      { s with tch := modAt s.tch i fun y => { y with queue := rest } }) := by
  rw [doStampIngest, ← tchIn, queued]
  simp [up, room]

end

/-- Settles O19: a sample by whether its SEQ follows (`seqBreaks`), its words and the port's room each by a lemma of their own, a
stamp by whether a reader is full, and a parity failure by the words that enter after it. -/
theorem ingestComplete : Obligations.IngestComplete := by
  refine ⟨fun s b p n c idle => ?idle, fun s b p n c w inst rest g ws opened queued hg follows hws => ?follows,
    fun s b p n c w inst rest l g u ws opened queued last lost hg hu hws => ?lost, fun s ch w inst x hx => ?words,
    fun s b p g ws => enterPort_of_room, fun s b p g ws => enterPort_of_full, fun s i idle => ?stampIdle,
    fun s i x rest queued up room => ?stamp, fun s b i x => refOf_stampToBough i x, fun s b t k => ?parity,
    fun s key w => ⟨deliver_hit w, deliver_enters w⟩⟩
  case idle => exact next_congr (doIngestSample_idle idle)
  case follows =>
    subst hg hws
    have taken := doIngestSample_takes opened queued (seqBreaks_of_follows follows) (u := s) rfl
    rw [Bool.or_false] at taken
    exact next_congr taken
  case lost =>
    subst hg hws hu
    have taken := doIngestSample_takes opened queued (last ▸ seqBreaks_of_not_follows lost) rfl
    rw [Bool.or_true] at taken
    exact next_congr taken
  case words =>
    subst hx
    exact ⟨sampleWords_untimed s ch w inst, sampleWords_timed s ch w inst, sampleWords_gap s ch w inst⟩
  case stampIdle => exact next_congr (doStampIngest_idle idle)
  case stamp => exact next_congr (doStampIngest_leaves queued up room)
  case parity => rfl

end Sys2Proof.Machine
end

section
/-! The commands of the tiles (R236, R237, R247 to R260). -/

namespace Sys2Proof.Machine

/-! ### A word of a FILT or ENV context (R237, R247) -/

theorem ctxKey_parts (b t : Nat) {k : Nat} (ht : t < 16) (hk : k < 32) :
    ctxKey b t k / 512 = b ∧ ctxKey b t k / 32 % 16 = t ∧ ctxKey b t k % 32 = k := by
  unfold ctxKey
  omega

section
variable {b t k : Nat} (s : State) {w : SWord} (ht : t < 16) (hk : k < 32)
include ht hk

theorem takeWord_refuses (other : tileAccepts t w.ty = false) :
    takeWord s (ctxKey b t k) w = ([], (s.setBit (CNP_T_STAT.TYPEERR b t) true).count (CNP_T_CNT.DROP b t)) := by
  obtain ⟨hb', ht', -⟩ := ctxKey_parts b t ht hk
  simp [takeWord, hb', ht', other]

theorem takeWord_filters (accepts : tileAccepts t w.ty = true) (filters : tileTypeOf t = 0 ∨ tileTypeOf t = 2) :
    takeWord s (ctxKey b t k) w = filtTake (if w.isGap then s.setBit (CNP_T_STAT.GAP b t) true else s) b t k w := by
  obtain ⟨hb', ht', hk'⟩ := ctxKey_parts b t ht hk
  rcases filters with ty | ty <;> simp [takeWord, hb', ht', hk', accepts, ty]

end

section
variable {s : State} {b t k : Nat}

theorem doFiltInput_idle (idle : (ctxOf s (ctxKey b t k)).q = [] ∨ tileFree s b t = false) : doFiltInput b t k s = s := by
  dsimp only [doFiltInput]
  cases queued : (ctxOf s (ctxKey b t k)).q with
  | nil => rfl
  | cons w rest => simp [idle.resolve_left (by simp [queued])]

theorem doFiltInput_takes {w : SWord} {rest ws : List SWord} {u : State} (queued : (ctxOf s (ctxKey b t k)).q = w :: rest)
    (free : tileFree s b t = true)
    (taken : takeWord (setCtx s (ctxKey b t k) { ctxOf s (ctxKey b t k) with q := rest }) (ctxKey b t k) w = (ws, u)) :
    doFiltInput b t k s = emit u b t ws := by
  simp [doFiltInput, queued, free, taken]

end

section
variable (s : State) (b : Fin 4) (t : Fin 16) (k : Fin 8)

theorem exec_filtInput : exec (.filtInput b t k) s = .next (if tileTypeOf t = 0 then doFiltInput b t k s else s) := rfl

theorem exec_envInput : exec (.envInput b t k) s = .next (if tileTypeOf t = 2 then doFiltInput b t k s else s) := rfl

end

/-! ### Reference events (R249, R253) -/

theorem doRsmpRefEvent_eq (s : State) (b : Nat) :
    doRsmpRefEvent b s = if tileFree s b 10 = true then emit (rsmpEvent s b).2 b 10 (rsmpEvent s b).1 else s := by
  cases free : tileFree s b 10 <;> simp [doRsmpRefEvent, free]

theorem doRsmpRefTimeout_eq (s : State) (b : Nat) :
    doRsmpRefTimeout b s =
      if s.up (3 + b) = true ∧ (rsmpOf s b).evs ≠ [] then emit (rsmpAbandon s b).2 b 10 (rsmpAbandon s b).1 else s := by
  cases up : s.up (3 + b) <;> cases evs : (rsmpOf s b).evs <;> simp [doRsmpRefTimeout, up, evs]

theorem srcOf_congr {s u : State} (h : u.cnp.desc = s.cnp.desc) (key : Nat) : srcOf u key = srcOf s key := by
  simp only [srcOf, descOf, h]

theorem rsmpAbandon_words (s : State) (b : Nat) :
    (rsmpAbandon s b).1 = (ctxsOf s b 10).map fun k => gapNotice (srcOf s (ctxKey b 10 k)) := by
  refine List.map_congr_left fun k _ => congrArg gapNotice (srcOf_congr ?_ _)
  refine foldl_keeps (fun s : State => s.cnp.desc) (fun u k => ?_) _ _
  rfl

/-! ### Completed frames, transforms and blocks (R254, R258, R260) -/

section
variable {s : State} {b t k : Nat}

theorem doFftFrameComplete_idle (idle : (ctxOf s (ctxKey b t k)).done = [] ∨ s.up (3 + b) = false) :
    doFftFrameComplete b t k s = s := by
  dsimp only [doFftFrameComplete]
  cases done : (ctxOf s (ctxKey b t k)).done with
  | nil => rfl
  | cons f rest => simp [idle.resolve_left (by simp [done])]

/-- The frame goes behind those that wait for the transform of its tile. -/
theorem doFftFrameComplete_queues {f : Blk} {rest : List Blk} {u : State} (done : (ctxOf s (ctxKey b t k)).done = f :: rest)
    (up : s.up (3 + b) = true) (hu : u = setCtx s (ctxKey b t k) { ctxOf s (ctxKey b t k) with done := rest }) :
    doFftFrameComplete b t k s = canopySettle (u.modCnp fun x => { x with
      ffq := SMap.set (fun _ => []) x.ffq (16 * b + t) (SMap.get (fun _ => []) s.cnp.ffq (16 * b + t) ++ [(k, f)]) }) := by
  have ffq : u.cnp.ffq = s.cnp.ffq := hu ▸ rfl
  simp [doFftFrameComplete, done, up, ← hu, State.modCnp, ffq]

theorem doFftTransformDone_idle
    (idle : SMap.get (fun _ => []) s.cnp.ffq (16 * b + t) = [] ∨ tileFree s b t = false) : doFftTransformDone b t s = s := by
  dsimp only [doFftTransformDone]
  cases waiting : SMap.get (fun _ => []) s.cnp.ffq (16 * b + t) with
  | nil => rfl
  | cons x rest => simp [idle.resolve_left (by simp [waiting])]

theorem doFftTransformDone_sends {f : Blk} {rest : List (Nat × Blk)} {u : State}
    (waiting : SMap.get (fun _ => []) s.cnp.ffq (16 * b + t) = (k, f) :: rest) (free : tileFree s b t = true)
    (hu : u = s.modCnp fun x => { x with ffq := SMap.set (fun _ => []) x.ffq (16 * b + t) rest }) :
    doFftTransformDone b t s = emit (fftTransform u b t k f).2 b t (fftTransform u b t k f).1 := by
  simp [hu, doFftTransformDone, waiting, free]

theorem doStatBlockEnd_idle (idle : (ctxOf s (ctxKey b t k)).done = [] ∨ tileFree s b t = false) :
    doStatBlockEnd b t k s = s := by
  dsimp only [doStatBlockEnd]
  cases done : (ctxOf s (ctxKey b t k)).done with
  | nil => rfl
  | cons f rest => simp [idle.resolve_left (by simp [done])]

theorem doStatBlockEnd_sends {f : Blk} {rest : List Blk} {u : State} (done : (ctxOf s (ctxKey b t k)).done = f :: rest)
    (free : tileFree s b t = true) (hu : u = setCtx s (ctxKey b t k) { ctxOf s (ctxKey b t k) with done := rest }) :
    doStatBlockEnd b t k s = emit (statSet u b t k f).2 b t (statSet u b t k f).1 := by
  simp [hu, doStatBlockEnd, done, free]

end

/-- Settles O20: each command by whether its tile or bough is free to act on what waits, a FILT or ENV word by whether the tile
accepts its type. -/
theorem tilesComplete : Obligations.TilesComplete := by
  refine ⟨fun s b t k idle => ?idle, fun s b t k => ?otherType,
    fun s b t k w rest ws u queued free accepts taken => ?takes, fun s b t k w rest u queued free other hu => ?refuses,
    fun s b => next_congr (doRsmpRefEvent_eq s b), fun s b => next_congr (doRsmpRefTimeout_eq s b),
    fun s b => rsmpAbandon_words s b, fun s b t k idle => next_congr (doFftFrameComplete_idle idle),
    fun s b t k f rest l u v done up hu hl hv => ?frame, fun s b t idle => next_congr (doFftTransformDone_idle idle),
    fun s b t k f rest u waiting free hu => next_congr (doFftTransformDone_sends waiting free hu),
    fun s b t k idle => next_congr (doStatBlockEnd_idle idle),
    fun s b t k f rest u done free hu => next_congr (doStatBlockEnd_sends done free hu),
    fun s b t c => ⟨rfl, rfl, rfl, rfl⟩⟩
  case idle =>
    rw [exec_filtInput, exec_envInput, doFiltInput_idle idle, ite_self, ite_self]
    exact ⟨rfl, rfl⟩
  case otherType =>
    rw [exec_filtInput, exec_envInput]
    exact ⟨fun other => by rw [if_neg other], fun other => by rw [if_neg other]⟩
  case takes =>
    have act (ty : tileTypeOf t = 0 ∨ tileTypeOf t = 2) : doFiltInput b t k s = emit u b t ws :=
      doFiltInput_takes queued free ((takeWord_filters _ t.isLt (by omega) accepts ty).trans taken)
    rw [exec_filtInput, exec_envInput]
    exact ⟨fun ty => by rw [if_pos ty, act (.inl ty)], fun ty => by rw [if_pos ty, act (.inr ty)]⟩
  case refuses =>
    have act : doFiltInput b t k s = emit u b t [] :=
      hu ▸ doFiltInput_takes queued free (takeWord_refuses _ t.isLt (by omega) other)
    rw [exec_filtInput, exec_envInput, act]
    exact ⟨fun ty => by rw [if_pos ty], fun ty => by rw [if_pos ty]⟩
  case frame =>
    subst hl hv
    exact next_congr (doFftFrameComplete_queues done up hu)

end Sys2Proof.Machine
end

section
/-! Where an alarm event stands among the records that wait for the record engine (R264, R302, R496). -/

namespace Sys2Proof.Machine

/-- An alarm event that the tile has room for waits behind alarm events alone: it goes ahead of the records of other producers
(R496). -/
theorem alarmEvent_offered {s : State} {b : Nat} (room : alarmsWaiting s b < 64) (k old : Nat) (v thr : Word) (t : Nat) :
    ∃ r, (alarmEvent s b k old 0 v thr t).eng.offered =
      behindAlarms (fun q => q.1.isAlarm) (.alarm (32 * b + k), r) s.eng.offered := by
  have kept : alarmsWaiting (takeSeq s (64 + (32 * b + k))).2 b < 64 := room
  dsimp only [alarmEvent]
  rw [if_neg (by decide), if_neg (Nat.not_le.mpr kept)]
  exact ⟨_, rfl⟩

/-- A record of PACK context 0 of bough 0 waits for the record engine. -/
def packRecordWaits : State := State.reset.modEng fun e => { e with offered := [(.pack 0, {})] }

/-- Refutes O21: while a record of PACK waits, an alarm event goes ahead of it (R496, `alarmEvent_offered`), where the statement
puts the event at the end of what waits. -/
theorem not_alarmsAndPackComplete : ¬ Obligations.AlarmsAndPackComplete := by
  rintro ⟨-, -, -, -, -, -, -, goesLast⟩
  have room : alarmsWaiting packRecordWaits (0 : Fin 4) < 64 := by decide
  obtain ⟨r, ahead⟩ := alarmEvent_offered room (0 : Fin 32) 0 0 0 0
  obtain ⟨r', last, -⟩ := goesLast packRecordWaits 0 0 0 0 0 0 room
  have first : some (Producer.alarm 0) = some (.pack 0) :=
    congrArg (fun l => l.head?.map Prod.fst) (ahead.symm.trans last)
  exact nomatch first

end Sys2Proof.Machine
end

section
/-! Image operations of the enclave (R283, R284, R289 to R295): the write of SEC_IMG_CTRL that starts one, and what ends it. -/

namespace Sys2Proof.Machine

/-! ### The write that starts an operation (R289) -/

theorem doWrite_imgCtrl {s : State} {t : Nat} {v : Word} (lets : Lets s t SEC_IMG_CTRL.addr true) (go : nbit v.toNat 31 = true) :
    doWrite s t SEC_IMG_CTRL.addr v =
      written (startImgOp (s.put SEC_IMG_CTRL.addr v) t (wordField v 0 4) (wordField v 4 2) (wordField v 8 3)) t 0 :=
  doWrite_named (fun u => startImgOp u t (wordField v 0 4) (wordField v 4 2) (wordField v 8 3)) lets rfl (by decide)
    fun _ => congrArg (·, 0) (if_pos go)

/-- The word of a graft: GO, OP = GRAFT and the bough. -/
theorem graftWord_fields (b : Fin 4) :
    nbit (wordSet 0x80000004 4 2 b).toNat 31 = true ∧ wordField (wordSet 0x80000004 4 2 b) 0 4 = 4 ∧
      wordField (wordSet 0x80000004 4 2 b) 4 2 = b ∧ wordField (wordSet 0x80000004 4 2 b) 8 3 = 0 := by
  decide +revert

/-- The word of a counter raise: GO, OP = ARB_RAISE and the ARB_ID. -/
theorem arbRaiseWord_fields (k : Fin 8) :
    nbit (wordSet 0x80000005 8 3 k).toNat 31 = true ∧ wordField (wordSet 0x80000005 8 3 k) 0 4 = 5 ∧
      wordField (wordSet 0x80000005 8 3 k) 4 2 = 0 ∧ wordField (wordSet 0x80000005 8 3 k) 8 3 = k := by
  decide +revert

theorem doWrite_graft {s : State} {t : Nat} (b : Fin 4) (lets : Lets s t SEC_IMG_CTRL.addr true) :
    doWrite s t SEC_IMG_CTRL.addr (wordSet 0x80000004 4 2 b) =
      written (startImgOp (s.put SEC_IMG_CTRL.addr (wordSet 0x80000004 4 2 b)) t 4 b 0) t 0 := by
  obtain ⟨go, op, bough, arbId⟩ := graftWord_fields b
  rw [doWrite_imgCtrl lets go, op, bough, arbId]

theorem doWrite_arbRaise {s : State} {t : Nat} (k : Fin 8) (lets : Lets s t SEC_IMG_CTRL.addr true) :
    doWrite s t SEC_IMG_CTRL.addr (wordSet 0x80000005 8 3 k) =
      written (startImgOp (s.put SEC_IMG_CTRL.addr (wordSet 0x80000005 8 3 k)) t 5 0 k) t 0 := by
  obtain ⟨go, op, bough, arbId⟩ := arbRaiseWord_fields k
  rw [doWrite_imgCtrl lets go, op, bough, arbId]

/-! ### What a start is refused for (R289, R291, R294) -/

/-- The image that SEC_IMG_ADDR and SEC_IMG_LEN name is aligned and lies in the capture store. -/
abbrev ImageInStore (s : State) : Prop :=
  s.fld SEC_IMG_ADDR.VALUE % 8 = 0 ∧ s.fld SEC_IMG_ADDR.VALUE + s.fld SEC_IMG_LEN.VALUE ≤ 0x4000000

/-- SEC_IMG_STAT names tenant `t`, with no section. -/
def imgOwned (s : State) (t : Nat) : State := (s.setFld SEC_IMG_STAT.TENANT t).setFld SEC_IMG_STAT.SECT 0

/-- As `imgOwned`, with the RESULT of an operation that has not ended. -/
def imgClaimed (s : State) (t : Nat) : State := (imgOwned s t).setFld SEC_IMG_STAT.RESULT 0

/-- An install into the slot booted from. -/
abbrev InstallsBooted (s : State) (op : Nat) : Prop := (op = 2 ∧ s.img.booted = some 0) ∨ (op = 3 ∧ s.img.booted = some 1)

/-- No graft may start on bough `b`: outside a running mode, or of a fenced bough (R294). -/
abbrev GraftBarred (s : State) (b : Nat) : Prop := (!graftMode s) = true ∨ s.fenced (3 + b) = true

/-- The operations that stay in hand, `u` being the state that judges a graft. -/
abbrev GoesInHand (s u : State) (op b : Nat) : Prop :=
  op = 1 ∨ (op = 2 ∧ s.img.booted ≠ some 0) ∨ (op = 3 ∧ s.img.booted ≠ some 1) ∨
    (op = 4 ∧ graftMode u = true ∧ u.fenced (3 + b) = false)

/-- They are those refused for neither the slot nor the bough. -/
theorem GoesInHand.not_refused {s u : State} {op b : Nat} (goes : GoesInHand s u op b) :
    ¬ InstallsBooted s op ∧ ¬ (op = 4 ∧ GraftBarred u b) := by
  rcases goes with rfl | ⟨rfl, other⟩ | ⟨rfl, other⟩ | ⟨rfl, mode, unfenced⟩
  · simp
  · simp [other]
  · simp [other]
  · simp [mode, unfenced]

/-- The operation is in hand, its image being verified. -/
def imgStarted (s : State) (t op b : Nat) : State :=
  ((imgClaimed s t).setBit SEC_IMG_STAT.BUSY true).modImg fun i =>
    { i with op := some ⟨op, 0, b, s.fld SEC_IMG_ADDR.VALUE, s.fld SEC_IMG_LEN.VALUE⟩ }

theorem not_imgBusy {s : State} (free : s.img.op = none) : ¬ imgBusy s = true := by
  rw [imgBusy, free]
  decide

section
variable {s : State} {t op b k : Nat}

theorem startImgOp_denied (code : 1 ≤ op ∧ op ≤ 5) (denied : imgPermitted s t op = false) :
    startImgOp s t op b k = s.setFld SEC_IMG_STAT.RESULT resDENIED := by
  rw [startImgOp, if_neg (by omega), denied]
  rfl

section
variable (code : 1 ≤ op ∧ op ≤ 5) (permitted : imgPermitted s t op = true)
include code permitted

theorem startImgOp_busy (busy : s.img.op.isSome = true) : startImgOp s t op b k = s.setFld SEC_IMG_STAT.RESULT resBUSY := by
  rw [startImgOp, if_neg (by omega), permitted]
  exact if_pos busy

variable (free : s.img.op = none)
include free

theorem startImgOp_format (outside : ¬ ImageInStore s) : startImgOp s t op b k = s.setFld SEC_IMG_STAT.RESULT resFORMAT := by
  rw [startImgOp, if_neg (by omega), permitted]
  exact (if_neg (not_imgBusy free)).trans (if_pos (by omega))

variable (inStore : ImageInStore s)
include inStore

/-- Past these checks the operation decides. -/
theorem startImgOp_accepted : startImgOp s t op b k =
    if op = 5 then logOther ((arbRaise (imgOwned s t) k).setFld SEC_IMG_STAT.RESULT resOK) 4 (5 + 256 * resOK)
    else if InstallsBooted s op then (imgClaimed s t).setFld SEC_IMG_STAT.RESULT resACTIVE
    else if op = 4 ∧ GraftBarred (imgClaimed s t) b then (imgClaimed s t).setFld SEC_IMG_STAT.RESULT resREFUSED
    else imgStarted s t op b := by
  rw [startImgOp, if_neg (by omega), permitted]
  exact (if_neg (not_imgBusy free)).trans (if_neg (by omega))

end

section
variable (permitted : imgPermitted s t op = true) (free : s.img.op = none) (inStore : ImageInStore s)
include permitted free inStore

theorem startImgOp_raises (raise : op = 5) :
    startImgOp s t op b k = logOther ((arbRaise (imgOwned s t) k).setFld SEC_IMG_STAT.RESULT resOK) 4 (5 + 256 * resOK) := by
  rw [startImgOp_accepted (by omega) permitted free inStore, if_pos raise]

theorem startImgOp_active (booted : InstallsBooted s op) :
    startImgOp s t op b k = (imgClaimed s t).setFld SEC_IMG_STAT.RESULT resACTIVE := by
  rw [startImgOp_accepted (by omega) permitted free inStore, if_neg (by omega), if_pos booted]

theorem startImgOp_refused (graft : op = 4) (barred : GraftBarred (imgClaimed s t) b) :
    startImgOp s t op b k = (imgClaimed s t).setFld SEC_IMG_STAT.RESULT resREFUSED := by
  rw [startImgOp_accepted (by omega) permitted free inStore, if_neg (by omega), if_neg (by omega), if_pos ⟨graft, barred⟩]

theorem startImgOp_inHand (goes : GoesInHand s (imgClaimed s t) op b) : startImgOp s t op b k = imgStarted s t op b := by
  obtain ⟨booted, barred⟩ := goes.not_refused
  rw [startImgOp_accepted (by omega) permitted free inStore, if_neg (by omega), if_neg booted, if_neg barred]

end
end

/-! ### The end of a verification (R283, R284) -/

/-- Verification has what it needs: an install waits for Heartwood to take commits. -/
abbrev VerifyReady (s : State) (o : ImgOp) : Prop := (o.op ≠ 2 ∧ o.op ≠ 3) ∨ hwdTakes s = true

/-- RESULT and SECT of verifying the image of operation `o`. -/
def imgVerdict (s : State) (o : ImgOp) : Nat × Nat := verifyImage s (stagedImage s o) o.len (kindsFor o.op)

theorem imgEnds_of_free {s : State} (readErr : Bool) (free : s.img.op = none) :
    doImageVerifyDone readErr s = s ∧ doImageInstallDone readErr s = s ∧ doGraftEnd readErr s = s := by
  simp only [doImageVerifyDone, doImageInstallDone, doGraftEnd, free, and_self]

section
variable {s : State} {o : ImgOp} (inHand : s.img.op = some o)
include inHand

theorem doImageVerifyDone_idle (readErr : Bool)
    (idle : s.running = false ∨ o.step ≠ 0 ∨ ((o.op = 2 ∨ o.op = 3) ∧ hwdTakes s = false)) :
    doImageVerifyDone readErr s = s := by
  rw [doImageVerifyDone, inHand]
  refine if_pos ?_
  rcases idle with stopped | step | ⟨install, waits⟩
  · simp [stopped]
  · simp [step]
  · simp [install, waits]

theorem doImageVerifyDone_acts (readErr : Bool) (run : s.running = true) (step : o.step = 0) (ready : VerifyReady s o) :
    doImageVerifyDone readErr s =
      if readErr then bark (endImgOp s resREADERR 0) Src.CAP_UNC
      else if (imgVerdict s o).1 = resOK then verifiedNext s o (stagedImage s o)
      else verifyBark (endImgOp s (imgVerdict s o).1 (imgVerdict s o).2) (imgVerdict s o).1 := by
  rw [doImageVerifyDone, inHand]
  refine if_neg ?_
  rcases ready with ⟨notA, notB⟩ | takes
  · simp [run, step, notA, notB]
  · simp [run, step, takes]

/-! ### The end of an install and of a graft (R290, R292, R295, R298) -/

theorem doImageInstallDone_idle (readErr : Bool) (idle : s.running = false ∨ o.step ≠ 1 ∨ hwdTakes s = false) :
    doImageInstallDone readErr s = s := by
  rw [doImageInstallDone, inHand]
  refine if_neg ?_
  rcases idle with stopped | step | waits
  · simp [stopped]
  · simp [step]
  · simp [waits]

theorem doImageInstallDone_acts (readErr : Bool) (run : s.running = true) (step : o.step = 1) (takes : hwdTakes s = true) :
    doImageInstallDone readErr s =
      if readErr then bark (endImgOp s resREADERR 0) Src.CAP_UNC
      else endImgOp (installFinish s (if o.op = 2 then 0 else 1) (stagedImage s o)) resOK 0 := by
  rw [doImageInstallDone, inHand]
  exact if_pos (by simp [run, step, takes])

theorem doGraftEnd_idle (readErr : Bool) (idle : s.running = false ∨ o.step ≠ 2) : doGraftEnd readErr s = s := by
  rw [doGraftEnd, inHand]
  refine if_neg ?_
  rcases idle with stopped | step
  · simp [stopped]
  · simp [step]

theorem doGraftEnd_acts (readErr : Bool) (run : s.running = true) (step : o.step = 2) :
    doGraftEnd readErr s =
      if readErr then bark (graftLost s o.bough resREADERR) Src.CAP_UNC
      else endImgOp (graftFinish s o.bough (stagedImage s o)) resOK 0 := by
  rw [doGraftEnd, inHand]
  exact if_pos (by simp [run, step])

end

theorem verifiedNext_verify (s : State) {o : ImgOp} (m : Img) (verify : o.op = 1) : verifiedNext s o m = endImgOp s resOK 0 := by
  simp only [verifiedNext, verify]

/-- Settles O22: a start by the first check that refuses it or, past all of them, by its operation (the `startImgOp_` lemmas); an
end by the operation and the step in hand. -/
theorem imageOperationsComplete : Obligations.ImageOperationsComplete := by
  refine ⟨fun s t lets => ?fixedWords, fun s t b lets => next_congr (doWrite_graft b lets),
    fun s t k lets => next_congr (doWrite_arbRaise k lets), fun s t op b k low high => ?refusals,
    fun s t op b k u permitted free aligned inside hu => ?accepted, fun s readErr free => ?nothing,
    fun s readErr o inHand => ?idle, fun s o res sect run inHand step ready verdict => ?verified,
    fun s o run inHand step ready => next_congr (doImageVerifyDone_acts inHand true run step ready),
    fun s o run inHand step takes => ?installed, fun s o run inHand step => ?grafted,
    fun s o verify => verifiedNext_verify s #[] verify⟩
  case fixedWords =>
    exact ⟨next_congr (doWrite_imgCtrl lets rfl), next_congr (doWrite_imgCtrl lets rfl),
      next_congr (doWrite_imgCtrl lets rfl)⟩
  case refusals =>
    refine ⟨startImgOp_denied ⟨low, high⟩, startImgOp_busy ⟨low, high⟩, fun permitted free outside => ?_⟩
    exact startImgOp_format ⟨low, high⟩ permitted free (by omega)
  case accepted =>
    change u = imgClaimed s t at hu
    subst hu
    have inStore : ImageInStore s := ⟨aligned, inside⟩
    refine ⟨startImgOp_active permitted free inStore, fun graft barred => ?_, startImgOp_inHand permitted free inStore,
      startImgOp_raises permitted free inStore⟩
    exact startImgOp_refused permitted free inStore graft (barred.imp_left fun mode => by rw [mode]; rfl)
  case nothing =>
    obtain ⟨verify, install, graft⟩ := imgEnds_of_free readErr free
    exact ⟨next_congr verify, next_congr install, next_congr graft⟩
  case idle =>
    exact ⟨fun idle => next_congr (doImageVerifyDone_idle inHand readErr idle),
      fun idle => next_congr (doImageInstallDone_idle inHand readErr idle),
      fun idle => next_congr (doGraftEnd_idle inHand readErr idle)⟩
  case verified =>
    change imgVerdict s o = (res, sect) at verdict
    refine next_congr ((doImageVerifyDone_acts inHand false run step ready).trans ?_)
    rw [verdict]
    rfl
  case installed =>
    exact ⟨next_congr (doImageInstallDone_acts inHand false run step takes),
      next_congr (doImageInstallDone_acts inHand true run step takes)⟩
  case grafted =>
    exact ⟨next_congr (doGraftEnd_acts inHand false run step), next_congr (doGraftEnd_acts inHand true run step)⟩

end Sys2Proof.Machine
end

section
/-! The record engine, the buffer manager and the captures of raw samples (R301 to R330). -/

namespace Sys2Proof.Machine

/-! ### Permitted writes of the buffer manager's registers (R303, R308, R310) -/

theorem doWrite_bufPart {s : State} {t : Nat} (v : Word) (lets : Lets s t BUF_PART.addr true) :
    doWrite s t BUF_PART.addr v =
      written (if v.getLsbD 0 then partitionApply (s.put BUF_PART.addr v) s.img.op.isSome else s.put BUF_PART.addr v) t 0 := by
  have apply : nbit v.toNat 0 = v.getLsbD 0 := nbit_eq_testBit _ _
  exact doWrite_named (fun u => if v.getLsbD 0 then partitionApply u s.img.op.isSome else u) lets rfl (by decide)
    fun _ => congrArg (·, 0) (by rw [← apply]; rfl)

theorem doWrite_bufCmd {s : State} {t : Nat} (v : Word) (lets : Lets s t BUF_CMD.addr true) :
    doWrite s t BUF_CMD.addr v =
      written (bufCommand (s.put BUF_CMD.addr v) t (wordField v 0 3) (wordField v 3 9) (wordField v 16 14)) t 0 :=
  doWrite_named (fun u => bufCommand u t (wordField v 0 3) (wordField v 3 9) (wordField v 16 14)) lets rfl (by decide)
    fun _ => rfl

theorem doWrite_alloc {s : State} {t : Nat} (n : Fin 512) (lets : Lets s t BUF_CMD.addr true) :
    doWrite s t BUF_CMD.addr (wordSet 1 3 9 n) =
      written (bufAllocate (s.put BUF_CMD.addr (wordSet 1 3 9 n)) t (n + 1)).2 t 0 := by
  have op : wordField (wordSet 1 3 9 n) 0 3 = 1 := wordField_wordSet_other _ _ _ _ _ _ (by decide) (by decide)
  have count : wordField (wordSet 1 3 9 n) 3 9 = n :=
    (wordField_wordSet _ _ _ _ (by decide)).trans (Nat.mod_eq_of_lt n.isLt)
  rw [doWrite_bufCmd _ lets, op, count]
  rfl

/-- The word of FREE, or of FREE_CHAIN, for buffer `b`. -/
def freeWord (chain : Bool) (b : Nat) : Word := wordSet (if chain then 3 else 2) 16 14 b

theorem freeWord_fields (chain : Bool) (b : Fin 16384) :
    wordField (freeWord chain b) 0 3 = (if chain then 3 else 2) ∧ wordField (freeWord chain b) 16 14 = b := by
  constructor
  · refine (wordField_wordSet_other _ _ _ _ _ _ (by decide) (by decide)).trans ?_
    cases chain <;> rfl
  · exact (wordField_wordSet _ _ _ _ (by decide)).trans (Nat.mod_eq_of_lt b.isLt)

/-- What a free of status `st` that left `u` raises: a refused one is an event of its source (R310). -/
def freeRaised (u : State) (t st : Nat) : State :=
  if st = 2 then bark u Src.BUF_FOREIGN_FREE t else if st = 3 then bark u Src.BUF_DOUBLE_FREE t else u

theorem bufCommand_free (s : State) (t count b : Nat) (chain : Bool) :
    bufCommand s t (if chain then 3 else 2) count b = freeRaised (bufRelease s t b chain).2 t (bufRelease s t b chain).1 := by
  cases chain <;> rfl

theorem doWrite_free {s u : State} {t st : Nat} {b : Fin 16384} {chain : Bool} (lets : Lets s t BUF_CMD.addr true)
    (released : bufRelease (s.put BUF_CMD.addr (freeWord chain b)) t b chain = (st, u)) :
    doWrite s t BUF_CMD.addr (freeWord chain b) = written (freeRaised u t st) t 0 := by
  obtain ⟨op, buf⟩ := freeWord_fields chain b
  rw [doWrite_bufCmd _ lets, op, buf, bufCommand_free, released]

/-! ### Permitted writes of the record engine's registers (R301, R323, R328) -/

theorem doWrite_recPost {s : State} (v : Word) (lets : Lets s 7 REC_POST.addr true) :
    doWrite s 7 REC_POST.addr v = written (postRecord (s.put REC_POST.addr v) 7 (wordField v 0 14)) 7 0 :=
  doWrite_named (fun u => postRecord u 7 (wordField v 0 14)) lets rfl (by decide) fun _ => rfl

theorem doWrite_recPost_foreign {s : State} {t : Nat} (v : Word) (lets : Lets s t REC_POST.addr true) (foreign : t ≠ 7) :
    doWrite s t REC_POST.addr v = written s t 4 := by
  obtain ⟨r, hr⟩ := Option.isSome_iff_exists.mp (show (findReg REC_POST.addr).isSome = true by decide)
  have refused : writeReg s t REC_POST.addr r v = (s, 4) := if_pos foreign
  rw [doWrite_of_lets lets rfl hr, refused]

/-- A trigger of every channel whose bit of REC_CAP_TRIG is written 1. -/
def capturesTriggered (s : State) (v : Word) : State :=
  (List.range 32).foldl (fun s n => if nbit v.toNat n then triggerCapture s n else s) s

theorem doWrite_capTrig {s : State} {t : Nat} (v : Word) (lets : Lets s t REC_CAP_TRIG.addr true) :
    doWrite s t REC_CAP_TRIG.addr v = written (capturesTriggered (s.put REC_CAP_TRIG.addr v) v) t 0 :=
  doWrite_named (fun u => capturesTriggered u v) lets rfl (by decide) fun _ => rfl

theorem blockOf_rdptr (sub : Fin 256) : blockOf (REC_SUB_RDPTR.addr sub) = 0x10 := by
  rw [blockOf, REC_SUB_RDPTR.addr, if_pos (by omega)]
  omega

/-- A row of registers `st` bytes apart names the one at index `k`. -/
theorem RegRow.has_index {r : RegRow} {n st k : Nat} (dims : r.dims = [(n, st)]) (pos : 0 < st) (hk : k < n) :
    r.has (r.base + st * k) = true := by
  simp [RegRow.has, dims, inDims, Nat.mul_div_cancel_left k pos, hk]

theorem rdptr_named (sub : Fin 256) : (findReg (REC_SUB_RDPTR.addr sub)).isSome = true := by
  rw [findReg, blockOf_rdptr]
  exact List.find?_isSome.mpr ⟨{ base := 0x40102014, dims := [(256, 0x20)], rw := 0xffffffff }, by decide,
    RegRow.has_index rfl (by decide) sub.isLt⟩

theorem writeReg_rdptr (s : State) (t : Nat) (sub : Fin 256) (r : RegRow) (v : Word) :
    writeReg s t (REC_SUB_RDPTR.addr sub) r v = (plainWrite s r (REC_SUB_RDPTR.addr sub) v, 0) := by
  have notPost : REC_SUB_RDPTR.addr sub ≠ REC_POST.addr := by simp only [REC_SUB_RDPTR.addr, REC_POST.addr]; omega
  have notTrig : REC_SUB_RDPTR.addr sub ≠ REC_CAP_TRIG.addr := by simp only [REC_SUB_RDPTR.addr, REC_CAP_TRIG.addr]; omega
  simp only [writeReg, blockOf_rdptr, writeRec, notPost, notTrig, if_false]

theorem doWrite_rdptr {s : State} {t : Nat} {sub : Fin 256} (v : Word) (lets : Lets s t (REC_SUB_RDPTR.addr sub) true) :
    doWrite s t (REC_SUB_RDPTR.addr sub) v = written (s.put (REC_SUB_RDPTR.addr sub) v) t 0 :=
  doWrite_named id lets (by simp only [REC_SUB_RDPTR.addr]; omega) (rdptr_named sub) fun r => writeReg_rdptr s t sub r v

/-! ### Accepting a record (R301, R314) -/

theorem doRecordAccept_none {s : State} (empty : s.eng.offered = []) : doRecordAccept s = s := by
  simp only [doRecordAccept, empty]

/-- The record offered first is off the list of those offered. -/
def offerTaken (s : State) (rest : List (Producer × Rec)) : State := s.modEng fun e => { e with offered := rest }

section
variable {s : State} {r : Rec} {rest : List (Producer × Rec)}

/-- Only a record that PACK offers is dropped for its type. -/
theorem doRecordAccept_judges {p : Producer} (first : s.eng.offered = (p, r) :: rest)
    (kept : (∀ g : Nat, p ≠ .pack g) ∨ r.reservedType = false) :
    doRecordAccept s =
      if engineRefuses (offerTaken s rest) then refuseRecord (offerTaken s rest) p else queueRecord (offerTaken s rest) p r := by
  simp only [doRecordAccept, first]
  refine if_neg ?_
  rcases kept with other | free
  · cases p with
    | pack g => exact absurd rfl (other g)
    | alarm g | capture n | post chain => exact Bool.false_ne_true
  · simp [free]

theorem doRecordAccept_drops {g : Nat} (first : s.eng.offered = (.pack g, r) :: rest) (reserved : r.reservedType = true) :
    doRecordAccept s = (offerTaken s rest).count REC_CNT2.RSV := by
  simp only [doRecordAccept, first, reserved]
  rfl

end

/-! ### Copying a record (R315, R327) -/

theorem doRecordCopy_down {s : State} (down : s.up fenceREC = false) (bad : Bool) : doRecordCopy bad s = s := by
  simp [doRecordCopy, down]

section
variable {s : State} (up : s.up fenceREC = true)
include up

theorem doRecordCopy_good : doRecordCopy false s = copyNext s false := by
  simp [doRecordCopy, up]

theorem doRecordCopy_lost {p : Producer} {r : Rec} {i : Nat} {subs : List Nat} {rest : List (Producer × Rec × List Nat)}
    (inHand : s.eng.inq = (p, r, i :: subs) :: rest) : doRecordCopy true s = bark (copyNext s true) Src.CAP_UNC := by
  simp [doRecordCopy, up, inHand]

theorem doRecordCopy_none (empty : s.eng.inq = []) (bad : Bool) : doRecordCopy bad s = s := by
  simp [doRecordCopy, up, empty, copyNext]

end

/-! ### Push delivery (R319 to R322) -/

/-- The record has left its queue and its buffers are free. -/
def deliveryFreed (s : State) (d : Delivery) : State := setBufOwn (dropDelivery s d) d.chain 15

/-- The record's writes are on their way. -/
def deliverySent (s : State) (d : Delivery) : State :=
  s.modEng fun e => { e with dlv := e.dlv.map fun k => if k = d then { k with sent := true } else k }

/-- The writes of record `d` go out to its tenant, the last of them, WPTR's, with the value `w` that it leaves (R321, R322). -/
def pushQueued (s : State) (i : Nat) (d : Delivery) (ws : List (Nat × List Byte)) (w : Nat) : State :=
  ws.zipIdx.foldl (fun u q => toHost u d.tenant
      (postedWrite (Nat.min 5 ((deliverySent s d).fld (REC_SUB_CTL.CLASS i)))
        ((deliverySent s d).fld (REC_SUB_CTL.OID i)) q.1.1 q.1.2)
      (.push i (if q.2 + 1 = ws.length then some w else none)))
    (deliverySent s d)

/-- A record of subscription `i` that has been sent awaits the end of its writes. -/
abbrev PushOnItsWay (s : State) (i : Nat) : Prop := s.eng.dlv.any (fun d => d.sub == i && d.sent) = true

theorem doPushWrite_idle {s : State} {i : Nat} (bad : Bool)
    (idle : s.up fenceREC = false ∨ PushOnItsWay s i ∨ s.bit (REC_SUB_CTL.METHOD i) = true ∨ nextDelivery s i = none) :
    doPushWrite i bad s = s := by
  unfold doPushWrite
  rcases idle with down | sent | pull | empty
  · simp [down]
  · exact if_pos (by rw [sent, Bool.or_true])
  · simp [pull]
  · simp [empty]

/-- The next record is dropped for an error, for its tenant or for want of room, or it is sent. -/
theorem doPushWrite_next {s : State} {i : Nat} {d : Delivery} (bad : Bool) (up : s.up fenceREC = true)
    (free : ¬ PushOnItsWay s i) (push : s.bit (REC_SUB_CTL.METHOD i) = false) (next : nextDelivery s i = some d) :
    doPushWrite i bad s =
      if bad then bark ((deliveryFreed s d).count (REC_SUB_CNT.ERR i)) Src.CAP_UNC
      else if bound s d.tenant then
        (pushWrites s i d).elim ((deliveryFreed s d).count (REC_SUB_CNT.FULL i)) fun x => pushQueued s i d x.1 x.2
      else (deliveryFreed s d).count (REC_SUB_CNT.ERR i) := by
  rw [doPushWrite, if_neg (by simp [up, free]), push]
  simp only [Bool.false_eq_true, if_false, next]
  cases bad with
  | true => simp [deliveryFreed]
  | false =>
    cases tied : bound s d.tenant with
    | false => simp [deliveryFreed]
    | true =>
      cases pushWrites s i d with
      | none => simp [deliveryFreed]
      | some x => simp [pushQueued, deliverySent]

/-! ### Buffers given back, pull descriptors (R322, R325, R327) -/

theorem doPushBuffersFree_left {s : State} {i : Nat} {d : Delivery}
    (left : s.eng.dlv.find? (fun d => d.sub == i && d.left) = some d) : doPushBuffersFree i s = deliveryFreed s d := by
  simp only [doPushBuffersFree, left, deliveryFreed]

theorem doPushBuffersFree_none {s : State} {i : Nat} (empty : s.eng.dlv.find? (fun d => d.sub == i && d.left) = none) :
    doPushBuffersFree i s = s := by
  simp only [doPushBuffersFree, empty]

theorem pullNext_none {s : State} {i : Nat} (empty : nextPull s i = none) (bad : Bool) : pullNext s i bad = s := by
  simp only [pullNext, empty]

theorem doPullDescriptorWrite_idle {s : State} {i : Nat} (bad : Bool) (idle : s.up fenceREC = false ∨ nextPull s i = none) :
    doPullDescriptorWrite i bad s = s := by
  rcases idle with down | empty
  · simp [doPullDescriptorWrite, down]
  · simp [doPullDescriptorWrite, empty, pullNext_none]

theorem doPullDescriptorWrite_next {s : State} {i : Nat} {d : Delivery} (bad : Bool) (up : s.up fenceREC = true)
    (next : nextPull s i = some d) : doPullDescriptorWrite i bad s =
      if bad = true then bark (pullNext s i bad) Src.CAP_UNC
      else if (pullNext s i bad).fld (REC_SUB_WPTR.OFF i) ≠ s.fld (REC_SUB_WPTR.OFF i) ∧
          (pullNext s i bad).fld (REC_SUB_CTL.TENANT i) = 7 then plicRaise (pullNext s i bad) plicREC
      else pullNext s i bad := by
  simp only [doPullDescriptorWrite, up, next, Option.isSome_some, Bool.true_and]
  rfl

/-! ### Captures (R329, R330) -/

theorem captures_none {s : State} {n : Nat} (empty : captureOf s n = none) :
    doCapturePart n s = s ∧ doCaptureShortEnd n s = s := by
  simp only [doCapturePart, doCaptureShortEnd, empty, and_self]

/-- Samples of the next part of capture `c`. -/
def nextPartLen (s : State) (n : Nat) (c : Capture) : Nat := Nat.min (partLen s n) (c.stop - c.next)

/-- The next part of capture `c` leaves, SHORT where the capture could not begin with all it was to hold. -/
def nextPartSent (s : State) (n : Nat) (c : Capture) : State :=
  sendPart s n c (nextPartLen s n c) (if c.short && c.part = 0 then flagSHORT else 0) (c.stop ≤ c.next + nextPartLen s n c)

section
variable {s : State} {n : Nat} {c : Capture} (capture : captureOf s n = some c)
include capture

theorem doCapturePart_waits (short : (ringOf s n).cnt < c.next + nextPartLen s n c) : doCapturePart n s = s := by
  rw [doCapturePart, capture]
  exact if_pos short

variable (held : c.next + nextPartLen s n c ≤ (ringOf s n).cnt)
include held

theorem doCapturePart_goesOn (more : c.next + nextPartLen s n c < c.stop) : doCapturePart n s =
    setCapture (nextPartSent s n c) n (some { c with next := c.next + nextPartLen s n c, part := (c.part + 1) % 256 }) := by
  rw [doCapturePart, capture]
  exact (if_neg (Nat.not_lt.mpr held)).trans (if_neg (Nat.not_le.mpr more))

theorem doCapturePart_ends (last : c.stop ≤ c.next + nextPartLen s n c) : doCapturePart n s =
    setCapture (if c.short then (nextPartSent s n c).count REC_CAP_CNT.SHORT else nextPartSent s n c) n none := by
  rw [doCapturePart, capture]
  exact (if_neg (Nat.not_lt.mpr held)).trans (if_pos last)

end

/-- A capture goes on while its channel is enabled, its AFE not fenced, and RATE and FILTER are those that it began with. -/
theorem doCaptureShortEnd_eq {s : State} {n : Nat} {c : Capture} (capture : captureOf s n = some c) :
    doCaptureShortEnd n s =
      if wordField (s.word (AFE_CH_CFG.addr (n / 16) (n % 16))) 0 1 = 1 ∧ s.fenced (n / 16) = false ∧
          wordField (s.word (AFE_CH_CFG.addr (n / 16) (n % 16))) 4 6 = wordField c.cfg 4 6 then s
      else setCapture ((sendPart s n { c with multi := c.part != 0 } (Nat.min (partLen s n) ((ringOf s n).cnt - c.next))
        (flagSHORT + flagGAP) true).count REC_CAP_CNT.SHORT) n none := by
  simp only [doCaptureShortEnd, capture, Bool.not_eq_eq_eq_not, Bool.not_true]

/-- Settles O23: a write by what its register does, a step of the engine by whether it is up and what waits for it, a capture by
what its ring holds. -/
theorem recordsAndBuffersComplete : Obligations.RecordsAndBuffersComplete := by
  refine ⟨fun s t v lets => next_congr (doWrite_bufPart v lets), fun s t n lets => next_congr (doWrite_alloc n lets),
    fun s t b st u lets released => next_congr (doWrite_free (chain := false) lets released),
    fun s t b st u lets released => next_congr (doWrite_free (chain := true) lets released),
    fun s v lets => next_congr (doWrite_recPost v lets), fun s t v lets foreign => ?foreignPost,
    fun s empty => next_congr (doRecordAccept_none empty), fun s p r rest u first hu kept => ?accepted,
    fun s g r rest first reserved => next_congr (doRecordAccept_drops first reserved),
    fun s bad down => next_congr (doRecordCopy_down down bad), fun s up => next_congr (doRecordCopy_good up),
    fun s p r i subs rest up inHand => next_congr (doRecordCopy_lost up inHand),
    fun s bad up empty => next_congr (doRecordCopy_none up empty bad),
    fun s sub bad idle => next_congr (doPushWrite_idle bad idle),
    fun s sub d u v up free push next hu hv => ?pushed,
    fun s sub d left => next_congr (doPushBuffersFree_left left), fun s sub empty => next_congr (doPushBuffersFree_none empty),
    fun s sub bad idle => next_congr (doPullDescriptorWrite_idle bad idle), fun s sub bad d u up next hu => ?described,
    fun s t sub v lets => next_congr (doWrite_rdptr v lets), fun s t v lets => next_congr (doWrite_capTrig v lets),
    fun s n empty => ?noCapture, fun s n c len u capture hlen hu => ?part, fun s n c w capture hw => ?shortEnd⟩
  case foreignPost => exact next_congr (doWrite_recPost_foreign v lets (Fin.val_ne_of_ne foreign))
  case accepted =>
    subst hu
    exact next_congr (doRecordAccept_judges first kept)
  case pushed =>
    subst hu hv
    have acts (bad : Bool) := doPushWrite_next bad up (ne_true_of_eq_false free) push next
    refine ⟨next_congr (acts true), fun unbound => next_congr ((acts false).trans ?_),
      fun tied full => next_congr ((acts false).trans ?_), fun ws w tied fits => next_congr ((acts false).trans ?_)⟩
    · rw [unbound]
      rfl
    · rw [tied, full]
      rfl
    · rw [tied, fits]
      rfl
  case described =>
    subst hu
    exact next_congr (doPullDescriptorWrite_next bad up next)
  case noCapture =>
    obtain ⟨part, shortEnd⟩ := captures_none empty
    exact ⟨next_congr part, next_congr shortEnd⟩
  case part =>
    subst hlen hu
    exact ⟨fun short => next_congr (doCapturePart_waits capture short),
      fun held more => next_congr (doCapturePart_goesOn capture held more),
      fun held last => next_congr (doCapturePart_ends capture held last)⟩
  case shortEnd =>
    subst hw
    exact next_congr (doCaptureShortEnd_eq capture)

end Sys2Proof.Machine
end

section
/-! The Saplings stay as chapter 17 allows (R553, R562, R572, R589, R590): each operation of a Sapling keeps its fields in
their ranges, and so does each of its commands. -/

namespace Sys2Proof.Machine

/-! ### What a well-formed Sapling holds -/

/-- `Sap.wf` field by field. -/
structure Sap.Fits (x : Sap) : Prop where
  addr : x.addr ≤ 62
  down : x.down < 256
  bdown : x.bdown < 256
  up : x.up < 256
  hops : x.hops.length = 2
  home : x.home < 2
  link : x.link < 4
  bypass : x.bypass < 4
  jam : x.jam < 4
  jabber : x.jabber < 4
  chCfg : x.chCfg.length = 8
  chWake : x.chWake.length = 8
  results : x.results.length = 8
  settle : x.settle.length = 8
  ctrl : x.ctrl.toNat < 0x20000
  cfgs : ∀ w ∈ x.chCfg, w.toNat < 0x1000
  wakes : ∀ w ∈ x.chWake, w.toNat < 0x20000
  burst : ∀ b, x.burst = some b → b.ch < 8

theorem Sap.wf_iff_fits (x : Sap) : x.wf = true ↔ x.Fits := by
  simp only [Sap.wf, Bool.and_eq_true, decide_eq_true_eq, beq_iff_eq, List.all_eq_true, and_assoc]
  constructor
  · rintro ⟨addr, down, bdown, up, hops, home, link, bypass, jam, jabber, chCfg, chWake, results, settle, ctrl, cfgs, wakes, burst⟩
    exact ⟨addr, down, bdown, up, hops, home, link, bypass, jam, jabber, chCfg, chWake, results, settle, ctrl, cfgs, wakes,
      fun b inHand => by simpa [inHand] using burst⟩
  · rintro ⟨addr, down, bdown, up, hops, home, link, bypass, jam, jabber, chCfg, chWake, results, settle, ctrl, cfgs, wakes, burst⟩
    exact ⟨addr, down, bdown, up, hops, home, link, bypass, jam, jabber, chCfg, chWake, results, settle, ctrl, cfgs, wakes,
      by split <;> simp_all⟩

/-- A set of the two ports stays one when a port joins or leaves it. -/
theorem setBit_port_lt {n q : Nat} (hn : n < 4) (hq : q < 2) : setBit n q < 4 := by
  interval_cases n <;> interval_cases q <;> decide

theorem clrBit_port_lt {n : Nat} (q : Nat) (hn : n < 4) : clrBit n q < 4 := (clrBit_le n q).trans_lt hn

theorem sideChanged_lt (joins : Bool) {n q : Nat} (hn : n < 4) (hq : q < 2) : (if joins then setBit n q else clrBit n q) < 4 := by
  split
  · exact setBit_port_lt hn hq
  · exact clrBit_port_lt q hn

theorem succ_mod_byte_lt (n : Nat) : (n + 1) % 256 < 256 := Nat.mod_lt _ (by decide)

theorem ofNat_mod_lt (n : Nat) {m : Nat} (hpos : 0 < m) : (BitVec.ofNat 32 (n % m)).toNat < m := by
  rw [BitVec.toNat_ofNat]
  exact (Nat.mod_le _ _).trans_lt (Nat.mod_lt n hpos)

theorem sapChannels_le (p : Nat) : sapChannels p ≤ 8 := by
  unfold sapChannels
  split <;> decide

/-! ### The operations of a Sapling -/

namespace Sap.Fits

protected theorem ite {c : Prop} [Decidable c] {x y : Sap} (hx : x.Fits) (hy : y.Fits) : (if c then x else y).Fits := by
  split <;> assumption

variable {x : Sap} (h : x.Fits)
include h

theorem settleSleep (now : Nat) : (x.settleSleep now).Fits := by
  unfold Sap.settleSleep
  split
  · split
    · exact { h with }
    · exact h
  · exact h

theorem emit (q ty : Nat) (pl : List Byte) : (x.emit q ty pl).Fits := { h with up := succ_mod_byte_lt x.up }

theorem stored (q : Nat) : (x.stored q).Fits := { h with }

theorem nack (q ty why : Nat) : (x.nack q ty why).Fits := h.emit ..

theorem ack (q ty : Nat) : (x.ack q ty).Fits := h.emit ..

theorem setTime (now t d : Nat) : (x.setTime now t d).Fits := { h with }

theorem sendWakeReq (q : Nat) : (x.sendWakeReq q).Fits := by
  unfold Sap.sendWakeReq
  split
  · exact h.emit ..
  · exact h

theorem forward (q : Nat) (f : GFrame) : (x.forward q f).Fits := { h with }

theorem hears_port {q : Nat} (hq : q < 2) : Sap.Fits { x with link := setBit x.link q } :=
  { h with link := setBit_port_lt h.link hq }

theorem take {q : Nat} (hq : q < 2) (f : GFrame) (seq : Nat) : (x.take q f seq).2.Fits := by
  have heard := h.hears_port hq
  unfold Sap.take
  split
  · exact h
  · dsimp only
    split
    · split
      · split
        · exact heard
        · split
          · exact { heard with bdown := succ_mod_byte_lt x.bdown }
          · split <;> exact heard
      · split
        · split
          · exact { heard with down := succ_mod_byte_lt x.down }
          · split <;> exact heard
        · exact heard
    · split <;> exact heard
    · exact heard

/-- A command's frame keeps the Sapling fit where what it does does. -/
theorem act {q : Nat} (hq : q < 2) (ty : Nat) (f : GFrame) (seq : Nat) (lenOk : Nat → Bool) {k : Sap → Sap}
    (hk : ∀ y : Sap, y.Fits → (k y).Fits) : (x.act q ty f seq lenOk k).Fits := by
  have taken := h.take hq f seq
  unfold Sap.act
  split
  · exact h
  · split
    next => exact h
    next again => 
      rw [again] at taken
      split
      · exact { taken with }
      · exact taken
    next fresh =>
      rw [fresh] at taken
      split
      · exact taken
      · split
        · exact (hk _ taken).stored q
        · split
          · exact (taken.nack ..).stored q
          · exact taken

theorem beacon (now : Nat) {q : Nat} (hq : q < 2) (f : GFrame) : (x.beacon now q f).Fits := by
  unfold Sap.beacon
  split
  · exact h
  · refine Sap.Fits.sendWakeReq (Sap.Fits.emit (Sap.Fits.setTime ?_ ..) ..) q
    exact { h with
      hops := (List.length_set ..).trans h.hops
      home := hq
      link := setBit_port_lt h.link hq
      down := Nat.zero_lt_succ _
      bdown := Nat.zero_lt_succ _
      up := Nat.zero_lt_succ _ }

theorem relay {q : Nat} (hq : q < 2) (f : GFrame) : (x.relay q f).Fits := by
  have heard := h.hears_port hq
  unfold Sap.relay
  split
  · exact h
  · dsimp only
    split
    · split
      · exact heard.forward ..
      · split
        · exact heard
        · exact heard.forward ..
    · exact heard.forward ..
    · exact heard
    · split
      · split
        · exact heard
        · exact { (heard.nack q f.ty 1).stored q with down := succ_mod_byte_lt x.down }
      · exact heard.forward ..

theorem fallAsleep (now : Nat) : (x.fallAsleep now).Fits := { h with }

/-! ### Reports and bursts -/

theorem report (p q mask : Nat) : (x.report p q mask).Fits := { h with up := succ_mod_byte_lt x.up }

theorem burstFrame (q : Nat) (b : SapBurst) (ws : List (BitVec 24)) (final short : Bool) :
    (x.burstFrame q b ws final short).Fits := h.emit ..

omit h in
theorem burstSend (q k : Nat) {b : SapBurst} (hb : b.ch < 8) (final short : Bool) {x : Sap} (h : x.Fits) :
    (x.burstSend q k b final short).Fits := by
  have inHand : ∀ c, some b = some c → c.ch < 8 := by rintro _ ⟨⟩; exact hb
  induction k generalizing x b with
  | zero => exact { h with burst := inHand }
  | succ k ih =>
    unfold Sap.burstSend
    split
    · split
      · exact { h.burstFrame q b b.held true short with burst := by simp }
      · exact { h with burst := inHand }
    · exact ih (b := { b with held := b.held.drop 20, part := b.part + 1 }) hb (h.burstFrame ..) (by rintro _ ⟨⟩; exact hb)

theorem burstEnd (q : Nat) (short : Bool) : (x.burstEnd q short).Fits := by
  unfold Sap.burstEnd
  split
  next b inHand => exact burstSend q _ (h.burst b inHand) true short h
  next => exact h

/-! ### Registers -/

theorem setChannel (c : Nat) (w : Word) (hw : w.toNat < 0x1000) (n : Nat → Nat) :
    Sap.Fits { x with chCfg := x.chCfg.set c w, settle := modAt x.settle c n } :=
  { h with
    chCfg := (List.length_set ..).trans h.chCfg
    settle := (modAt_length ..).trans h.settle
    cfgs := fun u hu => (List.mem_or_eq_of_mem_set hu).elim (h.cfgs u) fun e => e ▸ hw }

theorem setReg (q w v : Nat) : (x.setReg q w v).Fits := by
  unfold Sap.setReg
  split
  · exact { h with ctrl := ofNat_mod_lt v (by decide) }
  · split
    · refine setChannel ?_ _ _ (ofNat_mod_lt v (by decide)) _
      split
      · split
        · exact h.burstEnd q true
        · exact h
      · exact h
    · split
      · exact { h with
          chWake := (List.length_set ..).trans h.chWake
          wakes := fun u hu => (List.mem_or_eq_of_mem_set hu).elim (h.wakes u) fun e => e ▸ ofNat_mod_lt v (by decide) }
      · exact h

theorem setRegs (q : Nat) (w v : Nat → Nat) (is : List Nat) : (is.foldl (fun y i => y.setReg q (w i) (v i)) x).Fits := by
  induction is generalizing x with
  | nil => exact h
  | cons i is ih => exact ih (h.setReg ..)

end Sap.Fits

/-! ### The state's Saplings -/

theorem saplingsWf_iff (s : State) : SaplingsWf s ↔ ∀ p, (sapOf s p).Fits := forall_congr' fun _ => Sap.wf_iff_fits _

theorem sapOf_setSap (s : State) (p q : Nat) (x : Sap) : sapOf (setSap s p x) q = if p = q then x else sapOf s q :=
  SMap.get_set _ _ _ _ _

section
variable {s : State} (wf : SaplingsWf s)
include wf

theorem saplingsWf_setSap (p : Nat) {x : Sap} (h : x.Fits) : SaplingsWf (setSap s p x) := fun q => by
  rw [sapOf_setSap]
  split
  · exact (Sap.wf_iff_fits x).mpr h
  · exact wf q

theorem sapTurn_fits (p : Nat) : (sapTurn s p).Fits :=
  { ((saplingsWf_iff s).mp wf p).settleSleep s.uptime with }

theorem saplingsWf_sapRun (p : Nat) {k : Sap → Sap} (hk : ∀ x : Sap, x.Fits → (k x).Fits) : SaplingsWf (sapRun s p k) :=
  saplingsWf_setSap wf p (hk _ (sapTurn_fits wf p))

theorem saplingsWf_act (p : Nat) {q : Nat} (hq : q < 2) (ty : Nat) (f : GFrame) (seq : Nat) (lenOk : Nat → Bool) {k : Sap → Sap}
    (hk : ∀ y : Sap, y.Fits → (k y).Fits) : SaplingsWf (sapRun s p fun x => x.act q ty f seq lenOk k) :=
  saplingsWf_sapRun wf p fun _ h => h.act hq ty f seq lenOk hk

end

/-- Only the clocks move when time runs on. -/
theorem State.advanceTo_eq (s : State) (t : Nat) :
    s.advanceTo t = { s with uptime := (s.advanceTo t).uptime, tim := (s.advanceTo t).tim } := by
  unfold State.advanceTo
  split <;> rfl

@[simp] theorem State.runTo_saps (s : State) (u : Nat) : (s.runTo u).saps = s.saps := 
  (congrArg State.saps (State.advanceTo_eq s _) :)

@[simp] theorem State.runTo_pending (s : State) (u : Nat) : (s.runTo u).pending = s.pending :=
  (congrArg State.pending (State.advanceTo_eq s _) :)

/-- What follows `s` has its queue, and Saplings as chapter 17 allows. -/
abbrev KeepsSaplings (s t : State) : Prop := SaplingsWf t ∧ t.pending = s.pending

section
variable {s : State} (wf : SaplingsWf s)
include wf

theorem keepsSaplings_sapRun (p : Nat) {k : Sap → Sap} (hk : ∀ x : Sap, x.Fits → (k x).Fits) : KeepsSaplings s (sapRun s p k) :=
  ⟨saplingsWf_sapRun wf p hk, rfl⟩

theorem keepsSaplings_act (p : Nat) {q : Nat} (hq : q < 2) (ty : Nat) (f : GFrame) (seq : Nat) (lenOk : Nat → Bool)
    {k : Sap → Sap} (hk : ∀ y : Sap, y.Fits → (k y).Fits) :
    KeepsSaplings s (sapRun s p fun x => x.act q ty f seq lenOk k) :=
  ⟨saplingsWf_act wf p hq ty f seq lenOk hk, rfl⟩

/-- A window of a Sapling's sleep: where it stands as the window asks, time runs on and its mode changes. -/
theorem keepsSaplings_runTo (u p : Nat) {x : Sap} (h : x.Fits) : KeepsSaplings s (setSap (s.runTo u) p x) :=
  ⟨saplingsWf_setSap (fun q => by rw [sapOf, State.runTo_saps]; exact wf q) p h, State.runTo_pending s u⟩

/-! ### Its commands -/

variable (p : Nat) {q : Nat} (hq : q < 2) (f : GFrame) (seq : Nat)

theorem doSaplingWakeWindow_keeps : KeepsSaplings s (doSaplingWakeWindow p s) := by
  unfold doSaplingWakeWindow
  dsimp only
  split
  · exact keepsSaplings_runTo wf _ p { sapTurn_fits wf p with }
  · exact ⟨saplingsWf_setSap wf p (sapTurn_fits wf p), rfl⟩

theorem doSaplingListenEnd_keeps : KeepsSaplings s (doSaplingListenEnd p s) := by
  unfold doSaplingListenEnd
  dsimp only
  split
  · exact keepsSaplings_runTo wf _ p { sapTurn_fits wf p with }
  · exact ⟨saplingsWf_setSap wf p (sapTurn_fits wf p), rfl⟩

theorem doSaplingBlockEnd_keeps (data : List SapChan) (sflt : Nat) : KeepsSaplings s (doSaplingBlockEnd p data sflt s) := by
  have wf' : SaplingsWf (s.freshList 8 65536).2 := wf
  exact ⟨saplingsWf_sapRun wf' p fun x h =>
    { h with
      results := (List.length_map ..).trans List.length_range
      settle := (List.length_map ..).trans List.length_range }, rfl⟩

theorem doSaplingWakeComparator_keeps (ch rms : Nat) : KeepsSaplings s (doSaplingWakeComparator p ch rms s) := by
  refine keepsSaplings_sapRun wf p fun x h => ?_
  dsimp only
  split
  · exact h
  · have noted : Sap.Fits { x with wakeReq := some (1, ch, rms), committed := x.committed || x.commitAt.isSome, commitAt := none } :=
      { h with }
    split
    · exact { noted with }
    · exact { noted with }
    · exact noted
    · split
      · exact noted.sendWakeReq ..
      · exact noted

include hq

theorem doSaplingBurstReq_keeps (data : List (BitVec 24)) : KeepsSaplings s (doSaplingBurstReq p q f seq data s) := by
  refine keepsSaplings_act wf p hq _ _ _ _ fun y h => ?_
  dsimp only
  split
  · exact h.nack ..
  · split
    · exact h.nack ..
    next good =>
      refine Sap.Fits.burstSend q _ ?_ _ _ h
      simp only [Sap.chOn, Bool.or_eq_true, not_or, Bool.not_eq_true', Bool.not_eq_false, Bool.and_eq_true,
        decide_eq_true_eq] at good
      obtain ⟨⟨⟨⟨on, -⟩, -⟩, -⟩, -⟩ := good
      exact on.trans_le (sapChannels_le p)

theorem doSaplingRegRd_keeps : KeepsSaplings s (doSaplingRegRd p q f seq s) := by
  refine keepsSaplings_act wf p hq _ _ _ _ fun y h => ?_
  dsimp only
  split
  · exact h.nack ..
  · split
    · exact { h with up := succ_mod_byte_lt y.up }
    · exact h.emit ..

theorem doSaplingRegWr_keeps : KeepsSaplings s (doSaplingRegWr p q f seq s) := by
  refine keepsSaplings_act wf p hq _ _ _ _ fun y h => ?_
  dsimp only
  split
  · exact h.nack ..
  · exact (h.setRegs q _ _ _).ack ..

theorem doSaplingBypass_keeps : KeepsSaplings s (doSaplingBypass p q f seq s) := by
  have side : (if nbit (pay f 0 1) 1 then q else 1 - q) < 2 := by split <;> omega
  exact keepsSaplings_act wf p hq _ _ _ _ fun y h => { h.ack q 14 with bypass := sideChanged_lt _ h.bypass side }

theorem doSaplingReset_keeps : KeepsSaplings s (doSaplingReset p q f seq s) := by
  have blank : Sap.Fits {} := (Sap.wf_iff_fits _).mp (by decide)
  refine keepsSaplings_act wf p hq _ _ _ _ fun y h => ?_
  split
  · exact { blank with addr := by split; exacts [h.addr, Nat.zero_le _], link := h.link }
  · exact h

theorem doSaplingSleepPrep_keeps : KeepsSaplings s (doSaplingSleepPrep p q f seq s) := by
  refine keepsSaplings_act wf p hq _ _ _ _ fun y h => ?_
  have prep : Sap.Fits { y with prep := some (pay f 0 8, pay f 8 4, pay f 12 2) } := { h with }
  dsimp only
  split
  · exact prep.sendWakeReq q
  · exact prep.emit ..

theorem doSaplingSleepCommit_keeps : KeepsSaplings s (doSaplingSleepCommit p q f seq s) := by
  refine keepsSaplings_sapRun wf p fun x h => ?_
  have acted := h.act hq 10 f seq (· == 4) (k := fun y =>
    if y.wakeReq.isSome then { y with committed := true } else { y with commitAt := some s.uptime }) fun y h => by
      split <;> exact { h with }
  dsimp only
  split
  · exact acted.forward ..
  · exact acted

theorem doSaplingEnum_keeps : KeepsSaplings s (doSaplingEnum p q f s) := by
  refine keepsSaplings_act wf p hq _ _ _ _ fun y h => ?_
  dsimp only
  split
  next range =>
    have adopts : Sap.Fits { y with addr := pay f 0 1 } := { h with addr := range.2 }
    exact adopts.emit ..
  next => exact h

end

/-- Every command of a Sapling answers a next state, with the rest of the queue and the Saplings as they may be. -/
theorem exec_keepsSaplings {s : State} (wf : SaplingsWf s) {c : Instr} (hc : saplingCommand c = true) :
    ∃ t, exec c s = .next t ∧ KeepsSaplings s t := by
  unfold saplingCommand at hc
  split at hc
  next p q f => exact ⟨_, rfl, keepsSaplings_sapRun wf _ fun x h => h.beacon _ q.isLt _⟩
  next p q f => exact ⟨_, rfl, keepsSaplings_sapRun wf _ fun x h => h.relay q.isLt _⟩
  next p q => exact ⟨_, rfl, keepsSaplings_sapRun wf _ fun x h =>
    .ite { h with jam := setBit_port_lt h.jam q.isLt, jabber := setBit_port_lt h.jabber q.isLt } h⟩
  next p q f => exact ⟨_, rfl, doSaplingEnum_keeps wf p q.isLt f⟩
  next p q f seq => exact ⟨_, rfl, keepsSaplings_act wf _ q.isLt _ _ _ _ fun y h => h.report ..⟩
  next p q f seq data => exact ⟨_, rfl, doSaplingBurstReq_keeps wf p q.isLt f _ data⟩
  next p q f seq => exact ⟨_, rfl, keepsSaplings_act wf _ q.isLt _ _ _ _ fun y h => (h.burstEnd ..).ack ..⟩
  next p q f seq => exact ⟨_, rfl, doSaplingRegRd_keeps wf p q.isLt f _⟩
  next p q f seq => exact ⟨_, rfl, doSaplingRegWr_keeps wf p q.isLt f _⟩
  next p q f seq => exact ⟨_, rfl, keepsSaplings_act wf _ q.isLt _ _ _ _ fun y h => h.emit ..⟩
  next p q f seq => exact ⟨_, rfl, doSaplingBypass_keeps wf p q.isLt f _⟩
  next p q f seq => exact ⟨_, rfl, doSaplingReset_keeps wf p q.isLt f _⟩
  next p q f => exact ⟨_, rfl, keepsSaplings_act wf _ q.isLt _ _ _ _ fun y h => h.setTime ..⟩
  next p q f seq => exact ⟨_, rfl, doSaplingSleepPrep_keeps wf p q.isLt f _⟩
  next p q f seq => exact ⟨_, rfl, doSaplingSleepCommit_keeps wf p q.isLt f _⟩
  next p => exact ⟨_, rfl, doSaplingWakeWindow_keeps wf p⟩
  next p => exact ⟨_, rfl, doSaplingListenEnd_keeps wf p⟩
  next p q => exact ⟨_, rfl, keepsSaplings_sapRun wf _ fun x h =>
    .ite { h.hears_port q.isLt with } { h.hears_port q.isLt with }⟩
  next p ch rms => exact ⟨_, rfl, doSaplingWakeComparator_keeps wf p _ _⟩
  next p => exact ⟨_, rfl, keepsSaplings_sapRun wf _ fun x h => .ite (h.sendWakeReq ..) h⟩
  next p q f seq => exact ⟨_, rfl, keepsSaplings_act wf _ q.isLt _ _ _ _ fun y h => { h with }⟩
  next p data sflt => exact ⟨_, rfl, doSaplingBlockEnd_keeps wf p data _⟩
  next p q => exact ⟨_, rfl, keepsSaplings_sapRun wf _ fun x h => .ite { h with link := clrBit_port_lt q h.link } h⟩
  next p q => exact ⟨_, rfl, keepsSaplings_sapRun wf _ fun x h => { h with jam := clrBit_port_lt q h.jam }⟩
  next p q f => exact ⟨_, rfl, keepsSaplings_act wf _ q.isLt _ _ _ _ fun y h => { h with }⟩
  next p q f => exact ⟨_, rfl, keepsSaplings_act wf _ q.isLt _ _ _ _ fun y h => { h with }⟩
  next p => exact ⟨_, rfl, keepsSaplings_sapRun wf _ fun x h => .ite (h.fallAsleep _) h⟩
  next p => exact ⟨_, rfl, keepsSaplings_sapRun wf _ fun x h => .ite (h.fallAsleep _) h⟩
  next p => exact ⟨_, rfl, keepsSaplings_sapRun wf _ fun x h => .ite { h with } h⟩
  next => exact absurd hc Bool.false_ne_true

/-- Settles O60: `exec_keepsSaplings` on the state that the step leaves the queue's rest. -/
theorem saplingsStayWellFormed : Obligations.SaplingsStayWellFormed := fun s c rest wf hc => by
  obtain ⟨t, done, wf', queue⟩ := exec_keepsSaplings (s := { s with pending := rest }) wf hc
  exact ⟨t, done, wf', queue⟩

end Sys2Proof.Machine
end

section
/-! What a Sapling answers, what it does with its line, and how it sleeps (R549 to R590). -/

namespace Sys2Proof.Machine

/-! ### Taking a frame (R553 to R555) -/

theorem Sap.hears_iff (x : Sap) : x.hears = true ↔ x.mode ≠ .asleep := bne_iff_ne

theorem Sap.not_hears_iff (x : Sap) : (!x.hears) = true ↔ x.mode = .asleep := by simp [Sap.hears]

/-- A Sapling is deaf on pair `q`: it sleeps, or the pair is cut off. -/
theorem Sap.deaf_iff (x : Sap) (q : Nat) : (!x.hears || nbit x.jam q || nbit x.bypass q) = true ↔
    x.mode = .asleep ∨ nbit x.jam q = true ∨ nbit x.bypass q = true := by
  rw [Bool.or_eq_true, Bool.or_eq_true, Sap.not_hears_iff, or_assoc]

theorem Sap.not_deaf {x : Sap} {q : Nat} (awake : x.mode ≠ .asleep) (jam : nbit x.jam q = false) (bypass : nbit x.bypass q = false) :
    ¬(!x.hears || nbit x.jam q || nbit x.bypass q) = true := by
  rw [Sap.deaf_iff, jam, bypass]
  simpa using awake

theorem Sap.take_addressed {x : Sap} {q : Nat} {f : GFrame} (awake : x.mode ≠ .asleep) (jam : nbit x.jam q = false)
    (bypass : nbit x.bypass q = false) (pos : 0 < x.addr) (lt : x.addr < 63) (hop : f.hop = x.addr) :
    x.take q f x.down = (.fresh, { x with link := setBit x.link q, down := (x.down + 1) % 256 }) := by
  have mode : hopMode f.hop = 0 := by rw [hop, hopMode]; omega
  have val : hopVal f.hop = x.addr := by rw [hop, hopVal]; omega
  rw [Sap.take, if_neg (Sap.not_deaf awake jam bypass), mode, val]
  simp [lt.ne, pos.ne']

section
variable {x y : Sap} {q ty seq : Nat} {f : GFrame} {ok : Nat → Bool} {k : Sap → Sap}

theorem Sap.act_other (other : f.ty ≠ ty) : x.act q ty f seq ok k = x := if_pos other

theorem Sap.act_skip (same : f.ty = ty) (skip : x.take q f seq = (.skip, y)) : x.act q ty f seq ok k = x := by
  rw [Sap.act, if_neg (not_not_intro same), skip]

theorem Sap.act_again (same : f.ty = ty) (again : x.take q f seq = (.again, y)) : x.act q ty f seq ok k =
    match y.answer with | some a => { y with sent := a.2.map fun g => (a.1, g) } | none => y := by
  rw [Sap.act, if_neg (not_not_intro same), again]
  dsimp only
  split <;> simp only [*]

theorem Sap.act_fresh (same : f.ty = ty) (fresh : x.take q f seq = (.fresh, y)) : x.act q ty f seq ok k =
    if sapForm f = false then y else if ok f.payload.length then (k y).stored q
    else if hopMode f.hop = 0 ∧ hopVal f.hop ≠ 63 then (y.nack q ty 2).stored q else y := by
  rw [Sap.act, if_neg (not_not_intro same), fresh]
  simp only [Bool.not_eq_true']

end

theorem sapRun_congr {s : State} {p : Nat} {k k' : Sap → Sap} (h : ∀ x, k x = k' x) : sapRun s p k = setSap s p (k' (sapNow s p)) :=
  congrArg (setSap s p) (h _)

/-- What a new BURST_REQ is refused for, as a proposition. -/
theorem burstBad_iff (x : Sap) (p c k n : Nat) : (!x.chOn p c || 7 < k || n = 0 || 32768 < n) = true ↔
    x.chOn p c = false ∨ 7 < k ∨ n = 0 ∨ 32768 < n := by
  simp [or_assoc]

theorem doSaplingBurstReq_eq (p q : Nat) (f : GFrame) (seq : Nat) (data : List (BitVec 24)) (s : State) :
    doSaplingBurstReq p q f seq data s = setSap s p ((sapNow s p).act q 5 f seq (· == 8) fun y =>
      let c := leAt f.payload 0 1
      let k := leAt f.payload 1 1
      let n := leAt f.payload 2 4
      let ws := data.take n
      if y.burst.isSome = true then y.nack q 5 4
      else if y.chOn p c = false ∨ 7 < k ∨ n = 0 ∨ 32768 < n then y.nack q 5 5
      else y.burstSend q (ws.length + 1) { ch := c, k := k, left := n - ws.length, held := ws } (ws.length == n) false) := by
  refine sapRun_congr fun x => congrArg (x.act q 5 f seq (· == 8)) (funext fun y => ?_)
  dsimp only
  rw [if_congr (burstBad_iff ..) rfl rfl]
  rfl

theorem Sap.burstSend_last (x : Sap) (q n : Nat) {b : SapBurst} (short : b.held.length ≤ 20) (lost : Bool) :
    x.burstSend q (n + 1) b true lost = { x.burstFrame q b b.held true lost with burst := none } := by
  rw [Sap.burstSend, if_pos short]
  rfl

/-- Settles O43: taking a frame by `Sap.take_addressed` and the cases of `Sap.act`; each command is what its row says. -/
theorem saplingAnswersComplete : Obligations.SaplingAnswersComplete := by
  refine ⟨fun x q f awake jam bypass pos lt hop _ => Sap.take_addressed awake jam bypass pos lt hop,
    fun x q ty seq f ok k => ⟨Sap.act_other, fun same y => ⟨Sap.act_skip same, Sap.act_again same, Sap.act_fresh same⟩⟩,
    ?ping, ?enum, ?poll, ?regRd, ?regWr, ?bypass, ?reset, ?burstReq, fun y q n b short => Sap.burstSend_last y q n short false, ?abort⟩
  case ping => rintro s p q f seq _ rfl; rfl
  case enum => rintro s p q f _ rfl; rfl
  case poll => rintro s p q f seq _ rfl; rfl
  case regRd => rintro s p q f seq _ _ _ _ rfl rfl rfl rfl; rfl
  case regWr => rintro s p q f seq _ _ _ rfl rfl rfl; rfl
  case bypass => rintro s p q f seq _ _ _ rfl rfl rfl; rfl
  case reset => rintro s p q f seq _ _ rfl rfl; rfl
  case burstReq =>
    rintro s p q f seq data _ _ _ _ _ rfl rfl rfl rfl rfl
    exact next_congr (doSaplingBurstReq_eq p q f seq.toNat data s)
  case abort => rintro s p q f seq _ rfl; rfl

/-! ### BEACON (R566) -/

theorem Sap.beacon_ignored {x : Sap} {now q : Nat} {f : GFrame} (h : x.mode = .asleep ∨ f.ty ≠ 1 ∨ hopMode f.hop ≠ 2 ∨
    nbit x.jam q = true ∨ nbit x.bypass q = true ∨ f.payload.length ≠ 16) : x.beacon now q f = x :=
  if_pos (by simpa only [Bool.or_eq_true, decide_eq_true_eq, Sap.not_hears_iff, or_assoc] using h)

/-- The Sapling that a BEACON leaves before it answers. -/
def Sap.beaconTaken (x : Sap) (now q : Nat) (f : GFrame) (d : Nat) : Sap :=
  { x with
    mode := .awake, commitAt := none, committed := false, hops := x.hops.set q (some d), home := q, link := setBit x.link q
    down := 0, bdown := 0, up := 0, session := leAt f.payload 8 4, beaconAt := now, answer := none
    tBase := leAt f.payload 0 8 + d * 1100, tAt := now }

theorem Sap.beacon_taken {x : Sap} {now q : Nat} {f : GFrame} {d : Nat} (awake : x.mode ≠ .asleep) (jam : nbit x.jam q = false)
    (bypass : nbit x.bypass q = false) (ty : f.ty = 1) (mode : hopMode f.hop = 2) (len : f.payload.length = 16)
    (hd : d = Nat.min 63 (hopVal f.hop + 1)) : x.beacon now q f = ((x.beaconTaken now q f d).emit q 0x41
      (toLE 1 ((x.beaconTaken now q f d).checkinFlags q) ++ toLE 1 d ++ toLE 2 0)).sendWakeReq q := by
  subst hd
  refine if_neg ?_
  simp only [Bool.or_eq_true, decide_eq_true_eq, Sap.not_hears_iff, ty, mode, len, jam, bypass]
  simpa using awake

/-! ### Relaying (R549, R555, R557) -/

theorem Sap.relay_deaf {x : Sap} {q : Nat} {f : GFrame} (deaf : x.mode = .asleep ∨ nbit x.jam q = true ∨ nbit x.bypass q = true) :
    x.relay q f = x := if_pos ((Sap.deaf_iff x q).mpr deaf)

section
variable {x : Sap} {q : Nat} {f : GFrame} (awake : x.mode ≠ .asleep) (jam : nbit x.jam q = false) (bypass : nbit x.bypass q = false)
include awake jam bypass

/-- The Sapling that has heard carrier on pair `q`. -/
abbrev Sap.heard (x : Sap) (q : Nat) : Sap := { x with link := setBit x.link q }

theorem Sap.relay_passes (mode : hopMode f.hop = 0)
    (other : f.ty ≥ 128 ∨ upType f.ty = true ∨ x.addr = 0 ∨ hopVal f.hop ≠ x.addr) : x.relay q f = (x.heard q).forward q f := by
  rw [Sap.relay, if_neg (Sap.not_deaf awake jam bypass), mode]
  refine if_neg ?_
  rintro ⟨down, notUp, addr, own⟩
  rcases other with h | h | h | h
  · omega
  · simp [h] at notUp
  · exact addr h
  · exact h own

theorem Sap.relay_own (mode : hopMode f.hop = 0) (down : f.ty < 128) (notUp : upType f.ty = false) (addr : x.addr ≠ 0)
    (own : hopVal f.hop = x.addr) : x.relay q f =
      if downType f.ty then x.heard q else { ((x.heard q).nack q f.ty 1).stored q with down := (x.down + 1) % 256 } := by
  rw [Sap.relay, if_neg (Sap.not_deaf awake jam bypass), mode]
  exact if_pos ⟨down, by rw [notUp]; rfl, addr, own⟩

theorem Sap.relay_byHop (mode : hopMode f.hop = 1) : x.relay q f =
    if 128 ≤ f.ty then (x.heard q).forward q f
    else if x.hops.getD q none = none ∨ hopVal f.hop ≤ 1 then x.heard q
    else (x.heard q).forward q { f with hop := f.hop - 1 } := by
  rw [Sap.relay, if_neg (Sap.not_deaf awake jam bypass), mode]
  simp only [Option.isNone_iff_eq_none]

theorem Sap.relay_counts (mode : hopMode f.hop = 2) :
    x.relay q f = (x.heard q).forward q { f with hop := 128 + Nat.min 63 (hopVal f.hop + 1) } := by
  rw [Sap.relay, if_neg (Sap.not_deaf awake jam bypass), mode]
  rfl

theorem Sap.relay_malformed (mode : hopMode f.hop = 3) : x.relay q f = x.heard q := by
  rw [Sap.relay, if_neg (Sap.not_deaf awake jam bypass), mode]
  rfl

end

theorem Sap.forward_passes {x : Sap} {q : Nat} (f : GFrame) (link : nbit x.link (1 - q) = true) (bypass : nbit x.bypass (1 - q) = false) :
    (x.forward q f).sent = x.sent ++ [(1 - q, f)] := by
  simp [Sap.forward, Sap.linkUp, link, bypass]

theorem Sap.forward_turns {x : Sap} {q : Nat} (f : GFrame) (down : nbit x.link (1 - q) = false ∨ nbit x.bypass (1 - q) = true) :
    (x.forward q f).sent = x.sent ++ [(q, { f with ty := f.ty % 128 + 128 })] := by
  have linkDown : x.linkUp (1 - q) = false := by rcases down with h | h <;> simp [Sap.linkUp, h]
  simp [Sap.forward, linkDown]

/-- What only a Sapling that does not sleep does. -/
theorem Sap.ite_hears (x y : Sap) : (if x.hears then y else x) = if x.mode = .asleep then x else y := by
  rw [if_congr (Sap.hears_iff x) rfl rfl, ite_not]

/-- Settles O44: a BEACON by `Sap.beacon_ignored` and `Sap.beacon_taken`, a frame on the line by the cases of `Sap.relay`. -/
theorem saplingLineComplete : Obligations.SaplingLineComplete := by
  refine ⟨?beacon, fun x now q f => Sap.beacon_ignored, ?taken, ?relay, ?relayed,
    fun x q f => Sap.forward_passes f, fun x q f => Sap.forward_turns f, ?jabber, ?jabberEnd, ?timeSet, ?blockEnd⟩
  case beacon => rintro s p q f _ rfl; rfl
  case taken =>
    rintro x now q f d _ _ awake jam bypass ty mode len hd rfl rfl
    exact Sap.beacon_taken awake jam bypass ty mode len hd
  case relay => rintro s p q f _ rfl; rfl
  case relayed =>
    rintro x q f _ rfl
    exact ⟨Sap.relay_deaf, fun awake jam bypass => ⟨Sap.relay_passes awake jam bypass, Sap.relay_own awake jam bypass,
      Sap.relay_byHop awake jam bypass, Sap.relay_counts awake jam bypass, Sap.relay_malformed awake jam bypass⟩⟩
  case jabber =>
    rintro s p q _ rfl
    exact ⟨next_congr (sapRun_congr fun x => Sap.ite_hears x _), next_congr (sapRun_congr fun x => Sap.ite_hears x _)⟩
  case jabberEnd => rintro s p q _ rfl; rfl
  case timeSet => rintro s p q f _ rfl; rfl
  case blockEnd =>
    rintro s p data sflt envs v x on good clip hv rfl rfl rfl rfl
    obtain ⟨rfl, rfl⟩ := Prod.mk.inj hv
    refine ⟨_, rfl, rfl, rfl, rfl, rfl, rfl, rfl, rfl, fun c hc => ?_⟩
    simp only [List.getElem?_map, List.getElem?_range hc, Option.map_some]
    rfl

/-! ### Sleep and wake (R574 to R583) -/

/-- A frame goes on from a Sapling that hears pair `q` (R555, R575). -/
theorem Sap.passesOn_iff (x : Sap) (q : Nat) : (x.hears = true ∧ (!nbit x.jam q) = true ∧ (!nbit x.bypass q) = true) ↔
    (x.mode ≠ .asleep ∧ nbit x.jam q = false ∧ nbit x.bypass q = false) := by
  rw [Sap.hears_iff, Bool.not_eq_true', Bool.not_eq_true']

theorem Sap.comparatorOn_iff (x : Sap) (p ch rms : Nat) :
    (!(nbit x.ctrl.toNat 16 && nbit (x.chWake.getD ch 0).toNat 16 && ch < sapChannels p &&
      wordField (x.chWake.getD ch 0) 0 16 < rms)) = true ↔
    ¬(ch < sapChannels p ∧ nbit x.ctrl.toNat 16 = true ∧ nbit (x.chWake.getD ch 0).toNat 16 = true ∧
      wordField (x.chWake.getD ch 0) 0 16 < rms) := by
  simp only [Bool.not_eq_true', Bool.eq_false_iff, ne_eq, Bool.and_eq_true, decide_eq_true_eq]
  tauto

/-- The Sapling whose comparator has crossed: WAKE_REQ is outstanding, and no sleep pending (R580, R583). -/
def Sap.crossed (x : Sap) (ch rms : Nat) : Sap :=
  { x with wakeReq := some (1, ch, rms), committed := x.committed || x.commitAt.isSome, commitAt := none }

/-- What a comparator that is on and over its threshold makes of a Sapling: a tone from sleep, WAKE_REQ awake (R580). -/
def Sap.compared (x : Sap) (p ch rms : Nat) : Sap :=
  if ch < sapChannels p ∧ nbit x.ctrl.toNat 16 = true ∧ nbit (x.chWake.getD ch 0).toNat 16 = true ∧
      wordField (x.chWake.getD ch 0) 0 16 < rms then
    (if x.mode = .asleep ∨ x.mode = .listen then { x.crossed ch rms with mode := .toned, tones := 3 }
     else if x.mode = .awake ∧ (x.hops.getD x.home none).isSome = true then
       (x.crossed ch rms).emit x.home 0x48 (toLE 1 1 ++ toLE 1 ch ++ toLE 2 rms)
     else x.crossed ch rms)
  else x

theorem doSaplingWakeComparator_eq (s : State) (p ch rms : Nat) :
    doSaplingWakeComparator p ch rms s = setSap s p ((sapNow s p).compared p ch rms) := by
  refine sapRun_congr (k' := fun x => x.compared p ch rms) fun x => ?_
  dsimp only
  rw [if_congr (Sap.comparatorOn_iff x p ch rms) rfl rfl, ite_not, Sap.compared]
  congr 1
  cases mode : x.mode <;> simp [Sap.crossed, Sap.sendWakeReq, mode]

theorem Sap.settleSleep_mode {x : Sap} {t now : Nat} (commit : x.commitAt = some t) :
    (t + 200000 ≤ now → (x.settleSleep now).mode = .asleep) ∧ (now < t + 200000 → (x.settleSleep now).mode = x.mode) := by
  rw [Sap.settleSleep, commit]
  exact ⟨fun due => congrArg Sap.mode (if_pos due), fun before => congrArg Sap.mode (if_neg (Nat.not_le.mpr before))⟩

/-- Settles O45: each command is what its row says, a crossing comparator by `doSaplingWakeComparator_eq`. -/
theorem saplingSleepComplete : Obligations.SaplingSleepComplete := by
  refine ⟨?prep, ?commit, ?abort, ?wakes, ?sleeps, ?wakeAll, ?comparator, ?wakeReq, ?wakeAck, ?commitTimeout,
    fun s p t => Sap.settleSleep_mode⟩
  case prep => rintro s p q f seq _ _ rfl rfl; rfl
  case commit =>
    rintro s p q f seq _ _ rfl rfl
    exact next_congr (congrArg (setSap s p) (if_congr (and_congr_right fun _ => Sap.passesOn_iff _ q) rfl rfl))
  case abort => rintro s p q f _ rfl; rfl
  case wakes => rintro s p q _ _ rfl rfl; exact ⟨rfl, rfl⟩
  case sleeps => rintro s p _ rfl; exact ⟨rfl, rfl, rfl⟩
  case wakeAll => rintro s p q f _ rfl; rfl
  case comparator =>
    rintro s p ch rms _ _ rfl rfl
    exact next_congr (doSaplingWakeComparator_eq s p ch rms.toNat)
  case wakeReq => rintro s p _ rfl; rfl
  case wakeAck => rintro s p q f seq _ rfl; rfl
  case commitTimeout =>
    rintro s p _ rfl
    exact next_congr (congrArg (setSap s p) (if_congr (Bool.and_eq_true_iff) rfl rfl))

end Sys2Proof.Machine
end

section
/-! The scrambler x^58 + x^39 + 1 and striping (R398, R404): what the descrambler and the receiver's lanes give back. -/

namespace Sys2Proof.Machine

/-! ### Bits of numbers laid end to end -/

theorem testBit_natXor (a b i : Nat) : (Nat.xor a b).testBit i = (a.testBit i ^^ b.testBit i) := Nat.testBit_xor a b i

theorem testBit_joined {n x : Nat} (hx : x < 2 ^ n) (y i : Nat) :
    (x + 2 ^ n * y).testBit i = if i < n then x.testBit i else y.testBit (i - n) := by
  rw [Nat.add_comm, Nat.testBit_two_pow_mul_add y hx]

theorem joined_lt {n m x y : Nat} (hx : x < 2 ^ n) (hy : y < 2 ^ m) : x + 2 ^ n * y < 2 ^ (n + m) := by
  have : 2 ^ n * (y + 1) ≤ 2 ^ n * 2 ^ m := Nat.mul_le_mul_left _ hy
  rw [Nat.pow_add]
  linarith

/-! ### The scrambler (R398) -/

theorem scrPart_lt (k st d : Nat) : scrPart k st d < 2 ^ k := Nat.mod_lt _ (Nat.two_pow_pos k)

theorem testBit_scrPart {k i : Nat} (hi : i < k) (st d : Nat) :
    (scrPart k st d).testBit i = ((d.testBit i ^^ st.testBit (i + 19)) ^^ st.testBit i) := by
  rw [scrPart, Nat.testBit_mod_two_pow, testBit_natXor, testBit_natXor, Nat.testBit_div_two_pow]
  simp [hi]

/-- The line bits of a block in two parts, 39 and 25. -/
def scrLow (st : BitVec 58) (d : BitVec 64) : Nat := scrPart 39 st.toNat (d.toNat % 2 ^ 39)
def scrHigh (st : BitVec 58) (d : BitVec 64) : Nat := scrPart 25 (scrNext 39 st.toNat (scrLow st d)) (d.toNat / 2 ^ 39)
def scrLine (st : BitVec 58) (d : BitVec 64) : Nat := scrLow st d + 2 ^ 39 * scrHigh st d

section
variable (st : BitVec 58) (d : BitVec 64)

theorem scramble_eq : scramble st d =
    (BitVec.ofNat 64 (scrLine st d), BitVec.ofNat 58 (scrNext 25 (scrNext 39 st.toNat (scrLow st d)) (scrHigh st d))) := rfl

theorem scrLow_lt : scrLow st d < 2 ^ 39 := scrPart_lt ..

theorem scrLine_lt : scrLine st d < 2 ^ 64 := joined_lt (m := 25) (scrLow_lt st d) (scrPart_lt ..)

/-- All line bits that a block's bits depend on, the 58 before it and its own. -/
def scrHistory : Nat := st.toNat + 2 ^ 58 * scrLine st d

theorem testBit_scrHistory (i : Nat) :
    (scrHistory st d).testBit i = if i < 58 then st.toNat.testBit i else (scrLine st d).testBit (i - 58) :=
  testBit_joined st.isLt _ i

theorem testBit_scrNext (i : Nat) (hi : i < 58) :
    (scrNext 39 st.toNat (scrLow st d)).testBit i = (scrHistory st d).testBit (i + 39) := by
  rw [scrNext, Nat.testBit_div_two_pow, testBit_joined st.isLt, testBit_scrHistory, scrLine, testBit_joined (scrLow_lt st d)]
  split
  · rfl
  · rw [if_pos (by omega)]

/-- Each line bit is the payload bit with those 39 and 58 before it. -/
theorem testBit_scrLine {i : Nat} (hi : i < 64) : (scrLine st d).testBit i =
    ((d.toNat.testBit i ^^ (scrHistory st d).testBit (i + 19)) ^^ (scrHistory st d).testBit i) := by
  rw [scrLine, testBit_joined (scrLow_lt st d)]
  split
  next low =>
    rw [scrLow, testBit_scrPart low, Nat.testBit_mod_two_pow, testBit_scrHistory, testBit_scrHistory, if_pos (by omega),
      if_pos (by omega)]
    simp [low]
  next high =>
    rw [scrHigh, testBit_scrPart (by omega), testBit_scrNext st d _ (by omega), testBit_scrNext st d _ (by omega),
      Nat.testBit_div_two_pow]
    congr 3 <;> omega

theorem scrNext_twice : scrNext 25 (scrNext 39 st.toNat (scrLow st d)) (scrHigh st d) = scrHistory st d / 2 ^ 64 := by
  have shift : (st.toNat + 2 ^ 58 * scrLow st d) / 2 ^ 39 + 2 ^ 58 * scrHigh st d = scrHistory st d / 2 ^ 39 := by
    rw [scrHistory, scrLine]
    omega
  rw [scrNext, scrNext, shift, Nat.div_div_eq_div_mul, ← Nat.pow_add]

/-- The descrambler undoes the scrambler, and both hold the same 58 line bits after it. -/
theorem descramble_scramble : descramble st (scramble st d).1 = (d, (scramble st d).2) := by
  have line : (BitVec.ofNat 64 (scrLine st d)).toNat = scrLine st d := Nat.mod_eq_of_lt (scrLine_lt st d)
  rw [scramble_eq, scrNext_twice, descramble, line]
  refine Prod.ext (BitVec.eq_of_getLsbD_eq fun i hi => ?_) rfl
  change (BitVec.ofNat 64 (Nat.xor (Nat.xor (scrLine st d) (scrHistory st d / 2 ^ 19)) (scrHistory st d))).getLsbD i = _
  rw [BitVec.getLsbD_ofNat, testBit_natXor, testBit_natXor, Nat.testBit_div_two_pow, testBit_scrLine st d hi]
  simp only [hi, decide_true, Bool.true_and, BitVec.testBit_toNat]
  cases d.getLsbD i <;> cases (scrHistory st d).testBit (i + 19) <;> cases (scrHistory st d).testBit i <;> rfl

end

/-! ### Striping (R404) -/

theorem getLsbD_lineWord (h : BitVec 2) (y : BitVec 64) (i : Nat) :
    (lineWord h y).getLsbD i = if i < 2 then h.getLsbD i else y.getLsbD (i - 2) := BitVec.getLsbD_append

theorem lineWord_hdr (h : BitVec 2) (y : BitVec 64) : (lineWord h y).extractLsb' 0 2 = h :=
  BitVec.eq_of_getLsbD_eq fun i hi => by simp [getLsbD_lineWord, hi]

theorem lineWord_bits (h : BitVec 2) (y : BitVec 64) : (lineWord h y).extractLsb' 2 64 = y :=
  BitVec.eq_of_getLsbD_eq fun i hi => by
    have past : ¬ 2 + i < 2 := by omega
    simp [getLsbD_lineWord, hi, past]

theorem destripe_stripe (mask : Nat) : ∀ (next : Nat) (s0 s1 : BitVec 58) (bs : List PcsBlk),
    destripe mask (fun _ => false) next s0 s1 ((stripe mask next s0 s1 bs).map fun w => w.2) = bs
  | _, _, _, [] => rfl
  | next, s0, s1, b :: bs => by
    have back := descramble_scramble (perLane (laneFor mask next) s0 s1) b.bits
    simp only [stripe, List.map_cons, destripe, Bool.false_eq_true, if_false, lineWord_hdr, lineWord_bits, back]
    rw [destripe_stripe mask]

end Sys2Proof.Machine
end

section
/-! Frames as bytes and as blocks (R411 to R415, R417): what is sent reads back as the same frame, passes the receiver's checks
and is taken up as that frame. -/

namespace Sys2Proof.Machine

/-! ### Little-endian bytes -/

@[simp] theorem length_toLE (k n : Nat) : (toLE k n).length = k := by
  induction k generalizing n with
  | zero => rfl
  | succ k ih => rw [toLE, List.length_cons, ih]

theorem leNat_lt : ∀ bs : List Byte, leNat bs < 256 ^ bs.length
  | [] => Nat.one_pos
  | b :: bs => by
    have low := b.isLt
    have high := leNat_lt bs
    rw [leNat, List.length_cons, Nat.pow_succ]
    omega

theorem toLE_leNat : ∀ bs : List Byte, toLE bs.length (leNat bs) = bs
  | [] => rfl
  | b :: bs => by
    have low := b.isLt
    have rest : (b.toNat + 256 * leNat bs) / 256 = leNat bs := by omega
    have first : BitVec.ofNat 8 (b.toNat + 256 * leNat bs) = b := BitVec.eq_of_toNat_eq (by rw [BitVec.toNat_ofNat]; omega)
    rw [List.length_cons, leNat, toLE, rest, first, toLE_leNat bs]

theorem leAt_append_left {a : List Byte} (b : List Byte) {o n : Nat} (h : o + n ≤ a.length) : leAt (a ++ b) o n = leAt a o n := by
  rw [leAt, leAt, slice, slice, List.drop_append_of_le_length (by omega), List.take_append_of_le_length (by rw [List.length_drop]; omega)]

theorem leAt_append_right (a b : List Byte) (o n : Nat) : leAt (a ++ b) (a.length + o) n = leAt b o n := by
  rw [leAt, leAt, slice, slice, List.drop_append, List.drop_eq_nil_of_le (by omega), Nat.add_sub_cancel_left, List.nil_append]

theorem leAt_toLE (b : List Byte) (k n : Nat) : leAt (toLE k n ++ b) 0 k = n % 256 ^ k := by
  rw [leAt_append_left b (by rw [length_toLE]; omega), leAt, slice, List.drop_zero, List.take_of_length_le (length_toLE k n).le,
    leNat_toLE]

theorem leNat_second_byte : ∀ bs : List Byte, leNat bs / 256 % 256 = leAt bs 1 1
  | [] => rfl
  | [a] => by
    have := a.isLt
    change (a.toNat + 256 * 0) / 256 % 256 = 0
    omega
  | a :: b :: bs => by
    have := a.isLt
    have := b.isLt
    change (a.toNat + 256 * (b.toNat + 256 * leNat bs)) / 256 % 256 = b.toNat + 256 * 0
    omega

/-! ### The check value (R415) -/

theorem reflect_lt : ∀ w n : Nat, reflect w n < 2 ^ w
  | 0, _ => Nat.one_pos
  | w + 1, n => by
    have := reflect_lt w (n / 2)
    have : n % 2 * 2 ^ w ≤ 1 * 2 ^ w := Nat.mul_le_mul_right _ (by omega)
    rw [reflect, Nat.pow_succ]
    omega

theorem crcByteLsb_lt {w v : Nat} (poly : Nat) (hv : v < 2 ^ w) (b : Nat) : crcByteLsb w poly v b < 2 ^ w := by
  rw [crcByteLsb]
  refine List.foldlRecOn (motive := fun v => v < 2 ^ w) _ _ hv fun v hv i _ => ?_
  have half : v / 2 < 2 ^ w := (Nat.div_le_self v 2).trans_lt hv
  dsimp only
  split
  · exact Nat.xor_lt_two_pow half (reflect_lt ..)
  · exact half

theorem crc32c_lt (bs : List Byte) : crc32c bs < 2 ^ 32 := by
  refine Nat.xor_lt_two_pow ?_ (by decide)
  exact List.foldlRecOn (motive := fun v => v < 2 ^ 32) _ _ (by decide) fun v hv b _ => crcByteLsb_lt _ hv _

/-! ### A frame's bytes (Table 13-2) -/

/-- `Frame.wf` field by field. -/
structure FrameFits (f : Frame) : Prop where
  ty : f.ty < 10
  cls : f.cls < 6
  fbe : f.fbe < 256
  lbe : f.lbe < 256
  sub : f.sub < 16
  status : f.status < 16
  src : f.src < 65536
  tag : f.tag < 1024
  oid : f.oid < 64
  ackSeq : f.ackSeq < 65536
  addr : f.addr < 2 ^ 48
  aux : f.aux < 2 ^ 32
  words : f.payload.length % 8 = 0
  payload : f.payload.length ≤ 256

theorem frameFits_of_wf {f : Frame} (h : f.wf = true) : FrameFits f := by
  simp only [Frame.wf, Bool.and_eq_true, decide_eq_true_eq, beq_iff_eq, and_assoc] at h
  obtain ⟨ty, cls, fbe, lbe, sub, status, src, tag, oid, ackSeq, addr, -, aux, words, payload⟩ := h
  exact ⟨ty, cls, fbe, lbe, sub, status, src, tag, oid, ackSeq, addr, aux, words, payload⟩

@[simp] theorem length_frameHeader (f : Frame) : (frameHeader f).length = 24 := by simp [frameHeader]

@[simp] theorem length_frameBody (f : Frame) : (frameBody f).length = 28 + f.payload.length := by simp [frameBody]; omega

@[simp] theorem length_wireBytes (f : Frame) (dst seq : Nat) : (wireBytes f dst seq).length = 32 + f.payload.length := by
  simp [wireBytes]; omega

section
variable (f : Frame) (dst seq : Nat)

/-- The bytes that follow the header: payload, four zero bytes and the CRC. -/
theorem wireBytes_parts : wireBytes f dst seq = frameHeader f ++
    (f.payload ++ (toLE 4 0 ++ (toLE 4 (crc32c (foldBlock dst seq (foldAddr f.ty f.addr) ++ frameBody f)) ++ []))) := by
  rw [wireBytes, frameBody, List.append_nil, List.append_assoc, List.append_assoc]

theorem wireBytes_start : wireBytes f dst seq = 0x5C :: (wireBytes f dst seq).drop 1 := by
  rw [wireBytes_parts, frameHeader]
  rfl

theorem leAt_wireBytes_header {o n : Nat} (h : o + n ≤ 24) : leAt (wireBytes f dst seq) o n = leAt (frameHeader f) o n := by
  rw [wireBytes_parts, leAt_append_left _ (by rw [length_frameHeader]; exact h)]

theorem slice_wireBytes_payload : slice (wireBytes f dst seq) 24 f.payload.length = f.payload := by
  rw [wireBytes_parts, slice, ← length_frameHeader f, List.drop_left, List.take_left]

theorem leAt_wireBytes_zero : leAt (wireBytes f dst seq) (24 + f.payload.length) 4 = 0 := by
  rw [wireBytes_parts, ← length_frameHeader f, leAt_append_right, ← Nat.add_zero f.payload.length, leAt_append_right,
    leAt_toLE, Nat.zero_mod]

theorem leAt_wireBytes_crc : leAt (wireBytes f dst seq) (28 + f.payload.length) 4 =
    crc32c (foldBlock dst seq (foldAddr f.ty f.addr) ++ frameBody f) := by
  have place : 28 + f.payload.length = (frameHeader f).length + (f.payload.length + ((toLE 4 0).length + 0)) := by
    rw [length_frameHeader, length_toLE]
    omega
  rw [wireBytes_parts, place, leAt_append_right, leAt_append_right, leAt_append_right, leAt_toLE]
  exact Nat.mod_eq_of_lt (crc32c_lt _)

theorem take_wireBytes_body : (wireBytes f dst seq).take (28 + f.payload.length) = frameBody f := by
  rw [wireBytes, ← length_frameBody, List.take_left]

theorem header_start : leAt (frameHeader f) 0 1 = 0x5C := rfl
theorem header_kind : leAt (frameHeader f) 1 1 = (f.ty % 16 + 16 * (f.cls % 8)) % 256 := leNat_toLE 1 _
theorem header_len : leAt (frameHeader f) 2 1 = fwords f % 64 % 256 := leNat_toLE 1 _
theorem header_fbe : leAt (frameHeader f) 3 1 = f.fbe % 256 := leNat_toLE 1 _
theorem header_lbe : leAt (frameHeader f) 4 1 = f.lbe % 256 := leNat_toLE 1 _
theorem header_sub : leAt (frameHeader f) 5 1 = (f.sub % 16 + 16 * (f.status % 16)) % 256 := leNat_toLE 1 _
theorem header_src : leAt (frameHeader f) 6 2 = f.src % 65536 := leNat_toLE 2 _
theorem header_tag : leAt (frameHeader f) 8 2 = (f.tag % 1024 + 1024 * (f.oid % 64)) % 65536 := leNat_toLE 2 _
theorem header_ackSeq : leAt (frameHeader f) 10 2 = f.ackSeq % 65536 := leNat_toLE 2 _
theorem header_addr : leAt (frameHeader f) 12 6 = f.addr % 2 ^ 48 := leNat_toLE 6 _
theorem header_ackV : leAt (frameHeader f) 18 1 = b2n f.ackV % 256 := leNat_toLE 1 _
theorem header_reserved : leAt (frameHeader f) 19 1 = 0 := rfl
theorem header_aux : leAt (frameHeader f) 20 4 = f.aux % 2 ^ 32 := leNat_toLE 4 _

end

section
variable {f : Frame} (fits : FrameFits f) (dst seq : Nat)
include fits

theorem fwords_eq : 8 * fwords f = f.payload.length ∧ fwords f ≤ 32 := by
  obtain ⟨words, payload⟩ := And.intro fits.words fits.payload
  unfold fwords
  omega

theorem frameOfBytes_wireBytes : frameOfBytes (wireBytes f dst seq) = f := by
  obtain ⟨ty, cls, fbe, lbe, sub, status, src, tag, oid, ackSeq, addr, aux, -, -⟩ := fits
  have pay : slice (wireBytes f dst seq) 24 ((wireBytes f dst seq).length - 32) = f.payload := by
    rw [length_wireBytes, Nat.add_sub_cancel_left, slice_wireBytes_payload]
  have ackV : nbit (b2n f.ackV % 256) 0 = f.ackV := by cases f.ackV <;> rfl
  rw [frameOfBytes, pay]
  simp only [leAt_wireBytes_header, Nat.reduceAdd, Nat.reduceLeDiff, header_kind, header_fbe, header_lbe, header_sub, header_src,
    header_tag, header_ackSeq, header_addr, header_ackV, header_aux, ackV]
  cases f
  simp only [Frame.mk.injEq, and_true, true_and] at *
  omega

theorem lengthOk_wireBytes : lengthOk (wireBytes f dst seq) = true := by
  obtain ⟨words, most⟩ := fwords_eq fits
  rw [lengthOk, leAt_wireBytes_header f dst seq (by decide), header_len, length_wireBytes]
  simp only [Bool.and_eq_true, decide_eq_true_eq, beq_iff_eq]
  omega

theorem reservedSet_wireBytes : reservedSet (wireBytes f dst seq) = false := by
  obtain ⟨ty, cls⟩ := And.intro fits.ty fits.cls
  have zero : leAt (wireBytes f dst seq) ((wireBytes f dst seq).length - 8) 4 = 0 := by
    rw [length_wireBytes, show 32 + f.payload.length - 8 = 24 + f.payload.length by omega, leAt_wireBytes_zero]
  have kind : nbit ((f.ty % 16 + 16 * (f.cls % 8)) % 256) 7 = false := by
    rw [nbit, beq_eq_false_iff_ne]
    omega
  have flag : b2n f.ackV < 2 := by cases f.ackV <;> decide
  rw [reservedSet, zero]
  simp only [leAt_wireBytes_header, Nat.reduceAdd, Nat.reduceLeDiff, header_kind, header_len, header_ackV, header_reserved, kind]
  simp only [Bool.or_eq_false_iff, decide_eq_false_iff_not, bne_self_eq_false, and_true, true_and]
  omega

omit fits in
theorem crcOk_wireBytes : crcOk (wireBytes f dst seq) dst seq (foldAddr f.ty f.addr) = true := by
  have len : (wireBytes f dst seq).length - 4 = 28 + f.payload.length := by rw [length_wireBytes]; omega
  rw [crcOk, len, leAt_wireBytes_crc, take_wireBytes_body]
  exact beq_self_eq_true _

end

/-- Another SEQ of 16 bits folds into another block. -/
theorem foldBlock_seq {dst seq seq' addr : Nat} (hseq : seq < 65536) (hseq' : seq' < 65536)
    (h : foldBlock dst seq addr = foldBlock dst seq' addr) : seq = seq' := by
  have read {n : Nat} (hn : n < 65536) : leAt (foldBlock dst n addr) 2 2 = n := (leNat_toLE 2 n).trans (Nat.mod_eq_of_lt hn)
  rw [← read hseq, h, read hseq']

/-! ### A frame's blocks (R411, R412) -/

theorem length_dataBlks (n : Nat) (bs : List Byte) : (dataBlks n bs).length = n := by
  induction n generalizing bs with
  | zero => rfl
  | succ n ih => rw [dataBlks, List.length_cons, ih]

theorem dataBlk_bytes {bs : List Byte} (h : bs.length = 8) : toLE 8 (dataBlk bs).bits.toNat = bs := by
  have lt := leNat_lt bs
  rw [h] at lt
  have bits : (dataBlk bs).bits.toNat = leNat bs := Nat.mod_eq_of_lt lt
  rw [bits, ← h, toLE_leNat]

theorem dataBlks_bytes : ∀ (n : Nat) (bs : List Byte), bs.length = 8 * n →
    ((dataBlks n bs).flatMap fun d => toLE 8 d.bits.toNat) = bs
  | 0, bs, h => (List.eq_nil_of_length_eq_zero h).symm
  | n + 1, bs, h => by
    rw [dataBlks, List.flatMap_cons, dataBlk_bytes (by rw [List.length_take]; omega),
      dataBlks_bytes n _ (by rw [List.length_drop]; omega), List.take_append_drop]

/-- A start block carries seven bytes, and its type says what it is. -/
theorem startBlk_bits {bs : List Byte} (h : bs.length = 7) : (startBlk bs).bits.toNat = 0x78 + 256 * leNat bs := by
  have lt := leNat_lt bs
  rw [h] at lt
  exact Nat.mod_eq_of_lt (by omega)

theorem startBlk_bytes {bs : List Byte} (h : bs.length = 7) : toLE 7 ((startBlk bs).bits.toNat / 256) = bs := by
  rw [startBlk_bits h, show (0x78 + 256 * leNat bs) / 256 = leNat bs by omega, ← h, toLE_leNat]

theorem startBlk_isStart {bs : List Byte} (h : bs.length = 7) : (startBlk bs).isStart = true := by
  rw [PcsBlk.isStart, PcsBlk.type, startBlk_bits h, Nat.add_mul_mod_self_left]
  rfl

section
variable {f : Frame} (fits : FrameFits f) (dst seq : Nat)
include fits

theorem length_frameBlks : (frameBlks (wireBytes f dst seq)).length = 4 + fwords f := by
  obtain ⟨words, -⟩ := fwords_eq fits
  rw [frameBlks, List.length_cons, length_dataBlks, length_wireBytes]
  omega

omit fits in
theorem length_start : (slice (wireBytes f dst seq) 1 7).length = 7 := by
  rw [slice, List.length_take, List.length_drop, length_wireBytes]
  omega

theorem blksFrame_frameBlks : blksFrame (frameBlks (wireBytes f dst seq)) = wireBytes f dst seq := by
  obtain ⟨words, -⟩ := fwords_eq fits
  have rest : slice (wireBytes f dst seq) 1 7 ++ (wireBytes f dst seq).drop 8 = (wireBytes f dst seq).drop 1 := by
    rw [slice, ← List.drop_drop (i := 7) (j := 1), List.take_append_drop]
  have data : ((dataBlks ((wireBytes f dst seq).length / 8 - 1) ((wireBytes f dst seq).drop 8)).flatMap
      fun d => toLE 8 d.bits.toNat) = (wireBytes f dst seq).drop 8 := by
    refine dataBlks_bytes _ _ ?_
    rw [List.length_drop, length_wireBytes]
    omega
  rw [frameBlks, blksFrame, startBlk_bytes (length_start dst seq), data, List.cons_append, rest]
  exact (wireBytes_start f dst seq).symm

/-- LEN as the start block carries it. -/
theorem startLen_wireBytes : startLen (startBlk (slice (wireBytes f dst seq) 1 7)) = fwords f := by
  obtain ⟨-, most⟩ := fwords_eq fits
  have byte : leAt (slice (wireBytes f dst seq) 1 7) 1 1 = fwords f % 64 % 256 := by
    rw [← header_len, ← leAt_wireBytes_header f dst seq (by decide)]
    simp [leAt, slice, List.drop_take, List.take_take]
  have second := leNat_second_byte (slice (wireBytes f dst seq) 1 7)
  rw [startLen, startBlk_bits (length_start dst seq)]
  omega

end

/-! ### Taking blocks up into frames (R412, R417) -/

section
variable (whole : State → List Byte → State) (bad : State → State) (s : State)

/-- A frame in reception goes on with data blocks until it is whole. -/
theorem takeBlks_data {b : PcsBlk} : ∀ {ps bs : List PcsBlk}, (∀ d ∈ bs, d.isData = true) → bs ≠ [] →
    (b :: ps).length + bs.length = 4 + startLen b →
    takeBlks whole bad s (b :: ps) bs = (whole s (blksFrame (b :: ps ++ bs)), [])
  | ps, d :: ds, data, _, len => by
    have first := data d List.mem_cons_self
    rw [takeBlks, if_pos first, if_neg (by simp)]
    cases ds with
    | nil => 
      rw [if_pos (by simpa [wholeFrame] using len)]
      rfl
    | cons e es =>
      have len' : (b :: (ps ++ [d])).length + (e :: es).length = 4 + startLen b := by
        rw [← len]
        simp
        omega
      have more : ¬ wholeFrame (b :: ps ++ [d]) = true := by
        simp [wholeFrame] at len' ⊢
        omega
      rw [if_neg more]
      have rest := takeBlks_data (fun x hx => data x (List.mem_cons_of_mem d hx)) (List.cons_ne_nil e es) len'
      simpa using rest

/-- A receiver between frames takes a start block and its 3 + LEN data blocks up as one frame. -/
theorem takeBlks_frame {b : PcsBlk} {bs : List PcsBlk} (start : b.isStart = true) (words : startLen b ≤ 32)
    (data : ∀ d ∈ bs, d.isData = true) (len : (b :: bs).length = 4 + startLen b) :
    takeBlks whole bad s [] (b :: bs) = (whole s (blksFrame (b :: bs)), []) := by
  have notData : ¬ b.isData = true := by
    rw [PcsBlk.isStart, PcsBlk.isControl, Bool.and_eq_true, beq_iff_eq] at start
    rw [PcsBlk.isData, start.1]
    decide
  rw [List.length_cons] at len
  rw [takeBlks, if_neg notData, if_pos List.isEmpty_nil, if_neg (by rw [start]; decide), if_neg (Nat.not_lt.mpr words)]
  refine takeBlks_data whole bad s data ?_ ?_
  · rintro rfl
    rw [List.length_nil] at len
    omega
  · rw [List.length_singleton, ← len, Nat.add_comm]

end

theorem dataBlks_isData : ∀ (n : Nat) (bs : List Byte), ∀ d ∈ dataBlks n bs, d.isData = true
  | n + 1, bs, d, hd => by
    rcases List.mem_cons.mp hd with rfl | hd
    · rfl
    · exact dataBlks_isData n _ d hd

theorem takeBlks_frameBlks {f : Frame} (fits : FrameFits f) (dst seq : Nat) (whole : State → List Byte → State)
    (bad : State → State) (s : State) :
    takeBlks whole bad s [] (frameBlks (wireBytes f dst seq)) = (whole s (wireBytes f dst seq), []) := by
  obtain ⟨-, most⟩ := fwords_eq fits
  have words := startLen_wireBytes fits dst seq
  have taken := takeBlks_frame whole bad s (startBlk_isStart (length_start (f := f) dst seq)) (words.trans_le most)
    (dataBlks_isData _ _) ((length_frameBlks fits dst seq).trans (congrArg (4 + ·) words.symm))
  exact taken.trans (congrArg (fun bs => (whole s bs, [])) (blksFrame_frameBlks fits dst seq))

/-- Settles O31: the header's fields each read back (`leAt_wireBytes_header`), the blocks carry LEN where the receiver looks for it
(`startLen_wireBytes`), and each line bit is the payload bit with the same two bits of the history (`testBit_scrLine`). -/
theorem frameRoundTrip : Obligations.FrameRoundTrip :=
  ⟨fun f dst seq wf =>
      have fits := frameFits_of_wf wf
      ⟨frameOfBytes_wireBytes fits dst seq, lengthOk_wireBytes fits dst seq, reservedSet_wireBytes fits dst seq,
        crcOk_wireBytes dst seq, length_wireBytes f dst seq⟩,
    fun _ _ _ _ => foldBlock_seq,
    fun _ dst seq wf => ⟨length_frameBlks (frameFits_of_wf wf) dst seq, blksFrame_frameBlks (frameFits_of_wf wf) dst seq⟩,
    fun _ dst seq s whole bad wf => takeBlks_frameBlks (frameFits_of_wf wf) dst seq whole bad s,
    descramble_scramble, destripe_stripe⟩

end Sys2Proof.Machine
end

section
/-! A tick of the ramp never passes the target nor VCRUISE (R597, R598), and lands cut off from their units (R29, R684). -/

namespace Sys2Proof.Machine

/-! ### One tick of the ramp -/

theorem Ramp.tick_up (r : Ramp) {p t : Int} (v : Nat) (short : p < t) : (r.tick p v false t).1 ≤ t := by
  have dir : (if v = 0 then decide (t < p) else false) = false := by
    split
    · exact decide_eq_false (by omega)
    · rfl
  rw [Ramp.tick, if_neg (by omega), dir]
  simp only [Bool.false_eq_true, if_false]
  generalize r.next (if v = 0 then r.lift * 1000000 else v) (t - p) = w
  by_cases passes : 0 < t - p ∧ t - p ≤ w
  · rw [if_pos passes]
  · rw [if_neg passes]
    dsimp only
    omega

theorem Ramp.tick_down (r : Ramp) {p t : Int} (v : Nat) (short : t < p) : t ≤ (r.tick p v true t).1 := by
  have dir : (if v = 0 then decide (t < p) else true) = true := by
    split
    · exact decide_eq_true short
    · rfl
  rw [Ramp.tick, if_neg (by omega), dir]
  simp only [if_true]
  generalize r.next (if v = 0 then r.lift * 1000000 else v) (p - t) = w
  by_cases passes : 0 < p - t ∧ p - t ≤ w
  · rw [if_pos passes]
  · rw [if_neg passes]
    dsimp only
    omega

/-- The speeds that a ramp starts and lands with are at most VCRUISE. -/
structure Ramp.Within (r : Ramp) : Prop where
  lift : r.lift ≤ r.cruise
  kneeUp : r.kneeUp ≤ r.cruise
  land : r.land ≤ r.cruise

theorem rampOf_within {s : State} {n : Nat} (pos : 1 ≤ (rampOf s n).cruise) : (rampOf s n).Within where
  lift := max_le pos ((min_le_left _ _).trans (min_le_left _ _))
  kneeUp := min_le_left _ _
  land := max_le pos ((min_le_left _ _).trans (min_le_left _ _))

section
variable {r : Ramp} (within : r.Within)
include within

theorem Ramp.brake_le {v : Nat} (hv : v ≤ r.cruise * 1000000) : r.brake v ≤ r.cruise * 1000000 :=
  max_le ((Nat.sub_le _ _).trans hv) (Nat.mul_le_mul_right _ within.land)

theorem Ramp.next_le {v : Nat} (hv : v ≤ r.cruise * 1000000) (ahead : Int) : r.next v ahead ≤ r.cruise * 1000000 := by
  rw [Ramp.next, if_neg (Nat.not_lt.mpr hv)]
  split
  · exact Ramp.brake_le within hv
  · split
    · exact (min_le_right _ _).trans (Nat.mul_le_mul_right _ within.kneeUp)
    · split
      · exact min_le_right _ _
      · exact hv

theorem Ramp.tick_velocity_le (p t : Int) {v : Nat} (neg : Bool) (hv : v ≤ r.cruise * 1000000) :
    (r.tick p v neg t).2.1 ≤ r.cruise * 1000000 := by
  have start : (if v = 0 then r.lift * 1000000 else v) ≤ r.cruise * 1000000 := by
    split
    · exact Nat.mul_le_mul_right _ within.lift
    · exact hv
  rw [Ramp.tick]
  split
  · exact Nat.zero_le _
  · generalize (if v = 0 then decide (t < p) else neg) = dir, (if v = 0 then r.lift * 1000000 else v) = w at start ⊢
    dsimp only
    generalize (if dir = true then p - t else t - p) = ahead
    split
    · exact Nat.zero_le _
    · dsimp only
      split
      · exact Nat.zero_le _
      · exact Ramp.next_le within start _

end

/-- Settles O48: short of its target a tick that would pass it stops there, and no speed that a ramp takes is above VCRUISE
(`Ramp.next_le`). -/
theorem rampNeverOverruns : Obligations.RampNeverOverruns :=
  ⟨fun r _ _ v => r.tick_up v, fun r _ _ v => r.tick_down v,
    fun _ _ p t _ neg pos => Ramp.tick_velocity_le (rampOf_within pos) p t neg⟩

/-! ### Lands cut off (R684) -/

theorem tripLandFollows_low {s : State} (low : tripLandLow s = true) (high : s.bit DRV_TRIP.TRIPN = false) :
    tripLandFollows s = haltAll (tripSet s DRV_TRIP.TRIPN) 4 := by
  rw [tripLandFollows, if_pos low, if_neg (by rw [high]; decide), tripAll]

/-- Settles O55: every event of a scanned land goes through `fromLands`, and TRIP_N does not. -/
theorem landsCutOff : Obligations.LandsCutOff := by
  refine ⟨fun s c cut => ?scanned, fun s run high => ?tripN⟩
  case scanned =>
    have stays (f : State → State) : (.next (fromLands s f) : Host.Outcome State Fault Refusal) = .next s :=
      next_congr (fromLands_cut f cut)
    refine ⟨fun _ _ _ _ _ _ => stays _, fun _ _ _ => ⟨stays _, stays _, stays _, stays _⟩, ?_,
      fun _ _ => ⟨stays _, stays _, stays _⟩, fun _ _ => ⟨stays _, stays _, stays _⟩, fun _ _ _ => ⟨stays _, stays _⟩,
      fun _ _ _ _ _ _ _ _ => stays _, fun _ _ _ _ _ _ _ => ⟨stays _, stays _, stays _⟩⟩
    rintro (rfl | rfl | rfl | rfl | rfl | rfl | rfl | rfl) <;> exact stays _
  case tripN =>
    refine next_congr ((if_pos run).trans (congrArg payOwed (tripLandFollows_low rfl high)))

end Sys2Proof.Machine
end

section
/-! The drive stage: trip path, faults, coils, standstill and LOAD (R29, R631 to R652). -/

namespace Sys2Proof.Machine

/-! ### The trip land (R29, R650) -/

/-- What acts only while a flag holds, told by the flag's other value. -/
theorem ite_flag {α : Type} (b : Bool) (x y : α) : (if b then x else y) = if b = false then y else x := by
  cases b <;> rfl

theorem doTripNLow_eq (s : State) : doTripNLow s =
    let u := s.modDrv fun d => { d with tripN := true }
    if s.running = false then u
    else payOwed (if s.bit DRV_TRIP.TRIPN = true then u else haltAll (tripSet u DRV_TRIP.TRIPN) 4) := ite_flag ..

theorem doTripRelease_eq (s : State) : doTripRelease s =
    let u := s.modDrv fun d => { d with tripN := false }
    if s.running = false then u
    else if s.pwr.vioGenOk = true then tripClear u DRV_TRIP.TRIPN
    else if s.bit DRV_TRIP.TRIPN = true then u else haltAll (tripSet u DRV_TRIP.TRIPN) 4 := by
  have follows (u : State) (h : u.drv.tripN = false) : tripLandFollows u = if u.pwr.vioGenOk = true then tripClear u DRV_TRIP.TRIPN
      else if u.bit DRV_TRIP.TRIPN = true then u else haltAll (tripSet u DRV_TRIP.TRIPN) 4 := by
    rw [tripLandFollows, tripLandLow, h, Bool.false_or, ite_flag]
    cases u.pwr.vioGenOk <;> rfl
  exact (ite_flag ..).trans (congrArg (ite _ _) (follows _ rfl))

/-! ### Lasting faults (R167, R193, R648) -/

theorem doDrvOtp_eq (temp : Nat) (s : State) : doDrvOtp temp s =
    let u := if s.up fenceDRV = true then s.setFld DRV_TEMP.DEGC temp else s
    let v := u.modDrv fun d => { d with otpHot := decide (205 < temp) }
    if 205 < temp ∧ u.drv.otpHot = false ∧ u.running = true then drvLasting v DRV_FAULT.OTP Src.DRV_OTP
    else if temp < 185 then pairFollows v Src.DRV_OTP false else u := by
  dsimp only [doDrvOtp]
  generalize (if s.up fenceDRV = true then s.setFld DRV_TEMP.DEGC temp else s) = u
  refine ite_congr (by rw [Bool.not_eq_true']) (fun hot => ?_) fun _ => ite_congr rfl (fun cool => ?_) fun _ => rfl
  · rw [decide_eq_true hot.1]
  · rw [decide_eq_false (by omega)]

theorem doDrvClockLoss_eq (lost : Bool) (s : State) : doDrvClockLoss lost s =
    let u := s.modDrv fun d => { d with clkLost := lost }
    if s.running = false then s
    else if lost = true ∧ s.drv.clkLost = false then drvLasting u DRV_FAULT.CLK Src.DRV_LINK
    else pairFollows u Src.DRV_LINK lost := by
  refine ite_congr (by rw [Bool.not_eq_true']) (fun _ => rfl) fun _ =>
    ite_congr (by rw [Bool.and_eq_true, Bool.not_eq_true']) (fun new => ?_) fun _ => rfl
  rw [new.1]

/-! ### Chopper periods (R631, R636, R640) -/

/-- A period regulates coil `i % 2` of axis `i / 2`, where it is driven. -/
def chopIfDriven (mA : List Int) (s : State) (i : Nat) : State :=
  if s.bitAt DRV_STATUS.DRIVEN (i / 2) = true then chopAxisCoil s (i / 2) (i % 2) (mA.getD i 0) else s

/-- The banks that a period's coils are regulated on. -/
def banksTaken (s : State) : State :=
  (List.range 4).foldl (fun s n => modDrvAx s n fun a => { a with bank := s.fld (DRV_AX_CFG.TBL n) }) s

/-- The flag of a change of banks that was staged. -/
def banksShown (s : State) : State :=
  if s.drv.tblPend ≠ 0 then drvIrq ((banksTaken s).modDrv fun d => { d with tblPend := 0 }) DRV_IRQ.TBL else banksTaken s

theorem doChopperPeriod_eq (mA : List Int) (s : State) : doChopperPeriod mA s =
    if s.up fenceDRV = false then s else (List.range 8).foldl (chopIfDriven mA) (banksShown s) :=
  ite_congr (by rw [Bool.not_eq_true']) (fun _ => rfl) fun _ => rfl

theorem driven_chopAxisCoil (s : State) (n c : Nat) (m : Int) :
    (chopAxisCoil s n c m).fld DRV_STATUS.DRIVEN = s.fld DRV_STATUS.DRIVEN := by
  have coil : (if c = 0 then DRV_AX_COIL.IA n else DRV_AX_COIL.IB n).addr ≠ DRV_STATUS.addr := by
    have : DRV_AX_COIL.addr n ≠ DRV_STATUS.addr := by
      rw [DRV_AX_COIL.addr, DRV_STATUS.addr]
      omega
    split <;> exact this
  have shown := State.fld_setFld_other s _ DRV_STATUS.DRIVEN (ofSigned 16 m) (by decide) (.inl coil)
  rw [chopAxisCoil, ← shown]
  generalize s.setFld _ _ = u
  generalize chopCoil u n _ _ m = r
  change ((u.count DRV_SKIP_CNT.SKIP r.2.1).count DRV_SKIP_CNT.DISCARD r.2.2).fld DRV_STATUS.DRIVEN = u.fld DRV_STATUS.DRIVEN
  rw [State.count, State.fld_setFld_other _ _ _ _ (by decide) (by decide), State.count,
    State.fld_setFld_other _ _ _ _ (by decide) (by decide)]

theorem nbit_two_pow (n k : Nat) : nbit (2 ^ n) k = decide (k = n) := by
  rw [nbit_eq_testBit, Nat.testBit_two_pow]
  simp [eq_comm]

/-- With one axis driven, a period regulates its coils alone. -/
theorem foldl_chopIfDriven (mA : List Int) (n : Nat) : ∀ (l : List Nat) {u : State}, u.fld DRV_STATUS.DRIVEN = 2 ^ n →
    l.foldl (chopIfDriven mA) u =
      (l.filter (· / 2 = n)).foldl (fun s i => chopAxisCoil s (i / 2) (i % 2) (mA.getD i 0)) u
  | [], _, _ => rfl
  | i :: l, u, one => by
    have driven : u.bitAt DRV_STATUS.DRIVEN (i / 2) = decide (i / 2 = n) := by rw [State.bitAt, one, nbit_two_pow]
    by_cases own : i / 2 = n
    · rw [List.foldl_cons, chopIfDriven, if_pos (by rw [driven, decide_eq_true own]), List.filter_cons, if_pos (decide_eq_true own),
        List.foldl_cons, foldl_chopIfDriven mA n l ((driven_chopAxisCoil ..).trans one)]
    · rw [List.foldl_cons, chopIfDriven, if_neg (by rw [driven, decide_eq_false own]; decide),
        List.filter_cons, if_neg (by rw [decide_eq_false own]; decide), foldl_chopIfDriven mA n l one]

theorem coilsOf (n : Fin 4) : (List.range 8).filter (· / 2 = n.val) = [2 * n.val, 2 * n.val + 1] := by decide +revert

theorem foldl_chop_one (mA : List Int) (n : Fin 4) {u : State} (one : u.fld DRV_STATUS.DRIVEN = 2 ^ n.val) :
    (List.range 8).foldl (chopIfDriven mA) u =
      chopAxisCoil (chopAxisCoil u n 0 (mA.getD (2 * n) 0)) n 1 (mA.getD (2 * n + 1) 0) := by
  have axis : 2 * n.val / 2 = n ∧ (2 * n.val + 1) / 2 = n ∧ 2 * n.val % 2 = 0 ∧ (2 * n.val + 1) % 2 = 1 := by omega
  obtain ⟨a, b, even, odd⟩ := axis
  rw [foldl_chopIfDriven mA n _ one, coilsOf, List.foldl_cons, List.foldl_cons, List.foldl_nil, a, b, even, odd]

theorem pulseOf_eq (s : State) (c : Coil) (r : Nat) :
    pulseOf s c r = if minNs s ≤ r then ({ c with pulse := Nat.min (r + c.carry) (maxNs s), carry := 0, n := 0 }, 0, 0)
      else if r = 0 then ({ c with pulse := 0 }, 0, 0)
      else if minNs s ≤ c.carry + r then ({ c with pulse := c.carry + r, carry := 0, n := 0 }, 0, 0)
      else if c.n = 7 then ({ c with pulse := 0, carry := 0, n := 0 }, 1, 1)
      else ({ c with pulse := 0, carry := c.carry + r, n := c.n + 1 }, 1, 0) := by
  refine ite_congr rfl (fun _ => rfl) fun _ => ?_
  rcases Nat.eq_zero_or_pos r with none | some
  · rw [if_neg (show ¬ 0 < r by omega), if_pos none]
  · rw [if_pos some, if_neg (show ¬ r = 0 by omega)]
    exact ite_congr rfl (fun _ => rfl) fun _ => ite_congr (propext (by omega)) (fun _ => rfl) fun _ => rfl

/-! ### Full steps under LOAD (R645 to R647) -/

theorem loadGuard_iff (s : State) (n : Nat) : (!s.up fenceDRV || !drvOn s n || !drvLoad s n) = true ↔
    s.up fenceDRV = false ∨ drvOn s n = false ∨ drvLoad s n = false := by
  simp only [Bool.or_eq_true, Bool.not_eq_true', or_assoc]

theorem drvIrun_setFld_la (s : State) (n k : Nat) : drvIrun (s.setFld (DRV_AX_LOAD.LA n) k) n = drvIrun s n := by
  have apart : (DRV_AX_LOAD.LA n).addr ≠ (DRV_AX_CUR.IRUN n).addr := by
    simp only [DRV_AX_LOAD.LA, DRV_AX_CUR.IRUN, DRV_AX_LOAD.addr, DRV_AX_CUR.addr]
    omega
  rw [drvIrun, State.fld_setFld_other s (DRV_AX_LOAD.LA n) (DRV_AX_CUR.IRUN n) k (by decide : 0 + 11 ≤ 32) (.inl apart), drvIrun]

/-- LOAD below LOAD_VMIN: IRUN and no load angle. -/
def loadSlow (s : State) (n : Nat) : State :=
  let u := (modDrvAx s n fun a => { a with cur := none, ovr := 0, stepAt := s.uptime }).setFld (DRV_AX_LOAD.LA n) 0
  (u.setFld (DRV_AX_LOAD.I n) (drvIrun u n)).setBit (DRV_AX_STAT.LOAD_VALID n) false

/-- LOAD at LOAD_VMIN or above: the angle and the current adapted to it, the angles over the limit counted. -/
def loadShown (s : State) (n la : Nat) : State :=
  let cur := loadAdapt s n la (s.uptime - (drvAx s n).stepAt)
  let ovr := if s.fld (DRV_AX_LOAD_CFG.LA_LIMIT n) < la ∧ drvIrun s n * 1000000 ≤ cur then (drvAx s n).ovr + 1 else 0
  let u := modDrvAx s n fun a => { a with cur := some cur, ovr := ovr, stepAt := s.uptime }
  let v := ((u.setFld (DRV_AX_LOAD.LA n) la).setFld (DRV_AX_LOAD.I n) (cur / 1000000)).setBit (DRV_AX_STAT.LOAD_VALID n) true
  if v.fld (DRV_AX_LAMAX.LA n) < la then v.setFld (DRV_AX_LAMAX.LA n) la else v

theorem doLoadAngleStep_eq (s : State) (n la : Nat) : doLoadAngleStep n la s =
    let w := loadShown s n la
    let ovr := if s.fld (DRV_AX_LOAD_CFG.LA_LIMIT n) < la ∧
      drvIrun s n * 1000000 ≤ loadAdapt s n la (s.uptime - (drvAx s n).stepAt) then (drvAx s n).ovr + 1 else 0
    if s.up fenceDRV = false ∨ drvOn s n = false ∨ drvLoad s n = false then s
    else if loadFast s n = false then loadSlow s n
    else if w.fld (DRV_AX_LOAD_CFG.LA_FILT n) + 1 ≤ ovr ∧ w.bit (DRV_AX_STAT.STALL n) = false then declareStall w n else w := by
  refine ite_congr (propext (loadGuard_iff s n)) (fun _ => rfl) fun _ => ite_congr (by rw [Bool.not_eq_true']) (fun _ => ?_) fun _ =>
    ite_congr (by rw [Bool.not_eq_true']; rfl) (fun _ => rfl) fun _ => rfl
  rw [loadSlow, drvIrun_setFld_la]

/-- Settles O49: each event by the equation for its case. -/
theorem driveComplete : Obligations.DriveComplete := by
  refine ⟨?tripN, ?release, fun _ _ _ _ => rfl, fun s n => next_congr (if_congr (by rw [Bool.and_eq_true]) rfl rfl),
    fun s n => next_congr (if_congr (by simp only [Bool.and_eq_true, and_assoc]) rfl rfl), ?otw, ?otp, fun _ => rfl, ?clock,
    ?chopper, ?oneAxis, pulseOf_eq,
    fun s n => next_congr (if_congr (by simp only [Bool.and_eq_true, beq_iff_eq, Bool.not_eq_true', and_assoc]) rfl rfl),
    fun s n => next_congr (if_congr (by rw [Bool.and_eq_true, beq_iff_eq]) (if_congr (by rw [Bool.and_eq_true]) rfl rfl) rfl),
    ?slow, ?load, fun s t lets =>
      next_congr (doWrite_named (fun u => tripClear u DRV_TRIP.STOP) lets rfl (by decide) fun _ => rfl)⟩
  case tripN => rintro s _ rfl; exact next_congr (doTripNLow_eq s)
  case release => rintro s _ rfl; exact next_congr (doTripRelease_eq s)
  case otw =>
    rintro s temp _ rfl
    exact next_congr (ite_congr (by rw [Bool.not_eq_true']) (fun _ => rfl) fun _ =>
      ite_congr (by rw [Bool.not_eq_true']) (fun _ => rfl) fun _ => rfl)
  case otp => rintro s temp _ _ rfl rfl; exact next_congr (doDrvOtp_eq temp.toNat s)
  case clock => rintro s lost _ rfl; exact next_congr (doDrvClockLoss_eq lost s)
  case chopper => rintro s mA _ _ rfl rfl; exact next_congr (doChopperPeriod_eq mA s)
  case oneAxis =>
    rintro s mA n _ up still rfl one
    have shown : banksShown s = banksTaken s := if_neg (by rw [still]; decide)
    refine ⟨_, rfl, next_congr ?_⟩
    rw [doChopperPeriod_eq, if_neg (by rw [up]; decide), shown]
    exact foldl_chop_one mA n one
  case slow =>
    rintro s n la _ up on load slow rfl
    refine next_congr ((doLoadAngleStep_eq s n la.toNat).trans ?_)
    rw [if_neg (by rw [up, on, load]; decide), if_pos slow]
    rfl
  case load => rintro s n la _ _ _ _ _ rfl rfl rfl rfl rfl; exact next_congr (doLoadAngleStep_eq s n la.toNat)

end Sys2Proof.Machine
end

section
/-! Ticks and inputs of the motion controller (R598 to R623). -/

namespace Sys2Proof.Machine

theorem fromLands_ite (s : State) (f : State → State) : fromLands s f = if landsCut s = true then s else f s := rfl

/-- What a change of axis `n` leaves of it: nothing where there is no such axis. -/
theorem axisOf_modAxis (s : State) (n : Nat) (f : Axis → Axis) :
    axisOf (modAxis s n f) n = if n < s.mot.ax.length then f (axisOf s n) else axisOf s n := by
  split
  next h => exact modAt_getD _ _ _ _ h
  next h =>
    have past : (modAt s.mot.ax n f).length ≤ n := (modAt_length ..).trans_le (Nat.not_lt.mp h)
    exact (List.getD_eq_default _ _ past).trans (List.getD_eq_default _ _ (Nat.not_lt.mp h)).symm

/-! ### Ticks (R598) -/

theorem axisTick_idle {s : State} {n : Nat} (idle : axActive s n = false) : axisTick s n = s := by
  rw [axisTick]
  exact if_pos (by rw [idle]; simp)

theorem doMotionTick_up {s : State} (up : s.up fenceMOT = true) :
    doMotionTick s = payOwed ((List.range 4).foldl devNote ((List.range 4).foldl axisTick s)) := if_pos up

theorem foldl_axisTick_idle {s : State} (l : List Nat) (idle : ∀ k ∈ l, axActive s k = false) : l.foldl axisTick s = s := by
  induction l with
  | nil => rfl
  | cons k l ih =>
    rw [List.foldl_cons, axisTick_idle (idle k List.mem_cons_self), ih fun j hj => idle j (List.mem_cons_of_mem k hj)]

/-- The axes before `n`, and those after it. -/
theorem axes_around (n : Fin 4) : List.range 4 = List.range n ++ n.val :: (List.range 4).drop (n + 1) := by decide +revert

theorem foldl_axisTick_one {s : State} (n : Fin 4) (before : ∀ k : Fin 4, k < n → axActive s k = false)
    (after : ∀ k : Fin 4, n < k → axActive (axisTick s n) k = false) : (List.range 4).foldl axisTick s = axisTick s n := by
  have below : ∀ k ∈ List.range n.val, axActive s k = false := fun k hk =>
    before ⟨k, (List.mem_range.mp hk).trans n.isLt⟩ (List.mem_range.mp hk)
  have above : ∀ k ∈ (List.range 4).drop (n + 1), axActive (axisTick s n) k = false := fun k hk => by
    have range : k < 4 ∧ n.val < k := by
      obtain ⟨i, hi, rfl⟩ := List.mem_iff_getElem.mp hk
      rw [List.length_drop, List.length_range] at hi
      rw [List.getElem_drop, List.getElem_range]
      omega
    exact after ⟨k, range.1⟩ range.2
  rw [axes_around n, List.foldl_append, foldl_axisTick_idle _ below, List.foldl_cons, foldl_axisTick_idle _ above]

/-! ### HOME (R605, R606) -/

theorem homeReference_homing {s : State} {n : Nat} (homing : axState s n = axHOMING) (at_ : Int) : homeReference s n at_ =
    if (axisOf s n).hom.brake = true then s
    else if s.fld (MOT_STAT.HPHASE n) = 1 then modAxis s n fun x => { x with hom := { x.hom with brake := true } }
    else if s.fld (MOT_STAT.HPHASE n) = 3 then
      (modAxis s n fun x => { x with hom := { x.hom with brake := true, latch := some at_ } }).setFld (MOT_STAT.HPHASE n) 4
    else s := by
  rw [homeReference]
  refine ite_congr (propext (or_iff_right (not_not_intro homing))) (fun _ => rfl) fun _ => ?_
  split
  next h => rw [if_pos h]
  next h => rw [if_neg (by omega), if_pos h]
  next h1 h3 => rw [if_neg h1, if_neg h3]

theorem homeInput_eq (s : State) (n : Nat) (high : Bool) : homeInput s n high =
    let u := s.setBit (MOT_STAT.HOME n) (high != s.bit (MOT_CFG.HOME_POL n))
    let meth := u.fld (MOT_HOME_CFG.METHOD n)
    let ph := u.fld (MOT_STAT.HPHASE n)
    let x := axisOf u n
    if axState u n ≠ axHOMING ∨ 2 ≤ meth then u
    else if high = s.bit (MOT_CFG.HOME_POL n) then
      (if ph = 2 then modAxis u n (fun x => { x with hom := { x.hom with clear := some x.p } }) else u)
    else if ph = 3 ∧ meth = 1 then modAxis u n (fun x => { x with hom := { x.hom with seen := true } })
    else if x.hom.brake = true then u
    else if ph = 1 then modAxis u n (fun x => { x with hom := { x.hom with brake := true } })
    else if ph = 3 then
      (modAxis u n fun y => { y with hom := { y.hom with brake := true, latch := some (x.trail.getD 2 (axPos u n)) } }).setFld
        (MOT_STAT.HPHASE n) 4
    else u := by
  refine ite_congr rfl (fun _ => rfl) fun homing => ite_congr ?_ (fun _ => rfl) fun _ => ite_congr rfl (fun _ => rfl) fun _ => ?_
  · simp
  · exact homeReference_homing (Decidable.not_not.mp (not_or.mp homing).1) _

/-! ### Master edges (R612 to R616) -/

theorem gearLocked_p0 (s : State) (n : Nat) : (axisOf (gearLocked s n) n).gear.p0 = (axisOf s n).gear.p0 := by
  change (axisOf (modAxis s n _) n).gear.p0 = _
  rw [axisOf_modAxis]
  split <;> rfl

theorem gearGuard_iff (s : State) (n : Nat) : (!motEnabled s || axState s n != axGEARED) = true ↔
    motEnabled s = false ∨ axState s n ≠ axGEARED := by
  rw [Bool.or_eq_true, Bool.not_eq_true', bne_iff_ne]

/-- The velocity that an edge of the master commands, `dt` after the one before. -/
def gearVelocity (s : State) (n dt : Nat) : Int :=
  let ratio := gearGR s n (gearEntry s n (gearRel s n))
  if gearRel s n < (axisOf s n).gear.m then -(ratio * 256000000000000000 / 65536 / (Nat.max 1 dt : Nat))
  else ratio * 256000000000000000 / 65536 / (Nat.max 1 dt : Nat)

/-- The master's position shown, and SWITCH where the entry of the table changes. -/
def gearShown (s : State) (n : Nat) : State :=
  (if gearEntry s n (gearRel s n) ≠ gearEntry s n (axisOf s n).gear.m then motIrq s MOT_IRQ.SWITCH n else s).setFld
    (MOT_GEAR_REL.M n) (ofSigned 32 (gearRel s n))

/-- The edge taken up by the axis: under BLEND a changed ratio begins a slew. -/
def gearTaken (s : State) (n dt : Nat) : State :=
  let u := gearShown s n
  let ratio := gearGR s n (gearEntry s n (gearRel s n))
  modAxis u n fun x => { x with gear := { x.gear with
    m := gearRel s n, ratio := ratio, vcmd := gearVelocity s n dt
    slew := x.gear.slew || (u.bit (MOT_GEAR_CFG.BLEND n) && u.fld (MOT_GACC.A n) != 0 && ratio != (axisOf s n).gear.ratio) } }

/-- Without BLEND the axis has no lag. -/
def gearUnlagged (s : State) (n : Nat) : State := if s.bit (MOT_GEAR_CFG.BLEND n) = true then s else gearLocked s n

theorem gearUnlagged_p0 (s : State) (n : Nat) : (axisOf (gearUnlagged s n) n).gear.p0 = (axisOf s n).gear.p0 := by
  unfold gearUnlagged
  split
  · rfl
  · exact gearLocked_p0 s n

/-- A locked axis at its place for master position `m`, with velocity `v`. -/
def gearPlaced (s : State) (n : Nat) (m v : Int) : State :=
  modAxis (moveTo s n (roundDivI ((axisOf s n).gear.p0 * stepUnits + gearF s n m * (stepUnits / 65536) - (axisOf s n).gear.lag)
    stepUnits * stepUnits)) n fun x => { x with v := v.natAbs, neg := decide (v < 0) }

theorem doGearMasterEdge_eq (s : State) (n dt : Nat) : doGearMasterEdge n dt s =
    let w := gearTaken s n dt
    if motEnabled s = false ∨ axState s n ≠ axGEARED then s
    else if (rampOf (gearShown s n) n).cruise * 1000000 < (gearVelocity s n dt).natAbs then haltEvent (gearShown s n) n 9 false
    else if (axisOf w n).gear.slew = true ∨ drvHolds w n = true then drvWake w n
    else limitCheck (showAxis (gearPlaced (gearUnlagged w n) n (gearRel s n) (gearVelocity s n dt)) n) n := by
  have speed (ratio : Int) : ratio * 256 * 1000000 * 1000000000 = ratio * 256000000000000000 := by
    rw [Int.mul_assoc, Int.mul_assoc]
    rfl
  simp only [doGearMasterEdge, speed, decide_eq_true_eq]
  refine if_congr (gearGuard_iff s n) rfl (if_congr Iff.rfl rfl (if_congr (by rw [Bool.or_eq_true]; rfl) rfl ?_))
  rw [gearPlaced, gearUnlagged_p0]
  rfl

theorem followGuard_iff (s : State) (n : Nat) :
    (!motEnabled s || !(axState s n == axFOLLOW || (axState s n == axIDLE && axMode s n == 2))) = true ↔
    motEnabled s = false ∨ (axState s n ≠ axFOLLOW ∧ ¬(axState s n = axIDLE ∧ axMode s n = 2)) := by
  simp only [Bool.or_eq_true, Bool.not_eq_true', Bool.or_eq_false_iff, Bool.and_eq_false_iff, beq_eq_false_iff_ne, ne_eq, not_and_or]

theorem limitGuard_iff (s : State) (n : Nat) :
    (axActive s n && (axisOf s n).v != 0 && limitBlocks s n (axisOf s n).neg &&
      !(axState s n == axHOMING && s.fld (MOT_HOME_CFG.METHOD n) == 3)) = true ↔
    axActive s n = true ∧ (axisOf s n).v ≠ 0 ∧ s.bit (MOT_CFG.LIM_EN n) = true ∧ s.bit (MOT_STAT.LIMIT n) = true ∧
      (axisOf s n).neg = !s.bit (MOT_CFG.LIM_SIDE n) ∧ ¬(axState s n = axHOMING ∧ s.fld (MOT_HOME_CFG.METHOD n) = 3) := by
  simp only [limitBlocks, Bool.and_eq_true, Bool.not_eq_true', bne_iff_ne, beq_iff_eq, Bool.and_eq_false_iff, beq_eq_false_iff_ne,
    not_and_or, and_assoc, ne_eq]

/-- An event of a land with a guard of its own. -/
theorem fromLands_guarded {s : State} {f : State → State} {c d : Prop} [Decidable c] [Decidable d] {u : State}
    (h : f s = if c then s else u) (hd : d ↔ c) : fromLands s f = if landsCut s = true ∨ d then s else u := by
  by_cases cut : landsCut s = true
  · rw [fromLands_cut f cut, if_pos (.inl cut)]
  · rw [fromLands_ite, if_neg cut, h]
    exact if_congr (hd.symm.trans (or_iff_right cut).symm) rfl rfl

theorem doLimitActive_eq (s : State) (n : Nat) (high : Bool) : doLimitActive n high s =
    if s.up fenceMOT = false then s
    else limitCheck (s.setBit (MOT_STAT.LIMIT n) (high != s.bit (MOT_CFG.LIM_POL n))) n := ite_flag ..

theorem doEncoderDeviationHalt_none {s : State} {n : Nat} (within : (axisOf (devNote s n) n).devAt = none) :
    doEncoderDeviationHalt n s = devNote s n := by
  rw [doEncoderDeviationHalt, within]

theorem doEncoderDeviationHalt_some {s : State} {n t : Nat} (beyond : (axisOf (devNote s n) n).devAt = some t) :
    doEncoderDeviationHalt n s =
      let u := devNote s n
      let r := u.runTo (t + u.fld (MOT_ENC_CFG.FILT_MS n) * 1000000)
      if motEnabled u = true ∧ axState u n ≠ axHALTED then
        haltEvent ((r.setFld (MOT_ENCPOS.POS n) (ofSigned 32 (encPos r n))).count (MOT_CNT.FOLERR n)) n 6 true
      else u := by
  rw [doEncoderDeviationHalt, beyond]
  exact ite_congr (by rw [Bool.and_eq_true, bne_iff_ne]) (fun _ => rfl) fun _ => rfl

theorem devNote_devAt {s : State} {n : Nat} (axis : n < s.mot.ax.length) : (axisOf (devNote s n) n).devAt =
    if s.bit (MOT_ENC_CFG.EN n) = true ∧ Nat.max 1 (s.fld (MOT_ENC_CFG.DEV n)) < (axPos s n - encPos s n).natAbs then
      some ((axisOf s n).devAt.getD s.uptime) else none := by
  rw [devNote, axisOf_modAxis, if_pos axis]
  exact if_congr (by rw [devOver, Bool.and_eq_true, decide_eq_true_eq]) rfl rfl

/-- Settles O47: a tick by the axes that move, each input by the equation for its case. -/
theorem motionEventsComplete : Obligations.MotionEventsComplete := by
  refine ⟨fun _ => rfl, fun s n up before after => next_congr ?one, fun s up idle => next_congr ?none,
    fun s n high => next_congr ?home, ?homeInput, ?gear, ?follow, ?dev, ?devHalt, fun s n axis => devNote_devAt axis, ?limit, ?history⟩
  case one => rw [doMotionTick_up up, foldl_axisTick_one n before after]
  case none =>
    rw [doMotionTick_up up, foldl_axisTick_idle _ fun k hk => idle ⟨k, List.mem_range.mp hk⟩]
  case home =>
    rw [fromLands_ite, ite_flag, ite_and]
    rfl
  case homeInput => rintro s n high _ _ _ _ rfl rfl rfl rfl; exact homeInput_eq s n high
  case gear =>
    rintro s n dt _ _ _ _ _ _ _ _ _ rfl rfl rfl rfl rfl rfl rfl rfl rfl
    exact next_congr (fromLands_guarded (doGearMasterEdge_eq s n dt) Iff.rfl)
  case follow =>
    rintro s n dir _ _ _ rfl rfl rfl
    refine next_congr (fromLands_guarded (if_congr (followGuard_iff s n) rfl ?_) Iff.rfl)
    simp only [bne_iff_ne]
  case dev => rintro s n _ rfl within; exact next_congr (doEncoderDeviationHalt_none within)
  case devHalt => rintro s n _ _ t rfl beyond rfl; exact next_congr (doEncoderDeviationHalt_some beyond)
  case limit =>
    rintro s n high _ rfl
    refine next_congr (fromLands_guarded (doLimitActive_eq s n high) Iff.rfl |>.trans (if_congr Iff.rfl rfl ?_))
    exact if_congr (limitGuard_iff _ n) rfl rfl
  case history =>
    rintro s _ _ rfl rfl
    exact next_congr (if_congr (by rw [Bool.not_eq_true']) rfl rfl)

end Sys2Proof.Machine
end

section
/-! Commands of GRV_x_CMD, the schedule's instants, and sessions of the Grove controllers (R560 to R586). -/

namespace Sys2Proof.Machine

/-! ### Rules of the ports' record and of the schedule -/

theorem gport_modGrv {s : State} {x : Nat} (f : GPort → GPort) (h : x < s.grv.length) :
    (s.modGrv x f).gport x = f (s.gport x) := modAt_getD _ _ _ _ h

/-- What a change of a port keeps of each port, it keeps of every port of the state. -/
theorem gport_modGrv_keeps {α : Type} (read : GPort → α) (s : State) (y x : Nat) {f : GPort → GPort}
    (keeps : ∀ g, read (f g) = read g) : read ((s.modGrv y f).gport x) = read (s.gport x) := by
  by_cases same : y = x
  · subst same
    by_cases h : y < s.grv.length
    · rw [gport_modGrv f h, keeps]
    · have past : (modAt s.grv y f).length ≤ y := (modAt_length ..).trans_le (Nat.not_lt.mp h)
      exact congrArg read
        ((List.getD_eq_default _ _ past).trans (List.getD_eq_default _ _ (Nat.not_lt.mp h)).symm)
  · exact congrArg read (modAt_getD_other _ _ _ _ _ same)

@[simp] theorem State.modGrv_length (s : State) (x : Nat) (f : GPort → GPort) : (s.modGrv x f).grv.length = s.grv.length :=
  modAt_length ..

@[simp] theorem setGrvState_grv (s : State) (x st : Nat) : (setGrvState s x st).grv = s.grv :=
  foldl_keeps State.grv (fun u y => by split <;> simp) _ s

@[simp] theorem setGrvState_groot (s : State) (x st : Nat) : (setGrvState s x st).groot = s.groot :=
  foldl_keeps State.groot (fun u y => by split <;> simp) _ s

@[simp] theorem setGrvState_mem (s : State) (x st : Nat) : (setGrvState s x st).mem = s.mem :=
  foldl_keeps State.mem (fun u y => by split <;> simp) _ s

theorem schedWord_setSched (s : State) (w w' : Nat) (v : Word) :
    schedWord (setSched s w v) w' = if w = w' then v &&& schedMask w else schedWord s w' :=
  SMap.get_set ..

theorem schedWord_setWakePend {s : State} {x w : Nat} (b : Bool) (h : 4 * x + 3 ≠ w) :
    schedWord (setWakePend s x b) w = schedWord s w := by
  rw [setWakePend, schedWord_setSched, if_neg h]

/-! ### Frames of a frame sent and of a BEACON -/

/-- A frame sent changes, of the state, the port's record alone. -/
theorem grvSend_eq (s : State) (x : Nat) (f : GFrame) : ∃ g, (grvSend s x f).2 = { s with grv := g } := by
  rw [grvSend]
  cases grvUp s x
  · exact ⟨s.grv, rfl⟩
  · exact ⟨_, rfl⟩

@[simp] theorem grvSend_groot (s : State) (x : Nat) (f : GFrame) : (grvSend s x f).2.groot = s.groot := by
  obtain ⟨g, h⟩ := grvSend_eq s x f
  rw [h]

@[simp] theorem grvSend_mem (s : State) (x : Nat) (f : GFrame) : (grvSend s x f).2.mem = s.mem := by
  obtain ⟨g, h⟩ := grvSend_eq s x f
  rw [h]

/-- What a port's record holds beside its frames sent and counters stays when a frame is sent. -/
theorem gport_grvSend_keeps {α : Type} (read : GPort → α) (s : State) (y x : Nat) (f : GFrame)
    (keeps : ∀ g l m, read { g with sent := l, tx := m } = read g) :
    read ((grvSend s y f).2.gport x) = read (s.gport x) := by
  rw [grvSend]
  cases grvUp s y
  · rfl
  · exact gport_modGrv_keeps read s y x fun g => keeps g _ _

theorem foldl_modGrv_keeps {α : Type} (read : State → α) {f : GPort → GPort} (l : List Nat) (s : State)
    (keeps : ∀ u y, read (u.modGrv y f) = read u) : read (l.foldl (fun u y => u.modGrv y f) s) = read s :=
  foldl_keeps read keeps l s

@[simp] theorem grvBeaconSend_groot (s : State) (x : Nat) : (grvBeaconSend s x).groot = s.groot := by
  simp only [grvBeaconSend, grvBeaconOn, grvSend_groot, State.setBit_groot, State.setFld_groot]
  exact foldl_modGrv_keeps State.groot _ s fun _ _ => rfl

@[simp] theorem grvBeaconSend_mem (s : State) (x : Nat) : (grvBeaconSend s x).mem = s.mem := by
  simp only [grvBeaconSend, grvBeaconOn, grvSend_mem, State.setBit_mem, State.setFld_mem]
  exact foldl_modGrv_keeps State.mem _ s fun _ _ => rfl

theorem grvBeaconSend_length (s : State) (x : Nat) :
    ((grvPorts s x).foldl (fun u y => u.modGrv y fun g => { g with wait := false }) s).grv.length = s.grv.length :=
  foldl_modGrv_keeps (fun u => u.grv.length) _ s fun u y => State.modGrv_length u y _

/-- A BEACON leaves the check-in window of its port as it was. -/
theorem gport_grvBeaconSend_win (s : State) (x : Nat) : ((grvBeaconSend s x).gport x).win = (s.gport x).win := by
  rw [grvBeaconSend, grvBeaconOn, gport_grvSend_keeps GPort.win _ _ _ _ fun _ _ _ => rfl, State.gport, State.setBit_grv,
    State.setFld_grv]
  refine (gport_modGrv_keeps GPort.win _ x x ?_).trans ?_
  · exact fun _ => rfl
  · exact foldl_modGrv_keeps (fun u => (u.gport x).win) _ s fun u y => gport_modGrv_keeps GPort.win u y x fun _ => rfl

/-- The return of a BEACON that was sent is awaited. -/
theorem gport_grvBeaconSend_wait {s : State} {x : Nat} (h : x < s.grv.length) : ((grvBeaconSend s x).gport x).wait = true := by
  rw [grvBeaconSend, grvBeaconOn, gport_grvSend_keeps GPort.wait _ _ _ _ fun _ _ _ => rfl, State.gport, State.setBit_grv,
    State.setFld_grv]
  exact congrArg GPort.wait (gport_modGrv _ (by rw [grvBeaconSend_length]; exact h))

/-! ### A session's start (R565) -/

theorem schedMask_session (x : Fin 2) : schedMask (9 + x) = 0xFFFFFFFF := by decide +revert

/-- The state of a session's start before its BEACON, the window not yet open. -/
def sessionNumbered (s : State) (x : Nat) (n : Word) : State :=
  setGrvState (setWakePend ((setSched s (9 + x) n).setWord (GRV_SESSION.addr x) n) x false) x 2

theorem grvStartSession_eq (s : State) (x : Nat) : ∃ f : GPort → GPort, (∀ g, (f g).win = .window) ∧
    grvStartSession s x =
      grvBeaconSend ((sessionNumbered s x (BitVec.ofNat 32 ((schedWord s (9 + x)).toNat + 1))).modGrv x f) x :=
  ⟨_, fun _ => rfl, rfl⟩

theorem ofNat_toNat_succ (n : Word) : BitVec.ofNat 32 (n.toNat + 1) = n + 1 := by
  apply BitVec.eq_of_toNat_eq
  simp [BitVec.toNat_add]

theorem grvStartSession_begins {s : State} (x : Fin 2) (h : x.val < s.grv.length) :
    ((grvStartSession s x).gport x).win = .window ∧ ((grvStartSession s x).gport x).wait = true ∧
      schedWord (grvStartSession s x) (9 + x) = schedWord s (9 + x) + 1 ∧ (grvStartSession s x).mem = s.mem := by
  obtain ⟨f, opens, eq⟩ := grvStartSession_eq s x
  generalize hn : BitVec.ofNat 32 ((schedWord s (9 + x)).toNat + 1) = n at eq
  have len : (sessionNumbered s x n).grv = s.grv := by simp [sessionNumbered, setWakePend, setSched]
  have mask : schedMask (9 + x) = 0xFFFFFFFF := schedMask_session x
  have word : schedWord (sessionNumbered s x n) (9 + x) = n := by
    rw [sessionNumbered, schedWord, setGrvState_groot]
    refine (schedWord_setWakePend false (by omega)).trans ?_
    rw [schedWord, State.setWord_groot]
    refine (schedWord_setSched ..).trans ?_
    rw [if_pos rfl, mask]
    exact BitVec.and_allOnes
  rw [eq]
  refine ⟨?_, gport_grvBeaconSend_wait (by rw [State.modGrv_length, len]; exact h), ?_, ?_⟩
  · rw [gport_grvBeaconSend_win, gport_modGrv f (by rw [len]; exact h), opens]
  · rw [schedWord, grvBeaconSend_groot]
    exact word.trans (hn.symm.trans (ofNat_toNat_succ _))
  · rw [grvBeaconSend_mem]
    simp [sessionNumbered, setWakePend, setSched, State.modGrv]

/-! ### GRV_x_CMD (R560, R570, R574, R579) -/

theorem grvCmd_aligned (x : Fin 2) : GRV_CMD.addr x % 4 = 0 := by decide +revert

theorem grvCmd_isReg (x : Fin 2) : (findReg (GRV_CMD.addr x)).isSome = true := by decide +revert

theorem doWrite_grvCmd {s : State} {t : Nat} (x : Fin 2) (v : Word) (lets : Lets s t (GRV_CMD.addr x) true) :
    doWrite s t (GRV_CMD.addr x) v = written (grvCommand (s.put (GRV_CMD.addr x) v) x (refField (GRV_CMD.OP x) v)) t 0 := by
  refine doWrite_named (fun u => grvCommand u x (refField (GRV_CMD.OP x) v)) lets (grvCmd_aligned x) (grvCmd_isReg x) fun r => ?_
  match x with
  | 0 => rfl
  | 1 => rfl

theorem grvCommand_stopped {s : State} {x : Nat} (op : Nat) (stopped : grvCan s (grvSess s x) = false) :
    grvCommand s x op = s := if_pos (by rw [stopped]; rfl)

theorem grvCommand_enum {s : State} {x : Nat} (can : grvCan s (grvSess s x) = true) : grvCommand s x 1 =
    if grvState s (grvSess s x) = 2 then grvEnumStart (grvClearSent s) (grvSess s x)
    else if grvState s (grvSess s x) = 0 ∨ grvState s (grvSess s x) = 4 then grvTone (grvClearSent s) (grvSess s x) .enum
    else grvClearSent s := if_neg (by rw [can]; decide)

theorem grvCommand_sleep {s : State} {x : Nat} (can : grvCan s (grvSess s x) = true) : grvCommand s x 2 =
    if grvState s (grvSess s x) = 2 then grvSleepStart (grvClearSent s) (grvSess s x) else grvClearSent s :=
  if_neg (by rw [can]; decide)

theorem grvCommand_wake {s : State} {x : Nat} (can : grvCan s (grvSess s x) = true) : grvCommand s x 3 =
    if grvState s (grvSess s x) = 0 ∨ grvState s (grvSess s x) = 2 ∨ grvState s (grvSess s x) = 4 then
      grvTone (grvClearSent s) (grvSess s x) .session
    else grvClearSent s := if_neg (by rw [can]; decide)

theorem grvCommand_beacon {s : State} {x : Nat} (can : grvCan s (grvSess s x) = true) : grvCommand s x 4 =
    if grvState s (grvSess s x) = 2 then
      (if ((grvClearSent s).gport x).cur.isSome then (grvClearSent s).modGrv (grvSess s x) fun g => { g with due := true }
       else grvStartSession (grvClearSent s) (grvSess s x))
    else grvClearSent s := if_neg (by rw [can]; decide)

/-- A command of GRV_x_CMD whose effect is `f` where sessions may run. -/
theorem doWrite_grvCmd_cases {s u w : State} {t : Nat} (x : Fin 2) (v : Word) (op : Nat) (hu : u = s.put (GRV_CMD.addr x) v)
    (hop : refField (GRV_CMD.OP x) v = op) (effect : grvCan u (grvSess u x) = true → grvCommand u x op = w)
    (lets : Lets s t (GRV_CMD.addr x) true) :
    doWrite s t (GRV_CMD.addr x) v = written (if grvCan u (grvSess u x) = false then u else w) t 0 := by
  rw [doWrite_grvCmd x v lets, hop, ← hu]
  refine congrArg (written · t 0) ?_
  split
  next stopped => exact grvCommand_stopped op stopped
  next can => exact effect (by simpa using can)

theorem grvOp (x : Fin 2) (n : Fin 5) : refField (GRV_CMD.OP x) (BitVec.ofNat 32 n) = n := by decide +revert

/-! ### Instants of the schedule (R565, R576) -/

theorem doGroveSessionStart_eq (s : State) (x : Nat) : doGroveSessionStart x s =
    if grvCan s (grvSess s x) = false then s
    else if grvState s (grvSess s x) = 0 ∨ grvState s (grvSess s x) = 4 then
      grvWakeOrStart (grvClearSent (s.advanceTo (grvInstant s (grvSess s x) s.tim.now))) (grvSess s x)
    else if grvState s (grvSess s x) = 2 ∧ s.tim.now ≤ grvNext s (grvSess s x) then
      (if ((grvClearSent (s.advanceTo (grvNext s (grvSess s x)))).gport (grvSess s x)).cur.isSome then
        (grvClearSent (s.advanceTo (grvNext s (grvSess s x)))).modGrv (grvSess s x) fun g => { g with due := true }
       else grvStartSession (grvClearSent (s.advanceTo (grvNext s (grvSess s x)))) (grvSess s x))
    else s := by
  rw [doGroveSessionStart]
  generalize grvSess s x = y
  dsimp only
  refine ite_congr (by rw [Bool.not_eq_true']) (fun _ => rfl) fun _ => ?_
  generalize grvState s y = st
  match st with
  | 0 => rfl
  | 1 => rfl
  | 2 =>
    generalize grvClearSent (s.advanceTo (grvNext s y)) = v
    refine Eq.trans ?_ (if_neg (by decide)).symm
    exact ite_congr (by simp) (fun _ => rfl) fun _ => rfl
  | 3 => rfl
  | 4 => rfl
  | n + 5 => rfl

/-- Settles O39: GRV_x_CMD by its operation, the schedule's instants by the port's state, and the frame of a session's
start. -/
theorem groveCommandsComplete : Obligations.GroveCommandsComplete := by
  refine ⟨?enum, ?sleep, ?wake, ?beacon, ?instant, fun s x n _ h hn => hn ▸ grvStartSession_begins x h⟩
  case enum =>
    rintro s t x y u v lets hu rfl rfl
    exact next_congr (doWrite_grvCmd_cases x 1 1 hu (grvOp x 1) grvCommand_enum lets)
  case sleep =>
    rintro s t x y u v lets hu rfl rfl
    exact next_congr (doWrite_grvCmd_cases x 2 2 hu (grvOp x 2) grvCommand_sleep lets)
  case wake =>
    rintro s t x y u v lets hu rfl rfl
    exact next_congr (doWrite_grvCmd_cases x 3 3 hu (grvOp x 3) grvCommand_wake lets)
  case beacon =>
    rintro s t x y u v lets hu rfl rfl
    refine next_congr (doWrite_grvCmd_cases x 4 4 hu (grvOp x 4) (fun can => (grvCommand_beacon can).trans ?_) lets)
    by_cases awake : grvState u (grvSess u x) = 2
    · rw [if_pos awake, if_neg (not_not_intro awake)]
    · rw [if_neg awake, if_pos awake]
  case instant =>
    rintro s x y u v rfl rfl rfl
    exact next_congr (doGroveSessionStart_eq s x)

end Sys2Proof.Machine
end

section
/-! Check-in, missing Saplings and breaks of the Grove controllers (R563 to R567, R584, R586). -/

namespace Sys2Proof.Machine

/-! ### A BEACON that does not return (R565, R586) -/

theorem doGroveBeaconReturnTimeout_chains {s : State} (x : Nat) (chains : grvRing (grvClearSent s) = false) :
    doGroveBeaconReturnTimeout x s =
      if ((grvClearSent s).gport x).wait = false then grvClearSent s
      else if grvState (((grvClearSent s).modGrv x fun g => { g with wait := false }).setFld (GRV_STAT.LEN x) 0) x = 1 then
        grvEnumLength (((grvClearSent s).modGrv x fun g => { g with wait := false }).setFld (GRV_STAT.LEN x) 0) x 0 0
      else grvAllIn (grvChainReach (((grvClearSent s).modGrv x fun g => { g with wait := false }).setFld (GRV_STAT.LEN x) 0)
        x 0) x := by
  rw [doGroveBeaconReturnTimeout]
  generalize grvClearSent s = u at *
  dsimp only
  rw [chains, if_neg Bool.false_ne_true, ite_flag]

theorem doGroveBeaconReturnTimeout_ring {s : State} (x ra : Nat) (w : State) (ring : grvRing (grvClearSent s) = true)
    (hra : ra = if (grvClearSent s).bit (GRV_STAT.TURNED 0) then (grvClearSent s).fld (GRV_STAT.LEN 0) else 0)
    (hw : w = ((((grvClearSent s).modGrv 0 fun g => { g with wait := false }).modGrv 1 fun g =>
      { g with wait := false }).setFld (GRV_STAT.LEN 1) 0).setBit (GRV_STAT.TURNED 1) false) :
    doGroveBeaconReturnTimeout x s =
      if ((grvClearSent s).gport 0).wait = false then grvClearSent s
      else if ((grvClearSent s).gport 1).wait = false then grvBeaconOn (grvClearSent s) 0 1
      else if grvState w 0 = 1 then grvEnumLength (w.modGrv 0 fun g => { g with broke := some (ra, 0) }) 0 ra 0
      else grvAllIn (grvLocate w ra 0) 0 := by
  rw [doGroveBeaconReturnTimeout]
  generalize grvClearSent s = u at *
  dsimp only
  have ports : List.range 2 = [0, 1] := rfl
  rw [if_pos ring, ← hra, ports, List.foldl_cons, List.foldl_cons, List.foldl_nil, ← hw]
  cases (u.gport 0).wait
  · rfl
  · cases (u.gport 1).wait
    · rfl
    · rfl

/-! ### The check-in window and the drift listen (R567, R584) -/

theorem grvAllIn_window {s : State} {x : Nat} (window : (s.gport x).win = .window) (all : (s.gport x).missing = []) :
    grvAllIn s x = grvSessionEntry (s.modGrv x fun g => { g with win := .late }) x := if_pos ⟨window, all⟩

theorem doGroveCheckinWindowEnd_eq (s : State) (x : Nat) (u : State) (y : Nat) (hy : grvSess s x = y) (hu : u = grvClearSent s) :
    doGroveCheckinWindowEnd x s = if grvState s y = 0 then s else match (u.gport y).win with
      | .window => if (u.gport y).missing = [] then grvSessionEntry (u.modGrv y fun g => { g with win := .late }) y
          else grvBeaconSend (setGrvState (u.modGrv y fun g => { g with win := .listen, drift := g.missing, since := u.uptime }) y 6) y
      | .listen => grvBeaconSend u y
      | .late => u.modGrv y fun g => { g with win := .shut }
      | .shut => u := by
  rw [doGroveCheckinWindowEnd, hy, ← hu]
  refine ite_congr rfl (fun _ => rfl) fun _ => ?_
  dsimp only
  cases win : (u.gport y).win with
  | window =>
    dsimp only
    cases all : (u.gport y).missing with
    | nil =>
      rw [List.isEmpty_nil, if_pos rfl, if_pos rfl]
      exact grvAllIn_window win all
    | cons i l => rfl
  | listen => rfl
  | late => rfl
  | shut => rfl

/-! ### A CHECKIN (R563, R567, R569, R587) -/

/-- A frame of one of the types `tys` that comes in to a port that takes it, and one that does not. -/
theorem grvOn_eq (x : Nat) (tys : List Nat) (f : GFrame) (k : State → State) (s : State) : grvOn x tys f k s =
    if grvUp s x = true ∧ grvState s x ≠ 0 ∧ f.ty ∈ tys ∧ hopMode f.hop = 0 then
      k ((grvClearSent s).modGrv x fun g => { g with handed := none }) else s :=
  ite_congr (by rw [List.contains_iff_mem]) (fun _ => rfl) fun _ => rfl

theorem grvCheckin_unaddressed {s : State} {x : Nat} {f : GFrame} (none_ : hopVal f.hop = 0) : grvCheckin s x f =
    if grvState (grvEntry s x f.ty f.hop 5 0 f.payload 0 (leAt f.payload 1 1) 0) (grvSess s x) = 1 then
      grvEntry s x f.ty f.hop 5 0 f.payload 0 (leAt f.payload 1 1) 0
    else bark (grvEntry s x f.ty f.hop 5 0 f.payload 0 (leAt f.payload 1 1) 0) Src.GRV_ENUM x := if_pos none_

theorem grvCheckin_shut {s : State} {x a : Nat} {f : GFrame} (ha : hopVal f.hop = a) (pos : 0 < a)
    (shut : (s.gport (grvSess s x)).win = .shut) (idle : grvState s (grvSess s x) ≠ 1) :
    grvCheckin s x f = grvUnsolicited s x a := by
  rw [grvCheckin, ha]
  exact (if_neg (by omega)).trans (if_pos ⟨shut, idle⟩)

/-- Flags 1 and 2 of a CHECKIN are clear: no neighbour babbles. -/
theorem nbit_of_quiet {n : Nat} (quiet : n / 2 % 4 = 0) : nbit n 1 = false ∧ nbit n 2 = false := by
  simp only [nbit]
  constructor <;> rw [beq_eq_false_iff_ne] <;> omega

theorem grvCheckin_open {s : State} {x a : Nat} {f : GFrame} (ha : hopVal f.hop = a) (pos : 0 < a)
    (quiet : leAt f.payload 0 1 / 2 % 4 = 0)
    (open_ : (s.gport (grvSess s x)).win ≠ .shut ∨ grvState s (grvSess s x) = 1) :
    grvCheckin s x f = grvAllIn ((s.setBit (GRV_SAP_INFO.ABSENT (a - 1)) false).modGrv (grvSess s x) fun g =>
      { g with missing := g.missing.erase (a - 1), here := if g.here.contains (a - 1) then g.here else g.here ++ [a - 1] })
      (grvSess s x) := by
  obtain ⟨one, two⟩ := nbit_of_quiet quiet
  rw [grvCheckin, ha]
  refine (if_neg (by omega)).trans ((if_neg (by rintro ⟨hs, hi⟩; exact open_.elim (· hs) hi)).trans ?_)
  dsimp only
  rw [one, two]
  rfl

/-- Settles O40: the BEACON's return overdue by the GROVE_MODE, the check-in window by its state, and a CHECKIN by its
address and the window. -/
theorem groveSessionsComplete : Obligations.GroveSessionsComplete := by
  refine ⟨?chains, ?ring, ?window, ?listen, ?checkin, ?unaddressed, ?shut, ?opened, fun s y => rfl⟩
  case chains =>
    rintro s x u v rfl rfl chains
    exact next_congr (doGroveBeaconReturnTimeout_chains x chains)
  case ring =>
    rintro s x u ra v w rfl ring hra rfl hw
    exact next_congr (doGroveBeaconReturnTimeout_ring x ra w ring hra hw)
  case window =>
    rintro s x y u hy hu
    exact next_congr (doGroveCheckinWindowEnd_eq s x u y hy hu)
  case listen =>
    rintro s x y rfl
    rfl
  case checkin =>
    rintro s x f u rfl
    refine next_congr ((grvOn_eq _ _ _ _ s).trans (ite_congr ?_ (fun _ => rfl) fun _ => rfl))
    rw [List.mem_singleton]
  case unaddressed =>
    rintro s x f u none_ rfl
    exact grvCheckin_unaddressed none_
  case shut =>
    rintro s x f a y ha pos rfl
    exact grvCheckin_shut ha pos
  case opened =>
    rintro s x f a y u v ha pos quiet rfl open_ rfl rfl
    exact grvCheckin_open ha pos quiet open_

end Sys2Proof.Machine
end

section
/-! Transmit entries, answers and bursts of the Grove controllers (R552, R553, R560 to R569, R587). -/

namespace Sys2Proof.Machine

/-! ### The bytes of an upstream frame (R550 to R552) -/

theorem crcByteMsb_lt {w v : Nat} (poly : Nat) (hv : v < 2 ^ w) (b : Nat) : crcByteMsb w poly v b < 2 ^ w := by
  rw [crcByteMsb]
  refine List.foldlRecOn (motive := fun v => v < 2 ^ w) _ _ hv fun v _ i _ => ?_
  have low : v * 2 % 2 ^ w < 2 ^ w := Nat.mod_lt _ (Nat.two_pow_pos w)
  dsimp only
  split
  · exact Nat.xor_lt_two_pow low (Nat.mod_lt _ (Nat.two_pow_pos w))
  · exact low

theorem crc16_lt (bs : List Byte) : crc16 bs < 2 ^ 16 :=
  List.foldlRecOn (motive := fun v => v < 2 ^ 16) _ _ (by decide) fun v hv b _ => crcByteMsb_lt _ hv _

theorem beNat_toBE (k n : Nat) : beNat (toBE k n) = n % 256 ^ k := by
  rw [beNat, toBE, List.reverse_reverse, leNat_toLE]

theorem grvBytes_eq (f : GFrame) (seq : Nat) : grvBytes f seq = BitVec.ofNat 8 f.ty :: BitVec.ofNat 8 f.hop ::
    BitVec.ofNat 8 f.payload.length :: (f.payload ++ toBE 2 (grvCrc f.hop seq f.ty f.payload)) := rfl

section
variable (f : GFrame) (seq : Nat)

theorem length_grvBytes : (grvBytes f seq).length = 5 + f.payload.length := by
  simp only [grvBytes_eq, toBE, List.length_cons, List.length_append, List.length_reverse, length_toLE]
  omega

theorem leAt_grvBytes_ty : leAt (grvBytes f seq) 0 1 = f.ty % 256 := by
  rw [grvBytes_eq]
  exact (leAt_toLE _ 1 f.ty)

theorem leAt_grvBytes_hop : leAt (grvBytes f seq) 1 1 = f.hop % 256 := leAt_toLE _ 1 f.hop

theorem leAt_grvBytes_len : leAt (grvBytes f seq) 2 1 = f.payload.length % 256 := leAt_toLE _ 1 f.payload.length

theorem slice_grvBytes_payload : slice (grvBytes f seq) 3 f.payload.length = f.payload := List.take_left

theorem slice_grvBytes_crc :
    beNat (slice (grvBytes f seq) (3 + f.payload.length) 2) = grvCrc f.hop seq f.ty f.payload := by
  have crc : slice (grvBytes f seq) (3 + f.payload.length) 2 = toBE 2 (grvCrc f.hop seq f.ty f.payload) := by
    rw [slice, Nat.add_comm, grvBytes_eq]
    change List.take 2 (List.drop f.payload.length (f.payload ++ _)) = _
    rw [List.drop_left]
    exact List.take_of_length_le (by rw [toBE, List.length_reverse, length_toLE])
  rw [crc, beNat_toBE]
  exact Nat.mod_eq_of_lt (crc16_lt _)

end

/-- No upstream frame is longer than 64 bytes. -/
theorem le_of_upLenOk {ty n : Nat} (h : upLenOk ty n = true) : n ≤ 64 := by
  unfold upLenOk at h
  split at h
  case h_11 => simp at h
  all_goals
    simp only [Bool.and_eq_true, beq_iff_eq, decide_eq_true_eq] at h
    omega

/-! ### A frame that arrives (R552, R553, R561) -/

theorem doGroveFrameRx_none {s : State} {x : Nat} (bad : Bool) (bs : List Byte) (idle : grvUp s x = false ∨ grvState s x = 0) :
    doGroveFrameRx x bad bs s = s := if_pos (idle.imp_left fun h => by rw [h]; rfl)

theorem doGroveFrameRx_eq {s : State} {x : Nat} (bad : Bool) (bs : List Byte) (up : grvUp s x = true) (on : grvState s x ≠ 0) :
    doGroveFrameRx x bad bs s =
      if bad = true ∨ bs.length < 5 ∨ 64 < leAt bs 2 1 ∨ bs.length ≠ 5 + leAt bs 2 1 then grvCrcFail s x
      else if leAt bs 0 1 % 128 = 1 then
        (if grvCrc 0x80 0 1 (slice bs 3 (leAt bs 2 1)) ≠ beNat (slice bs (3 + leAt bs 2 1) 2) then grvCrcFail s x
         else if 128 ≤ leAt bs 0 1 then grvTurned ((grvClearSent s).count (GRV_CNT2.TURNED x)) x (hopVal (leAt bs 1 1))
         else if grvRing s = true ∧ x = 1 ∧ hopMode (leAt bs 1 1) = 2 then grvWhole (grvClearSent s) (hopVal (leAt bs 1 1))
         else s.count (GRV_CNT.MALF x))
      else if 128 ≤ leAt bs 0 1 then s.count (GRV_CNT2.TURNED x)
      else match grvFold s x (leAt bs 0 1) (leAt bs 1 1) (beNat (slice bs (3 + leAt bs 2 1) 2)) (slice bs 3 (leAt bs 2 1)) with
        | none => grvCrcFail s x
        | some q => grvTakeIn s x (leAt bs 0 1) (leAt bs 1 1) q.1 q.2 (slice bs 3 (leAt bs 2 1)) := by
  rw [doGroveFrameRx]
  refine (if_neg (by rw [up]; simpa using on)).trans ?_
  dsimp only
  generalize grvFold s x _ _ _ _ = q
  cases q <;> rfl

theorem hopMode_small {a : Nat} (h : a < 64) : hopMode a = 0 := by rw [hopMode]; omega

theorem hopVal_small {a : Nat} (h : a < 64) : hopVal a = a := Nat.mod_eq_of_lt h

/-- A frame of a Sapling's address folds the counter that the port expects of it. -/
theorem grvFold_expected {s : State} {x a ty : Nat} {pl : List Byte} (pos : 0 < a) (small : a < 63) (addressed : ty ≠ 0x42) :
    grvFold s x ty a (grvCrc a (SMap.get (fun _ => 0) (s.gport x).rx a) ty pl) pl =
      some (SMap.get (fun _ => 0) (s.gport x).rx a, true) := by
  rw [grvFold, hopVal_small (by omega)]
  exact (if_pos ⟨hopMode_small (by omega), by omega, addressed⟩).trans (if_pos (beq_self_eq_true _))

/-- A well-formed frame of an enumerated Sapling is handed on and its counter goes on. -/
theorem grvTakeIn_handed {s : State} {x a ty : Nat} (q : Nat) {pl : List Byte} (pos : 0 < a) (small : a < 63)
    (len : upLenOk ty pl.length = true) (present : s.bit (GRV_SAP_INFO.PRESENT (a - 1)) = true) :
    grvTakeIn s x ty a q true pl =
      (s.modGrv x fun g => { g with rx := SMap.set (fun _ => 0) g.rx a ((q + 1) % 256) }).modGrv x
        fun g => { g with handed := some ⟨ty, a, pl⟩ } := by
  have here : a ≠ 0 := by omega
  rw [grvTakeIn, hopVal_small (by omega)]
  refine (if_neg ?_).trans ((if_neg (by decide)).trans ?_)
  · rw [len, hopMode_small (by omega)]
    simp only [Bool.not_true, Bool.false_eq_true, ne_eq, not_true_eq_false, false_or]
    omega
  · simp only [here, if_false]
    refine if_neg fun ⟨_, _, absent⟩ => ?_
    have kept : (s.modGrv x fun g => { g with rx := SMap.set (fun _ => 0) g.rx a ((q + 1) % 256) }).bit
        (GRV_SAP_INFO.PRESENT (a - 1)) = true := present
    rw [kept] at absent
    cases absent

theorem doGroveFrameRx_handed {s : State} {x a ty : Nat} {pl : List Byte} (up : grvUp s x = true) (on : grvState s x ≠ 0)
    (pos : 0 < a) (small : a < 63) (turned : ty < 128) (addressed : ty ≠ 0x42) (len : upLenOk ty pl.length = true)
    (present : s.bit (GRV_SAP_INFO.PRESENT (a - 1)) = true) :
    doGroveFrameRx x false (grvBytes ⟨ty, a, pl⟩ (SMap.get (fun _ => 0) (s.gport x).rx a)) s =
      (s.modGrv x fun g =>
        { g with rx := SMap.set (fun _ => 0) g.rx a ((SMap.get (fun _ => 0) (s.gport x).rx a + 1) % 256) }).modGrv x
        fun g => { g with handed := some ⟨ty, a, pl⟩ } := by
  have n := le_of_upLenOk len
  have beacon : ty ≠ 1 := by rintro rfl; cases len
  have hty := leAt_grvBytes_ty ⟨ty, a, pl⟩ (SMap.get (fun _ => 0) (s.gport x).rx a)
  have hhop := leAt_grvBytes_hop ⟨ty, a, pl⟩ (SMap.get (fun _ => 0) (s.gport x).rx a)
  have hlen := leAt_grvBytes_len ⟨ty, a, pl⟩ (SMap.get (fun _ => 0) (s.gport x).rx a)
  have hpl := slice_grvBytes_payload ⟨ty, a, pl⟩ (SMap.get (fun _ => 0) (s.gport x).rx a)
  have hcrc := slice_grvBytes_crc ⟨ty, a, pl⟩ (SMap.get (fun _ => 0) (s.gport x).rx a)
  have hall := length_grvBytes ⟨ty, a, pl⟩ (SMap.get (fun _ => 0) (s.gport x).rx a)
  dsimp only at hty hhop hlen hpl hcrc hall
  rw [Nat.mod_eq_of_lt (by omega)] at hty hhop hlen
  rw [doGroveFrameRx_eq _ _ up on, hty, hhop, hlen, hpl, hcrc, hall, grvFold_expected pos small addressed]
  refine (if_neg ?_).trans ((if_neg (by omega)).trans ((if_neg (by omega)).trans ?_))
  · simp only [Bool.false_eq_true, ne_eq, not_true_eq_false, false_or, or_false]
    omega
  · exact grvTakeIn_handed _ pos small len present

/-! ### The next frame of a port, and answers (R568, R569) -/

theorem doGroveTxEntry_eq (s : State) (x : Nat) (u : State) (hu : u = grvClearSent s) : doGroveTxEntry x s =
    if grvUp s x = false ∨ grvState s x ≠ 2 ∨ (s.gport x).cur.isSome = true then s
    else match (u.gport x).auto, grvSapWork u x with
      | c :: rest, _ => grvIssue (u.modGrv x fun g => { g with auto := rest }) x c true
      | [], some c => grvIssue u x c true
      | [], none => if grvTxWaiting u x then grvTakeEntry u x else u := by
  subst hu
  refine ite_congr (by rw [Bool.not_eq_true']) (fun _ => rfl) fun _ => ?_
  cases hauto : ((grvClearSent s).gport x).auto with
  | cons c rest => simp only [hauto]
  | nil => cases hwork : grvSapWork (grvClearSent s) x <;> simp only [hauto, hwork]

theorem doGroveAnswerTimeout_none {s : State} {x : Nat} (free : (s.gport x).cur = none) : doGroveAnswerTimeout x s = s := by
  rw [doGroveAnswerTimeout, free]

theorem doGroveBurstGapTimeout_none {s : State} {x : Nat} (free : (s.gport x).cur = none) : doGroveBurstGapTimeout x s = s := by
  rw [doGroveBurstGapTimeout, free]

theorem doGroveAnswerTimeout_some {s : State} {x : Nat} {c : GCmd} (u : State) (cur : (s.gport x).cur = some c)
    (hu : u = grvClearSent (s.runTo (grvDue s x c))) : doGroveAnswerTimeout x s =
      if c.burst then s
      else if c.tries < c.most then u.modGrv x fun g =>
        { g with cur := some { c with tries := c.tries + 1, sentAt := u.uptime }, sent := g.sent ++ [c.f] }
      else grvTimedOut u x c := by
  rw [doGroveAnswerTimeout, cur, hu]

theorem doGroveBurstGapTimeout_some {s : State} {x : Nat} {c : GCmd} (cur : (s.gport x).cur = some c) :
    doGroveBurstGapTimeout x s = if c.burst then grvCmdEnd (grvClearSent s) x else s := by
  rw [doGroveBurstGapTimeout, cur]

/-! ### Frames handed on, by the command in progress (R560, R568, R569) -/

/-- Types that answer a command of the transmit ring other than a burst. -/
abbrev answerTypes : List Nat := [0x43, 0x44, 0x46, 0x47, 0x4A]

section
variable {s : State} {x : Nat} {f : GFrame}

theorem grvOn_taken {tys : List Nat} (k : State → State) (up : grvUp s x = true) (on : grvState s x ≠ 0) (ty : f.ty ∈ tys)
    (mode : hopMode f.hop = 0) : grvOn x tys f k s = k ((grvClearSent s).modGrv x fun g => { g with handed := none }) := by
  rw [grvOn_eq, if_pos ⟨up, on, ty, mode⟩]

theorem grvOn_left {tys : List Nat} (k : State → State)
    (left : ¬ (grvUp s x = true ∧ grvState s x ≠ 0 ∧ hopMode f.hop = 0) ∨ f.ty ∉ tys) : grvOn x tys f k s = s := by
  rw [grvOn_eq, if_neg]
  rintro ⟨up, on, ty, mode⟩
  exact left.elim (fun h => h ⟨up, on, mode⟩) fun h => h ty

variable (up : grvUp s x = true) (on : grvState s x ≠ 0) (mode : hopMode f.hop = 0) {u : State}
  (hu : u = (grvClearSent s).modGrv x fun g => { g with handed := none })
include up on mode hu

theorem doGroveIdentRx_free (ty : f.ty = 0x42) (free : (u.gport x).cur = none) : doGroveIdentRx x f s = grvStray u x f := by
  rw [doGroveIdentRx, grvOn_taken _ up on (by rw [ty]; decide) mode, ← hu, free]

theorem doGroveIdentRx_some {c : GCmd} (ty : f.ty = 0x42) (cur : (u.gport x).cur = some c) : doGroveIdentRx x f s =
    match c.src with
    | .enum a => if hopVal f.hop = a then grvIdent u x a f c.tries else grvStray u x f
    | _ => if grvAnswers c f then grvAnswered u x c f else grvStray u x f := by
  rw [doGroveIdentRx, grvOn_taken _ up on (by rw [ty]; decide) mode, ← hu, cur] <;> rfl

theorem doGroveAnswerRx_free (ty : f.ty ∈ answerTypes) (free : (u.gport x).cur = none) :
    doGroveAnswerRx x f s = grvStray u x f := by
  rw [doGroveAnswerRx, grvOn_taken (tys := answerTypes) _ up on ty mode, ← hu, free]

theorem doGroveAnswerRx_some {c : GCmd} (ty : f.ty ∈ answerTypes) (cur : (u.gport x).cur = some c) :
    doGroveAnswerRx x f s = if grvAnswers c f then grvAnswered u x c f else grvStray u x f := by
  rw [doGroveAnswerRx, grvOn_taken (tys := answerTypes) _ up on ty mode, ← hu, cur]

theorem doGroveBurstDataRx_free (ty : f.ty = 0x45) (free : (u.gport x).cur = none) :
    doGroveBurstDataRx x f s = grvStray u x f := by
  rw [doGroveBurstDataRx, grvOn_taken _ up on (by rw [ty]; decide) mode, ← hu, free]

theorem doGroveBurstDataRx_some {c : GCmd} (ty : f.ty = 0x45) (cur : (u.gport x).cur = some c) :
    doGroveBurstDataRx x f s = if grvAnswers c f then
      (match c.src with
       | .entry tag =>
         if nbit (leAt f.payload 3 1) 0 then
           grvCmdEnd (grvEntry u x f.ty f.hop 0 tag f.payload (hopVal f.hop) (grvHopOf u c.f) c.tries) x
         else (grvEntry u x f.ty f.hop 0 tag f.payload (hopVal f.hop) (grvHopOf u c.f) c.tries).modGrv x
           fun g => { g with cur := some { c with burst := true } }
       | _ => u)
      else grvStray u x f := by
  rw [doGroveBurstDataRx, grvOn_taken _ up on (by rw [ty]; decide) mode, ← hu, cur] <;> rfl

end

/-- Settles O41: what a port sends next, a frame by its check and fold, and an answer by the command in progress. -/
theorem groveTrafficComplete : Obligations.GroveTrafficComplete := by
  refine ⟨fun s x u hu => next_congr (doGroveTxEntry_eq s x u hu), fun s x c => rfl,
    fun s x free => ⟨next_congr (doGroveAnswerTimeout_none free), next_congr (doGroveBurstGapTimeout_none free)⟩,
    fun s x c u cur hu => ⟨next_congr (doGroveAnswerTimeout_some u cur hu), next_congr (doGroveBurstGapTimeout_some cur)⟩,
    fun s x bad bs idle => next_congr (doGroveFrameRx_none bad bs idle), ?frame,
    fun s x a ty pl up on pos small turned addressed len present =>
      next_congr (doGroveFrameRx_handed up on pos small turned addressed len present), ?free, ?cur, ?entry, ?burst⟩
  case frame =>
    rintro s x bad bs ty hop n crc pl up on rfl rfl rfl rfl rfl
    refine next_congr ((doGroveFrameRx_eq bad bs up on).trans ?_)
    generalize grvFold s x _ _ _ _ = q
    cases q <;> rfl
  case free =>
    rintro s x f ok u hu rfl
    have refused : (grvUp s x && decide (grvState s x ≠ 0) && decide (hopMode f.hop = 0)) = false ↔
        ¬ (grvUp s x = true ∧ grvState s x ≠ 0 ∧ hopMode f.hop = 0) := by
      rw [← Bool.not_eq_true, Bool.and_eq_true, Bool.and_eq_true, decide_eq_true_eq, decide_eq_true_eq, and_assoc]
    refine ⟨fun h => next_congr (grvOn_left _ (h.imp refused.mp ?_)), fun h => next_congr (grvOn_left _ (h.imp_left refused.mp)),
      fun h => next_congr (grvOn_left _ (h.imp refused.mp ?_)), fun ok free => ?_⟩
    · exact fun other h => other (List.mem_singleton.mp h)
    · exact fun other h => other (List.mem_singleton.mp h)
    · simp only [Bool.and_eq_true, decide_eq_true_eq] at ok
      obtain ⟨⟨up, on⟩, mode⟩ := ok
      exact ⟨fun ty => next_congr (doGroveIdentRx_free up on mode hu ty free),
        fun ty => next_congr (doGroveAnswerRx_free up on mode hu ty free),
        fun ty => next_congr (doGroveBurstDataRx_free up on mode hu ty free)⟩
  case cur =>
    intro s x f c u hu up on mode cur
    refine ⟨fun ty => next_congr ((doGroveIdentRx_some up on mode hu ty cur).trans ?_),
      fun ty => next_congr (doGroveAnswerRx_some up on mode hu ty cur)⟩
    cases c.src <;> rfl
  case entry =>
    rintro s x f c tag u src rfl
    rw [grvAnswered, src]
  case burst =>
    rintro s x f c tag u v up on ty mode hu cur rfl
    have eq := doGroveBurstDataRx_some up on mode hu ty cur
    refine ⟨fun no => next_congr (eq.trans (if_neg (by rw [no]; decide))), fun yes other => ?_, fun yes src => ?_⟩
    · refine next_congr (eq.trans ((if_pos yes).trans ?_))
      cases src : c.src with
      | entry tag => exact absurd src (other tag)
      | enum a => rfl
      | sap wr no => rfl
      | bypass => rfl
    · exact next_congr (eq.trans ((if_pos yes).trans (by rw [src])))

end Sys2Proof.Machine
end

section
/-! The sleep agreement, wake requests and carrier of the Grove controllers (R574 to R582). -/

namespace Sys2Proof.Machine

/-- A wake request's effect by the state of the port (R577, R582). -/
theorem grvWakeAct_eq (s : State) (y : Nat) : grvWakeAct s y =
    if grvState s y = 3 then (if (s.gport y).sleep.commit then s.modGrv y fun g => { g with sleep := { g.sleep with cut := true } }
        else setGrvState (grvBroadcast s y 11 []) y 2)
    else if grvState s y = 4 then (if grvCan s y then grvTone s y .session else setWakePend s y true)
    else s := by
  rw [grvWakeAct]
  generalize grvState s y = st
  match st with
  | 0 => rfl
  | 1 => rfl
  | 2 => rfl
  | 3 => rfl
  | 4 => rfl
  | n + 5 => rfl

theorem doGroveSleepOkRx_eq (s : State) (x : Nat) (f : GFrame) (u v : State)
    (hu : u = (grvClearSent s).modGrv x fun g => { g with handed := none })
    (hv : v = u.modGrv (grvSess u x) fun g => { g with sleep := { g.sleep with ok := (hopVal f.hop - 1) :: g.sleep.ok } }) :
    doGroveSleepOkRx x f s =
      if grvUp s x = false ∨ grvState s x = 0 ∨ f.ty ≠ 0x49 ∨ hopMode f.hop ≠ 0 then s
      else if grvState u (grvSess u x) ≠ 3 ∨ hopVal f.hop = 0 then grvUnsolicited u x (hopVal f.hop)
      else if grvNotOk v (grvSess u x) = [] ∧ (v.gport (grvSess u x)).sleep.commit = false then grvCommitStart v (grvSess u x)
      else v := by
  rw [doGroveSleepOkRx, grvOn_eq, ← hu]
  dsimp only
  rw [← hv]
  by_cases left : grvUp s x = false ∨ grvState s x = 0 ∨ f.ty ≠ 0x49 ∨ hopMode f.hop ≠ 0
  · rw [if_pos left, if_neg]
    rintro ⟨up, on, ty, mode⟩
    rcases left with down | off | other | hop
    · rw [up] at down; cases down
    · exact on off
    · exact other (List.mem_singleton.mp ty)
    · exact hop mode
  · rw [if_neg left, if_pos]
    · exact ite_congr rfl (fun _ => rfl) fun _ => ite_congr (by rw [Bool.not_eq_true']) (fun _ => rfl) fun _ => rfl
    · simp only [not_or, Bool.not_eq_false, not_not] at left
      exact ⟨left.1, left.2.1, List.mem_singleton.mpr left.2.2.1, left.2.2.2⟩

theorem doGroveWakeReqRx_eq (s : State) (x : Nat) (f : GFrame) (u : State) (l : List Nat) (v w : State)
    (hu : u = (grvClearSent s).modGrv x fun g => { g with handed := none })
    (hl : l = (SMap.get (fun _ => []) (u.gport x).reqs (hopVal f.hop)).filter fun t => u.uptime < t + 60000000000)
    (hv : v = grvWakeEntry (u.modGrv x fun g => { g with reqs := SMap.set (fun _ => []) g.reqs (hopVal f.hop) (l ++ [u.uptime]) })
      x (hopVal f.hop) f)
    (hw : w = if 4 ≤ l.length then v.count (GRV_CNT.UNSOL x) else grvWakeAct v (grvSess u x)) :
    doGroveWakeReqRx x f s =
      if grvUp s x = true ∧ grvState s x ≠ 0 ∧ f.ty = 0x48 ∧ hopMode f.hop = 0 then
        (if hopVal f.hop = 0 then w else (grvSend w x ⟨13, hopVal f.hop, []⟩).2)
      else s := by
  rw [doGroveWakeReqRx, grvOn_eq, ← hu]
  dsimp only
  rw [← hl, ← hv, ← hw]
  exact ite_congr (by rw [List.mem_singleton]) (fun _ => rfl) fun _ => rfl

theorem doGroveSleepPrepTimeout_eq (s : State) (x : Nat) (u : State) (hu : u = grvClearSent s) :
    doGroveSleepPrepTimeout x s =
      if grvState s (grvSess s x) ≠ 3 ∨ (s.gport (grvSess s x)).sleep.commit = true then s
      else if (u.gport (grvSess s x)).sleep.again = true ∨ grvNotOk u (grvSess s x) = [] then grvCommitStart u (grvSess s x)
      else grvBroadcast (u.modGrv (grvSess s x) fun g => { g with sleep := { g.sleep with again := true } }) (grvSess s x) 9
        (toLE 8 (grvNext (u.modGrv (grvSess s x) fun g => { g with sleep := { g.sleep with again := true } }) (grvSess s x)) ++
          toLE 4 ((u.modGrv (grvSess s x) fun g => { g with sleep := { g.sleep with again := true } }).gport (grvSess s x)).g ++
          toLE 2 (grvRetryS (u.modGrv (grvSess s x) fun g => { g with sleep := { g.sleep with again := true } }) (grvSess s x)) ++
          toLE 2 0) := by
  rw [doGroveSleepPrepTimeout, hu]

theorem doGroveCommitSent_eq (s : State) (x : Nat) (u : State) (y : Nat) (hy : grvSess s x = y) (hu : u = grvClearSent s) :
    doGroveCommitSent x s = if grvState s y ≠ 3 ∨ (s.gport y).sleep.commit = false then s
      else if (u.gport y).sleep.cut then setGrvState (grvBroadcast (u.modGrv y fun g => { g with sleep := {} }) y 11 []) y 2
      else grvIrq (setGrvState (u.modGrv y fun g => { g with sleep := {}, win := .shut, here := [] }) y 4) y
        (GRV_IRQ.ASLEEP y) := by
  rw [doGroveCommitSent, hy, ← hu]
  exact ite_congr (by rw [Bool.not_eq_true']) (fun _ => rfl) fun _ => rfl

theorem doGroveWakeToneEnd_eq (s : State) (x y : Nat) (u : State) (hy : grvSess s x = y)
    (hu : u = (grvBroadcast (grvClearSent (s.runTo ((s.gport y).since + 3000000 + 200000 * grvToneHops s y))) y 12 []).modGrv y
      fun g => { g with tone := none }) :
    doGroveWakeToneEnd x s = match (s.gport y).tone with
      | none => s
      | some .session => grvStartSession u y
      | some .enum => grvEnumStart u y
      | some .recover => grvRecoverEnd u y := by
  rw [doGroveWakeToneEnd, hy]
  dsimp only
  rw [← hu]
  cases (s.gport y).tone with
  | none => rfl
  | some why => cases why <;> rfl

theorem doGroveCarrierWake_eq (s : State) (x y : Nat) (u v : State) (hy : grvSess s x = y)
    (hu : u = if sensing s = true ∧ s.pwr.rootPowered = true then
      senseCause (if s.pwr.mode = .root then setWakePend s y true else s) 19 else s)
    (hv : v = (grvClearSent u).setBit (GRV_STAT.CARRIER x) true) :
    doGroveCarrierWake x s = if grvUp u x = false then u
      else if grvState v y = 2 ∨ grvState v y = 3 then grvWakeAct (grvWakeEntry v x 0 ⟨0, 0, []⟩) y
      else if grvState v y = 4 then grvWakeAct v y else v := by
  rw [doGroveCarrierWake, hy]
  dsimp only
  rw [← hu, ← hv]
  refine ite_congr (by rw [Bool.not_eq_true']) (fun _ => rfl) fun _ => ?_
  generalize grvState v y = st
  match st with
  | 0 => rfl
  | 1 => rfl
  | 2 => rfl
  | 3 => rfl
  | 4 => rfl
  | n + 5 => rfl

/-- Settles O42: each frame of the agreement, its timeouts, the tone's end and carrier, by the state of the port. -/
theorem groveSleepComplete : Obligations.GroveSleepComplete := by
  refine ⟨?wakeReq, ?sleepOk, ?prep, ?commit, ?tone, ?carrier, grvWakeAct_eq⟩
  case wakeReq =>
    rintro s x f a u l v w rfl hu hl hv hw
    exact next_congr (doGroveWakeReqRx_eq s x f u l v w hu hl hv hw)
  case sleepOk =>
    rintro s x f a y u v rfl hu rfl hv
    exact next_congr (doGroveSleepOkRx_eq s x f u v hu hv)
  case prep =>
    rintro s x y u v rfl hu rfl
    exact next_congr (doGroveSleepPrepTimeout_eq s x u hu)
  case commit =>
    rintro s x y u hy hu
    exact next_congr (doGroveCommitSent_eq s x u y hy hu)
  case tone =>
    rintro s x y r u hy rfl hu
    refine next_congr ((doGroveWakeToneEnd_eq s x y u hy hu).trans ?_)
    cases (s.gport y).tone with
    | none => rfl
    | some why => cases why <;> rfl
  case carrier =>
    rintro s x y u v hy hu hv
    exact next_congr (doGroveCarrierWake_eq s x y u v hy hu hv)

end Sys2Proof.Machine
end

section
/-! The frame of the rack bridge's own bus events (R511, R515, R534, R536, R540). -/

namespace Sys2Proof.Machine

/-- From `s` to `t` only registers, the crew and the bridge's own state change: of the bridge neither its queue nor its
buffer of inbound writes, of the registers only CRB_STATUS, CRB_IRQ and the crew block's. -/
def RackKeeps (s t : State) : Prop :=
  (∃ r c b, t = { s with regs := r, crw := c, crb := b } ∧ b.q = s.crb.q ∧ b.inb = s.crb.inb) ∧
    ∀ a, blockOf a ≠ 0x14 → a ≠ CRB_STATUS.addr → a ≠ CRB_IRQ.addr → t.word a = s.word a

theorem RackKeeps.refl (s : State) : RackKeeps s s := ⟨⟨s.regs, s.crw, s.crb, rfl, rfl, rfl⟩, fun _ _ _ _ => rfl⟩

theorem RackKeeps.trans {s t u : State} (hst : RackKeeps s t) (htu : RackKeeps t u) : RackKeeps s u := by
  obtain ⟨⟨r, c, b, rfl, q, inb⟩, word⟩ := hst
  obtain ⟨⟨r', c', b', rfl, q', inb'⟩, word'⟩ := htu
  exact ⟨⟨r', c', b', rfl, q'.trans q, inb'.trans inb⟩,
    fun a crew status irq => (word' a crew status irq).trans (word a crew status irq)⟩

section
variable {s t : State} (h : RackKeeps s t)
include h

/-- A field of CRB_STATUS, CRB_IRQ or the crew block may change. -/
theorem RackKeeps.setFld {r : FRef} (n : Nat) (hr : blockOf r.addr = 0x14 ∨ r.addr = CRB_STATUS.addr ∨ r.addr = CRB_IRQ.addr) :
    RackKeeps s (t.setFld r n) := by
  refine h.trans ⟨⟨(t.setFld r n).regs, t.crw, t.crb, rfl, rfl, rfl⟩, fun a crew status irq => State.word_setFld_other t n ?_⟩
  rintro rfl
  exact hr.elim crew fun hr => hr.elim status irq

theorem RackKeeps.modCrb (f : Crb → Crb) (q : (f t.crb).q = t.crb.q) (inb : (f t.crb).inb = t.crb.inb) :
    RackKeeps s (t.modCrb f) :=
  h.trans ⟨⟨t.regs, t.crw, f t.crb, rfl, q, inb⟩, fun _ _ _ _ => rfl⟩

theorem RackKeeps.modCrew (c : Crew) : RackKeeps s { t with crw := c } :=
  h.trans ⟨⟨t.regs, c, t.crb, rfl, rfl, rfl⟩, fun _ _ _ _ => rfl⟩

end

theorem rackKeeps_wakeCores (s : State) : RackKeeps s (wakeCores s) := by
  refine List.foldlRecOn (motive := RackKeeps s) _ _ (.refl s) fun u kept c _ => ?_
  dsimp only
  split
  · exact (kept.modCrew _).setFld (r := ⟨CRW_STATUS.addr, 3 * c, 3⟩) 1 (.inl (show blockOf CRW_STATUS.addr = 0x14 by decide))
  · exact kept

theorem rackKeeps_plicRaise (s : State) (n : Nat) : RackKeeps s (plicRaise s n) := by
  rw [plicRaise]
  refine RackKeeps.trans ?_ (rackKeeps_wakeCores _)
  split
  · exact (RackKeeps.refl s).modCrew _
  · exact .refl s

theorem rackKeeps_nextStrobe (s : State) : RackKeeps s (crbNextStrobe s) := (RackKeeps.refl s).modCrb _ rfl rfl

theorem rackKeeps_ask (s : State) : RackKeeps s (crbAsk s) := (RackKeeps.refl s).modCrb _ rfl rfl

theorem rackKeeps_busRequest (s : State) : RackKeeps s (doCrbBusRequest s) := by
  rw [doCrbBusRequest]
  split
  · exact rackKeeps_ask s
  · exact .refl s

theorem rackKeeps_grant (s : State) : RackKeeps s (doCrbGrant s) := by
  rw [doCrbGrant]
  split
  · exact ((RackKeeps.refl s).setFld (r := CRB_STATUS.MASTER) 1 (.inr (.inl rfl))).modCrb _ rfl rfl
  · exact .refl s

theorem rackKeeps_iackWindow (s : State) : RackKeeps s (doCrbIackWindow s) := (RackKeeps.refl s).modCrb _ rfl rfl

theorem rackKeeps_irqServe (s : State) (lines : Nat) : RackKeeps s (doCrbIrqServe lines s) := by
  rw [doCrbIrqServe]
  split
  · exact .refl s
  · dsimp only
    generalize hu : State.setFld _ CRB_STATUS.LINES lines = u
    have kept : RackKeeps s u := by
      rw [← hu]
      exact ((RackKeeps.refl s).modCrb _ rfl rfl).setFld _ (.inr (.inl rfl))
    split
    · exact kept
    · split
      · exact kept
      · split
        · split
          · exact kept.trans (rackKeeps_ask u)
          · exact kept
        · split
          · exact (kept.modCrb _ rfl rfl).modCrb _ rfl rfl
          · exact kept

theorem rackKeeps_lineReleased (s : State) (l : Nat) : RackKeeps s (doCrbIrqLineReleased l s) :=
  RackKeeps.modCrb ((RackKeeps.refl s).setFld (r := CRB_STATUS.LINES) _ (.inr (.inl rfl))) _ rfl rfl

theorem rackKeeps_foreignStrobe (s : State) : RackKeeps s (doCrbForeignStrobe s) := by
  rw [doCrbForeignStrobe]
  split
  · exact (rackKeeps_nextStrobe s).modCrb _ rfl rfl
  · exact rackKeeps_nextStrobe s

theorem rackKeeps_iackRespond (s : State) (l : Nat) : RackKeeps s (doCrbIackRespond l s) := by
  rw [doCrbIackRespond]
  split
  · have out : RackKeeps s (s.setBitAt CRB_STATUS.OUT l false) := (RackKeeps.refl s).setFld _ (.inr (.inl rfl))
    have flag : RackKeeps s ((s.setBitAt CRB_STATUS.OUT l false).setBitAt CRB_IRQ.OUTACK l true) :=
      out.setFld _ (.inr (.inr rfl))
    have flagged := flag.trans (rackKeeps_plicRaise _ 20)
    exact (flagged.modCrb _ rfl rfl).modCrb _ rfl rfl
  · exact rackKeeps_nextStrobe s

theorem rackKeeps_fromLands {s : State} {f : State → State} (h : RackKeeps s (f s)) : RackKeeps s (fromLands s f) := by
  rw [fromLands]
  split
  · exact .refl s
  · exact h

/-- Settles O58: each of the seven bus events keeps all but the bridge's own state and two of its registers. -/
theorem rackFrame : Obligations.RackFrame := by
  intro s t c L lines hc step
  have kept : RackKeeps s t := by
    rcases hc with rfl | rfl | rfl | rfl | rfl | rfl | rfl <;> cases step
    · exact rackKeeps_busRequest s
    · exact rackKeeps_fromLands (rackKeeps_grant s)
    · exact rackKeeps_iackWindow s
    · exact rackKeeps_fromLands (rackKeeps_irqServe s _)
    · exact rackKeeps_fromLands (rackKeeps_lineReleased s _)
    · exact rackKeeps_fromLands (rackKeeps_foreignStrobe s)
    · exact rackKeeps_fromLands (rackKeeps_iackRespond s _)
  obtain ⟨⟨r, w, b, rfl, q, inb⟩, word⟩ := kept
  exact ⟨fun _ => rfl, rfl, word, rfl, rfl, rfl, rfl, rfl, rfl, rfl, rfl, rfl, rfl, rfl, rfl, rfl, rfl, q, inb, rfl⟩

end Sys2Proof.Machine
end

section
/-! A read of an inbound window whose words come back corrected (R366, R527, R531). -/

namespace Sys2Proof.Machine

/-- What a rack master is answered after a step, the error flag and the word (R510). -/
def answerAfter : Host.Outcome State Fault Refusal → Option (Bool × Nat)
  | .next t => t.crb.ans
  | _ => none

/-- A node in RUN with Heartwood ready. Inbound window 7 shows the start of the event log to LOCAL at rack address 0x30000.
HWD_COR is INFO, MOT_AXIS is GRAVE, and the motion controller owes Bark an event of it. -/
def owesGraveEvent : State :=
  let s := { State.reset with pwr := { mode := .run, base := .run, booted := true } }
  let s := (s.setFld SYS_STRAP.CRB_ROLE 3).setBit HWD_STATUS.READY true
  let s := (((s.setBit (CRB_IW_CFG.EN 7) true).setFld (CRB_IW_CFG.OWNER 7) 7).setFld (CRB_IW_RBASE.RBASE 7) 3).setFld
    (CRB_IW_TBASE.TBASE 7) 0x1045
  let s := ((s.setBit (TEN_WIN_LIM.EN 7 0) true).setBit (TEN_WIN_LIM.RD 7 0) true).setFld (TEN_WIN_LIM.LIMIT 7 0) 0x1045
  let s := (s.setWord (BRK_SRC_CFG.addr Src.HWD_COR) 0).setFld (BRK_SRC_CFG.BASE Src.MOT_AXIS) 3
  s.modMot fun m => { m with owed := [(Src.MOT_AXIS, 0)] }

/-- The state after the read's corrected word: SAFE has been entered and the event committed to the log (R52, R353). -/
def afterCorrectedWord : State × Nat :=
  eccReads ((drainInbound (crbNextStrobe owesGraveEvent)).modCrb fun c => { c with ahead := none }) 0x10450008 [1]

/-- The model answers the word as it stood when the read was judged. -/
theorem answerAfter_inboundRead :
    answerAfter (exec (.crbInboundCycle 0x30008 0 false false true true 0 [1]) owesGraveEvent) = some (false, 0) := by
  decide +kernel

/-- Byte 8 of the event's entry, the kind of a reaction, is in memory by then. -/
theorem bytes_afterCorrectedWord : afterCorrectedWord.2 = 0 ∧
    afterCorrectedWord.1.byte (iwTarget afterCorrectedWord.1 7 (0x30008 : BitVec 24).toNat) = 1 ∧
    afterCorrectedWord.1.byte (iwTarget afterCorrectedWord.1 7 ((0x30008 : BitVec 24).toNat + 1)) = 0 := by decide +kernel

/-- Refutes O37: the model answers an inbound read with the bytes as they were before its corrected words were raised to Bark, the
statement with those after it. A corrected word of Heartwood has Bark take an owed GRAVE event as well (`mot.owed`), whose entry
to SAFE commits the event to the log that the window shows. -/
theorem not_rackInboundComplete : ¬ Obligations.RackInboundComplete := by
  rintro ⟨-, -, -, -, reads, -⟩
  have step := reads owesGraveEvent 0x30008 0 [1] 7 _ 7 0x10450008 0x10450009 afterCorrectedWord (by decide) (by decide +kernel)
    (by decide +kernel) (by decide +kernel) (by decide) (by decide +kernel) rfl (by decide +kernel) (by decide +kernel)
    (by decide +kernel) rfl
  have plain : ((drainInbound (crbNextStrobe owesGraveEvent)).modCrb fun c => { c with ahead := none }).bit (CRB_IW_CFG.KIND 7) =
      false := by decide +kernel
  have allowed : inStatus ((drainInbound (crbNextStrobe owesGraveEvent)).modCrb fun c => { c with ahead := none }) 7
      [0x10450008, 0x10450009] false = 0 := by decide +kernel
  obtain ⟨good, hi, lo⟩ := bytes_afterCorrectedWord
  rw [plain, if_neg Bool.false_ne_true, allowed, if_neg (by decide), good, if_neg (by decide)] at step
  have answered : some (false, 0) = some (false, 256 * (1 : Byte).toNat + (0 : Byte).toNat) :=
    hi ▸ lo ▸ answerAfter_inboundRead.symm.trans (congrArg answerAfter step)
  exact absurd answered (by decide)

end Sys2Proof.Machine
end

section
/-! The scheduler and the gates of the trunk ports (R418, R471 to R489). -/

namespace Sys2Proof.Machine

/-! ### Rules of the ports' record -/

theorem port_modPort {s : State} {x : Nat} (f : TkPort → TkPort) (h : x < s.tk.length) :
    (s.modPort x f).port x = f (s.port x) := modAt_getD _ _ _ _ h

/-- A change of port `y` keeps of each port what it keeps of every port state. -/
theorem port_modPort_keeps {α : Type} (read : TkPort → α) (s : State) (y x : Nat) {f : TkPort → TkPort}
    (keeps : ∀ p, read (f p) = read p) : read ((s.modPort y f).port x) = read (s.port x) := by
  by_cases same : y = x
  · subst same
    by_cases h : y < s.tk.length
    · rw [port_modPort f h, keeps]
    · have past : (modAt s.tk y f).length ≤ y := (modAt_length ..).trans_le (Nat.not_lt.mp h)
      exact congrArg read
        ((List.getD_eq_default _ _ past).trans (List.getD_eq_default _ _ (Nat.not_lt.mp h)).symm)
  · exact congrArg read (modAt_getD_other _ _ _ _ _ same)

@[simp] theorem State.modPort_tk_length (s : State) (x : Nat) (f : TkPort → TkPort) :
    (s.modPort x f).tk.length = s.tk.length := modAt_length ..

@[simp] theorem State.setWide_tk (s : State) (lo n : Nat) : (s.setWide lo n).tk = s.tk := rfl
@[simp] theorem State.setWide_mem (s : State) (lo n : Nat) : (s.setWide lo n).mem = s.mem := rfl

/-- A port whose record of what left is clear shows nothing, whether the state has it or not. -/
theorem port_cleared_tx (s : State) (x : Nat) :
    ((s.modPort x fun p => { p with tx := none, line := [] }).port x).tx = none := by
  by_cases h : x < s.tk.length
  · rw [port_modPort _ h]
  · have past : (s.modPort x fun p => { p with tx := none, line := [] }).tk.length ≤ x := by
      rw [State.modPort_tk_length]
      omega
    rw [State.port, List.getD_eq_default _ _ past]

theorem afterSend_none {s : State} {x : Nat} (nothing : (s.port x).tx = none) : afterSend s x = s := by
  rw [afterSend, nothing]

/-! ### The scheduler (R471, R475) -/

section
variable {s v : State} {x : Nat}

theorem doSchedulerSelect_stopped (stopped : portOn s x = false ∨ streaming s x = false) : doSchedulerSelect x s = s :=
  if_pos (by simpa using stopped)

variable (on : portOn s x = true) (stream : streaming s x = true) (hv : v = if markersDue s x then insertMarkers s x else s)
include on stream hv

theorem doSchedulerSelect_link {f : Frame} {rest : List Frame} (link : (v.port x).linkq = f :: rest) :
    doSchedulerSelect x s = frameSent (putFrame (v.modPort x fun p => { p with linkq := rest }) x (stamped v x f) 0xFFFF 0xFFFF) x
      { f := stamped v x f, dst := 0xFFFF } := by
  rw [doSchedulerSelect, on, stream]
  refine (if_neg (by decide)).trans ?_
  rw [← hv]
  dsimp only
  rw [link]

variable (link : (v.port x).linkq = [])
include link

theorem doSchedulerSelect_replay {n : Nat} {e : EgFrame} (held : (v.port x).held[(v.port x).pos]? = some (n, e)) :
    doSchedulerSelect x s = frameSent (putFrame (v.modPort x fun p => { p with pos := p.pos + 1 }) x (stamped v x e.f) e.dst n) x
      { e with f := stamped v x e.f } := by
  rw [doSchedulerSelect, on, stream]
  refine (if_neg (by decide)).trans ?_
  rw [← hv]
  dsimp only
  rw [link]
  dsimp only
  rw [held]

variable (sent : (v.port x).held[(v.port x).pos]? = none)
include sent

/-- With nothing of the link and nothing to send again, the scheduler looks at the queues. -/
theorem doSchedulerSelect_queues : doSchedulerSelect x s =
    if (!mayTransmit v x || v.inUnitReset 17) = true then v
    else if v.fenced fenceTKS then
      (match selectBypass v x [0, 1, 2] with
       | some (s, e) => transmit s x e
       | none => v)
    else
      match selectFrom (refreshGates v x) x [0, 1, 2, 3, 4, 5] with
      | some (y, e) => transmit ((if guardDefers (refreshGates v x) x e.f.cls then y.count (TKS_CNT.GUARD x) else y).countWide
          (TKS_TXB_LO.addr x e.f.cls) (fsize e.f)) x e
      | none => if guardDefers (refreshGates v x) x 6 then (refreshGates v x).count (TKS_CNT.GUARD x) else refreshGates v x := by
  rw [doSchedulerSelect, on, stream]
  refine (if_neg (by decide)).trans ?_
  rw [← hv]
  dsimp only
  rw [link]
  dsimp only
  rw [sent]
  refine ite_congr (by simp) (fun _ => rfl) fun _ => ite_congr rfl (fun _ => ?_) fun _ => ?_
  · cases selectBypass v x [0, 1, 2] <;> rfl
  · cases selectFrom (refreshGates v x) x [0, 1, 2, 3, 4, 5] <;> rfl

theorem doSchedulerSelect_idle (idle : mayTransmit v x = false ∨ v.inUnitReset 17 = true) : doSchedulerSelect x s = v := by
  rw [doSchedulerSelect_queues on stream hv link sent]
  exact if_pos (by rcases idle with idle | idle <;> simp only [idle, Bool.not_false, Bool.true_or, Bool.or_true])

variable (room : mayTransmit v x = true) (acts : v.inUnitReset 17 = false)
include room acts

theorem doSchedulerSelect_bypass (fenced : v.fenced fenceTKS = true) : doSchedulerSelect x s =
    match selectBypass v x [0, 1, 2] with
    | some (s, e) => transmit s x e
    | none => v := by
  rw [doSchedulerSelect_queues on stream hv link sent]
  exact (if_neg (by simp [room, acts])).trans (if_pos fenced)

theorem doSchedulerSelect_classes (open_ : v.fenced fenceTKS = false) : doSchedulerSelect x s =
    match selectFrom (refreshGates v x) x [0, 1, 2, 3, 4, 5] with
    | some (y, e) => transmit ((if guardDefers (refreshGates v x) x e.f.cls then y.count (TKS_CNT.GUARD x) else y).countWide
        (TKS_TXB_LO.addr x e.f.cls) (fsize e.f)) x e
    | none => if guardDefers (refreshGates v x) x 6 then (refreshGates v x).count (TKS_CNT.GUARD x) else refreshGates v x := by
  rw [doSchedulerSelect_queues on stream hv link sent]
  exact (if_neg (by simp [room, acts])).trans (if_neg (by rw [open_]; decide))

end

/-! ### A new sequenced frame (R418, R419) -/

/-- The state in which a new frame has taken its SEQ and is held for replay. -/
def heldForReplay (s : State) (x : Nat) (e : EgFrame) : State :=
  let s1 := s.modPort x fun p =>
    { p with held := p.held ++ [(s.fld (TK_SEQ.TX x), { e with f := stamped s x e.f, use := .plain })], pos := p.pos + 1 }
  let n := (s1.port x).held.length
  let s2 := (s1.setFld (TK_SEQ.TX x) (s.fld (TK_SEQ.TX x) + 1)).setFld (TK_REPLAY.HELD x) n
  s2.setFld (TK_REPLAY.PEAK x) (Nat.max n (s2.fld (TK_REPLAY.PEAK x)))

theorem transmit_eq (s : State) (x : Nat) (e : EgFrame) : transmit s x e =
    departed (frameSent (putFrame (heldForReplay s x e) x (stamped s x e.f) e.dst (s.fld (TK_SEQ.TX x))) x
      { e with f := stamped s x e.f }) e := rfl

theorem tkReplay_ne_tkSeq (x : Nat) : TK_REPLAY.addr x ≠ TK_SEQ.addr x := by
  simp only [TK_REPLAY.addr, TK_SEQ.addr]
  omega

theorem txFrm_ne_tkSeq (x : Nat) : TK_TXFRM_LO.addr x ≠ TK_SEQ.addr x ∧ TK_TXFRM_LO.addr x + 4 ≠ TK_SEQ.addr x := by
  simp only [TK_TXFRM_LO.addr, TK_SEQ.addr]
  omega

theorem heldForReplay_seq (s : State) (x : Nat) (e : EgFrame) :
    (heldForReplay s x e).fld (TK_SEQ.TX x) = (s.fld (TK_SEQ.TX x) + 1) % 65536 := by
  have wid : (TK_SEQ.TX x).lo + (TK_SEQ.TX x).wid ≤ 32 := Nat.le_of_ble_eq_true rfl
  rw [heldForReplay]
  refine (State.fld_setFld_other _ _ _ _ wid (.inl (tkReplay_ne_tkSeq x))).trans ?_
  refine (State.fld_setFld_other _ _ _ _ wid (.inl (tkReplay_ne_tkSeq x))).trans ?_
  exact State.fld_setFld _ _ _ wid

/-- Blocks that leave change of the state a port's record and the free values alone, and of the port its line. -/
theorem putBlks_eq (s : State) (x mask next : Nat) (bs : List PcsBlk) : ∃ (n : Nat) (l : TkPort → List (Nat × BitVec 66)) (b : TkPort → List Nat),
    putBlks s x mask next bs = { s with free := n }.modPort x fun p => { p with line := l p, blk := b p } :=
  ⟨_, _, _, rfl⟩

theorem putFrame_eq (s : State) (x : Nat) (f : Frame) (dst seq : Nat) : ∃ (n : Nat) (l : TkPort → List (Nat × BitVec 66)) (b : TkPort → List Nat),
    putFrame s x f dst seq = { s with free := n }.modPort x fun p => { p with line := l p, blk := b p } := by
  rw [putFrame]
  split
  · exact putBlks_eq ..
  · exact putBlks_eq ..

/-- What follows when a plain frame leaves changes tenants' records alone. -/
theorem departed_plain {s : State} {e : EgFrame} (plain : e.use = .plain) : ∃ h, departed s e = { s with th := h } := by
  rw [departed, plain]
  dsimp only
  cases tenantOf s e.dst with
  | none => exact ⟨s.th, rfl⟩
  | some t =>
    dsimp only
    split <;> split <;> exact ⟨_, rfl⟩

theorem State.fld_congr_regs {s t : State} (h : s.regs = t.regs) (r : FRef) : s.fld r = t.fld r := by
  rw [State.fld, State.fld, State.word, State.word, h]

theorem fld_setWide_other (s : State) {lo : Nat} (n : Nat) {r : FRef} (low : lo ≠ r.addr) (high : lo + 4 ≠ r.addr) :
    (s.setWide lo n).fld r = s.fld r := by
  rw [State.setWide, State.fld_setWord_other _ _ _ _ high, State.fld_setWord_other _ _ _ _ low]

@[simp] theorem heldForReplay_length (s : State) (x : Nat) (e : EgFrame) : (heldForReplay s x e).tk.length = s.tk.length := by
  simp only [heldForReplay, State.setFld_tk, State.modPort_tk_length]

@[simp] theorem heldForReplay_mem (s : State) (x : Nat) (e : EgFrame) : (heldForReplay s x e).mem = s.mem := by
  simp only [heldForReplay, State.setFld_mem, State.modPort]

theorem heldForReplay_held {s : State} {x : Nat} (e : EgFrame) (h : x < s.tk.length) : ((heldForReplay s x e).port x).held =
    (s.port x).held ++ [(s.fld (TK_SEQ.TX x), { f := stamped s x e.f, dst := e.dst })] := by
  rw [heldForReplay, State.port, State.setFld_tk, State.setFld_tk, State.setFld_tk]
  exact congrArg TkPort.held (port_modPort _ h)

/-- A frame that has left keeps SEQ, memory and what is held, and is the one that left. -/
theorem frameSent_putFrame {u : State} {x : Nat} (f : Frame) (dst seq : Nat) (g : EgFrame) (h : x < u.tk.length) :
    (frameSent (putFrame u x f dst seq) x g).fld (TK_SEQ.TX x) = u.fld (TK_SEQ.TX x) ∧
      ((frameSent (putFrame u x f dst seq) x g).port x).held = (u.port x).held ∧
      ((frameSent (putFrame u x f dst seq) x g).port x).tx = some g ∧
      (frameSent (putFrame u x f dst seq) x g).mem = u.mem := by
  obtain ⟨n, l, b, put⟩ := putFrame_eq u x f dst seq
  rw [put, frameSent]
  generalize hv : State.modPort { u with free := n } x _ = v
  have regs : v.regs = u.regs := by rw [← hv]; rfl
  have mem : v.mem = u.mem := by rw [← hv]; rfl
  have held : (v.port x).held = (u.port x).held := by
    rw [← hv]
    exact port_modPort_keeps TkPort.held { u with free := n } x x fun _ => rfl
  have ports : x < (v.countWide (TK_TXFRM_LO.addr x) 1).tk.length := by
    rw [State.countWide, State.setWide_tk, ← hv, State.modPort_tk_length]
    exact h
  refine ⟨?_, ?_, ?_, ?_⟩
  · refine Eq.trans ?_ (State.fld_congr_regs regs _)
    exact fld_setWide_other _ _ (txFrm_ne_tkSeq x).1 (txFrm_ne_tkSeq x).2
  · rw [← held]
    exact port_modPort_keeps TkPort.held (v.countWide (TK_TXFRM_LO.addr x) 1) x x fun _ => rfl
  · exact congrArg TkPort.tx (port_modPort _ ports)
  · exact mem

theorem transmit_plain {s : State} {x : Nat} {e : EgFrame} (h : x < s.tk.length) (plain : e.use = .plain) :
    (transmit s x e).fld (TK_SEQ.TX x) = (s.fld (TK_SEQ.TX x) + 1) % 65536 ∧
      ((transmit s x e).port x).held = (s.port x).held ++ [(s.fld (TK_SEQ.TX x), { f := stamped s x e.f, dst := e.dst })] ∧
      ((transmit s x e).port x).tx = some { e with f := stamped s x e.f } ∧ (transmit s x e).mem = s.mem := by
  rw [transmit_eq, ← heldForReplay_seq s x e, ← heldForReplay_held e h, ← heldForReplay_mem s x e]
  have ports : x < (heldForReplay s x e).tk.length := by rw [heldForReplay_length]; exact h
  generalize heldForReplay s x e = u at *
  obtain ⟨seq, held, tx, mem⟩ := frameSent_putFrame (stamped s x e.f) e.dst (s.fld (TK_SEQ.TX x))
    { e with f := stamped s x e.f } ports
  generalize frameSent _ x _ = w at *
  obtain ⟨th, left⟩ := departed_plain (s := w) plain
  rw [left]
  exact ⟨seq, held, tx, mem⟩

/-! ### The gate commands (R481, R482) -/

theorem doGateCycleStart_eq (s : State) (x : Nat) : doGateCycleStart x s = match nextCycle s x with
    | some t => if s.running = true ∧ s.fenced fenceTKS = false then refreshGates (s.advanceTo t) x else s
    | none => s := by
  rw [doGateCycleStart]
  cases s.running <;> cases s.fenced fenceTKS <;> cases nextCycle s x <;> rfl

theorem doGateEntryChange_eq (s : State) (x : Nat) : doGateEntryChange x s =
    if s.running = true ∧ s.fenced fenceTKS = false ∧ (gateView (gatesOf s x) s.tim.now).2.2 < gateForever then
      refreshGates (s.advanceTo (s.tim.now + (gateView (gatesOf s x) s.tim.now).2.2)) x
    else s :=
  ite_congr (by simp [and_assoc]) (fun _ => rfl) fun _ => rfl

/-- Settles O32: the frame boundary by what waits, what a new frame leaves, and the gate commands. -/
theorem egressComplete : Obligations.EgressComplete := by
  refine ⟨?stopped, ?link, ?replay, ?queues, fun s x e h _ plain _ => ⟨_, rfl, transmit_plain h plain⟩,
    fun s x => next_congr (doGateCycleStart_eq s x), ?entry, fun s t => ?past⟩
  case stopped =>
    rintro s x u rfl stopped
    exact next_congr ((congrArg (afterSend · x) (doSchedulerSelect_stopped stopped)).trans (afterSend_none (port_cleared_tx s x)))
  case link =>
    rintro s x f rest u v g w rfl hv on stream link rfl rfl
    exact next_congr (congrArg (afterSend · x) (doSchedulerSelect_link on stream hv link))
  case replay =>
    rintro s x n e u v g w rfl hv on stream link held rfl rfl
    exact next_congr (congrArg (afterSend · x) (doSchedulerSelect_replay on stream hv link held))
  case queues =>
    rintro s x u v w rfl hv rfl on stream link sent
    refine ⟨fun idle => next_congr (congrArg (afterSend · x) (doSchedulerSelect_idle on stream hv link sent idle)),
      fun room acts fenced => ?_, fun room acts open_ => ?_⟩
    · have eq := doSchedulerSelect_bypass on stream hv link sent room acts fenced
      refine ⟨fun none_ => ?_, fun y e some_ => ?_⟩
      · rw [none_] at eq
        exact next_congr (congrArg (afterSend · x) eq)
      · rw [some_] at eq
        exact next_congr (congrArg (afterSend · x) eq)
    · have eq := doSchedulerSelect_classes on stream hv link sent room acts open_
      refine ⟨fun none_ => ?_, ?_⟩
      · rw [none_] at eq
        exact next_congr (congrArg (afterSend · x) eq)
      · rintro y e z some_ rfl
        rw [some_] at eq
        exact next_congr (congrArg (afterSend · x) eq)
  case entry =>
    rintro s x v rfl
    exact next_congr (doGateEntryChange_eq s x)
  case past =>
    rw [State.advanceTo_now]
    exact Nat.le_max_left _ _

end Sys2Proof.Machine
end

section
/-! Requests of host tenants: receipt, refusal, performance, and STOP (R433 to R466). -/

namespace Sys2Proof.Machine

/-- A transaction frame on a port that works reaches its rule, unless it breaks its form (R433). -/
theorem onFrame_eq (x : Nat) (f : Frame) (s : State) (go : Frame → State → State) : onFrame x f s go =
    if portOn s x = false then s else if transBad f then malformed s x else go f s :=
  ite_congr (by rw [Bool.not_eq_true']) (fun _ => rfl) fun _ => rfl

/-! ### Receipt (R438, R441, R460) -/

theorem takeReq_unbound {s : State} (k x : Nat) (ecc : List (Fin 3)) {g : Frame} (free : tenantOf s g.src = none) :
    takeReq k x ecc g s = unbound x g s := by
  rw [takeReq, free]

/-- The tag that a request names is free, or it names none. -/
theorem tagFree {s : State} {g : Frame} {t : Nat} (k : Nat) (free : k ≠ 0 ∧ k ≠ 2 ∨ (tenOf s t).tags.contains g.tag = false) :
    ¬ ((k == 0 || k == 2) && (tenOf s t).tags.contains g.tag) = true := by
  rw [Bool.and_eq_true, Bool.or_eq_true, beq_iff_eq, beq_iff_eq]
  rintro ⟨np, held⟩
  rcases free with ⟨read, write⟩ | free
  · exact np.elim read write
  · rw [held] at free
    cases free

section
variable {s : State} {g : Frame} {t : Nat} (k x : Nat) (ecc : List (Fin 3)) (tenant : tenantOf s g.src = some t)
include tenant

theorem takeReq_tagDup (np : k = 0 ∨ k = 2) (held : (tenOf s t).tags.contains g.tag = true) :
    takeReq k x ecc g s = reqViolation (consume s t (creditNeed g)) (TEN_T_CNT.TAGDUP t) := by
  rw [takeReq, tenant]
  refine if_pos ?_
  rw [held, Bool.and_true]
  rcases np with rfl | rfl <;> rfl

variable (free : k ≠ 0 ∧ k ≠ 2 ∨ (tenOf s t).tags.contains g.tag = false)
include free

theorem takeReq_overCredit {u : State} {r : Req} (past : overCredit s t (creditNeed g) = true)
    (hu : u = reqViolation (consume s t (creditNeed g)) (TEN_T_CNT.CREDIT t))
    (hr : r = { id := u.th.nextId, t := t, x := x, kind := k, f := g }) :
    takeReq k x ecc g s = if k = 0 ∨ k = 2 then finishReq (addReq (busyTag u t g.tag) r) r.id 6 [] 0 else u := by
  subst hr hu
  rw [takeReq, tenant]
  refine (if_neg (tagFree k free)).trans ((if_pos past).trans ?_)
  exact ite_congr (by simp) (fun _ => rfl) fun _ => rfl

theorem takeReq_taken {u v : State} {r : Req} (within : overCredit s t (creditNeed g) = false)
    (hr : r = rackJudged s { id := s.th.nextId, t := t, x := x, kind := k, f := g, target := (reqTarget s t k g).1,
                             ordered := (reqTarget s t k g).2, allowed := reqAllowed s t k g })
    (hu : u = consume s t (creditNeed g))
    (hv : v = addReq (if k = 0 ∨ k = 2 then holdTag u t g.tag else holdPosted u t (fwords g)) r) :
    takeReq k x ecc g s = if mayRun v r then performReq v r ecc else v := by
  have holds : (if (k == 0 || k == 2) = true then holdTag u t g.tag else holdPosted u t (fwords g)) =
      if k = 0 ∨ k = 2 then holdTag u t g.tag else holdPosted u t (fwords g) :=
    ite_congr (by simp) (fun _ => rfl) fun _ => rfl
  rw [takeReq, tenant]
  refine (if_neg (tagFree k free)).trans ((if_neg (by rw [within]; decide)).trans ?_)
  dsimp only
  rw [← hr, ← hu, holds, ← hv]

end

/-! ### Performance (R435, R448, R466) -/

theorem performReq_eq (s : State) (r : Req) (ecc : List (Fin 3)) (u : State)
    (hu : u = s.modTh fun h => { h with reqs := h.reqs.map fun q => if q.id = r.id then { q with started := true } else q }) :
    performReq s r ecc = if r.kind = 3 then finishReq (placeDoorbell u r.t r.f) r.id 0 [] 0
      else match reqRow r.f with
        | none => finishReq (decodeRefusal u r.t).1 r.id (decodeRefusal u r.t).2 [] 0
        | some .regs => performRegs u r
        | some .rack => performRack u r
        | some row => performMem u r row ecc := by
  subst hu
  refine ite_congr rfl (fun _ => rfl) fun _ => ?_
  cases reqRow r.f with
  | none => rfl
  | some row => cases row <;> rfl

theorem placeDoorbell_eq (s : State) (t : Nat) (f : Frame) : placeDoorbell s t f =
    if s.bit (TEN_T_CFG.DOORBELL t) = true ∧ (tenOf s t).mbox.length < 16 then
      tenIrq (showMailbox (s.modTen t fun h => { h with mbox := h.mbox ++ [(f.aux, f.payload)] }) t) TEN_IRQ.MB t
    else s.count (TEN_T_CNT.MSGDROP t) :=
  ite_congr (by rw [Bool.and_eq_true, decide_eq_true_eq]) (fun _ => rfl) fun _ => rfl

/-! ### Unbound requests and STOP (R460, R465) -/

theorem doUnboundRequestRx_eq (x : Nat) (f : Frame) (s : State) : doUnboundRequestRx x f s =
    if portOn s x = false ∨ tenantOf s f.src ≠ none ∨ ¬ (f.ty = 0 ∨ f.ty = 2 ∨ f.ty = 3 ∨ (f.ty = 5 ∧ f.sub < 11)) then s
    else if transBad f then malformed s x else unbound x f s := by
  rw [doUnboundRequestRx, onFrame_eq]
  by_cases off : portOn s x = false
  · rw [if_pos off, ite_self, if_pos (Or.inl off)]
  · rw [if_neg off]
    by_cases taken : tenantOf s f.src = none ∧ (f.ty = 0 ∨ f.ty = 2 ∨ f.ty = 3 ∨ (f.ty = 5 ∧ f.sub < 11))
    · refine (if_pos taken).trans (if_neg ?_).symm
      rintro (h | h | h)
      · exact off h
      · exact h taken.1
      · exact h taken.2
    · rw [if_neg taken, if_pos (Or.inr (not_and_or.mp taken))]

theorem unbound_eq (x : Nat) (g : Frame) (s u : State) (hu : u = bark s Src.TRK_UNBOUND) : unbound x g s =
    if (g.ty = 0 ∨ g.ty = 3) ∧ 1000000000 ≤ unboundLevel u x then
      enqueue ((u.modTh fun h => { h with unb := modAt h.unb x fun _ => (unboundLevel u x - 1000000000, u.uptime) }).count
        TEN_CNT.UNB_ANS) x 4 { f := cplFrame g 5 [] 0, dst := g.src }
    else (u.modTh fun h => { h with unb := modAt h.unb x fun _ => (unboundLevel u x, u.uptime) }).count TEN_CNT.UNB_DROP := by
  rw [unbound, ← hu]
  have guard : ((g.ty == 0 || g.ty == 3) && decide (1000000000 ≤ unboundLevel u x)) = true ↔
      (g.ty = 0 ∨ g.ty = 3) ∧ 1000000000 ≤ unboundLevel u x := by simp
  by_cases answered : (g.ty = 0 ∨ g.ty = 3) ∧ 1000000000 ≤ unboundLevel u x
  · simp only [guard.mpr answered, if_pos answered, if_true]
  · simp only [eq_false_of_ne_true (guard.not.mpr answered), if_neg answered, Bool.false_eq_true, if_false]

theorem takeStop_unbound {s : State} (x : Nat) {g : Frame} (free : tenantOf s g.src = none) :
    takeStop x g s = unbound x g s := by
  rw [takeStop, free]

theorem takeStop_bound {s : State} (x : Nat) {g : Frame} {t : Nat} (tenant : tenantOf s g.src = some t) (u : State)
    (hu : u = consume s t (creditNeed g)) : takeStop x g s =
      if overCredit s t (creditNeed g) then reqViolation u (TEN_T_CNT.CREDIT t)
      else if u.bit (TEN_T_CFG.STOP_EN t) then trunkStop u t (leAt g.payload 0 2)
      else bark (u.count (TEN_T_CNT.MSGDROP t)) Src.TEN_PERM t := by
  rw [takeStop, tenant, hu]

/-- Settles O33: a request by its form, tenant, tag and credit, its performance by its row, and STOP. -/
theorem tenantRequestsComplete : Obligations.TenantRequestsComplete := by
  refine ⟨?read, ?post, ?np, ?doorbell, fun s k x ecc g free => takeReq_unbound k x ecc free,
    fun s k x ecc g t tenant np held => takeReq_tagDup k x ecc tenant np held,
    fun s k x ecc g t u r tenant free past hu hr => takeReq_overCredit k x ecc tenant free past hu hr,
    fun s k x ecc g t r u v tenant free within hr hu hv => takeReq_taken k x ecc tenant free within hr hu hv,
    fun s r ecc u hu => (performReq_eq s r ecc u hu).trans ?row, fun s t f => placeDoorbell_eq s t f,
    fun s x f => next_congr (doUnboundRequestRx_eq x f s), ?unbound,
    ?perform, ?stop,
    fun s x g free => takeStop_unbound x free, fun s x g t u tenant hu => takeStop_bound x tenant u hu⟩
  case read =>
    rintro s x f ecc g rfl
    exact next_congr (onFrame_eq ..)
  case post =>
    rintro s x f g rfl
    exact next_congr (onFrame_eq ..)
  case np =>
    rintro s x f g rfl
    exact next_congr (onFrame_eq ..)
  case doorbell =>
    rintro s x f g rfl
    exact next_congr (onFrame_eq ..)
  case row =>
    cases reqRow r.f with
    | none => rfl
    | some row => cases row <;> rfl
  case unbound =>
    rintro s x g u v w hu rfl rfl
    exact unbound_eq x g s u hu
  case perform =>
    rintro s t x oid ecc q rfl
    exact next_congr rfl
  case stop =>
    rintro s x f g rfl
    exact next_congr (onFrame_eq ..)

end Sys2Proof.Machine
end

section
/-! Binding, credits and tenant keys (R439 to R443, R454 to R459). -/

namespace Sys2Proof.Machine

/-! ### Binding messages (R439, R455, R457) -/

theorem msgCredit_unbound {s : State} {g : Frame} (go : State → State) (free : tenantOf s g.src = none) :
    msgCredit g s go = go s := by
  rw [msgCredit, free]

theorem msgCredit_bound {s u : State} {g : Frame} {t : Nat} (go : State → State) (tenant : tenantOf s g.src = some t)
    (hu : u = consume s t (creditNeed g)) :
    msgCredit g s go = if overCredit s t (creditNeed g) then reqViolation u (TEN_T_CNT.CREDIT t) else go u := by
  rw [msgCredit, tenant, hu]

/-- A BIND_REQ only counts within 10 ms of the last accepted one, or in the lockout. -/
theorem bindSoon_iff (s : State) (h : Ten) :
    (h.lockout || (match h.lastReq with | some u => decide (s.uptime < u + 10000000) | none => false)) = true ↔
      h.lockout = true ∨ ∃ w ∈ h.lastReq, s.uptime < w + 10000000 := by
  cases h.lastReq <;> simp

theorem bindReq_eq (s : State) (x : Nat) (g : Frame) (u v : State) (n : Nat) (e : BindEx)
    (hu : u = s.modTen g.aux fun h => { h with lastReq := some s.uptime }) (fresh : (n, v) = u.fresh)
    (he : e = { node := g.src, port := x, nh := g.payload, nn := toLE 16 n }) :
    bindReq x g s = if (tenOf s g.aux).lockout = true ∨ (∃ w ∈ (tenOf s g.aux).lastReq, s.uptime < w + 10000000) then
        s.count (TEN_T_CNT2.BINDFAIL g.aux)
      else if bindAllowed s g.aux g.src = false then bindDone s x g.src g.aux 4 false
      else if (tenOf s g.aux).exch.isSome then bindDone s x g.src g.aux 6 false
      else sendBind (setExch v g.aux (some e)) x g.src (msgFrame 13 5 (e.nn ++ bindMac v g.aux 0x4E e) g.aux) := by
  subst he
  refine ite_congr (propext (bindSoon_iff s _)) (fun _ => rfl) fun _ => ?_
  refine ite_congr (by rw [Bool.not_eq_true']) (fun _ => rfl) fun _ => ite_congr rfl (fun _ => rfl) fun _ => ?_
  dsimp only
  rw [← hu, ← fresh]

theorem bindProof_stray {s : State} {x : Nat} {g : Frame}
    (stray : ∀ e, (tenOf s g.aux).exch = some e → e.node ≠ g.src) : bindProof x g s = s := by
  rw [bindProof]
  split
  · rfl
  next e he => exact if_pos (stray e he)

theorem bindProof_eq {s : State} {x : Nat} {g : Frame} {e : BindEx} {u v : State} (exch : (tenOf s g.aux).exch = some e)
    (node : e.node = g.src) (hu : u = setExch s g.aux none)
    (hv : v = bark (u.count (TEN_T_CNT2.BINDFAIL g.aux)) Src.TEN_BIND g.aux) :
    bindProof x g s = if g.payload ≠ bindMac u g.aux 0x48 e then
        bindDone (v.modTen g.aux fun h => { h with lockout := true }) x e.node g.aux 2 false
      else if bindAllowed u g.aux e.node then bindDone (bindNow u g.aux e.node) x e.node g.aux 0 false
      else bindDone u x e.node g.aux 4 false := by
  rw [bindProof, exch]
  refine (if_neg (not_not_intro node)).trans ?_
  dsimp only
  rw [← hu, ← hv, ite_not]

/-! ### A binding's beginning (R439, R440, R457) -/

theorem tenOf_modTen {s : State} {t : Nat} (f : Ten → Ten) (h : t < s.th.ten.length) : tenOf (s.modTen t f) t = f (tenOf s t) :=
  modAt_getD _ _ _ _ h

theorem plicRaise_word {s : State} (n : Nat) {a : Nat} (crew : blockOf a ≠ 0x14) (status : a ≠ CRB_STATUS.addr)
    (irq : a ≠ CRB_IRQ.addr) : (plicRaise s n).word a = s.word a := (rackKeeps_plicRaise s n).2 a crew status irq

theorem plicRaise_th (s : State) (n : Nat) : (plicRaise s n).th = s.th := by
  obtain ⟨⟨r, c, b, eq, -⟩, -⟩ := rackKeeps_plicRaise s n
  rw [eq]

/-- A word of a tenant's registers is none of those that a unit's interrupt changes. -/
theorem tenWord_apart (t : Fin 4) : (blockOf (TEN_T_BIND.addr t) ≠ 0x14 ∧ TEN_T_BIND.addr t ≠ CRB_STATUS.addr ∧
    TEN_T_BIND.addr t ≠ CRB_IRQ.addr) ∧ (blockOf (TEN_T_CRED.addr t) ≠ 0x14 ∧ TEN_T_CRED.addr t ≠ CRB_STATUS.addr ∧
    TEN_T_CRED.addr t ≠ CRB_IRQ.addr) := by decide +revert

theorem tenIrq_word (s : State) (r : FRef) (i : Nat) {a : Nat} (crew : blockOf a ≠ 0x14) (status : a ≠ CRB_STATUS.addr)
    (irq : a ≠ CRB_IRQ.addr) (other : r.addr ≠ a) : (tenIrq s r i).word a = s.word a :=
  (plicRaise_word 19 crew status irq).trans (State.word_setFld_other s _ other)

theorem tenIrq_th (s : State) (r : FRef) (i : Nat) : (tenIrq s r i).th = s.th := plicRaise_th _ 19

/-- The word of TEN_t_BIND of a binding to node `n`. -/
def bindWord (n : Nat) : Word := BitVec.ofNat 32 (n % 65536 + 65536)

theorem bindWord_fields (n : Fin 65536) : wordField (bindWord n) 0 16 = n ∧ wordField (bindWord n) 16 1 = 1 := by
  have value : (bindWord n).toNat = n + 65536 := by
    rw [bindWord, BitVec.toNat_ofNat]
    omega
  simp only [wordField, value]
  omega

/-- The record of a tenant newly bound (R440, R457). -/
def freshTen (now : Nat) (h : Ten) : Ten := { lastReq := h.lastReq, mbox := h.mbox, owed := true, heard := now }

/-- A binding shown, its word of TEN_t_BIND being `w`. -/
def bindShown (s : State) (t : Nat) (w : Word) : State := (s.setWord (TEN_T_BIND.addr t) w).setBitAt TEN_STATUS.BOUND t true

/-- The registers that a binding writes, before its interrupt. -/
def bindRegs (s : State) (t : Nat) (w : Word) : State := (bindShown s t w).setWord (TEN_T_CRED.addr t) 0

theorem bindNow_eq (s : State) (t n : Nat) : bindNow s t n =
    tenIrq (((bindRegs s t (bindWord n)).modTen t (freshTen (bindShown s t (bindWord n)).uptime)).modTh fun h =>
      { h with reqs := h.reqs.map fun r => if r.t = t then { r with cred := false } else r }) TEN_IRQ.BIND t := rfl

theorem bindRegs_bind (s : State) (t : Fin 4) (w : Word) : (bindRegs s t w).word (TEN_T_BIND.addr t) = w := by
  have apart : TEN_T_CRED.addr t ≠ TEN_T_BIND.addr t ∧ TEN_STATUS.addr ≠ TEN_T_BIND.addr t := by
    simp only [TEN_T_CRED.addr, TEN_T_BIND.addr, TEN_STATUS.addr]
    omega
  rw [bindRegs, State.word_setWord_other _ _ _ _ apart.1]
  exact (State.word_setFld_other _ _ apart.2).trans (State.word_setWord_same ..)

theorem tenIrq_ne_tenWord (t : Fin 4) : TEN_IRQ.addr ≠ TEN_T_BIND.addr t ∧ TEN_IRQ.addr ≠ TEN_T_CRED.addr t := by
  simp only [TEN_T_BIND.addr, TEN_T_CRED.addr, TEN_IRQ.addr]
  omega

section
variable (s : State) (t : Fin 4) (n : Nat)

theorem word_modTen_modTh (f : Ten → Ten) (g : TenH → TenH) (a : Nat) : ((s.modTen t f).modTh g).word a = s.word a := rfl

theorem bindNow_bind : (bindNow s t n).word (TEN_T_BIND.addr t) = bindWord n := by
  obtain ⟨⟨crew, status, irq⟩, -⟩ := tenWord_apart t
  rw [bindNow_eq, tenIrq_word _ _ _ crew status irq (tenIrq_ne_tenWord t).1, word_modTen_modTh, bindRegs_bind]

theorem bindNow_cred : (bindNow s t n).word (TEN_T_CRED.addr t) = 0 := by
  obtain ⟨-, crew, status, irq⟩ := tenWord_apart t
  rw [bindNow_eq, tenIrq_word _ _ _ crew status irq (tenIrq_ne_tenWord t).2, word_modTen_modTh, bindRegs]
  exact State.word_setWord_same ..

theorem bindRegs_th (t : Nat) (w : Word) : (bindRegs s t w).th = s.th := by
  rw [bindRegs, State.setWord_th, bindShown, State.setBitAt, State.setFld_th, State.setWord_th]

/-- The requests that lose their credit are none of a tenant's own record. -/
theorem tenOf_modTen_modTh (t : Nat) (f : Ten → Ten) (g : Req → Req) (h : t < s.th.ten.length) :
    ((((s.modTen t f).modTh fun h => { h with reqs := h.reqs.map g }).th.ten).getD t {}) = f (tenOf s t) := tenOf_modTen f h

theorem bindNow_ten {t : Nat} (h : t < s.th.ten.length) : tenOf (bindNow s t n) t =
    freshTen (bindShown s t (bindWord n)).uptime (tenOf s t) := by
  rw [tenOf, bindNow_eq, tenIrq_th, tenOf_modTen_modTh _ _ _ _ (by rw [bindRegs_th]; exact h), tenOf, bindRegs_th, tenOf]

end

theorem bindNow_binds {s : State} (t : Fin 4) (n : Fin 65536) (h : t.val < s.th.ten.length) :
    bound (bindNow s t n) t = true ∧ (bindNow s t n).fld (TEN_T_BIND.NODE_ID t) = n ∧
      (bindNow s t n).word (TEN_T_CRED.addr t) = 0 ∧ (tenOf (bindNow s t n) t).owed = true ∧
      (tenOf (bindNow s t n) t).tags = [] := by
  obtain ⟨node, bit⟩ := bindWord_fields n
  have word := bindNow_bind s t n
  refine ⟨?_, ?_, bindNow_cred s t n, ?_, ?_⟩
  · rw [bound, State.bit, State.fld]
    exact (congrArg (fun w => wordField w 16 1 == 1) word).trans (beq_iff_eq.mpr bit)
  · rw [State.fld]
    exact (congrArg (fun w => wordField w 0 16) word).trans node
  · rw [bindNow_ten s n h]
    rfl
  · rw [bindNow_ten s n h]
    rfl

/-! ### A binding's end, and credits (R440 to R443, R457, R459) -/

theorem doBindProofTimeout_eq (t : Nat) (s : State) : doBindProofTimeout t s =
    if s.running = true ∧ (tenOf s t).exch.isSome = true then
      bark ((setExch s t none).count (TEN_T_CNT2.BINDFAIL t)) Src.TEN_BIND t else s :=
  ite_congr (by rw [Bool.and_eq_true]) (fun _ => rfl) fun _ => rfl

theorem doTenantIdleTimeout_eq (t : Nat) (s : State) : doTenantIdleTimeout t s =
    if s.running = true ∧ bound s t = true ∧ s.fld (TEN_T_CFG.IDLE_S t) ≠ 0 then
      unbindTenant (s.runTo ((tenOf s t).heard + s.fld (TEN_T_CFG.IDLE_S t) * 1000000000)) t else s :=
  ite_congr (by rw [Bool.and_eq_true, Bool.and_eq_true, bne_iff_ne, and_assoc]) (fun _ => rfl) fun _ => rfl

theorem doCreditTx_eq (t : Nat) (s : State) (l : Nat × Nat × Nat) (f : Frame) (hl : l = creditLimits s t)
    (hf : f = { ty := 7, cls := 1, fbe := 0xFF, payload := toLE 8 (l.2.1 + 2 ^ 16 * l.2.2 + 2 ^ 32 * l.1) }) :
    doCreditTx t s = if s.running = true ∧ bound s t = true ∧ ((tenOf s t).owed = true ∨ l ≠ (tenOf s t).sent) ∧
        ((tcQueue s 0 ++ tcQueue s 1).any fun e => e.f.ty == 7 && e.dst == s.fld (TEN_T_BIND.NODE_ID t)) = false then
      toHost (s.modTen t fun h => { h with owed := false }) t f .plain else s := by
  rw [doCreditTx, ← hl, hf]
  refine ite_congr ?_ (fun _ => rfl) fun _ => rfl
  rw [Bool.and_eq_true, Bool.and_eq_true, Bool.and_eq_true, Bool.or_eq_true, bne_iff_ne, Bool.not_eq_true', and_assoc, and_assoc]

/-! ### Tenant keys (R454) -/

/-- A permitted write of a named register, by what its unit makes of it. -/
theorem doWrite_effect {s : State} {t a : Nat} {v : Word} (x : State × Nat) (lets : Lets s t a true) (al : a % 4 = 0)
    (reg : (findReg a).isSome = true) (effect : ∀ r, writeReg s t a r v = x) : doWrite s t a v = written x.1 t x.2 := by
  obtain ⟨r, hr⟩ := Option.isSome_iff_exists.mp reg
  rw [doWrite_of_lets lets al hr, effect]

theorem doWrite_tkeyData {s : State} {t : Nat} (v : Word) (lets : Lets s t SEC_TKEY_DATA.addr true) :
    doWrite s t SEC_TKEY_DATA.addr v = written (tkeyData s t v).1 t (tkeyData s t v).2 :=
  doWrite_effect _ lets rfl (by decide) fun _ => rfl

theorem doWrite_tkeyCtrl {s : State} {t : Nat} (v : Word) (lets : Lets s t SEC_TKEY_CTRL.addr true) :
    doWrite s t SEC_TKEY_CTRL.addr v = written (tkeyCtrl s t v).1 t (tkeyCtrl s t v).2 :=
  doWrite_effect _ lets rfl (by decide) fun _ => rfl

theorem keyWord_fields (h : Fin 4) : nbit (wordSet 0x80000000 0 2 h).toNat 31 = true ∧
    wordSet 0x80000000 0 2 h &&& 0x7FFFFFFF = BitVec.ofNat 32 h ∧ wordField (wordSet 0x80000000 0 2 h) 0 2 = h := by
  decide +revert

theorem tkeyCtrl_commit (s : State) (t : Nat) (h : Fin 4) (u : State) (key : List Byte) (w : State)
    (hu : u = s.setWord SEC_TKEY_CTRL.addr (BitVec.ofNat 32 h))
    (hkey : key = ((s.th.stag.getD (t - 6) []).map fun w => toLE 4 w.toNat).flatten)
    (hw : w = u.modTh fun m => { m with commit := some (h, key), stag := modAt m.stag (t - 6) fun _ => [] }) :
    tkeyCtrl s t (wordSet 0x80000000 0 2 h) = if t < 6 ∨ s.bit SEC_TKEY_STAT.BUSY = true then (s, 4)
      else if (s.th.stag.getD (t - 6) []).length < 8 then (u.setFld SEC_TKEY_STAT.RESULT 3, 0)
      else if u.bitAt HWD_KEYS_LOCK.LOCKED (1 + h) then (u.setFld SEC_TKEY_STAT.RESULT 4, 0)
      else if u.up fenceHWD = false ∨ u.hwd.closed = true then (u.setFld SEC_TKEY_STAT.RESULT 2, 0)
      else ((w.setFld SEC_TKEY_STAT.RESULT 0).setBit SEC_TKEY_STAT.BUSY true, 0) := by
  obtain ⟨go, kept, host⟩ := keyWord_fields h
  have stag : u.th.stag = s.th.stag := by rw [hu]; rfl
  subst hw
  rw [tkeyCtrl, go, kept, host, ← hu]
  dsimp only
  rw [stag, ← hkey]
  by_cases other : t < 6
  · rw [if_pos other, if_pos (Or.inl other)]
  · refine (if_neg other).trans ((if_neg (by decide)).trans ?_)
    by_cases busy : s.bit SEC_TKEY_STAT.BUSY = true
    · rw [if_pos busy, if_pos (Or.inr busy)]
    · refine (if_neg busy).trans (Eq.trans ?_ (if_neg (not_or.mpr ⟨other, busy⟩)).symm)
      refine ite_congr rfl (fun _ => rfl) fun _ => ite_congr rfl (fun _ => rfl) fun _ => ?_
      exact ite_congr (by rw [Bool.or_eq_true, Bool.not_eq_true']) (fun _ => rfl) fun _ => rfl

/-- A stored key shown in SEC_TKEY_STAT: present, its result OK, the key commit at its end. -/
def keyShown (s : State) (t : Nat) : State :=
  ((s.setBitAt SEC_TKEY_STAT.PRESENT t true).setFld SEC_TKEY_STAT.RESULT 1).setBit SEC_TKEY_STAT.BUSY false

/-- A tenant's exchange given up. -/
def exchDropped (s : State) (t : Nat) : State :=
  (s.modTen t fun h => { h with exch := none }).setBitAt TEN_STATUS.EXCH t false

section
variable (s : State) (t : Nat)

theorem exchDropped_fld {r : FRef} (other : TEN_STATUS.addr ≠ r.addr) : (exchDropped s t).fld r = s.fld r :=
  congrArg (fun w => wordField w r.lo r.wid) (State.word_setFld_other (s.modTen t _) _ other)

theorem keyShown_present (h : t < 4) : (keyShown s t).bitAt SEC_TKEY_STAT.PRESENT t = true := by
  have kept : (keyShown s t).fld SEC_TKEY_STAT.PRESENT = (s.setBitAt SEC_TKEY_STAT.PRESENT t true).fld SEC_TKEY_STAT.PRESENT :=
    (State.fld_setFld_other _ _ _ _ (by decide) (.inr (.inl (by decide)))).trans
      (State.fld_setFld_other _ _ _ _ (by decide) (.inr (.inl (by decide))))
  rw [State.bitAt, kept]
  exact State.bitAt_setBitAt s true (by decide) h

theorem keyShown_result : (keyShown s t).fld SEC_TKEY_STAT.RESULT = 1 :=
  (State.fld_setFld_other _ _ _ _ (by decide) (.inr (.inl (by decide)))).trans (State.fld_setFld _ _ _ (by decide))

theorem keyShown_busy : (keyShown s t).bit SEC_TKEY_STAT.BUSY = false :=
  State.bit_setBit _ _ _ (by decide) (by decide)

end

theorem finishKeyCommit_none {s : State} (idle : s.th.commit = none) : finishKeyCommit s = s := by
  rw [finishKeyCommit, idle]

section
variable {s : State} {t : Nat} {key : List Byte} (commit : s.th.commit = some (t, key))
include commit

theorem finishKeyCommit_fenced (fenced : s.fenced fenceHWD = true) : (finishKeyCommit s).fld SEC_TKEY_STAT.RESULT = 2 := by
  rw [finishKeyCommit, commit]
  refine (congrArg (State.fld · _) (if_pos fenced)).trans ?_
  refine (State.fld_setFld_other _ _ _ _ (by decide) (.inr (.inl (by decide)))).trans ?_
  exact State.fld_setFld _ _ _ (by decide)

theorem finishKeyCommit_stores (open_ : s.fenced fenceHWD = false) : finishKeyCommit s = unbindTenant (exchDropped (keyShown
    ((s.setBytes (0x10000000 + keysOff + 0x1000 * (1 + t)) key).modTh fun h => { h with commit := none }) t) t) t := by
  rw [finishKeyCommit, commit]
  exact if_neg (by rw [open_]; decide)

end

/-- Settles O34: binding messages by the tenant's state, credits, and the tenant keys. -/
theorem tenantBindingComplete : Obligations.TenantBindingComplete := by
  refine ⟨?req, ?proof, ?unbind, fun s g go free => msgCredit_unbound go free,
    fun s g go t u tenant hu => msgCredit_bound go tenant hu,
    fun s x g u v n e hu fresh he => bindReq_eq s x g u v n e hu fresh he, fun s x g stray => bindProof_stray stray,
    fun s x g e u v exch node hu hv => bindProof_eq exch node hu hv, fun s t n h => bindNow_binds t n h,
    fun s t => next_congr (doBindProofTimeout_eq t s), fun s t => rfl, fun s t => next_congr (doTenantIdleTimeout_eq t s),
    ?credit, fun s t l f hl hf => next_congr (doCreditTx_eq t s l f hl hf), ?keyData, ?keyCommit, fun s => rfl,
    fun s idle => finishKeyCommit_none idle,
    fun s t key commit => ⟨finishKeyCommit_fenced commit, ?stores⟩⟩
  case stores =>
    intro open_
    refine ⟨_, finishKeyCommit_stores commit open_, ?_, ?_, ?_⟩
    · rw [State.bitAt, exchDropped_fld _ _ (by decide)]
      exact keyShown_present _ _ t.isLt
    · rw [exchDropped_fld _ _ (by decide)]
      exact keyShown_result ..
    · rw [State.bit, exchDropped_fld _ _ (by decide)]
      exact keyShown_busy ..
  case req =>
    rintro s x f g rfl
    exact next_congr (onFrame_eq ..)
  case proof =>
    rintro s x f g rfl
    exact next_congr (onFrame_eq ..)
  case unbind =>
    rintro s x f g rfl
    exact next_congr (onFrame_eq ..)
  case credit =>
    rintro s x f g rfl
    exact next_congr (onFrame_eq ..)
  case keyData =>
    rintro s t v u lets rfl
    refine next_congr ((doWrite_tkeyData v lets).trans ?_)
    rw [tkeyData]
    split <;> rfl
  case keyCommit =>
    intro s t h u key w lets hu hkey hw
    refine next_congr ((doWrite_tkeyCtrl _ lets).trans ?_)
    rw [tkeyCtrl_commit s t h u key w hu hkey hw]
    simp only [apply_ite Prod.fst, apply_ite Prod.snd]
    split <;> [rfl; split <;> [rfl; split <;> [rfl; split <;> rfl]]]

end Sys2Proof.Machine
end

section
/-! Firmware request slots, own requests and mailboxes (R433, R446, R464, R466 to R468). -/

namespace Sys2Proof.Machine

/-! ### GO (R464, R467) -/

theorem wordSet_go (v : Word) : nbit (wordSet v 31 1 1).toNat 31 = true := by
  rw [nbit, beq_iff_eq]
  exact wordField_wordSet v 31 1 1 (by decide)

theorem hrqWrite_go (s : State) (t q : Nat) (v : Word) : hrqWrite s t q (wordSet v 31 1 1) =
    if t ≠ 7 ∨ s.bit (TEN_HRQ_STAT.BUSY q) = true then (s, 4)
    else (hrqGo (s.setWord (TEN_HRQ_CTRL.addr q) (wordSet v 31 1 1 &&& 0x7FFFFFFF)) q, 0) := by
  rw [hrqWrite, wordSet_go]
  by_cases other : t ≠ 7
  · rw [if_pos other, if_pos (Or.inl other)]
  · rw [if_neg other, if_pos rfl]
    exact ite_congr (by simp [other]) (fun _ => rfl) fun _ => rfl

theorem hrqCtrl_isReg (q : Fin 4) : (findReg (TEN_HRQ_CTRL.addr q)).isSome = true := by decide +revert

theorem hrqCtrl_aligned (q : Fin 4) : TEN_HRQ_CTRL.addr q % 4 = 0 := by decide +revert

theorem writeReg_hrqCtrl (s : State) (t : Nat) (q : Fin 4) (v : Word) (r : RegRow) :
    writeReg s t (TEN_HRQ_CTRL.addr q) r v = hrqWrite s t q v := by
  match q with
  | 0 => rfl
  | 1 => rfl
  | 2 => rfl
  | 3 => rfl

theorem doWrite_hrqGo {s : State} {t : Nat} (q : Fin 4) (v : Word) (lets : Lets s t (TEN_HRQ_CTRL.addr q) true) :
    doWrite s t (TEN_HRQ_CTRL.addr q) (wordSet v 31 1 1) =
      if t ≠ 7 ∨ s.bit (TEN_HRQ_STAT.BUSY q) = true then written s t 4
      else written (hrqGo (s.setWord (TEN_HRQ_CTRL.addr q) (wordSet v 31 1 1 &&& 0x7FFFFFFF)) q) t 0 := by
  rw [doWrite_effect _ lets (hrqCtrl_aligned q) (hrqCtrl_isReg q) (writeReg_hrqCtrl s t q _), hrqWrite_go]
  split <;> rfl

/-- Slot `q` taken up by a request of tenant `t` (R467). -/
def slotTaken (s : State) (q t : Nat) : State :=
  (((s.setBit (TEN_HRQ_STAT.BUSY q) true).setFld (TEN_HRQ_STAT.RESULT q) 0).setFld (TEN_HRQ_STAT.RSTATUS q) 0).modTh
    fun h => { h with slots := modAt h.slots q fun _ => (t, portFor s t) }

theorem State.word_modTh (s : State) (f : TenH → TenH) (a : Nat) : (s.modTh f).word a = s.word a := rfl

section
variable (s : State) (q : Fin 4) (t : Nat)

theorem slotTaken_fld {r : FRef} (other : TEN_HRQ_STAT.addr q ≠ r.addr) : (slotTaken s q t).fld r = s.fld r := by
  have kept : (slotTaken s q t).word r.addr = s.word r.addr := by
    rw [slotTaken, State.word_modTh, State.setBit, State.word_setFld_other _ _ other, State.word_setFld_other _ _ other,
      State.word_setFld_other _ _ other]
  rw [State.fld, kept, State.fld]

theorem slotTaken_bound (_h : t < 4) : bound (slotTaken s q t) t = bound s t := by
  rw [bound, State.bit, slotTaken_fld _ _ _ (by simp only [TEN_T_BIND.BOUND, TEN_T_BIND.addr, TEN_HRQ_STAT.addr]; omega)]
  rfl

theorem slotTaken_portCode (x : Nat) (_h : x < 2) : portCode (slotTaken s q t) x = portCode s x :=
  slotTaken_fld _ _ _ (by simp only [TK_STATUS.PORT, TK_STATUS.addr, TEN_HRQ_STAT.addr]; omega)

theorem slotTaken_fwmsg (_h : t < 4) : (slotTaken s q t).bit (TEN_T_CFG.FWMSG t) = s.bit (TEN_T_CFG.FWMSG t) := by
  rw [State.bit, slotTaken_fld _ _ _ (by simp only [TEN_T_CFG.FWMSG, TEN_T_CFG.addr, TEN_HRQ_STAT.addr]; omega), State.bit]

end

theorem portFor_lt (s : State) (t : Nat) : portFor s t < 2 := by
  rw [portFor]
  split
  · decide
  · decide
  · split <;> decide

section
variable {s : State} {q : Fin 4} {t : Nat} {u : State} (tenant : t = s.fld (TEN_HRQ_CTRL.TENANT q)) (hu : u = slotTaken s q t)
include tenant hu

theorem hrqGo_unbound (free : bound s t = false) : hrqGo s q = endSlot u q 4 := by
  have small : t < 4 := tenant ▸ wordField_lt ..
  have free' : bound u t = false := by rw [hu, slotTaken_bound s q t small, free]
  subst hu tenant
  exact if_pos (by rw [Bool.not_eq_true']; exact free')

theorem hrqGo_down (host : bound s t = true) (down : portCode s (portFor s t) = 0) : hrqGo s q = endSlot u q 5 := by
  have small : t < 4 := tenant ▸ wordField_lt ..
  have host' : bound u t = true := by rw [hu, slotTaken_bound s q t small, host]
  have down' : portCode u (portFor s t) = 0 := by rw [hu, slotTaken_portCode s q t _ (portFor_lt s t), down]
  subst hu tenant
  exact (if_neg (by rw [Bool.not_eq_true', Bool.not_eq_false]; exact host')).trans (if_pos down')

theorem hrqGo_closed (host : bound s t = true) (serves : portCode s (portFor s t) ≠ 0) (op : s.fld (TEN_HRQ_CTRL.OP q) = 3)
    (closed : s.bit (TEN_T_CFG.FWMSG t) = false) : hrqGo s q = endSlot (u.count (TEN_T_CNT.MSGDROP t)) q 4 := by
  have small : t < 4 := tenant ▸ wordField_lt ..
  have host' : bound u t = true := by rw [hu, slotTaken_bound s q t small, host]
  have serves' : portCode u (portFor s t) ≠ 0 := by rw [hu, slotTaken_portCode s q t _ (portFor_lt s t)]; exact serves
  have closed' : u.bit (TEN_T_CFG.FWMSG t) = false := by rw [hu, slotTaken_fwmsg s q t small, closed]
  subst hu tenant
  refine (if_neg (by rw [Bool.not_eq_true', Bool.not_eq_false]; exact host')).trans ((if_neg serves').trans ?_)
  exact (if_neg (by rw [op]; decide)).trans ((if_pos op).trans (if_neg (by rw [Bool.not_eq_true]; exact closed')))

end

/-! ### A slot's end (R468) -/

theorem endSlot_idle {s : State} {q r : Nat} (idle : s.bit (TEN_HRQ_STAT.BUSY q) = false) : endSlot s q r = s :=
  if_neg (by rw [idle]; decide)

/-- Slot `q` shown idle, with its result. -/
def slotEnded (s : State) (q r : Nat) : State := (s.setBit (TEN_HRQ_STAT.BUSY q) false).setFld (TEN_HRQ_STAT.RESULT q) r

theorem endSlot_busy {s : State} {q r : Nat} (busy : s.bit (TEN_HRQ_STAT.BUSY q) = true) :
    endSlot s q r = tenIrq (slotEnded (freeSlotTag s q) q r) TEN_IRQ.HRQ q := if_pos busy

theorem slotEnded_busy (s : State) (q r : Nat) : (slotEnded s q r).bit (TEN_HRQ_STAT.BUSY q) = false :=
  (State.bit_setFld_other _ _ (show 0 + 1 ≤ 32 by decide) (.inr (.inl (show 0 + 1 ≤ 1 by decide)))).trans
    (State.bit_setBit _ _ _ (show 0 + 1 ≤ 32 by decide) rfl)

theorem slotEnded_result (s : State) (q : Nat) {r : Nat} (h : r < 8) : (slotEnded s q r).fld (TEN_HRQ_STAT.RESULT q) = r :=
  (State.fld_setFld _ _ _ (show 1 + 3 ≤ 32 by decide)).trans (Nat.mod_eq_of_lt h)

/-! ### Completions (R433, R446) -/

theorem doCompletionRx_left {s : State} {x : Nat} {f : Frame} (left : portOn s x = false ∨ (f.ty ≠ 1 ∧ f.ty ≠ 4)) :
    doCompletionRx x f s = s := if_neg (by
  rintro ⟨on, ty⟩
  rcases left with off | ⟨no1, no4⟩
  · rw [off] at on
    exact absurd on (by decide)
  · exact ty.elim no1 no4)

section
variable {s : State} {x : Nat} {f : Frame} (on : portOn s x = true) (ty : f.ty = 1 ∨ f.ty = 4)
include on ty

theorem doCompletionRx_taken : doCompletionRx x f s = completion x f s := if_pos ⟨on, ty⟩

theorem doCompletionRx_none (tag : SMap.get (fun _ => none) (s.port x).tags f.tag = none) :
    doCompletionRx x f s = if transBad f then malformed s x else completion.unexpected f s := by
  rw [doCompletionRx_taken on ty, completion, tag]

section
variable {g : OwnTag} {u : State} (tag : SMap.get (fun _ => none) (s.port x).tags f.tag = some g)
  (hu : u = setTag s x f.tag { g with out := false, late := false })
include tag hu

theorem doCompletionRx_bad (out : g.out = true) (bad : cplBad g f = true) : doCompletionRx x f s =
    match g.slot with | some q => endSlot (malformed u x) q 6 | none => malformed u x := by
  rw [doCompletionRx_taken on ty, completion, tag]
  refine (if_pos out).trans ?_
  rw [bad, hu]
  cases g.slot <;> rfl

theorem doCompletionRx_good (out : g.out = true) (good : cplBad g f = false) : doCompletionRx x f s =
    match g.slot with | some q => slotAnswered u q g f | none => u := by
  rw [doCompletionRx_taken on ty, completion, tag]
  refine (if_pos out).trans ?_
  rw [good, hu]
  cases g.slot <;> rfl

theorem doCompletionRx_over (ended : g.out = false) : doCompletionRx x f s =
    if transBad f then malformed s x else if g.late then bark (u.count (TEN_T_CNT2.LATE g.ten)) Src.LATE
    else completion.unexpected f s := by
  rw [doCompletionRx_taken on ty, completion, tag, hu]
  exact if_neg (by rw [ended]; decide)

end
end

theorem slotAnswered_eq (s : State) (q : Nat) (g : OwnTag) (f : Frame) (bs : List Byte)
    (hbs : bs = if g.rd then f.payload.take (0x4000000 - g.buf) else []) : slotAnswered s q g f =
      if f.status ≠ 0 then endSlot (s.setFld (TEN_HRQ_STAT.RSTATUS q) f.status) q 3
      else if bs ≠ [] ∧ (imageLocks s g.buf bs.length = true ∨ entryLocks s g.buf bs.length = true) then
        endSlot (s.setFld (TEN_HRQ_STAT.RSTATUS q) 2) q 3
      else endSlot (s.store g.buf bs) q 1 := by
  rw [slotAnswered, ← hbs]
  by_cases failed : f.status ≠ 0
  · rw [if_pos failed, if_pos failed, if_pos failed]
  · rw [if_neg failed, if_neg failed]
    have locked : (!bs.isEmpty && (imageLocks s g.buf bs.length || entryLocks s g.buf bs.length)) = true ↔
        bs ≠ [] ∧ (imageLocks s g.buf bs.length = true ∨ entryLocks s g.buf bs.length = true) := by
      rw [Bool.and_eq_true, Bool.or_eq_true, Bool.not_eq_true', List.isEmpty_eq_false_iff]
    by_cases lock : bs ≠ [] ∧ (imageLocks s g.buf bs.length = true ∨ entryLocks s g.buf bs.length = true)
    · rw [if_pos (locked.mpr lock), if_pos (by decide), if_pos lock]
    · rw [if_neg (locked.not.mpr lock), if_neg (by decide), if_neg lock]

/-! ### Timeouts (R446, R468) -/

theorem doCompletionTimeout_none {s : State} {x tag : Nat} (free : SMap.get (fun _ => none) (s.port x).tags tag = none) :
    doCompletionTimeout x tag s = s := by
  rw [doCompletionTimeout, free]

theorem doCompletionTimeout_some {s : State} {x tag : Nat} {g : OwnTag} {u : State}
    (own : SMap.get (fun _ => none) (s.port x).tags tag = some g)
    (hu : u = setTag (s.runTo (g.sentAt + clampN 10 1000000 (s.fld TEN_CTO.US) * 1000)) x tag { g with out := false, late := true }) :
    doCompletionTimeout x tag s = if s.running = true ∧ g.out = true then
      (match g.slot with | some q => endSlot u q 2 | none => u) else s := by
  rw [doCompletionTimeout, own, hu]
  refine ite_congr (by rw [Bool.and_eq_true]) (fun _ => ?_) fun _ => rfl
  cases g.slot <;> rfl

theorem doHrqCreditTimeout_eq (q : Nat) (s : State) (t : Nat) (mine : Nat → EgFrame → Bool) (ht : t = (s.th.slots.getD q (0, 0)).1)
    (hmine : mine = fun u e => u == t && e.use == .slot q && !hostCreditOk s t e.f) : doHrqCreditTimeout q s =
      if s.running = true ∧ s.bit (TEN_HRQ_STAT.BUSY q) = true ∧
        ((List.range 2).any fun x => (List.range 6).any fun c => (egQueue s (qkey x t c)).any (mine t)) = true then
      endSlot (emptyQueues (emptyQueues s 0 mine fun s _ => s) 1 mine fun s _ => s) q 7 else s := by
  subst ht hmine
  exact ite_congr (by rw [Bool.and_eq_true, Bool.and_eq_true, and_assoc]) (fun _ => rfl) fun _ => rfl

/-! ### POP (R466) -/

theorem mbPop_isReg (m : Fin 4) : (findReg (TEN_MB_POP.addr m)).isSome = true := by decide +revert

theorem mbPop_aligned (m : Fin 4) : TEN_MB_POP.addr m % 4 = 0 := by decide +revert

theorem writeReg_mbPop (s : State) (t : Nat) (m : Fin 4) (v : Word) (r : RegRow) :
    writeReg s t (TEN_MB_POP.addr m) r v = (popMailbox (plainWrite s r (TEN_MB_POP.addr m) v) m v, 0) := by
  match m with
  | 0 => rfl
  | 1 => rfl
  | 2 => rfl
  | 3 => rfl

theorem doWrite_mbPop {s : State} {t : Nat} (m : Fin 4) (v : Word) (lets : Lets s t (TEN_MB_POP.addr m) true) :
    doWrite s t (TEN_MB_POP.addr m) v = written (popMailbox (s.put (TEN_MB_POP.addr m) v) m v) t 0 :=
  doWrite_named (fun u => popMailbox u m v) lets (mbPop_aligned m) (mbPop_isReg m) fun r => writeReg_mbPop s t m v r

theorem popMailbox_eq (s : State) (m : Nat) (v : Word) : popMailbox s m v =
    if v.getLsbD 0 then showMailbox (s.modTen m fun h => { h with mbox := h.mbox.drop 1 }) m else s := by
  rw [popMailbox, nbit_eq_testBit, BitVec.testBit_toNat]

/-- Settles O35: GO by the slot's and the tenant's state, a completion by the tag that it names, the timeouts, POP. -/
theorem requestSlotsComplete : Obligations.RequestSlotsComplete := by
  refine ⟨fun s t q v lets => ?go, fun s q t u tenant hu => ⟨hrqGo_unbound tenant hu, hrqGo_down tenant hu, hrqGo_closed tenant hu⟩,
    fun s x f left => next_congr (doCompletionRx_left left),
    fun s x f g u on ty tag out hu => ⟨fun bad => next_congr (doCompletionRx_bad on ty tag hu out bad |>.trans ?bad),
      fun good => next_congr (doCompletionRx_good on ty tag hu out good |>.trans ?good)⟩,
    fun s q g f bs hbs => slotAnswered_eq s q g f bs hbs,
    fun s x f g u on ty tag ended hu => next_congr (doCompletionRx_over on ty tag hu ended),
    fun s x f on ty tag => next_congr (doCompletionRx_none on ty tag), fun s f => ?unexpected,
    fun s x tag g u own hu => next_congr (doCompletionTimeout_some own hu |>.trans ?timeout),
    fun s x tag free => next_congr (doCompletionTimeout_none free),
    fun s q t mine ht hmine => next_congr (doHrqCreditTimeout_eq q s t mine ht hmine), fun s t m v u lets hu => ?pop,
    fun s q r h => ⟨endSlot_idle, fun busy =>
      ⟨_, endSlot_busy busy, slotEnded_busy .., slotEnded_result _ _ h⟩⟩⟩
  case go =>
    have effect := fun v => next_congr (doWrite_hrqGo q v lets)
    exact ⟨effect _, effect _, effect _, effect _⟩
  case bad => rfl
  case good => rfl
  case timeout => rfl
  case unexpected => rfl
  case pop =>
    subst hu
    exact next_congr ((doWrite_mbPop m v lets).trans (congrArg (written · t 0) (popMailbox_eq ..)))

end Sys2Proof.Machine
end

section
/-! The lanes of the trunk ports: their events and commands (R400 to R403, R410, R420). -/

namespace Sys2Proof.Machine

/-! ### What a lane's own status leaves of the port (R183, R401) -/

theorem State.running_of_pwr {s u : State} (h : u.pwr = s.pwr) : u.running = s.running := by
  simp only [State.running, State.railsOn, h]

/-- A register that is neither the fences nor the unit resets leaves the units up as they are. -/
theorem State.up_setFld (s : State) {r : FRef} (n : Nat) (f : Nat) (fence : r.addr ≠ BRK_FENCE.addr)
    (reset : r.addr ≠ SYS_URST_STAT.addr) : (s.setFld r n).up f = s.up f := by
  have kept : (s.setFld r n).sys = s.sys ∧ (s.setFld r n).pwr = s.pwr := ⟨rfl, rfl⟩
  simp only [State.up, State.fenced, State.inUnitReset, State.grvResetsOne, State.running_of_pwr kept.2,
    State.word_setFld_other s n fence, State.word_setFld_other s n reset, kept.1]

/-- The status word of a lane is none of the words that say whether its port works, nor its configuration. -/
theorem laneStat_apart (x l : Fin 2) : TK_LANE_STAT.addr x l ≠ BRK_FENCE.addr ∧ TK_LANE_STAT.addr x l ≠ SYS_URST_STAT.addr ∧
    TK_LANE_STAT.addr x l ≠ TK_LANE_CFG.addr x l := by decide +revert

theorem portOn_setLaneStat (s : State) (x l : Fin 2) (r : FRef) (b : Bool) (hr : r.addr = TK_LANE_STAT.addr x l) :
    portOn (s.setBit r b) x = portOn s x := by
  obtain ⟨fence, reset, -⟩ := laneStat_apart x l
  exact State.up_setFld s _ _ (hr ▸ fence) (hr ▸ reset)

theorem lanePmd_setLaneStat (s : State) (x l : Fin 2) (r : FRef) (b : Bool) (hr : r.addr = TK_LANE_STAT.addr x l) :
    (s.setBit r b).bit (TK_LANE_CFG.PMD x l) = s.bit (TK_LANE_CFG.PMD x l) :=
  State.bit_setBit_other s b (show 1 + 1 ≤ 32 by decide) (.inl (hr ▸ (laneStat_apart x l).2.2))

/-! ### Signals and locks (R400, R401) -/

section
variable (s : State) (x l : Fin 2)

theorem doLaneModulePresent_eq (u : State)
    (hu : u = (s.setBit (TK_LANE_STAT.MODABS x l) false).setBit (TK_LANE_STAT.LOS x l) false) :
    doLaneModulePresent x l s = if portOn s x = false then s
      else if laneState u x l = 1 then (setLane u x l 3).setBit (TK_LANE_STAT.SIGDET x l) true else u := by
  have same : portOn u x = portOn s x := by
    rw [hu, portOn_setLaneStat _ _ _ _ _ rfl, portOn_setLaneStat _ _ _ _ _ rfl]
  rw [doLaneModulePresent, ← hu]
  cases on : portOn s x with
  | false =>
    rw [if_neg Bool.false_ne_true, on]
    rfl
  | true =>
    rw [if_pos rfl, same, on, Bool.true_and, if_neg (c := true = false) Bool.noConfusion]
    exact ite_congr (by rw [beq_iff_eq]) (fun _ => rfl) fun _ => rfl

theorem sfiLost_eq (u : State) : sfiLost u x l =
    if u.bit (TK_LANE_CFG.PMD x l) = true ∧ 1 < laneState u x l then laneRestart u x l else u :=
  ite_congr (by rw [Bool.and_eq_true, decide_eq_true_eq]) (fun _ => rfl) fun _ => rfl

theorem doLaneModabsRise_eq (u : State) (hu : u = s.setBit (TK_LANE_STAT.MODABS x l) true) :
    doLaneModabsRise x l s = if portOn s x = false then s
      else if u.bit (TK_LANE_CFG.PMD x l) = true ∧ 1 < laneState u x l then laneRestart u x l else u := by
  rw [doLaneModabsRise, ← hu, sfiLost_eq, ite_flag]

theorem doLaneLos_eq (u v : State) (hu : u = s.setBit (TK_LANE_STAT.LOS x l) true)
    (hv : v = u.setBit (TK_LANE_STAT.SIGDET x l) false) :
    doLaneLos x l s = if portOn s x = false then s else if u.bit (TK_LANE_CFG.PMD x l) = false then u
      else if 1 < laneState v x l then laneRestart v x l else v := by
  have same : v.bit (TK_LANE_CFG.PMD x l) = u.bit (TK_LANE_CFG.PMD x l) := hv ▸ lanePmd_setLaneStat u x l _ _ rfl
  rw [doLaneLos, ← hu, ite_flag]
  dsimp only
  rw [← hv]
  refine ite_congr rfl (fun _ => rfl) fun _ => ?_
  cases pmd : u.bit (TK_LANE_CFG.PMD x l) with
  | false => rw [if_neg (by decide), sfiLost_eq, if_neg (by rw [pmd]; simp), if_pos rfl]
  | true =>
    rw [if_pos rfl, sfiLost_eq, same, pmd, if_neg (c := true = false) Bool.noConfusion]
    exact ite_congr (by simp) (fun _ => rfl) fun _ => rfl

theorem doLaneTrainDone_eq : doLaneTrainDone x l s =
    if portOn s x = true ∧ laneState s x l = 2 then (setLane s x l 3).setBit (TK_LANE_STAT.SIGDET x l) true else s :=
  ite_congr (by rw [Bool.and_eq_true, beq_iff_eq]) (fun _ => rfl) fun _ => rfl

theorem doLaneTrainTimeout_eq : doLaneTrainTimeout x l s = if portOn s x = true ∧ laneState s x l = 2 then
    laneEvent (laneRestart (s.count (TK_LANE_CNT.TRAIN_FAIL x l)) x l) x else s :=
  ite_congr (by rw [Bool.and_eq_true, beq_iff_eq]) (fun _ => rfl) fun _ => rfl

theorem doLaneBlockLock_eq : doLaneBlockLock x l s = if portOn s x = true ∧ laneState s x l = 3 then
    setLane s x l (if s.bit (TK_LANE_CFG.FEC x l) then 4 else 5) else s :=
  ite_congr (by rw [Bool.and_eq_true, beq_iff_eq]) (fun _ => rfl) fun _ => rfl

theorem doLaneFecLock_eq : doLaneFecLock x l s = if portOn s x = true ∧ laneState s x l = 4 then setLane s x l 5 else s :=
  ite_congr (by rw [Bool.and_eq_true, beq_iff_eq]) (fun _ => rfl) fun _ => rfl

theorem doLaneStateTimeout_eq : doLaneStateTimeout x l s =
    if portOn s x = true ∧ 3 ≤ laneState s x l ∧ laneState s x l ≤ 5 ∧ s.bit (TK_LANE_STAT.MISMATCH x l) = false then
      laneRestart s x l else s := by
  refine ite_congr ?_ (fun _ => rfl) fun _ => rfl
  simp only [Bool.and_eq_true, decide_eq_true_eq, Bool.not_eq_true', and_assoc]

theorem doLaneLockLoss_block : doLaneLockLoss x l false s =
    if portOn s x = true ∧ s.bit (TK_LANE_STAT.BLOCK_LOCK x l) = true then
      laneRestart (s.count (TK_LANE_CNT.BAD_SH x l) 16) x l else s :=
  ite_congr (by rw [← Bool.and_eq_true]; rfl) (fun _ => rfl) fun _ => rfl

theorem doLaneLockLoss_fec : doLaneLockLoss x l true s =
    if portOn s x = true ∧ s.bit (TK_LANE_STAT.FEC_LOCK x l) = true then laneRestart s x l else s :=
  ite_congr (by rw [← Bool.and_eq_true]; rfl) (fun _ => rfl) fun _ => rfl

theorem laneRestart_eq : laneRestart s x l =
    if laneState s x l = 6 then laneEvent (portEval (setLane s x l (firstState s x l)) x) x
    else portEval (setLane s x l (firstState s x l)) x :=
  ite_congr (by rw [isUp, beq_iff_eq]) (fun _ => rfl) fun _ => rfl

/-! ### A lane HELLO (R402, R716) -/

theorem doLaneHelloTx_eq (id st : Nat) (u : State) (f : Frame) (v w : State)
    (hid : id = if s.fld (TK_ID.NODE_ID x) = 0 ∨ s.fld (TK_ID.NODE_ID x) = 65535 then 1 else s.fld (TK_ID.NODE_ID x))
    (hst : st = laneState s x l)
    (hu : u = s.modPort x fun p => { p with effId := if portCode s x = 0 then id else p.effId, line := [] })
    (hf : f = stamped u x (linkFrame 8 0 (helloWord u x l)))
    (hv : v = putBlks u x (1 + l) l (frameBlks (wireBytes f 0xFFFF 0xFFFF)))
    (hw : w = (frameSent v x { f := f, dst := 0xFFFF }).modLane x l fun n => { n with helloTx := st == 5 || n.helloTx }) :
    doLaneHelloTx x l s = if portOn s x = true ∧ (st = 5 ∨ (st ≠ 0 ∧ s.bitAt (TK_STATUS.TXMASK x) l = false)) then
      helloDone w x l else s := by
  rw [hw, hv, hf, hu, hid, hst]
  refine ite_congr ?_ (fun _ => rfl) fun _ => rfl
  rw [Bool.and_eq_true, Bool.or_eq_true, beq_iff_eq, Bool.and_eq_true, bne_iff_ne, Bool.not_eq_true']

/-! ### Configuration and RETRAIN (R401, R420) -/

theorem laneCfg_isReg : (findReg (TK_LANE_CFG.addr x l)).isSome = true ∧ TK_LANE_CFG.addr x l % 4 = 0 := by decide +revert

theorem tkCtrl_isReg : (findReg (TK_CTRL.addr x)).isSome = true ∧ TK_CTRL.addr x % 4 = 0 := by decide +revert

/-- What a write of a lane's configuration does beyond the register. -/
def laneCfgShown (s : State) (x l : Nat) (u : State) : State :=
  if u.word (TK_LANE_CFG.addr x l) = s.word (TK_LANE_CFG.addr x l) then u else laneRestart u x l

theorem writeReg_laneCfg (t : Nat) (v : Word) (r : RegRow) : writeReg s t (TK_LANE_CFG.addr x l) r v =
    (laneCfgShown s x l (plainWrite s r (TK_LANE_CFG.addr x l) v), 0) := by
  match x, l with
  | 0, 0 => rfl
  | 0, 1 => rfl
  | 1, 0 => rfl
  | 1, 1 => rfl

/-- What a write of `v` to a port's TKx_CTRL does beyond the register. -/
def tkCtrlShown (s : State) (x : Nat) (v : Word) (u : State) : State :=
  let w := if u.bit (TK_CTRL.EN x) = s.bit (TK_CTRL.EN x) then u else portEnChanged u x
  if nbit v.toNat 1 && portOn w x then retrain w x else w

theorem writeReg_tkCtrl (t : Nat) (v : Word) (r : RegRow) : writeReg s t (TK_CTRL.addr x) r v =
    (tkCtrlShown s x v (plainWrite s r (TK_CTRL.addr x) v), 0) := by
  match x with
  | 0 => rfl
  | 1 => rfl

end

theorem doWrite_laneCfg {s : State} {t : Nat} (x l : Fin 2) (v : Word) (lets : Lets s t (TK_LANE_CFG.addr x l) true) :
    doWrite s t (TK_LANE_CFG.addr x l) v = written (laneCfgShown s x l (s.put (TK_LANE_CFG.addr x l) v)) t 0 :=
  doWrite_named (laneCfgShown s x l) lets (laneCfg_isReg x l).2 (laneCfg_isReg x l).1 fun r => writeReg_laneCfg s x l t v r

theorem doWrite_tkCtrl {s : State} {t : Nat} (x : Fin 2) (v : Word) (lets : Lets s t (TK_CTRL.addr x) true) :
    doWrite s t (TK_CTRL.addr x) v = written (tkCtrlShown s x v (s.put (TK_CTRL.addr x) v)) t 0 :=
  doWrite_named (tkCtrlShown s x v) lets (tkCtrl_isReg x).2 (tkCtrl_isReg x).1 fun r => writeReg_tkCtrl s x t v r

/-- The word of RETRAIN, with EN as it stands. -/
theorem retrainWord (s : State) (x : Nat) : wordSet 2 0 1 (s.fld (TK_CTRL.EN x)) = if s.bit (TK_CTRL.EN x) then 3 else 2 := by
  have small : s.fld (TK_CTRL.EN x) < 2 := wordField_lt ..
  rw [State.bit]
  generalize s.fld (TK_CTRL.EN x) = n at small
  interval_cases n <;> rfl

theorem tkCtrlShown_retrain {s : State} {x : Nat} {b : Bool} {u v : State}
    (hv : v = if u.bit (TK_CTRL.EN x) = s.bit (TK_CTRL.EN x) then u else portEnChanged u x) :
    tkCtrlShown s x (if b then 3 else 2) u = if portOn v x then retrain v x else v := by
  have go : nbit (if b then 3 else 2 : Word).toNat 1 = true := by cases b <;> rfl
  rw [tkCtrlShown, go, ← hv, Bool.true_and]

theorem doPortRetrainEnd_eq (x : Nat) (s : State) : doPortRetrainEnd x s =
    if s.running = true ∧ (s.port x).idle = true then restartPort (s.modPort x fun p => { p with idle := false }) x else s :=
  ite_congr (by rw [Bool.and_eq_true]) (fun _ => rfl) fun _ => rfl

/-- Settles O29: a lane's events by its state and its port's, its HELLO, its configuration, and RETRAIN. -/
theorem laneCommandsComplete : Obligations.LaneCommandsComplete := by
  refine ⟨fun s x l u hu => next_congr (fromLands_guarded (doLaneModulePresent_eq s x l u hu) Iff.rfl),
    fun s x l u hu => next_congr (fromLands_guarded (doLaneModabsRise_eq s x l u hu) Iff.rfl),
    fun s x l u v hu hv => next_congr (fromLands_guarded (doLaneLos_eq s x l u v hu hv) Iff.rfl),
    fun s x l => next_congr (doLaneTrainDone_eq s x l), fun s x l => next_congr (doLaneTrainTimeout_eq s x l),
    fun s x l => next_congr (doLaneBlockLock_eq s x l), fun s x l => next_congr (doLaneFecLock_eq s x l),
    fun s x l => next_congr (doLaneStateTimeout_eq s x l),
    fun s x l => ⟨next_congr (doLaneLockLoss_block s x l), next_congr (doLaneLockLoss_fec s x l)⟩, ?cfg,
    fun s x l => laneRestart_eq s x l,
    fun s x l id st u f v w hid hst hu hf hv hw => next_congr (doLaneHelloTx_eq s x l id st u f v w hid hst hu hf hv hw),
    fun s x l => rfl, ?retrain, fun s x => next_congr (doPortRetrainEnd_eq x s)⟩
  case cfg =>
    rintro s t x l v u lets rfl
    exact next_congr (doWrite_laneCfg x l v lets)
  case retrain =>
    rintro s t x u v lets rfl hv
    refine next_congr ((congrArg (doWrite s t (TK_CTRL.addr x)) (retrainWord s x)).trans ?_)
    rw [doWrite_tkCtrl x _ lets, tkCtrlShown_retrain hv]

end Sys2Proof.Machine
end

section
/-! A REQ of a NEXT_SEQ that the port has not reached (R421). -/

namespace Sys2Proof.Machine

/-- Where port A's replay starts after a step. -/
def replayPosAfter : Host.Outcome State Fault Refusal → Option Nat
  | .next t => some (t.port 0).pos
  | _ => none

/-- A node in RUN with its service port, whose port A serves and holds one frame for replay. TKA_CHK is MAJOR, and an event of it is owed to Bark. -/
def owesPortFence : State :=
  let s := { State.reset with pwr := { mode := .run, base := .run, booted := true } }
  let s := (((s.setBit SYS_STRAP.SVC_EN true).setFld (TK_STATUS.PORT 0) 1).setFld (TK_SEQ.TX 0) 1).setFld (BRK_SRC_CFG.BASE Src.TKA_CHK) 2
  (s.modPort 0 fun p => { p with held := [(0, { f := {} })] }).modMot fun m => { m with owed := [(Src.TKA_CHK, 0)] }

/-- The state after the LINKERR of the REQ: the owed event has fenced port A, and it holds no frame any more. -/
def afterLinkErr : State := bark (owesPortFence.count (TK_CNT2.LINKERR 0)) Src.TRK_PROTO

/-- The model starts the replay after the frames that port A holds by then. -/
theorem replayPosAfter_resyncReq : replayPosAfter (exec (.resyncReqRx 0 2 5) owesPortFence) = some 0 := by decide +kernel

/-- The statement starts it after those that it held before. -/
theorem replayPosAfter_stated : replayPosAfter (.next (pushLink (afterLinkErr.modPort 0 fun p =>
    { p with answered := some (1, 5, 0), pos := Nat.min (owesPortFence.port 0).held.length 1 }) 0
      (linkFrame 9 1 (1 + 2 ^ 16 * 5 + 2 ^ 32 * 0)))) = some 1 := by decide +kernel

/-- Refutes O30: a REQ beyond the next SEQ raises TRK_PROTO before the replay is set, and Bark then takes an owed event as well
(`mot.owed`). Where that event fences the port, the frames held are gone: the model bounds the replay's start by the frames held
after it, the statement by those held before. -/
theorem not_linkLayerComplete : ¬ Obligations.LinkLayerComplete := by
  rintro ⟨-, -, -, -, -, -, -, -, -, -, -, -, -, -, -, -, -, -, -, -, req, -⟩
  have step := req owesPortFence 0 2 5 1 0 65534 1 1 0 afterLinkErr (by decide +kernel) (by decide +kernel) (by decide) (by decide)
    (by decide) rfl (by decide +kernel) (by decide +kernel) (by decide +kernel)
  have started : some 0 = some 1 :=
    replayPosAfter_resyncReq.symm.trans ((congrArg replayPosAfter step).trans replayPosAfter_stated)
  exact absurd started (by decide)

end Sys2Proof.Machine
end

section
/-! Starting cores, watchdogs, pending interrupts and the crew cores' own CSRs (R368 to R376, R388). -/

namespace Sys2Proof.Machine

/-! ### RELEASE and the watchdogs (R368, R371) -/

theorem crewCtl_isReg (n : Fin 4) : ((findReg (CRW_CORE_CTL.addr n)).isSome = true ∧ CRW_CORE_CTL.addr n % 4 = 0) ∧
    (findReg (CRW_WDOG_KICK.addr n)).isSome = true ∧ CRW_WDOG_KICK.addr n % 4 = 0 := by decide +revert

/-- A write of `v` to a core's control register: the state and the status. -/
def coreCtlWritten (s : State) (n : Nat) (v : Word) : State × Nat :=
  if v.getLsbD 0 = false then (s.put (CRW_CORE_CTL.addr n) v, 0)
  else if coreState s n = 0 ∧ s.fenced (fenceCRW n) = false ∧ s.inUnitReset (11 + n) = false ∧
      bootAddrOk n (s.fld (CRW_BOOT_ADDR.ADDR n)) = true then (startCore (s.put (CRW_CORE_CTL.addr n) v) n, 0)
  else (s, 4)

theorem writeReg_coreCtl (s : State) (t : Nat) (n : Fin 4) (v : Word) {r : RegRow} (hr : findReg (CRW_CORE_CTL.addr n) = some r) :
    writeReg s t (CRW_CORE_CTL.addr n) r v = coreCtlWritten s n v := by
  have effect : writeReg s t (CRW_CORE_CTL.addr n) r v =
      if !nbit v.toNat 0 then (plainWrite s r (CRW_CORE_CTL.addr n) v, 0)
      else if coreState s n = 0 && !s.fenced (fenceCRW n) && !s.inUnitReset (11 + n) && bootAddrOk n (s.fld (CRW_BOOT_ADDR.ADDR n)) then
        (startCore (plainWrite s r (CRW_CORE_CTL.addr n) v) n, 0)
      else (s, 4) := by
    match n with
    | 0 => rfl
    | 1 => rfl
    | 2 => rfl
    | 3 => rfl
  rw [effect, coreCtlWritten, State.put_of_findReg hr, nbit_eq_testBit, BitVec.testBit_toNat]
  refine ite_congr (by rw [Bool.not_eq_true']) (fun _ => rfl) fun _ => ite_congr ?_ (fun _ => rfl) fun _ => rfl
  rw [Bool.and_eq_true, Bool.and_eq_true, Bool.and_eq_true, decide_eq_true_eq, Bool.not_eq_true', Bool.not_eq_true', and_assoc, and_assoc]

theorem doWrite_coreCtl {s : State} {t : Nat} (n : Fin 4) (v : Word) (lets : Lets s t (CRW_CORE_CTL.addr n) true) :
    doWrite s t (CRW_CORE_CTL.addr n) v = written (coreCtlWritten s n v).1 t (coreCtlWritten s n v).2 := by
  obtain ⟨⟨reg, al⟩, -⟩ := crewCtl_isReg n
  obtain ⟨r, hr⟩ := Option.isSome_iff_exists.mp reg
  rw [doWrite_of_lets lets al hr, writeReg_coreCtl s t n v hr]

theorem writeReg_wdogKick (s : State) (t : Nat) (n : Fin 4) (v : Word) (r : RegRow) :
    writeReg s t (CRW_WDOG_KICK.addr n) r v = (if v = 0x4B49 then wdogNote s n 0 else s, 0) := by
  match n with
  | 0 => rfl
  | 1 => rfl
  | 2 => rfl
  | 3 => rfl

theorem doWrite_wdogKick {s : State} {t : Nat} (n : Fin 4) (v : Word) (lets : Lets s t (CRW_WDOG_KICK.addr n) true) :
    doWrite s t (CRW_WDOG_KICK.addr n) v = written (if v = 0x4B49 then wdogNote s n 0 else s) t 0 := by
  obtain ⟨-, reg, al⟩ := crewCtl_isReg n
  exact doWrite_leaves lets al reg fun r _ => writeReg_wdogKick s t n v r

theorem doWdogExpiry_eq (s : State) (n : Nat) (u : State) (hu : u = s.advanceTo (s.tim.now + wdogLeft s n)) :
    doWdogExpiry n s = if s.running = true ∧ s.bit (CRW_WDOG.EN n) = true ∧ (coreState s n = 1 ∨ coreState s n = 2) then
      bark ((wdogNote u n 0).count (CRW_CNT.WDOG n)) Src.CRW_WDOG n else s := by
  rw [hu]
  refine ite_congr ?_ (fun _ => rfl) fun _ => rfl
  rw [Bool.and_eq_true, Bool.and_eq_true, wdogRuns, Bool.or_eq_true, beq_iff_eq, beq_iff_eq, and_assoc]

/-- A reload leaves the core's state. -/
theorem coreState_wdogNote (s : State) (n m used : Nat) : coreState (wdogNote s n used) m = coreState s m := rfl

theorem wdogSpent_wdogNote {s : State} {n : Nat} (used : Nat) (h : n < s.crw.cores.length) :
    wdogSpent (wdogNote s n used) n = used := by
  have core : (wdogNote s n used).crw.cores.getD n {} =
      { s.crw.cores.getD n {} with wdogAt := s.uptime, wdogUsed := used } := modAt_getD _ _ _ _ h
  have none_since : (wdogNote s n used).uptime - s.uptime = 0 := Nat.sub_self _
  rw [wdogSpent, core]
  dsimp only
  rw [none_since, ite_self, Nat.add_zero]

/-! ### What user mode may not do (R371, R376, R388) -/

theorem csrWrite_wdkick (u : State) (n : Nat) (v : Word) :
    csrWrite u n csrWdkick v = if v = 0x4B49 then wdogNote u n 0 else u :=
  (if_neg (by decide)).trans ((if_neg (by decide)).trans (if_pos rfl))

/-- A CSR of the last quarter of the space is read-only. -/
theorem csr_readOnly_iff (c : BitVec 12) : c.toNat / 1024 = 3 ↔ 0xC00 ≤ c.toNat := by
  have := c.isLt
  omega

/-- What a write of CSR `c` does once it is executed. -/
def csrWriteAt (n c : Nat) (v : Word) (u : State) : State :=
  if ((coreOf u n).user && c / 256 % 4 != 0) || c / 1024 == 3 || (csrMask c).isNone then illegal u n
  else csrWrite (retire u n) n c v

theorem csrWriteAt_illegal {u : State} {n : Nat} {c : BitVec 12} (v : Word)
    (bad : ((coreOf u n).user = true ∧ c.toNat / 256 % 4 ≠ 0) ∨ 0xC00 ≤ c.toNat ∨ csrMask c.toNat = none) :
    csrWriteAt n c.toNat v u = raiseExc u n 2 0 := if_pos (by
  rw [Bool.or_eq_true, Bool.or_eq_true, Bool.and_eq_true, bne_iff_ne, beq_iff_eq, csr_readOnly_iff, Option.isNone_iff_eq_none,
    or_assoc]
  exact bad)

theorem csrWriteAt_machine {u : State} {n : Nat} {c : BitVec 12} (v : Word) (machine : (coreOf u n).user = false)
    (writable : c.toNat < 0xC00) (isCsr : (csrMask c.toNat).isSome = true) :
    csrWriteAt n c.toNat v u = csrWrite (retire u n) n c.toNat v := if_neg (by
  have below : ¬ c.toNat / 1024 = 3 := (csr_readOnly_iff c).not.mpr (by omega)
  rw [machine, Bool.false_and, Bool.false_or, Bool.or_eq_true, beq_iff_eq, Option.isNone_iff_eq_none, not_or]
  exact ⟨below, fun h => by rw [h] at isCsr; exact Bool.noConfusion isCsr⟩)

/-! ### Pending interrupts (R372, R375) -/

theorem doPlicSourceEvent_eq (s : State) (i : Nat) : doPlicSourceEvent i s =
    if s.running = true ∧ 0 < i ∧ i < 25 then plicRaise s i else s :=
  ite_congr (by rw [Bool.and_eq_true, Bool.and_eq_true, decide_eq_true_eq, decide_eq_true_eq, and_assoc]) (fun _ => rfl) fun _ => rfl

/-- Settles O25: RELEASE, watchdogs, pending interrupts, and what a core's own CSR commands do. -/
theorem crewControlComplete : Obligations.CrewControlComplete := by
  refine ⟨fun s t n v lets => next_congr ((doWrite_coreCtl n v lets).trans ?release),
    fun s n u hu => next_congr (doWdogExpiry_eq s n u hu), fun s n h => wdogSpent_wdogNote 0 h,
    fun s t n v lets => next_congr (doWrite_wdogKick n v lets),
    fun s n v => ⟨_, rfl, fun u user => if_pos user, fun u machine => (if_neg (by rw [machine]; exact Bool.false_ne_true)).trans
      (csrWrite_wdkick _ n v)⟩,
    fun s i => next_congr (doPlicSourceEvent_eq s i), fun s n => rfl,
    fun s n rd => ⟨_, rfl, fun u user => if_pos user, fun u machine => ⟨Config.freeValue u.free % 25, by omega,
      if_neg (by rw [machine]; exact Bool.false_ne_true)⟩⟩,
    fun s n c v => ⟨csrWriteAt n c.toNat v, rfl, fun u bad => csrWriteAt_illegal v bad,
      fun u machine writable isCsr => csrWriteAt_machine v machine writable isCsr⟩,
    fun s u n f ex => onCore_executes s u n 4 f ex⟩
  case release =>
    rw [coreCtlWritten]
    split
    · rfl
    · split <;> rfl

end Sys2Proof.Machine
end

section
/-! The debug module and the JTAG port (R396, R397, R683, R684). -/

namespace Sys2Proof.Machine

/-! ### Run control (R397) -/

theorem dbgAvail_iff (s : State) (n : Fin 4) : dbgAvail s n = true ↔ s.running = true ∧ s.bitAt CRW_DBG.EN n = true := by
  rw [dbgAvail, Bool.and_eq_true, Bool.and_eq_true, decide_eq_true_eq]
  exact ⟨fun h => ⟨h.1.1, h.2⟩, fun h => ⟨⟨h.1, n.isLt⟩, h.2⟩⟩

theorem doDebugHaltReq_eq (s : State) (n : Fin 4) : doDebugHaltReq n s =
    if s.running = true ∧ s.bitAt CRW_DBG.EN n = true ∧ coreState s n < 3 then
      haltNow (modCore s n fun c => { c with halt := some 3 }) n else s :=
  ite_congr (by rw [Bool.and_eq_true, dbgAvail_iff, decide_eq_true_eq, and_assoc]) (fun _ => rfl) fun _ => rfl

theorem wdogRuns_iff (s : State) (n : Nat) : wdogRuns s n = true ↔ coreState s n = 1 ∨ coreState s n = 2 := by
  rw [wdogRuns, Bool.or_eq_true, beq_iff_eq, beq_iff_eq]

section
variable {s v : State} {n c : Nat} (halt : (coreOf s n).halt = some c)
include halt

theorem haltNow_enters (hv : v = modCore s n fun k => { k with halt := none }) (runs : coreState s n = 1 ∨ coreState s n = 2)
    (free : loadAtRack s n = false) : haltNow s n = if v.bitAt CRW_DBG.EN n then debugEnter v n c else v := by
  rw [haltNow, halt, hv]
  exact if_pos (by rw [(wdogRuns_iff s n).mpr runs, free]; rfl)

theorem haltNow_waits (waits : (coreState s n ≠ 1 ∧ coreState s n ≠ 2) ∨ loadAtRack s n = true) : haltNow s n = s := by
  rw [haltNow, halt]
  refine if_neg ?_
  rw [Bool.and_eq_true, wdogRuns_iff, Bool.not_eq_true']
  rintro ⟨runs, free⟩
  rcases waits with ⟨not1, not2⟩ | rack
  · exact runs.elim not1 not2
  · rw [free] at rack
    exact Bool.noConfusion rack

end

theorem doDebugResumeReq_eq (s : State) (n : Fin 4) : doDebugResumeReq n s =
    if s.running = true ∧ s.bitAt CRW_DBG.EN n = true ∧ coreState s n = 3 ∧ (coreOf s n).prog = none then
      setCoreState ((modCore s n fun c => { c with pc := c.dpc }).modDm fun d => { d with ack := setBit d.ack n }) n 1 else s := by
  refine ite_congr ?_ (fun _ => rfl) fun _ => rfl
  rw [Bool.and_eq_true, Bool.and_eq_true, dbgAvail_iff, beq_iff_eq, Option.isNone_iff_eq_none, and_assoc, and_assoc]

/-! ### Abstract commands (R396) -/

theorem postexec_eq (u : State) (n : Fin 4) (ecc : Nat) : postexec u n ecc = if u.crw.dm.cmderr ≠ 0 then u
    else if dbgAvail u n = true ∧ coreState u n = 3 then progStart u n ecc else dmFail u 4 :=
  ite_congr rfl (fun _ => rfl) fun _ => ite_congr (by rw [Bool.and_eq_true, beq_iff_eq]) (fun _ => rfl) fun _ => rfl

theorem doDebugAbstractCmd_eq (s : State) (n : Fin 4) (r : Nat) (wr post : Bool) (ecc : Nat) (u : State)
    (hu : u = accessRegister s n r wr) : doDebugAbstractCmd n r wr post ecc s =
      if s.running = true ∧ s.crw.dm.cmderr = 0 then
        (if post = false then u else if u.crw.dm.cmderr ≠ 0 then u
          else if dbgAvail u n = true ∧ coreState u n = 3 then progStart u n ecc else dmFail u 4)
      else s := by
  rw [← postexec_eq, hu, ← ite_flag post]
  exact ite_congr (by rw [Bool.and_eq_true, beq_iff_eq]; rfl) (fun _ => rfl) fun _ => rfl

section
variable {s : State} {n : Fin 4} (sound : s.crw.dm.cmderr = 0) (idle : (coreOf s n).prog = none)
include sound idle

theorem accessRegister_eq (r : Nat) (wr : Bool) : accessRegister s n r wr =
    if !(dbgAvail s n && (dbgHalted s n || coreState s n == 0)) then dmFail s 4
    else if 0x1000 ≤ r ∧ r < 0x1020 then
      if wr then setX s n (r - 0x1000) s.dm.data0 else s.modDm fun d => { d with data0 := xreg s n (r - 0x1000) }
    else if 0x1000 ≤ r then dmFail s 3
    else if r = csrMtLo ∧ !wr then (mtLoRead s n).2.modDm fun d => { d with data0 := (mtLoRead s n).1 }
    else match dbgCsr s n r with
      | none => dmFail s 3
      | some w =>
        if wr then (if r / 1024 = 3 then dmFail s 3 else dbgSetCsr s n r s.dm.data0)
        else s.modDm fun d => { d with data0 := w } :=
  (if_neg (not_not.mpr sound)).trans (if_neg (by rw [idle]; exact Bool.false_ne_true))

theorem accessRegister_general (r : Fin 32) (wr : Bool) (run : s.running = true) (on : s.bitAt CRW_DBG.EN n = true)
    (halted : coreState s n = 3 ∨ coreState s n = 4 ∨ coreState s n = 0) : accessRegister s n (0x1000 + r.val) wr =
      if wr then setX s n r s.crw.dm.data0 else s.modDm fun d => { d with data0 := xreg s n r } := by
  have reached : (dbgAvail s n && (dbgHalted s n || coreState s n == 0)) = true := by
    rw [Bool.and_eq_true, dbgAvail_iff, dbgHalted, Bool.or_eq_true, Bool.or_eq_true, beq_iff_eq, beq_iff_eq, beq_iff_eq, or_assoc]
    exact ⟨⟨run, on⟩, halted⟩
  rw [accessRegister_eq sound idle, reached]
  refine (if_neg Bool.noConfusion).trans ((if_pos (by omega)).trans ?_)
  rw [Nat.add_sub_cancel_left]
  rfl

theorem accessRegister_unreached (r : Nat) (wr : Bool) (out : s.running = false ∨ s.bitAt CRW_DBG.EN n = false ∨
    coreState s n = 1 ∨ coreState s n = 2) : accessRegister s n r wr = dmFail s 4 := by
  rw [accessRegister_eq sound idle]
  refine if_pos ?_
  rw [Bool.not_eq_true', ← Bool.not_eq_true, Bool.and_eq_true, dbgAvail_iff, dbgHalted, Bool.or_eq_true, Bool.or_eq_true,
    beq_iff_eq, beq_iff_eq, beq_iff_eq]
  rintro ⟨⟨run, on⟩, halted⟩
  rcases out with stopped | off | running
  · rw [run] at stopped
    exact Bool.noConfusion stopped
  · rw [on] at off
    exact Bool.noConfusion off
  · omega

end

/-! ### System bus access (R396, R397) -/

/-- The end of an access that the bridge has answered. -/
def sbRackEnd (v : State) (ans : CrbAns) : State :=
  match ans with
  | .refused st => sbEnd (raiseRefusal v 7 st) st none
  | _ => sbEnd v 0 none

section
variable {u : State} (w : Option Word) (ecc : Nat) {a : Nat} (ha : a = u.crw.dm.sbaddr)

theorem sbAccess_stopped (failed : u.crw.dm.sberror ≠ 0) : sbAccess u w ecc = u := if_pos failed

variable (sound : u.crw.dm.sberror = 0)
include sound

theorem sbAccess_off (off : u.bit CRW_DBG.SBA = false) : sbAccess u w ecc = u.modDm fun d => { d with sberror := 2 } :=
  (if_neg (not_not.mpr sound)).trans (if_pos (by rw [off]; rfl))

variable (on : u.bit CRW_DBG.SBA = true)
include ha on

theorem sbAccess_misaligned (al : a % 4 ≠ 0) : sbAccess u w ecc = u.modDm fun d => { d with sberror := 3 } := by
  subst ha
  exact (if_neg (not_not.mpr sound)).trans ((if_neg (by rw [on]; exact Bool.noConfusion)).trans (if_pos al))

variable (al : a % 4 = 0)
include al

theorem sbAccess_aligned : sbAccess u w ecc =
    if onRack a then
      if u.pwr.mode = .safe then sbEnd u 2 none
      else if !winAllows u 7 a 4 w.isSome then sbEnd (raiseRefusal u 7 2) 2 none
      else
        let (s, ans) := crbSubmit u .dbg 7 (a - 0x100000000) true (List.replicate 4 true) (w.map fun w => toLE 4 w.toNat)
        match ans with
        | .refused st => sbEnd (raiseRefusal s 7 st) st none
        | _ => sbEnd s 0 none
    else match w with
      | some w => sbEnd (wordWrite u 7 a w).1 (wordWrite u 7 a w).2 none
      | none => sbEnd (wordRead u 7 a ecc).1 (wordRead u 7 a ecc).2.1 (some (wordRead u 7 a ecc).2.2) := by
  subst ha
  refine (if_neg (not_not.mpr sound)).trans ((if_neg (by rw [on]; exact Bool.noConfusion)).trans ?_)
  exact (if_neg (not_not.mpr al)).trans (by cases w <;> rfl)

theorem sbAccess_unit (unit : onRack a = false) : sbAccess u w ecc = match w with
    | some w => sbEnd (wordWrite u 7 a w).1 (wordWrite u 7 a w).2 none
    | none => sbEnd (wordRead u 7 a ecc).1 (wordRead u 7 a ecc).2.1 (some (wordRead u 7 a ecc).2.2) :=
  (sbAccess_aligned w ecc ha sound on al).trans (if_neg (by rw [unit]; exact Bool.false_ne_true))

variable (rack : onRack a = true)
include rack

theorem sbAccess_rack : sbAccess u w ecc = if u.pwr.mode = .safe then sbEnd u 2 none
    else if !winAllows u 7 a 4 w.isSome then sbEnd (raiseRefusal u 7 2) 2 none
    else
      let (s, ans) := crbSubmit u .dbg 7 (a - 0x100000000) true (List.replicate 4 true) (w.map fun w => toLE 4 w.toNat)
      match ans with
      | .refused st => sbEnd (raiseRefusal s 7 st) st none
      | _ => sbEnd s 0 none :=
  (sbAccess_aligned w ecc ha sound on al).trans (if_pos rack)

theorem sbAccess_rackSafe (safe : u.pwr.mode = .safe) : sbAccess u w ecc = sbEnd u 2 none :=
  (sbAccess_rack w ecc ha sound on al rack).trans (if_pos safe)

theorem sbAccess_rackDenied (mode : u.pwr.mode ≠ .safe) (denied : winAllows u 7 a 4 w.isSome = false) :
    sbAccess u w ecc = sbEnd (raiseRefusal u 7 2) 2 none :=
  (sbAccess_rack w ecc ha sound on al rack).trans ((if_neg mode).trans (if_pos (by rw [denied]; rfl)))

section
variable {v : State} {ans : CrbAns} (mode : u.pwr.mode ≠ .safe) (allowed : winAllows u 7 a 4 w.isSome = true)
  (submit : crbSubmit u .dbg 7 (a - 0x100000000) true (List.replicate 4 true) (w.map fun w => toLE 4 w.toNat) = (v, ans))
include mode allowed submit

theorem sbAccess_rackAnswered : sbAccess u w ecc = sbRackEnd v ans := by
  refine (sbAccess_rack w ecc ha sound on al rack).trans ((if_neg mode).trans ((if_neg (by rw [allowed]; exact Bool.noConfusion)).trans ?_))
  rw [submit]
  rfl

theorem sbAccess_rackRefused (st : Nat) (refused : ans = .refused st) : sbAccess u w ecc = sbEnd (raiseRefusal v 7 st) st none := by
  subst refused
  exact sbAccess_rackAnswered w ecc ha sound on al rack mode allowed submit

theorem sbAccess_rackTaken (taken : ∀ st, ans ≠ .refused st) : sbAccess u w ecc = sbEnd v 0 none := by
  refine (sbAccess_rackAnswered w ecc ha sound on al rack mode allowed submit).trans ?_
  cases ans with
  | refused st => exact absurd rfl (taken st)
  | _ => rfl

end
end

/-! ### The JTAG port (R683, R684) -/

theorem listedCode_iff (c : BitVec 5) : listedCode c = true ↔ c = 0x00 ∨ c = 0x02 ∨ c = 0x07 ∨ c = 0x10 ∨ c = 0x11 := by
  simp only [listedCode, Bool.or_eq_true, beq_iff_eq, or_assoc]

/-- The bits of DTMCS below the status: version 1, 7 address bits. -/
theorem dtmcs_low (k : Nat) : (toBits 32 (1 + 7 * 16 + k * 1024)).take 10 =
    [true, false, false, false, true, true, true, false, false, false] := by
  have low (i : Nat) (h : i < 10) : nbit (1 + 7 * 16 + k * 1024) i = nbit 113 i := by
    rw [nbit_eq_testBit, nbit_eq_testBit, show 1 + 7 * 16 + k * 1024 = 1024 * k + 113 by ring]
    rw [Nat.testBit_two_pow_mul_add k (i := 10) (by decide) i, if_pos h]
  refine List.ext_getElem (by simp [toBits]) fun i h _ => ?_
  have small : i < 10 := by simpa [toBits] using h
  simp only [toBits, List.getElem_take, List.getElem_map, List.getElem_range, low i small]
  interval_cases i <;> rfl

theorem doJtagDtmcs_shows (s : State) (v : Word) : (doJtagDtmcs v s).jtag.tdo.length = 32 ∧ (doJtagDtmcs v s).jtag.tdo.take 10 =
    [true, false, false, false, true, true, true, false, false, false] := by
  have out : 1 + 7 * 16 + s.jtag.dmistat * 1024 + Config.dtmIdle % 8 * 4096 =
      1 + 7 * 16 + (s.jtag.dmistat + Config.dtmIdle % 8 * 4) * 1024 := by ring
  have tdo : (doJtagDtmcs v s).jtag.tdo = toBits 32 (1 + 7 * 16 + (s.jtag.dmistat + Config.dtmIdle % 8 * 4) * 1024) :=
    congrArg (toBits 32) out
  rw [tdo]
  exact ⟨by simp [toBits], dtmcs_low _⟩

theorem doJtagDmi_eq (s v : State) (op : Fin 4) (a : Nat) (w : Word) (ecc : Nat)
    (hv : v = s.modJtag fun j => { j with ir := 0x11, tdo := toBits 41 (j.dmistat + j.dmiData.toNat * 4 + j.dmiAddr * 2 ^ 34) }) :
    doJtagDmi op a w ecc s = if s.jtag.dmistat ≠ 0 ∨ op.val = 0 then v
      else if op.val = 3 ∨ s.running = false then v.modJtag fun j => { j with dmistat := 2 }
      else if op.val = 1 then (dmRead v a ecc).1.modJtag fun j => { j with dmiData := (dmRead v a ecc).2, dmiAddr := a }
      else (dmWrite v a w ecc).modJtag fun j => { j with dmiData := w, dmiAddr := a } := by
  have run : v.running = s.running := by rw [hv]; rfl
  rw [doJtagDmi, ← hv]
  refine ite_congr rfl (fun _ => rfl) fun _ => ite_congr (by rw [run, Bool.not_eq_true']) (fun _ => rfl) fun _ => ?_
  exact ite_congr rfl (fun _ => rfl) fun _ => rfl

/-- Settles O28: run control, abstract commands and system bus accesses by what they find, and the JTAG instructions. -/
theorem debugAndJtagComplete : Obligations.DebugAndJtagComplete := by
  refine ⟨fun s n => next_congr (doDebugHaltReq_eq s n),
    fun s v n c halt hv => ⟨haltNow_enters halt hv, haltNow_waits halt⟩, fun s n => next_congr (doDebugResumeReq_eq s n),
    fun s u n r wr post ecc hu => next_congr (doDebugAbstractCmd_eq s n r.toNat wr post ecc u hu),
    fun s n r run on halted sound idle => ⟨accessRegister_general sound idle r true run on halted,
      accessRegister_general sound idle r false run on halted⟩,
    fun s n r wr sound idle out => accessRegister_unreached sound idle r wr out, ?sysbus, ?access,
    fun s x d => ⟨_, rfl, rfl, rfl, rfl, rfl, rfl⟩, fun s x d => ⟨_, rfl, rfl, rfl, rfl, rfl, rfl⟩,
    fun s => ⟨_, rfl, rfl, rfl, rfl, rfl, rfl⟩, ?bypass, fun s c listed => next_congr (if_pos ((listedCode_iff c).mpr listed)), ?dtmcs,
    fun s v op a w ecc hv => next_congr (doJtagDmi_eq s v op a.val w ecc.val hv)⟩
  case sysbus =>
    rintro s u a w ecc rfl
    rfl
  case access =>
    intro u w ecc a ha
    refine ⟨sbAccess_stopped w ecc, sbAccess_off w ecc, sbAccess_misaligned w ecc ha, fun sound on al unit => ⟨?_, ?_⟩,
      fun sound on al rack => ⟨sbAccess_rackSafe w ecc ha sound on al rack, sbAccess_rackDenied w ecc ha sound on al rack,
        fun v ans mode allowed submit => ⟨sbAccess_rackRefused w ecc ha sound on al rack mode allowed submit,
          sbAccess_rackTaken w ecc ha sound on al rack mode allowed submit⟩⟩⟩
    · rintro x rfl
      exact sbAccess_unit _ ecc ha sound on al unit
    · rintro rfl
      exact sbAccess_unit _ ecc ha sound on al unit
  case bypass =>
    intro s c extest sample highz dtmcs dmi
    have other : ¬ listedCode c = true := by
      rw [listedCode_iff]
      simp only [extest, sample, highz, dtmcs, dmi, or_self, not_false_eq_true]
    refine ⟨_, next_congr (if_neg other), ?_, rfl, rfl, rfl⟩
    exact Bool.or_eq_false_iff.mpr ⟨beq_eq_false_iff_ne.mpr extest, beq_eq_false_iff_ne.mpr highz⟩
  case dtmcs => exact fun s v => ⟨_, rfl, (doJtagDtmcs_shows s v).1, (doJtagDtmcs_shows s v).2, rfl, rfl, rfl⟩

end Sys2Proof.Machine
end

section
/-! Heartwood's commands (R336, R341 to R346, R351 to R359). -/

namespace Sys2Proof.Machine

/-! ### Writes of the transaction registers (R341, R342, R345, R346) -/

theorem txnRegs (t : Fin 8) : ((findReg (HWD_TXN_CTRL.addr t)).isSome = true ∧ HWD_TXN_CTRL.addr t % 4 = 0) ∧
    ((findReg (HWD_JE_GO.addr t)).isSome = true ∧ HWD_JE_GO.addr t % 4 = 0) ∧
    blockOf (HWD_JE_GO.addr t) = blockOf (HWD_TXN_CTRL.addr t) ∧ blockOf (HWD_TXN_CTRL.addr t) = 0x12 := by decide +revert

/-- The set that the transaction registers of a tenant lie in. -/
theorem txnRegs_set (t : Fin 8) : txnSet (HWD_TXN_CTRL.addr t % 0x10000) = some t.val ∧
    txnSet (HWD_JE_GO.addr t % 0x10000) = some t.val ∧ HWD_JE_GO.addr t ≠ HWD_TXN_CTRL.addr t := by decide +revert

theorem lets_jeGo {s : State} {t : Nat} {u : Fin 8} {wr : Bool} (lets : Lets s t (HWD_TXN_CTRL.addr u) wr) :
    Lets s t (HWD_JE_GO.addr u) wr := by
  obtain ⟨run, perm, mode, up⟩ := lets
  obtain ⟨-, -, same, block⟩ := txnRegs u
  refine ⟨run, by rw [permits, same]; exact perm, mode, ?_⟩
  rw [same, block]
  rw [block] at up
  exact up

/-- A write in block 0x12 is Heartwood's. -/
theorem writeReg_hwd {s : State} {t a : Nat} {r : RegRow} {v : Word} (block : blockOf a = 0x12) :
    writeReg s t a r v = writeHwd s t a r v := by
  rw [writeReg, block]
  rfl

section
variable {s : State} {t a : Nat} {u : Fin 8} (v : Word) (block : blockOf a = 0x12) (set : txnSet (a % 0x10000) = some u.val)
include block set

theorem writeReg_txn (r : RegRow) : writeReg s t a r v = if u.val ≠ t then (s, 4) else (writeTxn s u a r v, 0) := by
  rw [writeReg_hwd block, writeHwd, set]

theorem doWrite_foreignTxn (lets : Lets s t a true) (al : a % 4 = 0) (reg : (findReg a).isSome = true) (other : u.val ≠ t) :
    doWrite s t a v = written s t 4 :=
  doWrite_effect (s, 4) lets al reg fun r => (writeReg_txn v block set r).trans (if_pos other)

end

/-- What a write of `v` to HWD_TXN_CTRL starts. -/
def txnOp (t : Nat) (v : Word) (s : State) : State :=
  match wordField v 0 2 with | 1 => doTxnOpen s t | 2 => doTxnCommit s t | 3 => doTxnAbort s t | _ => s

theorem doWrite_txnCtrl {s : State} {t : Fin 8} (v : Word) (lets : Lets s t (HWD_TXN_CTRL.addr t) true) :
    doWrite s t (HWD_TXN_CTRL.addr t) v = written (txnOp t v (s.put (HWD_TXN_CTRL.addr t) v)) t 0 := by
  obtain ⟨⟨reg, al⟩, -, -, block⟩ := txnRegs t
  refine doWrite_named (txnOp t v) lets al reg fun r => (writeReg_txn v block (txnRegs_set t).1 r).trans ?_
  rw [if_neg (not_not.mpr rfl)]
  exact congrArg (·, 0) (if_pos rfl)

theorem txnOps (s : State) (t : Nat) : txnOp t 1 s = doTxnOpen s t ∧ txnOp t 2 s = doTxnCommit s t ∧ txnOp t 3 s = doTxnAbort s t :=
  ⟨rfl, rfl, rfl⟩

theorem doWrite_txnOp {s u : State} {t : Fin 8} {v : Word} (lets : Lets s t (HWD_TXN_CTRL.addr t) true)
    (op : txnOp t v (s.put (HWD_TXN_CTRL.addr t) v) = u) : doWrite s t (HWD_TXN_CTRL.addr t) v = written u t 0 := by
  rw [doWrite_txnCtrl v lets, op]

theorem doWrite_jeGo {s : State} {t : Fin 8} (lets : Lets s t (HWD_JE_GO.addr t) true) :
    doWrite s t (HWD_JE_GO.addr t) 1 = written (doEntrySubmit (s.put (HWD_JE_GO.addr t) 1) t) t 0 := by
  obtain ⟨-, ⟨reg, al⟩, same, block⟩ := txnRegs t
  obtain ⟨-, set, apart⟩ := txnRegs_set t
  refine doWrite_named (fun u => doEntrySubmit u t) lets al reg fun r => (writeReg_txn 1 (same.trans block) set r).trans ?_
  rw [if_neg (not_not.mpr rfl)]
  exact congrArg (·, 0) ((if_neg apart).trans (if_pos ⟨rfl, by decide⟩))

theorem txn_foreign {s : State} {t u : Fin 8} (lets : Lets s t (HWD_TXN_CTRL.addr u) true) (other : u ≠ t) :
    (∀ v, doWrite s t (HWD_TXN_CTRL.addr u) v = written s t 4) ∧ doWrite s t (HWD_JE_GO.addr u) 1 = written s t 4 := by
  obtain ⟨⟨reg, al⟩, ⟨goReg, goAl⟩, same, block⟩ := txnRegs u
  obtain ⟨set, goSet, -⟩ := txnRegs_set u
  have other' : u.val ≠ t.val := fun h => other (Fin.ext h)
  exact ⟨fun v => doWrite_foreignTxn v block set lets al reg other',
    doWrite_foreignTxn 1 (same.trans block) goSet (lets_jeGo lets) goAl goReg other'⟩

/-! ### A transaction's state (R341, R343 to R346) -/

theorem State.fld_modHwd (s : State) (f : Hwd → Hwd) (r : FRef) : (s.modHwd f).fld r = s.fld r := rfl

theorem State.mem_modHwd (s : State) (f : Hwd → Hwd) : (s.modHwd f).mem = s.mem := rfl

theorem setTx_shows (s : State) (t : Nat) {st res : Nat} (hst : st < 8) (hres : res < 16) :
    txState (setTx s t st res) t = st ∧ (setTx s t st res).fld (HWD_TXN_STAT.RESULT t) = res := by
  constructor
  · refine (State.fld_setFld_other _ (HWD_TXN_STAT.RESULT t) (HWD_TXN_STAT.STATE t) _ (show 0 + 3 ≤ 32 by decide)
      (.inr (.inl (show 0 + 3 ≤ 4 by decide)))).trans ?_
    exact (State.fld_setFld _ _ _ (show 0 + 3 ≤ 32 by decide)).trans (Nat.mod_eq_of_lt hst)
  · exact (State.fld_setFld _ _ _ (show 4 + 4 ≤ 32 by decide)).trans (Nat.mod_eq_of_lt hres)

theorem setTx_keeps (s : State) (t st res : Nat) : (setTx s t st res).hwd = s.hwd ∧ (setTx s t st res).mem = s.mem := by
  rw [setTx, State.setFld_mem, State.setFld_mem]
  exact ⟨rfl, rfl⟩

theorem setEntries_keeps (s : State) (t : Nat) (es : List JEntry) :
    (setEntries s t es).hwd.applying = s.hwd.applying ∧ (setEntries s t es).mem = s.mem := by
  rw [setEntries, State.setFld_mem, State.setFld_mem, State.setFld_mem]
  exact ⟨rfl, rfl⟩

theorem setTx_nent (s : State) (t st res : Nat) : (setTx s t st res).fld (HWD_TXN_STAT.NENT t) = s.fld (HWD_TXN_STAT.NENT t) :=
  (State.fld_setFld_other _ (HWD_TXN_STAT.RESULT t) (HWD_TXN_STAT.NENT t) _ (show 8 + 9 ≤ 32 by decide)
    (.inr (.inr (show 4 + 4 ≤ 8 by decide)))).trans
    (State.fld_setFld_other _ (HWD_TXN_STAT.STATE t) (HWD_TXN_STAT.NENT t) _ (show 8 + 9 ≤ 32 by decide)
      (.inr (.inr (show 0 + 3 ≤ 8 by decide))))

theorem setEntries_nent (s : State) (t : Nat) (es : List JEntry) (h : es.length < 512) :
    (setEntries s t es).fld (HWD_TXN_STAT.NENT t) = es.length := by
  have apart : HWD_TXN_COST.addr t ≠ HWD_TXN_STAT.addr t := by
    rw [HWD_TXN_COST.addr, HWD_TXN_STAT.addr]
    omega
  refine (State.fld_setFld_other _ (HWD_TXN_COST.BYTES t) (HWD_TXN_STAT.NENT t) _ (show 8 + 9 ≤ 32 by decide) (.inl apart)).trans ?_
  refine (State.fld_setFld_other _ (HWD_TXN_STAT.PEND t) (HWD_TXN_STAT.NENT t) _ (show 8 + 9 ≤ 32 by decide)
    (.inr (.inl (show 8 + 9 ≤ 17 by decide)))).trans ?_
  exact (State.fld_setFld _ _ _ (show 8 + 9 ≤ 32 by decide)).trans (Nat.mod_eq_of_lt h)

theorem doTxnOpen_opens {s : State} {t : Nat} (idle : txState s t = txIDLE ∨ txState s t = txDONE ∨ txState s t = txFAILED)
    (writable : hwdReadonly s = false) (window : s.hwd.fwOver = false) : doTxnOpen s t = setTx (setEntries s t []) t txOPEN 0 := by
  refine (if_neg (by rw [writable, window]; simp)).trans (if_neg ?_)
  simp only [txIDLE, txDONE, txFAILED, txOPEN, txCOMMITTING] at idle ⊢
  omega

section
variable {s : State} {t : Nat} (up : s.up fenceHWD = true) (pend : s.fld (HWD_TXN_STAT.PEND t) ≠ 0)
  (held : txState s t = txOPEN ∨ txState s t = txCOMMITTING)
include up pend held

theorem doEntryStaged_eq (bad : Bool) : doEntryStaged t bad s =
    if bad then (setTx s t txFAILED 7).modHwd fun h => { h with queue := h.queue.filter (· != t) }
    else setEntries s t (stageFirst s (entriesOf s t)) := by
  refine (if_neg (by rw [up]; simpa using pend)).trans (if_neg ?_)
  rintro ⟨notOpen, notCommitting⟩
  exact held.elim notOpen notCommitting

end

theorem doEntryStaged_idle {s : State} {t : Nat} (bad : Bool) (idle : s.up fenceHWD = false ∨ s.fld (HWD_TXN_STAT.PEND t) = 0 ∨
    (txState s t ≠ txOPEN ∧ txState s t ≠ txCOMMITTING)) : doEntryStaged t bad s = s := by
  rcases idle with down | none | other
  · exact if_pos (.inl (by rw [down]; rfl))
  · exact if_pos (.inr none)
  · exact (ite_congr rfl (fun _ => rfl) fun _ => if_pos other).trans (ite_self s)

/-! ### The CONF port (R344) -/

theorem doHwdConfPortWrite_idle {s : State} (idle : s.running = false ∨ (s.ind 2).wq = []) : doHwdConfPortWrite s = s := by
  rcases idle with stopped | empty
  · exact if_neg (by rw [stopped]; exact Bool.false_ne_true)
  · rw [doHwdConfPortWrite, confPortWrite, empty]
    exact ite_self s

theorem doHwdConfPortWrite_eq {s : State} {wa : Nat} {v : Word} {t : Nat} {rest : List (Nat × Word × Nat)} {why : Nat} {u : State}
    (run : s.running = true) (queue : (s.ind 2).wq = (wa, v, t) :: rest)
    (submit : submitEntry s t { off := 4 * wa, len := 4, data := toLE 4 v.toNat } = (why, u)) : doHwdConfPortWrite s =
      if s.fenced fenceHWD = true then indWritten (s.setFld (HWD_TXN_STAT.RESULT t) 8) 2 false
      else if txState s t = txOPEN ∨ txState s t = txCOMMITTING then indWritten u 2 (why == 0) else indWritten s 2 false := by
  rw [doHwdConfPortWrite, if_pos run, confPortWrite, queue]
  dsimp only
  rw [submit]

/-! ### Commits (R345, R351) -/

theorem doCommitRecord_idle {s : State} (idle : s.up fenceHWD = false ∨ s.pwr.noJournal = true ∨ s.hwd.queue = [] ∨
    s.hwd.applying.isSome = true ∨ s.bit HWD_STATUS.READY = false ∨ s.bit HWD_STATUS.REPLAY = true) : doCommitRecord s = s := by
  rcases idle with down | closed | rest
  · exact if_neg (by rw [down]; exact Bool.false_ne_true)
  · exact if_neg (by rw [closed, Bool.not_true, Bool.and_false]; exact Bool.false_ne_true)
  · have none : commitRecord s = s := by
      rw [commitRecord]
      cases queue : s.hwd.queue with
      | nil => rfl
      | cons t ts =>
        refine if_pos ?_
        rcases rest with empty | applying | unready | replay
        · exact absurd (queue.symm.trans empty) (List.cons_ne_nil t ts)
        · exact .inl applying
        · exact .inr (.inr (.inl (by rw [unready]; rfl)))
        · exact .inr (.inr (.inr replay))
    rw [doCommitRecord, none, ite_self]

theorem doCommitRecord_eq {s : State} {t : Nat} {rest : List Nat} {u v : State} {log : List HwdPut} (up : s.up fenceHWD = true)
    (journal : s.pwr.noJournal = false) (queue : s.hwd.queue = t :: rest) (free : s.hwd.applying = none)
    (pend : s.fld (HWD_TXN_STAT.PEND t) = 0) (ready : s.bit HWD_STATUS.READY = true) (quiet : s.bit HWD_STATUS.REPLAY = false)
    (hu : u = s.modHwd fun h => { h with queue := rest }) (applied : applyEntries u (entriesOf s t) = (v, log)) :
    doCommitRecord s = if s.bit HWD_TR_CFG.NOWRAP = true ∧
        trendSize < s.hwd.trendUsed + trendNeed (s.fld HWD_TR_HEAD.OFF) (entriesOf s t) then
        setTx (u.count HWD_TR_CNT.REFUSED) t txFAILED 9
      else v.modHwd fun h => { h with applying := some (t, log) } := by
  have body : doCommitRecord s = commitRecord s := if_pos (by rw [up, journal]; rfl)
  rw [body, commitRecord, queue]
  refine (if_neg (by simp [free, pend, ready, quiet])).trans ?_
  dsimp only
  rw [← hu, applied, hu]
  exact ite_congr rfl (fun _ => rfl) fun _ => rfl

theorem doCommitDone_idle {s : State} (idle : s.railsOn = false ∨ s.pwr.noJournal = true ∨ s.hwd.applying = none ∨
    s.bit HWD_STATUS.REPLAY = true) : doCommitDone s = s := by
  rcases idle with off | closed | rest
  · exact if_neg (by rw [off]; exact Bool.false_ne_true)
  · exact if_neg (by rw [closed, Bool.not_true, Bool.and_false]; exact Bool.false_ne_true)
  · have none : commitDone s = s := by
      rw [commitDone]
      cases applying : s.hwd.applying with
      | none => rfl
      | some q => exact if_pos (rest.resolve_left (by rw [applying]; exact Option.some_ne_none q))
    rw [doCommitDone, none, ite_self]

theorem doCommitDone_eq {s : State} {t : Nat} {log : List HwdPut} (on : s.railsOn = true) (journal : s.pwr.noJournal = false)
    (applying : s.hwd.applying = some (t, log)) (quiet : s.bit HWD_STATUS.REPLAY = false) (committing : txState s t = txCOMMITTING) :
    doCommitDone s = setTx (setEntries (s.modHwd fun h => { h with applying := none }) t []) t txDONE 1 := by
  have body : doCommitDone s = commitDone s := if_pos (by rw [on, journal]; rfl)
  rw [body, commitDone, applying]
  exact (if_neg (by rw [quiet]; exact Bool.false_ne_true)).trans (if_pos committing)

/-! ### Replay, scrub and events (R336, R353, R358) -/

theorem addEvent_keeps (s : State) (e : Ev) : (addEvent s e).bit HWD_STATUS.REPLAY = s.bit HWD_STATUS.REPLAY ∧
    (addEvent s e).hwd.applying = s.hwd.applying := by
  rw [addEvent]
  split
  · exact ⟨State.bit_setFld_other _ _ (by decide) (.inl (by decide)), rfl⟩
  · split
    · exact ⟨State.bit_setFld_other _ _ (by decide) (.inl (by decide)), rfl⟩
    · exact ⟨rfl, rfl⟩

theorem takeLocks_keeps (s : State) (ks : Nat) : (takeLocks s ks).bit HWD_STATUS.REPLAY = s.bit HWD_STATUS.REPLAY ∧
    (takeLocks s ks).hwd.applying = s.hwd.applying := by
  rw [takeLocks]
  split
  · exact ⟨rfl, rfl⟩
  · obtain ⟨bit, applying⟩ := addEvent_keeps (s.setFld HWD_KEYS_LOCK.LOCKED (s.fld HWD_KEYS_LOCK.LOCKED ||| ks))
      { time := s.tim.now, kind := 5, ctx := 16 * s.pwr.mode.code, detail := ks }
    exact ⟨bit.trans (State.bit_setFld_other _ _ (by decide) (.inl (by decide))), applying⟩

theorem replayDone_ends {s : State} (bad : List Nat) (replay : s.bit HWD_STATUS.REPLAY = true)
    (applying : s.hwd.applying.isSome = true) :
    (replayDone bad s).bit HWD_STATUS.REPLAY = false ∧ (replayDone bad s).hwd.applying = none := by
  obtain ⟨⟨t, log⟩, some⟩ := Option.isSome_iff_exists.mp applying
  rw [replayDone, some]
  dsimp only
  rw [if_neg (by rw [replay]; exact Bool.noConfusion)]
  obtain ⟨bit, gone⟩ := takeLocks_keeps _ _
  exact ⟨bit.trans (State.bit_setBit _ _ _ (by decide) rfl), gone⟩

/-- The entries of the commit that a replay carries on and could not read, `bad` naming those lost. -/
def replayLost (s : State) (bad : List Nat) : Nat :=
  match s.hwd.applying with
  | some (_, log) => (bad.eraseDups.filter fun k => log.any fun x => x.ent == some k).length
  | none => 0

theorem doHwdReplayDone_idle {s : State} (bad : List Nat) (idle : s.running = false ∨ s.bit HWD_STATUS.REPLAY = false) :
    doHwdReplayDone bad s = s := if_neg (by
  rw [Bool.and_eq_true]
  rintro ⟨run, replay⟩
  rcases idle with stopped | quiet
  · rw [run] at stopped
    exact Bool.noConfusion stopped
  · rw [replay] at quiet
    exact Bool.noConfusion quiet)

theorem doHwdReplayDone_eq {s : State} (bad : List Nat) (run : s.running = true) (replay : s.bit HWD_STATUS.REPLAY = true) :
    doHwdReplayDone bad s =
      releaseHwdReset (barkTimes (replayLost s bad) ((replayDone bad s).count HWD_CNT.UNC (replayLost s bad)) Src.HWD_UNC) :=
  if_pos (by rw [run, replay]; rfl)

theorem replayLost_none (s : State) : replayLost s [] = 0 := by
  rw [replayLost]
  cases s.hwd.applying <;> rfl

theorem commitEvents_eq (s : State) : commitEvents s = if hwdCommits s = true then
    s.hwd.events.foldl commitEvent (s.modHwd fun h => { h with events := [] }) else s := by
  rw [commitEvents]
  cases hwdCommits s <;> rfl

/-! ### Key locks (R355) -/

theorem doWrite_keysLock {s : State} {t : Nat} (v : Word) (lets : Lets s t HWD_KEYS_LOCK_SET.addr true) :
    doWrite s t HWD_KEYS_LOCK_SET.addr v = if s.bitAt HWD_WPERM.KEYLOCK t then
      written (lockKeys (s.put HWD_KEYS_LOCK_SET.addr v) v) t 0 else written s t 4 := by
  have effect (r : RegRow) : writeReg s t HWD_KEYS_LOCK_SET.addr r v =
      if s.bitAt HWD_WPERM.KEYLOCK t then (lockKeys (plainWrite s r HWD_KEYS_LOCK_SET.addr v) v, 0) else (s, 4) := rfl
  cases perm : s.bitAt HWD_WPERM.KEYLOCK t with
  | true => exact doWrite_named (lockKeys · v) lets rfl (by decide) fun r => (effect r).trans (if_pos perm)
  | false =>
    exact doWrite_effect (s, 4) lets rfl (by decide) fun r => (effect r).trans (if_neg (by rw [perm]; exact Bool.false_ne_true))

/-- Settles O24: the transaction registers by their owner, staging, the commit record and its end, replay, scrub and key locks. -/
theorem heartwoodCommandsComplete : Obligations.HeartwoodCommandsComplete := by
  refine ⟨fun s t lets => ⟨next_congr (doWrite_txnOp lets (txnOps _ t).1), next_congr (doWrite_txnOp lets (txnOps _ t).2.1),
      next_congr (doWrite_txnOp lets (txnOps _ t).2.2)⟩,
    fun s t lets => next_congr (doWrite_jeGo lets), ?foreign, ?opens, fun s idle => next_congr (doHwdConfPortWrite_idle idle),
    fun s wa v t rest why u run queue submit => next_congr (doHwdConfPortWrite_eq run queue submit), fun s t bad => rfl, ?staged,
    fun s t bad idle => doEntryStaged_idle bad idle, fun s => ⟨rfl, rfl⟩,
    fun s t rest u v log up journal queue free pend ready quiet hu applied =>
      doCommitRecord_eq up journal queue free pend ready quiet hu applied,
    fun s idle => doCommitRecord_idle idle, ?done, fun s idle => doCommitDone_idle idle,
    fun s bad idle => next_congr (doHwdReplayDone_idle bad idle), ?replay, ?lost, fun s one two unc => rfl,
    fun s => next_congr (commitEvents_eq s), fun s t v lets => next_congr (doWrite_keysLock v lets)⟩
  case foreign =>
    intro s t u lets other
    obtain ⟨ctrl, go⟩ := txn_foreign lets other
    exact ⟨next_congr (ctrl 1), next_congr (ctrl 2), next_congr (ctrl 3), next_congr go⟩
  case opens =>
    intro s t idle writable window
    rw [doTxnOpen_opens idle writable window]
    obtain ⟨state, result⟩ := setTx_shows (setEntries s t []) t (st := txOPEN) (res := 0) (by decide) (by decide)
    exact ⟨state, result, (setTx_nent ..).trans (setEntries_nent s t [] (by decide))⟩
  case staged =>
    intro s t up pend held
    obtain ⟨state, result⟩ := setTx_shows s t (st := txFAILED) (res := 7) (by decide) (by decide)
    refine ⟨(doEntryStaged_eq up pend held false).trans (if_neg Bool.false_ne_true), ?_⟩
    rw [doEntryStaged_eq up pend held true, if_pos rfl, txState, State.fld_modHwd, State.fld_modHwd, State.mem_modHwd]
    exact ⟨state, result, (setTx_keeps s t txFAILED 7).2⟩
  case done =>
    intro s t log ht on journal applying quiet committing
    rw [doCommitDone_eq on journal applying quiet committing]
    obtain ⟨state, result⟩ := setTx_shows (setEntries (s.modHwd fun h => { h with applying := none }) t []) t (st := txDONE) (res := 1)
      (by decide) (by decide)
    obtain ⟨hwd, mem⟩ := setTx_keeps (setEntries (s.modHwd fun h => { h with applying := none }) t []) t txDONE 1
    obtain ⟨applying', mem'⟩ := setEntries_keeps (s.modHwd fun h => { h with applying := none }) t []
    exact ⟨state, result, (congrArg Hwd.applying hwd).trans applying', mem.trans mem'⟩
  case replay =>
    intro s run replay
    refine ⟨(replayDone [] s).count HWD_CNT.UNC 0, next_congr ?_, fun applying => ?_⟩
    · rw [doHwdReplayDone_eq [] run replay, replayLost_none]
      rfl
    · obtain ⟨bit, gone⟩ := replayDone_ends [] replay applying
      exact ⟨(State.bit_setFld_other _ _ (by decide) (.inl (by decide))).trans bit, gone⟩
  case lost =>
    rintro s bad n run replay rfl
    exact next_congr (doHwdReplayDone_eq bad run replay)

end Sys2Proof.Machine
end

section
/-! Loads, stores, fences and atomics of the crew cores, and the instructions that they fetch (R360 to R366, R390 to R396). -/

namespace Sys2Proof.Machine

/-! ### Executing a command (R364, R395, R396) -/

section
variable {s v : State} {n len ecc : Nat} (f : State → State) (hv : v = haltNow s n)
include hv

theorem onCore_held (held : coreRuns v n = false) : onCore n len s f ecc = v := by
  subst hv
  exact if_pos (by rw [held]; rfl)

variable (run : coreRuns v n = true) {u : State}
include run

theorem onCore_faults (fetch : fetchAt v n len ecc = (u, false)) :
    onCore n len s f ecc = stepHalt (raiseExc u n 1 (coreOf u n).pc) n := by
  subst hv
  unfold onCore
  simp [run, fetch]

variable (fetch : fetchAt v n len ecc = (u, true)) {pc : Nat} (hpc : pc = (coreOf u n).pc.toNat)
include fetch hpc

theorem onCore_triggers {act : Nat} (trig : trigHit u n 2 pc (some (leNat (fetchBytes u n pc len))) = some act) :
    onCore n len s f ecc = stepHalt (trigFire u n act pc) n := by
  subst hv hpc
  unfold onCore
  simp [run, fetch, trig]

theorem onCore_acts (trig : trigHit u n 2 pc (some (leNat (fetchBytes u n pc len))) = none) :
    onCore n len s f ecc = stepHalt (f u) n := by
  subst hv hpc
  unfold onCore
  simp [run, fetch, trig]

end

/-! ### Loads (R363, R365) -/

section
variable {u : State} {n k rd rs1 ecc a : Nat} {uns : Bool} {imm : BitVec 12} (ha : a = coreAddr u n rs1 imm)
include ha

theorem loadAt_triggers {act : Nat} (trig : trigHit u n 0 a none = some act) :
    loadAt n k uns rd rs1 imm ecc u = trigFire u n act a := by
  rw [loadAt, ← ha]
  simp only [trig]

variable (trig : trigHit u n 0 a none = none)
include trig

theorem loadAt_refused {e : Nat} (check : dataCheck u n a (2 ^ k) false = .error e) :
    loadAt n k uns rd rs1 imm ecc u = raiseExc u n e (BitVec.ofNat 32 a) := by
  rw [loadAt, ← ha]
  simp only [trig, check]

theorem loadAt_performed {r : CoreRow} (check : dataCheck u n a (2 ^ k) false = .ok r) : loadAt n k uns rd rs1 imm ecc u =
    if r.dest = .memory then memLoad u n rd a (2 ^ k) uns ecc else ioLoad u n rd a k uns ecc r := by
  rw [loadAt, ← ha]
  simp only [trig, check]

end

theorem loadEnd_failed {s : State} {n rd a len st : Nat} {uns : Bool} {bs : List Byte} (failed : st ≠ 0) :
    loadEnd s n rd a len uns st bs = raiseExc s n 5 (BitVec.ofNat 32 a) := if_pos failed

theorem loadEnd_good {s : State} {n rd a len : Nat} {uns : Bool} {bs : List Byte}
    (trig : trigHit s n 0 a (some (leNat bs)) = none) : loadEnd s n rd a len uns 0 bs = loadDone s n rd len uns bs := by
  refine (if_neg (not_not.mpr rfl)).trans ?_
  rw [trig]

theorem memLoad_eq {u w x : State} {n rd a len ecc st st' : Nat} {uns : Bool} {bs : List Byte}
    (read : coreMemRead u n a len = (w, st, bs)) (back : eccRead w a ecc = (x, st')) : memLoad u n rd a len uns ecc =
      if st ≠ 0 then loadEnd w n rd a len uns st bs else loadEnd x n rd a len uns st' bs := by
  simp only [memLoad, read, back]

/-! ### Stores and fences (R390, R391) -/

section
variable {u : State} {n k rs1 rs2 a : Nat} {imm : BitVec 12} {bs : List Byte} (ha : a = coreAddr u n rs1 imm)
  (hbs : bs = toLE (2 ^ k) (xreg u n rs2).toNat)
include ha hbs

theorem storeAt_triggers {act : Nat} (trig : trigHit u n 1 a (some (leNat bs)) = some act) :
    storeAt n k rs1 rs2 imm u = trigFire u n act a := by
  rw [storeAt, ← ha, ← hbs]
  simp only [trig]

variable (trig : trigHit u n 1 a (some (leNat bs)) = none)
include trig

theorem storeAt_refused {e : Nat} (check : dataCheck u n a bs.length true = .error e) :
    storeAt n k rs1 rs2 imm u = raiseExc u n e (BitVec.ofNat 32 a) := by
  rw [storeAt, ← ha, ← hbs]
  simp only [trig, check]

variable {r : CoreRow} (check : dataCheck u n a bs.length true = .ok r)
include check

theorem storeAt_memory {w : State} {st : Nat} (memory : r.dest = .memory) (wrote : coreMemWrite u n a bs = (w, st)) :
    storeAt n k rs1 rs2 imm u = if st = 0 then retire w n else raiseExc w n 7 (BitVec.ofNat 32 a) := by
  rw [storeAt, ← ha, ← hbs]
  simp only [trig, check, if_pos memory, wrote, ite_not]

theorem storeAt_posted (io : r.dest ≠ .memory) : storeAt n k rs1 rs2 imm u = postStore u n a bs := by
  rw [storeAt, ← ha, ← hbs]
  simp only [trig, check, if_neg io]

end

theorem postStore_room {u : State} {n : Nat} (a : Nat) (bs : List Byte) (room : (coreOf u n).sb.length < 8) :
    postStore u n a bs = retire (modCore u n fun c => { c with sb := c.sb ++ [((coreOf u n).pc, a, bs)] }) n := by
  rw [postStore, if_neg (Nat.not_le.mpr room)]
  exact if_neg Bool.false_ne_true

theorem fenceDrain_eq {u w : State} {n : Nat} {faulted : Bool} (io : Bool) (drain : drainAll u n = (w, faulted)) :
    fenceDrain u n io = if faulted = true ∨ (io = true ∧ storeAtRack w n = true) then w else retire w n := by
  rw [fenceDrain, drain]
  exact ite_congr (by rw [Bool.or_eq_true, Bool.and_eq_true]) (fun _ => rfl) fun _ => rfl

theorem fenceAt_eq {u w : State} {n : Nat} {faulted : Bool} (tso : Bool) (pred succ : BitVec 4) (drain : drainAll u n = (w, faulted)) :
    fenceAt n tso pred succ u = if tso = true then retire u n
      else if pred.getLsbD 3 = true ∨ pred.getLsbD 2 = true then
        (if faulted = true ∨ storeAtRack w n = true then w else retire w n)
      else if pred.getLsbD 0 = true ∧ succ.getLsbD 1 = true then (if faulted = true then w else retire w n)
      else retire u n := by
  refine ite_congr rfl (fun _ => rfl) fun _ => ite_congr (by rw [Bool.or_eq_true]) (fun _ => ?_) fun _ => ?_
  · rw [fenceDrain_eq true drain]
    exact ite_congr (by simp) (fun _ => rfl) fun _ => rfl
  · refine ite_congr (by rw [Bool.and_eq_true]) (fun _ => ?_) fun _ => rfl
    rw [fenceDrain_eq false drain]
    exact ite_congr (by simp) (fun _ => rfl) fun _ => rfl

theorem fenceIAt_eq {u w : State} {n : Nat} {faulted : Bool} (drain : drainAll (modCore u n fun c => { c with pref := [] }) n = (w, faulted)) :
    fenceIAt n u = if faulted = true then w else retire w n := by
  rw [fenceIAt, fenceDrain_eq false drain]
  exact ite_congr (by simp) (fun _ => rfl) fun _ => rfl

/-! ### Reservations and atomics (R393, R394) -/

section
variable {u : State} {n rs1 a : Nat} (ha : a = (xreg u n rs1).toNat)
include ha

theorem lrAt_refused {e : Nat} (rd ecc : Nat) (trig : trigHit u n 0 a none = none) (check : atomCheck u n a true false = .error e) :
    lrAt n rd rs1 ecc u = raiseExc u n e (BitVec.ofNat 32 a) := by
  rw [lrAt, ← ha]
  simp only [trig, check]

theorem scAt_refused {e : Nat} (rd rs2 : Nat) (trig : trigHit u n 1 a (some (xreg u n rs2).toNat) = none)
    (check : atomCheck u n a false true = .error e) : scAt n rd rs1 rs2 u = raiseExc u n e (BitVec.ofNat 32 a) := by
  rw [scAt, ← ha]
  simp only [trig, check]

theorem amoAt_refused {e : Nat} (op rd rs2 ecc : Nat) (trig : amoTrig u n a none none = none)
    (check : atomCheck u n a true true = .error e) : amoAt n op rd rs1 rs2 ecc u = raiseExc u n e (BitVec.ofNat 32 a) := by
  rw [amoAt, ← ha]
  simp only [trig, check]

theorem scAt_eq {w : State} {st : Nat} {r : CoreRow} (rd rs2 : Nat) (trig : trigHit u n 1 a (some (xreg u n rs2).toNat) = none)
    (check : atomCheck u n a false true = .ok r) (wrote : coreMemWrite u n a (toLE 4 (xreg u n rs2).toNat) = (w, st)) :
    scAt n rd rs1 rs2 u = if u.rsv.getD n none = some (granule a) then
        (if st = 0 then retire (setX (dropRsv w n) n rd 0) n else raiseExc w n 7 (BitVec.ofNat 32 a))
      else retire (setX (dropRsv u n) n rd 1) n := by
  rw [scAt, ← ha]
  simp only [trig, check, wrote, ite_not]

section
variable {w x : State} {st st' ecc : Nat} {bs : List Byte} (read : coreMemRead u n a 4 = (w, st, bs)) (back : eccRead w a ecc = (x, st'))
include read back

section
variable {r : CoreRow} (rd : Nat) (trig : trigHit u n 0 a none = none) (check : atomCheck u n a true false = .ok r)
include trig check

omit back in
theorem lrAt_failed (failed : st ≠ 0) : lrAt n rd rs1 ecc u = raiseExc w n 5 (BitVec.ofNat 32 a) := by
  rw [lrAt, ← ha]
  simp only [trig, check, read, if_pos failed]

theorem lrAt_lost (good : st = 0) (lost : st' ≠ 0) : lrAt n rd rs1 ecc u = raiseExc x n 5 (BitVec.ofNat 32 a) := by
  rw [lrAt, ← ha]
  simp only [trig, check, read, if_neg (not_not.mpr good), back, if_pos lost]

theorem lrAt_loads (good : st = 0) (good' : st' = 0) (data : trigHit x n 0 a (some (leNat bs)) = none) :
    lrAt n rd rs1 ecc u = loadDone { x with rsv := modAt x.rsv n fun _ => some (granule a) } n rd 4 false bs := by
  rw [lrAt, ← ha]
  simp only [trig, check, read, if_neg (not_not.mpr good), back, if_neg (not_not.mpr good'), data]

end

section
variable {r : CoreRow} (op rd rs2 : Nat) (trig : amoTrig u n a none none = none) (check : atomCheck u n a true true = .ok r)
include trig check

omit back in
theorem amoAt_failed (failed : st ≠ 0) : amoAt n op rd rs1 rs2 ecc u = raiseExc w n 7 (BitVec.ofNat 32 a) := by
  rw [amoAt, ← ha]
  simp only [trig, check, read, if_pos failed]

theorem amoAt_lost (good : st = 0) (lost : st' ≠ 0) : amoAt n op rd rs1 rs2 ecc u = raiseExc x n 7 (BitVec.ofNat 32 a) := by
  rw [amoAt, ← ha]
  simp only [trig, check, read, if_neg (not_not.mpr good), back, if_pos lost]

theorem amoAt_stores {m y : Word} {z : State} {st'' : Nat} (good : st = 0) (good' : st' = 0) (hm : m = BitVec.ofNat 32 (leNat bs))
    (hy : y = amoOp op m (xreg x n rs2)) (data : amoTrig x n a (some m.toNat) (some y.toNat) = none)
    (wrote : coreMemWrite x n a (toLE 4 y.toNat) = (z, st'')) :
    amoAt n op rd rs1 rs2 ecc u = if st'' = 0 then retire (setX z n rd m) n else raiseExc z n 7 (BitVec.ofNat 32 a) := by
  subst hy hm
  rw [amoAt, ← ha]
  simp only [trig, check, read, if_neg (not_not.mpr good), back, if_neg (not_not.mpr good'), data, wrote, ite_not]

end
end
end

theorem amoTrig_none {u : State} {n a : Nat} (load : trigHit u n 0 a none = none) (store : trigHit u n 1 a none = none) :
    amoTrig u n a none none = none := by
  rw [amoTrig, load]
  exact store

/-! ### A core's own TCMs (R362) -/

theorem coreMemWrite_tcm (s : State) {n a : Nat} {bs : List Byte} (own : ownTcm n a = true) (al : a % bs.length = 0) :
    coreMemWrite s n a bs = (s.store a bs, 0) := by
  rw [coreMemWrite, accessParts, if_pos al, coreWrites, List.take_length, coreWrite1, if_pos own]
  rfl

theorem coreMemWrite_tcmSplit (s : State) {n a b : Nat} {bs : List Byte} (hb : b = (a / bs.length + 1) * bs.length)
    (own : ownTcm n a = true) (own' : ownTcm n b = true) (mis : a % bs.length ≠ 0) (some : bs.length ≠ 0) :
    coreMemWrite s n a bs = ((s.store a (bs.take (b - a))).store b (bs.drop (b - a)), 0) := by
  have next : a % bs.length + b = a + bs.length := by
    have split := Nat.div_add_mod a bs.length
    rw [hb, Nat.add_mul, Nat.one_mul, Nat.mul_comm]
    omega
  have small : a % bs.length < bs.length := Nat.mod_lt a (Nat.pos_of_ne_zero some)
  have rest : (bs.drop (b - a)).take (a + bs.length - b) = bs.drop (b - a) :=
    List.take_of_length_le (by rw [List.length_drop]; omega)
  rw [coreMemWrite, accessParts, if_neg mis, ← hb, coreWrites, coreWrite1, if_pos own]
  refine (if_neg (not_not.mpr rfl)).trans ?_
  rw [coreWrites, rest, coreWrite1, if_pos own']
  rfl

/-! ### Instructions at the pc (R360) -/

theorem retire_fetched {s u : State} {n : Nat} {c : Bool} (core : n < s.crw.cores.length) (fetch : fetchAt s n (instrLen c) 0 = (u, true)) :
    (coreOf (retire u n) n).pc = (coreOf s n).pc + if c then 2 else 4 := by
  obtain ⟨p, rfl⟩ := fetchAt_ok s u n _ fetch
  have length : n < (modCore s n fun k => { k with ilen := instrLen c, pref := p k }).crw.cores.length := by
    rw [modCore, modAt_length]
    exact core
  rw [retire_pc _ n length, coreOf_modCore s n _ core]
  cases c <;> rfl

theorem coreCycle_executes {s u : State} {n len de : Nat} {bs : List Byte} (ex : ExecutesLen s n len u) (noEntry : feNext s n = none)
    (noTrap : takesIrq s n = false ∨ plainIrq s n = none)
    (hlen : len = if leNat (fetchBytes s n (coreOf s n).pc.toNat 2) % 4 = 3 then 4 else 2)
    (hbs : bs = fetchBytes u n (coreOf s n).pc.toNat 4) : coreCycle s n 0 de = stepHalt (rvBytes u n bs de) n := by
  have ⟨run, halt, _⟩ := ex
  have free : loadAtRack s n = false := by
    rw [coreRuns, Bool.and_eq_true, Bool.not_eq_true'] at run
    exact run.2
  have noIrq : (takesIrq s n && (plainIrq s n).isSome) = false := by
    rcases noTrap with off | none
    · rw [off, Bool.false_and]
    · rw [none, Option.isSome_none, Bool.and_false]
  rw [hbs]
  subst hlen
  rw [coreCycle, haltNow_none s n halt, free, noEntry, noIrq]
  exact onCore_executes s u n _ (fun s => rvBytes s n (fetchBytes s n _ 4) de) ex

section
variable {imm r1 f3 rd op : Nat} (himm : imm < 4096) (hr1 : r1 < 32) (hf3 : f3 < 8) (hrd : rd < 32) (hop : op < 128)
include himm hr1 hf3 hrd hop

theorem encI_toNat : (BitVec.ofNat 32 (encI imm r1 f3 rd op)).toNat = imm * 1048576 + r1 * 32768 + f3 * 4096 + rd * 128 + op := by
  rw [BitVec.toNat_ofNat, encI]
  omega

/-- The fields of an I-type instruction. -/
theorem encI_fields : wordField (BitVec.ofNat 32 (encI imm r1 f3 rd op)) 0 7 = op ∧
    wordField (BitVec.ofNat 32 (encI imm r1 f3 rd op)) 7 5 = rd ∧ wordField (BitVec.ofNat 32 (encI imm r1 f3 rd op)) 12 3 = f3 ∧
    wordField (BitVec.ofNat 32 (encI imm r1 f3 rd op)) 15 5 = r1 ∧ wordField (BitVec.ofNat 32 (encI imm r1 f3 rd op)) 20 12 = imm := by
  simp only [wordField, encI_toNat himm hr1 hf3 hrd hop]
  omega

end

theorem immOp_addi (imm : BitVec 12) (a : Word) : immOp 0 imm a = some (a + imm.signExtend 32) := rfl

section
variable (u : State) (n : Nat) (rd rs1 : Fin 32) (imm : BitVec 12) (ecc : Nat)

theorem rvRun_addi : rvRun u n (BitVec.ofNat 32 (encI imm.toNat rs1 0 rd 0x13)) ecc =
    retire (setX u n rd (xreg u n rs1 + imm.signExtend 32)) n := by
  obtain ⟨op, d, f3, r1, i⟩ := encI_fields imm.isLt rs1.isLt (f3 := 0) (by decide) rd.isLt (op := 0x13) (by decide)
  rw [rvRun, op, d, f3, r1, i, BitVec.ofNat_toNat, BitVec.setWidth_eq]
  exact congrArg (aluDone u n rd) (immOp_addi imm (xreg u n rs1))

theorem rvRun_lw : rvRun u n (BitVec.ofNat 32 (encI imm.toNat rs1 2 rd 0x03)) ecc = loadAt n 2 false rd rs1 imm ecc u := by
  obtain ⟨op, d, f3, r1, i⟩ := encI_fields imm.isLt rs1.isLt (f3 := 2) (by decide) rd.isLt (op := 0x03) (by decide)
  rw [rvRun, op, d, f3, r1, i, BitVec.ofNat_toNat, BitVec.setWidth_eq]
  rfl

end

/-- Settles O26: what every command of a core does before its effect, and the effects of loads, stores, fences and atomics. -/
theorem coreMemoryInstructions : Obligations.CoreMemoryInstructions := by
  refine ⟨fun s v n len ecc f hv => ⟨onCore_held f hv, fun u pc run hpc => ⟨onCore_faults f hv run,
      fun act fetch trig => onCore_triggers f hv run fetch hpc trig, fun fetch trig => onCore_acts f hv run fetch hpc trig⟩⟩,
    fun s n halt => haltNow_none s n halt, fun s n c k uns rd rs1 rs2 imm ecc => ⟨rfl, rfl⟩, fun s n tso pred succ => ⟨rfl, rfl⟩,
    fun s n op rd rs1 rs2 ecc => ⟨rfl, rfl, rfl⟩, ?load, ?memLoad, ?store, fun u n a bs room => postStore_room a bs room,
    fun u w n tso pred succ faulted drain => fenceAt_eq tso pred succ drain, fun u w n faulted drain => fenceIAt_eq drain, ?lr,
    fun u w n rd rs1 rs2 a st r ha trig check wrote => scAt_eq ha rd rs2 trig check wrote, ?amo,
    fun u n op rd rs1 rs2 ecc a e ha => ⟨lrAt_refused ha rd ecc, scAt_refused ha rd rs2, amoAt_refused ha op rd rs2 ecc⟩,
    fun s n bs a own al => coreMemWrite_tcm s own al,
    fun s n bs a b hb own own' mis some => coreMemWrite_tcmSplit s hb own own' mis some, fun s n v => ⟨if_pos rfl, if_pos rfl⟩,
    fun s u n c core fetch => retire_fetched core fetch,
    fun s u n len de bs ex noEntry noTrap hlen hbs => coreCycle_executes ex noEntry noTrap hlen hbs, ?bytes,
    fun u n rd rs1 imm ecc => ⟨rvRun_addi u n rd rs1 imm ecc, rvRun_lw u n rd rs1 imm ecc⟩, ?mulDiv⟩
  case load =>
    intro u n k uns rd rs1 imm ecc a ha
    exact ⟨fun act trig => loadAt_triggers ha trig,
      fun trig => ⟨fun e check => loadAt_refused ha trig check, fun r check => loadAt_performed ha trig check⟩⟩
  case memLoad =>
    intro u n rd a len ecc uns w x st st' bs read back
    rw [memLoad_eq read back]
    refine ⟨fun failed => (if_pos failed).trans (loadEnd_failed failed),
      fun good lost => (if_neg (not_not.mpr good)).trans (loadEnd_failed lost), ?_⟩
    rintro good rfl data
    exact (if_neg (not_not.mpr good)).trans (loadEnd_good data)
  case store =>
    intro u n k rs1 rs2 imm a bs ha hbs
    exact ⟨fun act trig => storeAt_triggers ha hbs trig, fun trig => ⟨fun e check => storeAt_refused ha hbs trig check,
      fun r w st check memory wrote => storeAt_memory ha hbs trig check memory wrote,
      fun r check io => storeAt_posted ha hbs trig check io⟩⟩
  case lr =>
    intro u w x n rd rs1 ecc a st st' r bs ha trig check read back
    exact ⟨lrAt_failed ha read rd trig check, lrAt_lost ha read back rd trig check, lrAt_loads ha read back rd trig check⟩
  case amo =>
    intro u n op rd rs1 rs2 ecc a r v st bs x st' m y w st'' ha load store check read back hm hy wrote
    have trig := amoTrig_none load store
    exact ⟨amoAt_failed ha read op rd rs2 trig check, amoAt_lost ha read back op rd rs2 trig check,
      fun good good' data => amoAt_stores ha read back op rd rs2 trig check good good' hm hy data wrote⟩
  case bytes =>
    intro u n bs ecc
    refine ⟨fun whole => if_pos whole, fun half w expand => (if_neg half).trans ?_, fun half expand => (if_neg half).trans ?_⟩
    · rw [expand]
    · rw [expand]
      rfl
  case mulDiv =>
    intro a b
    exact ⟨rfl, rfl, rfl, rfl, by decide, by decide, rfl⟩

end Sys2Proof.Machine
end

section
/-! The vector's word of an Xlkfe entry that is lost (R366, R379, R381). -/

namespace Sys2Proof.Machine

/-- A node in RUN at the reset values of Bark. Core 1 runs with its software interrupt pending, an Xlkfe event of priority 3; its
stack pointer is good, mcountinhibit holds its mcycle (a free value else), and its vector table stands at the first byte of its D-TCM. -/
def awaitsVector : State :=
  let s := setCoreState { State.reset with pwr := { mode := .run, base := .run, booted := true } } 1 1
  let s := setCsr (setCsr (setCsr (setCsr s 1 0x320 1) 1 csrMstatus 8) 1 csrMie 8) 1 csrFecfg 0x3004
  let s := setCsr (setX s 1 2 (BitVec.ofNat 32 (dtcm 1 + 0xFFC0))) 1 csrFevt (BitVec.ofNat 32 (dtcm 1))
  { s with crw := { s.crw with acl := { s.crw.acl with msip := [false, true, false, false] } } }

/-- The software interrupt is the event that core 1 enters, and its stack pointer passes the checks. -/
theorem awaitsVector_enters : feNext awaitsVector 1 = some (3, 32, 3) ∧ spCheck awaitsVector 1 (feSp awaitsVector 1) = none := by
  decide +kernel

/-- What the loss of the vector's word leaves, and the status of its read. -/
def vectorLost : State × Nat := eccRead awaitsVector (feVecAddr awaitsVector 1 32) 2

/-- CRW_TCM_UNC is MAJOR after a reset: Bark fences core 1 and the core takes no event. -/
theorem awaitsVector_lost : vectorLost.2 = 3 ∧ coreState vectorLost.1 1 = 4 := by decide +kernel

/-- The value that core 1 reads in mtval. -/
def mtvalShown (s : State) : Nat := (csrRaw s 1 csrMtval).toNat

/-- The model reads the vector's address again from the fenced core, which enters no event, and shows 0. -/
theorem mtvalShown_xlkfeAt : mtvalShown (xlkfeAt 1 2 awaitsVector) = 0 := by decide +kernel

/-- The access fault of the vector's word shows its address. -/
theorem mtvalShown_vectorFault : mtvalShown (raiseExc (setCoreState vectorLost.1 1 1) 1 5
    (BitVec.ofNat 32 (feVecAddr awaitsVector 1 32))) = dtcm 1 + 128 := by decide +kernel

/-- Refutes O27: where the vector's word is lost the statement's access fault has the word's address in mtval. The model takes that
address from the state after the loss has been raised, where Bark has fenced the core at the reset value of CRW_TCM_UNC and no
event is entered any more: mtval reads 0. -/
theorem not_crewTrapsComplete : ¬ Obligations.CrewTrapsComplete := by
  rintro ⟨-, -, lost, -⟩
  obtain ⟨event, good⟩ := awaitsVector_enters
  obtain ⟨fails, -⟩ := awaitsVector_lost
  have failed : vectorLost.2 ≠ 0 := by rw [fails]; decide
  have fault : xlkfeAt 1 2 awaitsVector = raiseExc (setCoreState vectorLost.1 1 1) 1 5 (BitVec.ofNat 32 (feVecAddr awaitsVector 1 32)) :=
    (lost awaitsVector vectorLost.1 1 2 _ vectorLost.2 event good Prod.mk.eta.symm).1 failed
  have shown := congrArg mtvalShown fault
  rw [mtvalShown_xlkfeAt, mtvalShown_vectorFault] at shown
  exact absurd shown (by decide)

end Sys2Proof.Machine
end

section
/-! Raising an event takes no time: Bark's reactions, the fences and SAFE among them, leave `uptime` alone (R160 to R177). -/

namespace Sys2Proof.Machine

/-! ### Branches and loops -/

theorem ite_uptime {c : Prop} [Decidable c] {s t : State} {u : Nat} (hs : s.uptime = u) (ht : t.uptime = u) :
    (if c then s else t).uptime = u := by
  split <;> assumption

theorem foldl_uptime {α : Type} {f : State → α → State} (keeps : ∀ s x, (f s x).uptime = s.uptime) (s : State) (l : List α) :
    (l.foldl f s).uptime = s.uptime := foldl_keeps State.uptime keeps l s

/-- A loop that acts on some of a list's members. -/
theorem foldl_if_uptime {α : Type} {c : State → α → Prop} [∀ s x, Decidable (c s x)] {f : State → α → State}
    (keeps : ∀ s x, (f s x).uptime = s.uptime) (s : State) (l : List α) :
    (l.foldl (fun s x => if c s x then f s x else s) s).uptime = s.uptime :=
  foldl_uptime (fun s x => ite_uptime (keeps s x) rfl) s l

/-! ### Interrupts and the event log -/

theorem setCoreState_uptime (s : State) (n st : Nat) : (setCoreState s n st).uptime = s.uptime := rfl

theorem wakeCores_uptime (s : State) : (wakeCores s).uptime = s.uptime :=
  foldl_if_uptime (fun s n => setCoreState_uptime s n 1) s _

theorem plicRaise_uptime (s : State) (n : Nat) : (plicRaise s n).uptime = s.uptime :=
  (wakeCores_uptime _).trans (ite_uptime rfl rfl)

/-- A bit set and an interrupt raised with it. -/
theorem raised_uptime (s : State) (r : FRef) (n : Nat) : (plicRaise (s.setBit r true) n).uptime = s.uptime := plicRaise_uptime _ n

theorem addEvent_uptime (s : State) (e : Ev) : (addEvent s e).uptime = s.uptime := ite_uptime rfl (ite_uptime rfl rfl)

theorem logOther_uptime (s : State) (kind detail : Nat) : (logOther s kind detail).uptime = s.uptime := addEvent_uptime s _

/-! ### Motion and the drive stage -/

theorem motIrq_uptime (s : State) (r : FRef) (n : Nat) : (motIrq s r n).uptime = s.uptime := plicRaise_uptime _ 23

theorem homeFail_uptime (s : State) (n : Nat) : (homeFail s n).uptime = s.uptime := motIrq_uptime s MOT_IRQ.DONE n

theorem noteStop_uptime (s : State) (n cause : Nat) : (noteStop s n cause).uptime = s.uptime := motIrq_uptime _ MOT_IRQ.HALT n

theorem setAxState_uptime (s : State) (n st : Nat) : (setAxState s n st).uptime = s.uptime := rfl

theorem dropRemain_uptime (s : State) (n : Nat) : (dropRemain s n).uptime = s.uptime := rfl

theorem modAxis_uptime (s : State) (n : Nat) (f : Axis → Axis) : (modAxis s n f).uptime = s.uptime := rfl

theorem halt1_uptime (s : State) (cause : Nat) (keep : Bool) (n : Nat) : (halt1 s cause keep n).uptime = s.uptime := by
  unfold halt1
  extract_lets moving homing noted counted suspect stopped
  have stopped_uptime : stopped.uptime = s.uptime :=
    (modAxis_uptime suspect n _).trans (ite_uptime (noteStop_uptime s n cause) (noteStop_uptime s n cause))
  refine ite_uptime ?_ ?_
  · rw [setAxState_uptime, dropRemain_uptime, homeFail_uptime, stopped_uptime]
  · rw [setAxState_uptime]
    exact ite_uptime stopped_uptime stopped_uptime

theorem haltAll_uptime (s : State) (cause : Nat) : (haltAll s cause).uptime = s.uptime :=
  foldl_if_uptime (fun s n => halt1_uptime s cause true n) (s.modMot _) _

theorem owedHalt_uptime (s : State) (cause n : Nat) (f : Mot → Mot) : ((halt1 s cause false n).modMot f).uptime = s.uptime :=
  halt1_uptime s cause false n

theorem masterLost_uptime (s : State) (i : Nat) : (masterLost s i).uptime = s.uptime :=
  foldl_if_uptime (fun s n => owedHalt_uptime s 10 n fun m => { m with owed := m.owed ++ [(Src.MOT_AXIS, n)] }) s _

theorem drvRefresh1_uptime (s : State) (n : Nat) : (drvRefresh1 s n).uptime = s.uptime := by
  unfold drvRefresh1
  extract_lets st parked
  exact ite_uptime rfl (ite_uptime rfl (ite_uptime rfl (ite_uptime rfl rfl)))

theorem drvRefresh_uptime (s : State) : (drvRefresh s).uptime = s.uptime := foldl_uptime drvRefresh1_uptime s _

theorem tripSet_uptime (s : State) (r : FRef) : (tripSet s r).uptime = s.uptime := by
  unfold tripSet
  extract_lets was tripped
  exact ite_uptime rfl ((drvRefresh_uptime _).trans (raised_uptime _ _ 24))

theorem tripAll_uptime (s : State) (r : FRef) (cause : Nat) : (tripAll s r cause).uptime = s.uptime :=
  (haltAll_uptime _ cause).trans (tripSet_uptime s r)

/-! ### Frames to the hosts -/

theorem tenIrq_uptime (s : State) (r : FRef) (i : Nat) : (tenIrq s r i).uptime = s.uptime := plicRaise_uptime _ _

theorem endSlot_uptime (s : State) (q res : Nat) : (endSlot s q res).uptime = s.uptime := ite_uptime (tenIrq_uptime _ _ q) rfl

theorem abandonPush_uptime (s : State) (i : Nat) : (abandonPush s i).uptime = s.uptime := by
  unfold abandonPush
  split <;> rfl

theorem freeCpl_uptime (s : State) (t tag : Nat) : (freeCpl s t tag).uptime = s.uptime := ite_uptime rfl rfl

theorem discardFrame_uptime (s : State) (e : EgFrame) (res : Nat) : (discardFrame s e res).uptime = s.uptime := by
  unfold discardFrame
  split
  · rfl
  · exact freeCpl_uptime s _ _
  · exact abandonPush_uptime s _
  · exact endSlot_uptime s _ res

theorem loseFrame_uptime (s : State) (x : Nat) (e : EgFrame) : (loseFrame s x e).uptime = s.uptime := by
  refine (discardFrame_uptime _ e 5).trans ?_
  split
  · rfl
  · exact ite_uptime rfl rfl

theorem enqueue_uptime (s : State) (x u : Nat) (e : EgFrame) : (enqueue s x u e).uptime = s.uptime :=
  ite_uptime (loseFrame_uptime s x e) (ite_uptime rfl (ite_uptime (plicRaise_uptime _ _) rfl))

theorem routeMsg_uptime (s : State) (route : Nat → Bool) (f : Frame) : (routeMsg s route f).uptime = s.uptime :=
  foldl_uptime (fun s _ => ite_uptime (enqueue_uptime s _ _ _) rfl) s _

theorem sendModeMsg_uptime (s : State) (new old : Mode) : (sendModeMsg s new old).uptime = s.uptime := routeMsg_uptime s _ _

theorem enter_uptime (s : State) (m : Mode) (q : Seq) : (s.enter m q).uptime = s.uptime := by
  unfold State.enter
  dsimp only
  split
  · rw [sendModeMsg_uptime]
    exact raised_uptime s SYS_SVC_IRQ.MODE_CHG plicMODE
  · rfl

/-! ### Images and the journal -/

theorem modImg_uptime (s : State) (f : SecImg → SecImg) : (s.modImg f).uptime = s.uptime := rfl

theorem modCnp_uptime (s : State) (f : Canopy → Canopy) : (s.modCnp f).uptime = s.uptime := rfl

theorem modHwd_uptime (s : State) (f : Hwd → Hwd) : (s.modHwd f).uptime = s.uptime := rfl

theorem resetRegs_uptime (s : State) (lo hi : Nat) : (s.resetRegs lo hi).uptime = s.uptime := rfl

theorem endImgOp_uptime (s : State) (r sect : Nat) : (endImgOp s r sect).uptime = s.uptime := by
  unfold endImgOp
  split
  · rfl
  · extract_lets shown raised
    have raised_uptime : raised.uptime = s.uptime := plicRaise_uptime _ plicSEC
    exact ite_uptime ((logOther_uptime raised _ _).trans raised_uptime) raised_uptime

theorem noteImage_uptime (s : State) (lo hi : Nat) : (noteImage s lo hi).uptime = s.uptime := rfl

theorem noteBough_uptime (s : State) (b : Nat) : (noteBough s b).uptime = s.uptime := by
  simp only [noteBough, noteImage_uptime]

theorem clearBough_uptime (s : State) (b : Nat) : (clearBough s b).uptime = s.uptime := rfl

theorem discardStaged_uptime (s : State) (lo hi : Nat) : (discardStaged s lo hi).uptime = s.uptime := rfl

theorem emptyBough_uptime (s : State) (b : Nat) : (emptyBough s b).uptime = s.uptime := by
  unfold emptyBough
  dsimp only
  rw [modCnp_uptime, noteBough_uptime, State.setFld_uptime, State.setBit_uptime, State.setWord_uptime, resetRegs_uptime,
    resetRegs_uptime, resetRegs_uptime, foldl_uptime, clearBough_uptime, discardStaged_uptime]
  exact fun s _ => resetRegs_uptime s _ _

theorem graftLost_uptime (s : State) (b res : Nat) : (graftLost s b res).uptime = s.uptime := by
  rw [graftLost, endImgOp_uptime, modImg_uptime, State.setBit_uptime, emptyBough_uptime]

theorem abandonGraft_uptime (s : State) : (abandonGraft s).uptime = s.uptime := by
  unfold abandonGraft
  split
  · exact ite_uptime (graftLost_uptime s _ _) rfl
  · rfl

theorem setTx_uptime (s : State) (t st res : Nat) : (setTx s t st res).uptime = s.uptime := by
  simp only [setTx, State.setFld_uptime]

theorem setEntries_uptime (s : State) (t : Nat) (es : List JEntry) : (setEntries s t es).uptime = s.uptime := by
  simp only [setEntries, State.setFld_uptime, modHwd_uptime]

theorem abortTxn_uptime (s : State) (t : Nat) : (abortTxn s t).uptime = s.uptime := by
  rw [abortTxn, setTx_uptime, setEntries_uptime]

theorem abortOpen_uptime (s : State) (failed : Bool) : (abortOpen s failed).uptime = s.uptime :=
  foldl_if_uptime (fun s t => abortTxn_uptime s t) s _

theorem commitEvent_uptime (s : State) (e : Ev) : (commitEvent s e).uptime = s.uptime := by
  simp only [commitEvent, State.setFld_uptime, State.store_uptime]

theorem commitEvents_uptime (s : State) : (commitEvents s).uptime = s.uptime :=
  ite_uptime rfl (foldl_uptime commitEvent_uptime (s.modHwd _) _)

theorem commitDone_uptime (s : State) : (commitDone s).uptime = s.uptime := by
  unfold commitDone
  split
  · rfl
  · extract_lets was emptied
    have emptied_uptime : emptied.uptime = s.uptime := setEntries_uptime _ _ []
    exact ite_uptime rfl (ite_uptime ((setTx_uptime emptied _ _ _).trans emptied_uptime) emptied_uptime)

theorem trendFree_uptime (fuel : Nat) (s : State) (n : Nat) : (trendFree fuel s n).uptime = s.uptime := by
  induction fuel generalizing s with
  | zero => rfl
  | succ fuel ih => exact ite_uptime rfl (ih _)

theorem hwdWrite_uptime (s : State) (log : List HwdPut) (e : Option Nat) (a : Nat) (bs : List Byte) :
    (hwdWrite s log e a bs).1.uptime = s.uptime := State.store_uptime s a bs

theorem padded_uptime (s : State) (log : List HwdPut) (e : Option Nat) (p a : Nat) (bs : List Byte) :
    (if p = 0 then (s, log) else hwdWrite s log e a bs).1.uptime = s.uptime := by
  split
  · rfl
  · exact hwdWrite_uptime s log e a bs

theorem appendTrend_uptime (s : State) (log : List HwdPut) (k : Nat) (e : JEntry) : (appendTrend s log k e).1.uptime = s.uptime := by
  unfold appendTrend
  dsimp only
  rw [modHwd_uptime, State.setFld_uptime, hwdWrite_uptime, padded_uptime, trendFree_uptime]

theorem applyEntries_uptime (s : State) (es : List JEntry) : (applyEntries s es).1.uptime = s.uptime := by
  refine foldl_keeps (fun p : State × List HwdPut => p.1.uptime) ?_ _ (s, [])
  rintro ⟨s, log⟩ ⟨e, k⟩
  dsimp only
  split
  · exact appendTrend_uptime s log k e
  · exact hwdWrite_uptime s log _ _ _

theorem commitRecord_uptime (s : State) : (commitRecord s).uptime = s.uptime := by
  unfold commitRecord
  split
  · rfl
  · split
    · rfl
    · dsimp only
      split
      · rw [setTx_uptime, State.count_uptime, modHwd_uptime]
      · rw [modHwd_uptime, applyEntries_uptime, modHwd_uptime]

theorem takeLocks_uptime (s : State) (ks : Nat) : (takeLocks s ks).uptime = s.uptime := by
  unfold takeLocks
  split
  · rfl
  · rw [logOther_uptime, State.setFld_uptime]

theorem replayDone_uptime (bad : List Nat) (s : State) : (replayDone bad s).uptime = s.uptime := by
  unfold replayDone
  split
  · rfl
  · split
    · rfl
    · dsimp only
      rw [takeLocks_uptime, State.setBit_uptime, modHwd_uptime, foldl_uptime fun _ _ => State.store_uptime _ _ _,
        List.foldr_eq_foldl_reverse, foldl_uptime]
      exact fun _ _ => State.store_uptime _ _ _

theorem finishCommits_uptime (s : State) : (finishCommits s).uptime = s.uptime := by
  unfold finishCommits
  dsimp only
  rw [foldl_uptime, commitDone_uptime, replayDone_uptime]
  intro s t
  rw [commitDone_uptime, commitRecord_uptime, setEntries_uptime]

theorem closeJournal_uptime (s : State) : (closeJournal s).uptime = s.uptime := by
  unfold closeJournal
  dsimp only
  rw [modHwd_uptime]
  split
  · rfl
  · rw [commitEvents_uptime, abortOpen_uptime, finishCommits_uptime]

/-! ### Traps and loads of the crew cores -/

theorem setCsr_uptime (s : State) (n c : Nat) (v : Word) : (setCsr s n c v).uptime = s.uptime := rfl

theorem setCsrFld_uptime (s : State) (n c lo wid v : Nat) : (setCsrFld s n c lo wid v).uptime = s.uptime := rfl

theorem modCore_uptime (s : State) (n : Nat) (f : Core → Core) : (modCore s n f).uptime = s.uptime := rfl

theorem trapRsv_uptime (s : State) (n : Nat) : (trapRsv s n).uptime = s.uptime := rfl

theorem saveState_uptime (s : State) (n : Nat) (pc cause : Word) : (saveState s n pc cause).uptime = s.uptime := by
  rw [saveState, trapRsv_uptime, modCore_uptime, setCsrFld_uptime, setCsrFld_uptime, setCsrFld_uptime, setCsr_uptime, setCsr_uptime]

theorem progEnd_uptime (s : State) (n e : Nat) : (progEnd s n e).uptime = s.uptime := by
  unfold progEnd
  split
  · rfl
  · dsimp only
    rw [modCore_uptime]

theorem takeTrap_uptime (s : State) (n : Nat) (pc : Word) (cause : Nat) (irq : Bool) (tval : Word) :
    (takeTrap s n pc cause irq tval).uptime = s.uptime := by
  unfold takeTrap
  split
  · exact progEnd_uptime s n 3
  · rw [vecTrap, modCore_uptime, setCsr_uptime, saveState_uptime]

theorem raiseExc_uptime (s : State) (n cause : Nat) (tval : Word) : (raiseExc s n cause tval).uptime = s.uptime :=
  takeTrap_uptime s n _ cause false tval

theorem setX_uptime (s : State) (n r : Nat) (v : Word) : (setX s n r v).uptime = s.uptime := by
  unfold setX
  split
  · rfl
  · rw [modCore_uptime]

theorem crbLoadEnd_uptime (s : State) (n rd k : Nat) (uns : Bool) (a st : Nat) (bs : List Byte) :
    (crbLoadEnd s n rd k uns a st bs).uptime = s.uptime := by
  unfold crbLoadEnd
  split
  · rfl
  · split
    · exact raiseExc_uptime s n 5 _
    · dsimp only
      split
      · exact raiseExc_uptime s n 3 _
      · exact modCore_uptime s n _
      · rw [retire_uptime, setX_uptime]

theorem postedFault_uptime (s : State) (n : Nat) (pc : Word) (a : Nat) : (postedFault s n pc a).uptime = s.uptime := by
  unfold postedFault
  split
  · rw [takeTrap_uptime, setCoreState_uptime]
  · rfl

theorem noteCycles_uptime (s : State) (n : Nat) : (noteCycles s n).uptime = s.uptime := by
  unfold noteCycles
  split
  · rfl
  · exact (setCsr_uptime _ n _ _).trans (setCsr_uptime _ n _ _)

theorem fenceCore_uptime (s : State) (n : Nat) : (fenceCore s n).uptime = s.uptime := by
  rw [fenceCore, setCoreState_uptime, modCore_uptime, noteCycles_uptime, progEnd_uptime]

/-! ### The rack bridge stops -/

theorem modTh_uptime (s : State) (f : TenH → TenH) : (s.modTh f).uptime = s.uptime := rfl

theorem carriedGone_uptime (s : State) (id : Nat) : (carriedGone s id).uptime = s.uptime := rfl

theorem emitCpl_uptime (s : State) (r : Req) : (emitCpl s r).uptime = s.uptime := by
  unfold emitCpl
  split
  · rfl
  · dsimp only
    split
    · rw [carriedGone_uptime, freeCpl_uptime]
    · exact enqueue_uptime s _ _ _

theorem flushCpls_uptime (s : State) (r : Req) : (flushCpls s r).uptime = s.uptime := by
  unfold flushCpls
  dsimp only
  rw [foldl_uptime emitCpl_uptime, modTh_uptime]

theorem freePostedCredit_uptime (s : State) (t words : Nat) : (freePostedCredit s t words).uptime = s.uptime := by
  rw [freePostedCredit, State.setFld_uptime, State.setFld_uptime]

theorem finishReq_uptime (s : State) (id st : Nat) (bs : List Byte) (aux : Nat) : (finishReq s id st bs aux).uptime = s.uptime := by
  unfold finishReq
  split
  · rfl
  · dsimp only
    rw [flushCpls_uptime]
    split
    · rfl
    · split <;> split
      · rw [freePostedCredit_uptime, State.count_uptime, modTh_uptime]
      · rw [State.count_uptime, modTh_uptime]
      · rw [freePostedCredit_uptime, modTh_uptime]
      · rw [modTh_uptime]

theorem svcFinish_uptime (s : State) (wr : Bool) (data : List Word) (rest st : Nat) : (svcFinish s wr data rest st).uptime = s.uptime := by
  rw [svcFinish, State.count_uptime]

theorem crbSvcEnd_uptime (s : State) (no st : Nat) (bs : List Byte) : (crbSvcEnd s no st bs).uptime = s.uptime := by
  unfold crbSvcEnd
  split
  · split
    · rfl
    · split
      · rw [svcFinish_uptime]
      · dsimp only
        split
        · rw [svcFinish_uptime]
        · rfl
  · rfl

theorem crbDbgEnd_uptime (s : State) (wr : Bool) (st : Nat) (bs : List Byte) : (crbDbgEnd s wr st bs).uptime = s.uptime := rfl

theorem crbEnd_uptime (s : State) (r : CrbOut) (st : Nat) : (crbEnd s r st).uptime = s.uptime := by
  unfold crbEnd
  dsimp only
  split
  · exact ite_uptime rfl rfl
  · split
    · exact finishReq_uptime s _ _ _ _
    · exact crbLoadEnd_uptime s _ _ _ _ _ _ _
    · exact ite_uptime (postedFault_uptime s _ _ _) rfl
    · exact crbDbgEnd_uptime s _ _ _
    · exact crbSvcEnd_uptime s _ _ _

theorem modCrb_uptime (s : State) (f : Crb → Crb) : (s.modCrb f).uptime = s.uptime := rfl

theorem crbRelease_uptime (s : State) : (crbRelease s).uptime = s.uptime := by
  rw [crbRelease, modCrb_uptime, State.setBit_uptime]

theorem crbEndAll_uptime (s : State) (st : Nat) : (crbEndAll s st).uptime = s.uptime := by
  unfold crbEndAll
  dsimp only
  rw [foldl_uptime fun s r => crbEnd_uptime s r st, modCrb_uptime]

theorem crbCut_uptime (s : State) : (crbCut s).uptime = s.uptime := by
  rw [crbCut, modCrb_uptime, State.setFld_uptime, crbRelease_uptime, crbEndAll_uptime]

theorem crbStop_uptime (s : State) : (crbStop s).uptime = s.uptime := by
  unfold crbStop
  split
  · exact crbCut_uptime s
  · dsimp only
    rw [modCrb_uptime, State.setFld_uptime, foldl_uptime fun s r => crbEnd_uptime s r 3, modCrb_uptime]

/-! ### SAFE and DEGRADED -/

theorem grvOff_uptime (s : State) (x : Nat) : (grvOff s x).uptime = s.uptime := rfl

theorem enterSafe_uptime (s : State) : (enterSafe s).uptime = s.uptime := by
  unfold enterSafe
  dsimp only
  rw [enter_uptime, closeJournal_uptime, commitEvents_uptime]
  split
  · rw [abandonGraft_uptime, crbStop_uptime, groveStop, foldl_uptime grvOff_uptime, driveTrip, tripAll_uptime]
  · rw [crbStop_uptime, groveStop, foldl_uptime grvOff_uptime, driveTrip, tripAll_uptime]

theorem actGrave_uptime (s : State) (src : Nat) : (actGrave s src).uptime = s.uptime := by
  unfold actGrave
  split
  · rfl
  · rfl
  · rfl
  · split
    · dsimp only
      rw [State.setBit_uptime, driveTrip, tripAll_uptime]
    · exact enterSafe_uptime s

theorem enterDegraded_uptime (s : State) : (enterDegraded s).uptime = s.uptime := by
  unfold enterDegraded
  split
  · exact enter_uptime s .degraded .none
  · exact enter_uptime s .degraded .none
  · exact enter_uptime s .degraded .none
  · exact enter_uptime s .degraded .none
  · rfl

/-! ### The Canopy settles -/

theorem setCtx_uptime (s : State) (key : Nat) (c : Ctx) : (setCtx s key c).uptime = s.uptime := rfl

theorem deliver_uptime (s : State) (key : Nat) (w : SWord) : (deliver s key w).uptime = s.uptime := by
  unfold deliver
  dsimp only
  split <;> exact setCtx_uptime s key _

theorem deliverAll_uptime (s : State) (keys : List Nat) (w : SWord) : (deliverAll s keys w).uptime = s.uptime :=
  foldl_uptime (fun s key => deliver_uptime s key w) s keys

theorem setOut_uptime (s : State) (b t : Nat) (ws : List SWord) : (setOut s b t ws).uptime = s.uptime := rfl

theorem pushOut_uptime (s : State) (b t : Nat) (ws : List SWord) : (pushOut s b t ws).uptime = s.uptime := setOut_uptime s b t _

theorem setIng_uptime (s : State) (b p : Nat) (x : IngPort) : (setIng s b p x).uptime = s.uptime := rfl

theorem setPoint_uptime (s : State) (g : Nat) (p : Point) : (setPoint s g p).uptime = s.uptime := rfl

theorem laneStep_uptime {s t : State} (step : laneStep s = some t) : t.uptime = s.uptime := by
  unfold laneStep at step
  split at step
  · cases step
    rw [deliverAll_uptime, setOut_uptime]
  · cases step

theorem portStep_uptime {s t : State} (step : portStep s = some t) : t.uptime = s.uptime := by
  unfold portStep at step
  split at step
  · split at step
    · cases step
      rw [deliverAll_uptime, setIng_uptime]
    · cases step
  · cases step

theorem pushValue_uptime (s : State) (b : Nat) (ps : List Nat) (v : AlrmVal) : (pushValue s b ps v).uptime = s.uptime :=
  foldl_uptime (fun s _ => setPoint_uptime s _ _) s ps

theorem alrmTake_uptime (s : State) (b k : Nat) (w : SWord) : (alrmTake s b k w).uptime = s.uptime := by
  unfold alrmTake
  dsimp only
  split
  · exact setCtx_uptime s _ _
  · split
    · rw [pushValue_uptime, setCtx_uptime]
    · split
      · exact setCtx_uptime s _ _
      · rw [pushValue_uptime, setCtx_uptime]

theorem fftTake_uptime (s : State) (b t k : Nat) (w : SWord) : (fftTake s b t k w).uptime = s.uptime := by
  unfold fftTake
  extract_lets key c gap timed stepped n full
  split
  · exact setCtx_uptime s key _
  · split
    · exact setCtx_uptime s key _
    · exact setCtx_uptime s key _

theorem accResult_uptime (s : State) (acc : Int) : (accResult s acc).2.uptime = s.uptime := by
  unfold accResult
  split <;> rfl

theorem biquadStep_uptime (s : State) (b t q : Nat) (h : Biquad) (x : Int) : (biquadStep s b t q h x).2.2.uptime = s.uptime :=
  accResult_uptime s _

theorem cascade_uptime (s : State) (b t : Nat) (bqs : List Biquad) (x : Int) (qs : List Nat) :
    (cascade s b t bqs x qs).2.2.uptime = s.uptime :=
  foldl_keeps (fun p : Int × List Biquad × State => p.2.2.uptime) (fun p q => biquadStep_uptime p.2.2 b t q (p.2.1.getD q {}) p.1)
    qs (x, bqs, s)

theorem filtResult_uptime (s : State) (b t : Nat) (c : Ctx) : (filtResult s b t c).2.2.uptime = s.uptime := by
  unfold filtResult
  extract_lets x sum
  split
  · split
    next y bqs u squared =>
    have u_uptime : u.uptime = s.uptime := by
      rw [← cascade_uptime s b t c.bqs x [0, 1, 2, 3], squared]
    exact (cascade_uptime u b t bqs _ [4, 5]).trans u_uptime
  · split
    · exact cascade_uptime s b t _ _ _
    · exact accResult_uptime s _

theorem filtOutput_uptime (s : State) (b t src : Nat) (c : Ctx) (y : Int) : (filtOutput s b t src c y).2.2.uptime = s.uptime := by
  unfold filtOutput
  dsimp only
  split
  · exact ite_uptime (State.count_uptime s _ 1) rfl
  · exact ite_uptime (State.count_uptime s _ 1) rfl

theorem filtTake_uptime (s : State) (b t k : Nat) (w : SWord) : (filtTake s b t k w).2.uptime = s.uptime := by
  unfold filtTake
  extract_lets key src c gap timed keep stepped
  split
  · exact setCtx_uptime s key _
  · split
    next y bqs u result =>
    have u_uptime : u.uptime = s.uptime := by
      rw [← filtResult_uptime s b t stepped, result]
    dsimp only
    split
    · rw [setCtx_uptime, u_uptime]
    · exact (setCtx_uptime _ key _).trans ((filtOutput_uptime u b t src _ y).trans u_uptime)

theorem packUntimed_uptime (s : State) (c : Ctx) : (packUntimed s c).2.uptime = s.uptime := by
  unfold packUntimed
  split <;> rfl

theorem packTake_uptime (s : State) (b k : Nat) (w : SWord) : (packTake s b k w).uptime = s.uptime := by
  unfold packTake
  extract_lets key mode c gap expected timed first
  split
  · rfl
  · split
    · exact setCtx_uptime s key _
    · split
      · exact setCtx_uptime s key _
      · split
        next k' u taken =>
        have u_uptime : u.uptime = s.uptime := by
          split at taken
          · rw [← packUntimed_uptime s first, taken]
          · cases taken
            rfl
        exact (setCtx_uptime u key _).trans u_uptime

theorem rsmpValue_uptime (s : State) (win : List Smp) (t16 : Nat) : (rsmpValue s win t16).2.uptime = s.uptime := by
  unfold rsmpValue
  extract_lets t0 d v i r sum
  split <;> rfl

theorem rsmpSample_uptime (s : State) (b src : Nat) (c : Ctx) (r : Rev) (prev k : Nat) :
    (rsmpSample s b src c r prev k).2.uptime = s.uptime :=
  (ite_uptime (State.count_uptime _ _ 1) rfl).trans (rsmpValue_uptime s (rsmpWindow c.buf (rsmpInstant s b r k).2) _)

theorem rsmpRevolution_uptime (s : State) (b src : Nat) (c : Ctx) (r : Rev) : (rsmpRevolution s b src c r).2.uptime = s.uptime :=
  foldl_keeps (fun p : List SWord × Nat × State => p.2.2.uptime) (fun p k => rsmpSample_uptime p.2.2 b src c r p.2.1 k) _
    ([], 16 * r.evs.headD 0 - 1, s)

theorem rsmpSend_uptime (s : State) (b k fuel : Nat) : (rsmpSend s b k fuel).2.uptime = s.uptime := by
  induction fuel generalizing s with
  | zero => rfl
  | succ fuel ih =>
    unfold rsmpSend
    extract_lets key c
    split
    · rfl
    next r rest pend =>
    split
    · rfl
    · split
      next ws u sent =>
      have u_uptime : u.uptime = s.uptime := by
        rw [← rsmpRevolution_uptime s b (srcOf s key) c r, sent]
      exact (ih _).trans ((setCtx_uptime u key _).trans u_uptime)

theorem rsmpTake_uptime (s : State) (b k : Nat) (w : SWord) : (rsmpTake s b k w).2.uptime = s.uptime := by
  unfold rsmpTake
  extract_lets key c gap timed stepped taken
  split
  · exact (rsmpSend_uptime taken b k _).trans (setCtx_uptime s key stepped)
  · exact setCtx_uptime s key _

theorem statTake_uptime (s : State) (b t k : Nat) (w : SWord) : (statTake s b t k w).uptime = s.uptime := by
  unfold statTake
  extract_lets key c gap timed stepped counted ends
  split
  · exact setCtx_uptime s key _
  · exact setCtx_uptime s key _

theorem takeWord_uptime (s : State) (key : Nat) (w : SWord) : (takeWord s key w).2.uptime = s.uptime := by
  unfold takeWord
  extract_lets b t k noted
  split
  · rfl
  · have noted_uptime : noted.uptime = s.uptime := ite_uptime (State.setBit_uptime s (CNP_T_STAT.GAP b t) true) rfl
    rw [← noted_uptime]
    split
    · exact filtTake_uptime noted b t k w
    · exact filtTake_uptime noted b t k w
    · exact fftTake_uptime noted b t k w
    · exact rsmpTake_uptime noted b k w
    · exact statTake_uptime noted b t k w
    · exact alrmTake_uptime noted b k w
    · exact packTake_uptime noted b k w

theorem takeStep_uptime {s t : State} (step : takeStep s = some t) : t.uptime = s.uptime := by
  unfold takeStep at step
  split at step
  next key tile found =>
    split at step
    next w rest queue =>
      split at step
      next ws u taken =>
      cases step
      have taken_uptime := congrArg (fun p : List SWord × State => p.2.uptime) taken
      exact (pushOut_uptime u _ _ ws).trans (taken_uptime.symm.trans ((takeWord_uptime _ key w).trans (setCtx_uptime s key _)))
    · cases step
  · cases step

theorem canopyStep_uptime {s t : State} (step : canopyStep s = some t) : t.uptime = s.uptime := by
  unfold canopyStep at step
  split at step
  next u lane =>
    cases step
    exact laneStep_uptime lane
  · split at step
    next u port =>
      cases step
      exact portStep_uptime port
    · exact takeStep_uptime step

theorem canopyRun_uptime (fuel : Nat) (s : State) : (canopyRun fuel s).uptime = s.uptime := by
  induction fuel generalizing s with
  | zero => rfl
  | succ fuel ih =>
    unfold canopyRun
    split
    next u step => rw [ih, canopyStep_uptime step]
    · rfl

theorem canopySettle_uptime (s : State) : (canopySettle s).uptime = s.uptime := canopyRun_uptime canopyFuel s

theorem crossGap_uptime (s : State) (x : Nat) : (crossGap s x).uptime = s.uptime := by
  unfold crossGap
  split
  · rfl
  · exact foldl_uptime (fun s (p : Nat × Nat) => deliver_uptime s p.1 _) s _

theorem crossSilent_uptime (s : State) : (crossSilent s).uptime = s.uptime := by
  rw [crossSilent, canopySettle_uptime, foldl_uptime crossGap_uptime]

theorem boughSilent_uptime (s : State) (b : Nat) : (boughSilent s b).uptime = s.uptime := by
  unfold boughSilent
  split
  · rfl
  · rw [canopySettle_uptime, foldl_uptime crossGap_uptime]

theorem boughFenced_uptime (s : State) (b : Nat) : (boughFenced s b).uptime = s.uptime := by
  unfold boughFenced
  dsimp only
  rw [boughSilent_uptime]
  split
  · exact ite_uptime (abandonGraft_uptime s) rfl
  · rfl

theorem canopyFenceAfe_uptime (s : State) (n : Nat) : (canopyFenceAfe s n).uptime = s.uptime := by
  rw [canopyFenceAfe, canopySettle_uptime, foldl_uptime]
  intro s i
  dsimp only
  split
  · rw [setIng_uptime]
  · rfl

theorem setRsmp_uptime (s : State) (b : Nat) (r : Rsmp) : (setRsmp s b r).uptime = s.uptime := rfl

theorem rsmpAbandon_uptime (s : State) (b : Nat) : (rsmpAbandon s b).2.uptime = s.uptime := by
  unfold rsmpAbandon
  dsimp only
  rw [foldl_uptime fun s k => setCtx_uptime s _ _, State.setBit_uptime, setRsmp_uptime]

theorem canopyFenceTch_uptime (s : State) : (canopyFenceTch s).uptime = s.uptime := by
  rw [canopyFenceTch, canopySettle_uptime, foldl_uptime]
  intro s b
  have told := foldl_uptime (f := fun s i =>
      (stampPorts s b i).foldl (fun s q => deliverAll s (portReaders s b 2 q (32 + i)) (gapNotice (32 + i))) s)
    (fun s i => foldl_uptime (fun s q => deliverAll_uptime s _ _) s _) s (List.range 8)
  dsimp only
  split
  · exact (pushOut_uptime _ b 10 _).trans ((rsmpAbandon_uptime _ b).trans told)
  · exact told

/-! ### Ports and tenants are cut off -/

theorem tkIrq_uptime (s : State) (x : Nat) (r : FRef) : (tkIrq s x r).uptime = s.uptime := raised_uptime s r _

theorem setPort_uptime (s : State) (x n : Nat) : (setPort s x n).uptime = s.uptime := by
  unfold setPort
  split
  · rfl
  · rw [tkIrq_uptime, State.setFld_uptime]

theorem setEgQueue_uptime (s : State) (k : Nat) (l : List EgFrame) : (setEgQueue s k l).uptime = s.uptime := rfl

theorem setTc_uptime (s : State) (x : Nat) (l : List EgFrame) : (setTc s x l).uptime = s.uptime := rfl

theorem emptyQueues_uptime (s : State) (x : Nat) (p : Nat → EgFrame → Bool) {f : State → EgFrame → State}
    (keeps : ∀ s e, (f s e).uptime = s.uptime) : (emptyQueues s x p f).uptime = s.uptime := by
  unfold emptyQueues
  dsimp only
  rw [foldl_uptime keeps, setTc_uptime, foldl_uptime]
  intro s k
  rw [foldl_uptime keeps, setEgQueue_uptime]

theorem modPort_uptime (s : State) (x : Nat) (f : TkPort → TkPort) : (s.modPort x f).uptime = s.uptime := rfl

theorem portDown_uptime (s : State) (x : Nat) : (portDown s x).uptime = s.uptime := by
  unfold portDown
  split
  · rfl
  · dsimp only
    rw [emptyQueues_uptime _ x _ fun s e => loseFrame_uptime s x e, foldl_uptime fun s q => endSlot_uptime s q 5, modPort_uptime,
      State.setFld_uptime, State.setBit_uptime, State.setBit_uptime, State.setFld_uptime, State.setFld_uptime, setPort_uptime,
      State.count_uptime]

theorem timPort_uptime (s : State) : (timPort s).uptime = s.uptime := by
  unfold timPort
  split <;> rfl

theorem setLane_uptime (s : State) (x l st : Nat) : (setLane s x l st).uptime = s.uptime := by
  unfold setLane
  extract_lets old shown locked fec matched fresh counted
  have counted_uptime : counted.uptime = s.uptime :=
    (ite_uptime (State.count_uptime fresh _ 1) rfl).trans ((ite_uptime (modPort_uptime matched x _) rfl).trans
      (ite_uptime (State.setBit_uptime fec _ false) rfl))
  split
  · rw [timPort_uptime, tkIrq_uptime, counted_uptime]
  · exact counted_uptime

theorem fencePort_uptime (s : State) (x : Nat) : (fencePort s x).uptime = s.uptime := by
  rw [fencePort, portDown_uptime, setLane_uptime, setLane_uptime]

theorem setBufOwn_uptime (s : State) (us : List Nat) (v : Nat) : (setBufOwn s us v).uptime = s.uptime := rfl

theorem recordsFenceTenant_uptime (s : State) (t : Nat) : (recordsFenceTenant s t).uptime = s.uptime := by
  unfold recordsFenceTenant discardDeliveries
  dsimp only
  rw [foldl_uptime fun s d => setBufOwn_uptime s _ 15]
  rfl

theorem endBinding_uptime (s : State) (t : Nat) (fenced : Bool) : (endBinding s t fenced).uptime = s.uptime := by
  unfold endBinding
  extract_lets fewer gone node cleared pick emptied ended
  have gone_uptime : gone.uptime = s.uptime := ite_uptime (State.setBitAt_uptime _ TEN_STATUS.EXCH t false) rfl
  have cleared_uptime : cleared.uptime = s.uptime := gone_uptime
  have emptied_uptime : emptied.uptime = s.uptime := by
    rw [emptyQueues_uptime _ 1 pick fun s e => discardFrame_uptime s e 4, emptyQueues_uptime _ 0 pick fun s e => discardFrame_uptime s e 4,
      cleared_uptime]
  split
  · exact gone_uptime
  · rw [tenIrq_uptime, recordsFenceTenant_uptime]
    exact (foldl_if_uptime (fun s q => endSlot_uptime s q 4) emptied _).trans emptied_uptime

theorem hwdFenceTenant_uptime (s : State) (t : Nat) : (hwdFenceTenant s t).uptime = s.uptime := by
  unfold hwdFenceTenant doTxnAbort
  split
  · exact abortTxn_uptime s t
  · rfl

theorem hwdFenced_uptime (s : State) : (hwdFenced s).uptime = s.uptime := by
  rw [hwdFenced, foldl_uptime abortTxn_uptime, modHwd_uptime, abortOpen_uptime]

/-! ### Fences -/

theorem grvIdle_uptime (s : State) (x : Nat) : (grvIdle s x).uptime = s.uptime := by
  unfold grvIdle
  extract_lets off
  have off_uptime : off.uptime = s.uptime := grvOff_uptime s x
  split <;> exact off_uptime

theorem svcRelease_uptime (s : State) : (svcRelease s).uptime = s.uptime := by
  unfold svcRelease
  dsimp only
  split <;> rfl

theorem tripFence_uptime (s : State) (cause : Nat) : (tripFence s cause).uptime = s.uptime := by
  rw [tripFence, haltAll_uptime, tripSet_uptime]

theorem fenceUnit_uptime (s : State) (f : Nat) : (fenceUnit s f).uptime = s.uptime := by
  have tenant : ∀ t, (hwdFenceTenant (recordsFenceTenant (fenceTenant s t) t) t).uptime = s.uptime := fun t => by
    rw [hwdFenceTenant_uptime, recordsFenceTenant_uptime, fenceTenant, endBinding_uptime]
  unfold fenceUnit
  split
  · exact canopyFenceAfe_uptime s _
  · exact canopyFenceAfe_uptime s _
  · rw [foldl_uptime masterLost_uptime, canopyFenceTch_uptime]
  · exact boughFenced_uptime s _
  · exact boughFenced_uptime s _
  · exact boughFenced_uptime s _
  · exact boughFenced_uptime s _
  · exact crossSilent_uptime s
  · exact hwdFenced_uptime s
  · exact fenceCore_uptime s _
  · exact fenceCore_uptime s _
  · exact fenceCore_uptime s _
  · exact fenceCore_uptime s _
  · exact fencePort_uptime s _
  · exact fencePort_uptime s _
  · exact crbCut_uptime s
  · exact grvIdle_uptime s _
  · exact grvIdle_uptime s _
  · exact tripFence_uptime s 13
  · exact tripFence_uptime s 4
  · exact svcRelease_uptime s
  · exact tenant _
  · exact tenant _
  · exact tenant _
  · exact tenant _
  · rfl

theorem fence1_uptime (s : State) (f : Nat) : (fence1 s f).uptime = s.uptime := by
  unfold fence1
  split
  · rfl
  · dsimp only
    rw [fenceUnit_uptime, State.setBit_uptime, State.setWord_uptime]

theorem fenceAll_uptime (s : State) (targets : List Nat) : (fenceAll s targets).uptime = s.uptime := by
  rw [fenceAll, enterDegraded_uptime, foldl_uptime fence1_uptime]

/-! ### Bark -/

theorem logEvent_uptime (s : State) (src cls : Nat) (tenant : Option Nat) : (logEvent s src cls tenant).uptime = s.uptime :=
  addEvent_uptime s _

theorem sendBarkMsg_uptime (s : State) (src cls : Nat) (tenant : Option Nat) : (sendBarkMsg s src cls tenant).uptime = s.uptime :=
  routeMsg_uptime s _ _

theorem barkPerform_uptime (s : State) (src cls inst : Nat) (targets : List Nat) :
    (barkPerform s src cls inst targets).uptime = s.uptime := by
  unfold barkPerform
  extract_lets told raised shown logged fenced
  have shown_uptime : shown.uptime = s.uptime :=
    (plicRaise_uptime told plicBARK).trans (ite_uptime (sendBarkMsg_uptime s src cls _) rfl)
  have logged_uptime : logged.uptime = s.uptime := ite_uptime ((logEvent_uptime shown src cls _).trans shown_uptime) rfl
  have fenced_uptime : fenced.uptime = s.uptime := ite_uptime ((fenceAll_uptime logged targets).trans logged_uptime) logged_uptime
  exact ite_uptime ((actGrave_uptime fenced src).trans fenced_uptime) fenced_uptime

theorem setSticky_uptime (s : State) (src : Nat) (b : Bool) : (setSticky s src b).uptime = s.uptime := rfl

theorem setBarkPerf_uptime (s : State) (src cls : Nat) : (setBarkPerf s src cls).uptime = s.uptime := rfl

theorem noteGrave_uptime (s : State) (src cls : Nat) : (noteGrave s src cls).uptime = s.uptime := ite_uptime rfl rfl

theorem countTotal_uptime (s : State) (cls : Nat) : (countTotal s cls).uptime = s.uptime := by
  unfold countTotal
  split <;> rfl

theorem barkCount_uptime (s : State) (src : Nat) : (barkCount s src).1.uptime = s.uptime := by
  unfold barkCount
  extract_lets closed brk opened counted
  have closed_uptime : closed.uptime = s.uptime := ite_uptime (State.setFld_uptime s _ 0) rfl
  have opened_uptime : opened.uptime = s.uptime := ite_uptime closed_uptime closed_uptime
  have counted_uptime : counted.uptime = s.uptime := opened_uptime
  split
  · exact counted_uptime
  · split <;> exact counted_uptime

theorem barkFenced_uptime (s : State) (src inst : Nat) (targets : List Nat) (esc again : Bool) :
    (barkFenced s src inst targets esc again).uptime = s.uptime := by
  unfold barkFenced
  split
  · rw [setBarkPerf_uptime, barkPerform_uptime, noteGrave_uptime, setSticky_uptime]
  · exact ite_uptime (setSticky_uptime s src true) rfl

/-- An event that is noted, -/
theorem noted_uptime (s : State) (src cls : Nat) :
    (noteGrave (countTotal (setSticky s src true) cls) src cls).uptime = s.uptime := by
  rw [noteGrave_uptime, countTotal_uptime, setSticky_uptime]

/-- and one whose reaction is performed. -/
theorem performed_uptime (s : State) (src cls inst cls' : Nat) (targets : List Nat) :
    (setBarkPerf (barkPerform s src cls inst targets) src cls').uptime = s.uptime := by
  rw [setBarkPerf_uptime, barkPerform_uptime]

theorem barkRun_uptime (s : State) (src inst : Nat) (again : Bool) : (barkRun s src inst again).uptime = s.uptime := by
  unfold barkRun
  extract_lets targets
  split
  next u esc count =>
  have u_uptime : u.uptime = s.uptime :=
    (congrArg (fun p : State × Bool => p.1.uptime) count).symm.trans (barkCount_uptime _ src)
  dsimp only
  split
  · rw [barkFenced_uptime, u_uptime]
  · have noted := (noted_uptime u src (reactionClass u src inst targets)).trans u_uptime
    have performed := (performed_uptime _ src (reactionClass u src inst targets) inst (reactionClass u src inst targets) targets).trans noted
    split
    · exact performed
    · split
      · exact performed
      · split
        · exact performed
        · split
          · rw [setBarkPerf_uptime, fenceAll_uptime, noted]
          · exact noted

theorem payOwed_uptime (s : State) : (payOwed s).uptime = s.uptime :=
  foldl_uptime (fun s (e : Nat × Nat) => barkRun_uptime s e.1 e.2 false) (s.modMot _) _

/-- Raising an event takes no time. -/
theorem bark_uptime (s : State) (src inst : Nat) : (bark s src inst).uptime = s.uptime := by
  unfold bark
  split
  · split
    · rfl
    · rw [payOwed_uptime, barkRun_uptime]
  · exact ite_uptime rfl rfl

end Sys2Proof.Machine
end

section
/-! Mastership and outbound cycles of the rack bridge (R508 to R524, R535 to R541). -/

namespace Sys2Proof.Machine

@[simp] theorem State.runTo_crb (s : State) (u : Nat) : (s.runTo u).crb = s.crb :=
  (congrArg State.crb (State.advanceTo_eq s _) :)

/-! ### Mastership (R511 to R514) -/

theorem breqFree_iff {s : State} : breqFree s = true ↔ ∀ r, s.crb.relAt = some r → r + 1000 ≤ s.uptime := by
  unfold breqFree
  cases s.crb.relAt with
  | none => simp
  | some u => simp

theorem doCrbBusRequest_eq (s : State) : doCrbBusRequest s =
    if crbActive s = true ∧ crbMaster s = true ∧ s.bit CRB_STATUS.MASTER = false ∧
      s.bit CRB_STATUS.HUNG = false ∧ s.crb.q ≠ [] ∧ (∀ r, s.crb.relAt = some r → r + 1000 ≤ s.uptime) then
      { s with crb := { s.crb with breq := true, reqAt := s.uptime } } else s :=
  ite_congr (by rw [← breqFree_iff]; simp [and_assoc]) (fun _ => rfl) fun _ => rfl

/-- The line is pulled low and the grant has not come. -/
theorem asks_iff {s : State} : (crbActive s && s.crb.breq && !s.bit CRB_STATUS.MASTER) = true ↔
    crbActive s = true ∧ s.crb.breq = true ∧ s.bit CRB_STATUS.MASTER = false := by
  simp [and_assoc]

theorem grant_eq {s u : State} (hu : u = s.setBit CRB_STATUS.MASTER true) : fromLands s doCrbGrant =
    if landsCut s = false ∧ crbActive s = true ∧ s.crb.breq = true ∧ s.bit CRB_STATUS.MASTER = false then
      { u with crb := { u.crb with served := 0, lost := false } } else s := by
  subst hu
  cases cut : landsCut s with
  | true => rw [fromLands_cut _ cut, if_neg (fun h => Bool.noConfusion h.1)]
  | false =>
    rw [fromLands_connected _ cut]
    exact ite_congr (by rw [eq_self_iff_true, true_and]; exact propext asks_iff) (fun _ => rfl) fun _ => rfl

theorem doCrbArbTimeout_eq {s r u : State} (hr : r = s.runTo (s.crb.reqAt + Nat.max 1 (s.fld CRB_CFG.ARB_US) * 1000))
    (hu : u = { r with crb := { r.crb with breq := false, relAt := some r.uptime } }) : doCrbArbTimeout s =
    if crbActive s = true ∧ s.crb.breq = true ∧ s.bit CRB_STATUS.MASTER = false then
      bark (crbIrq ((crbEndHead u 7).count CRB_CNT.ARB) CRB_IRQ.ARB) Src.CRB_ARB else s := by
  subst hu hr
  exact ite_congr (propext asks_iff) (fun _ => rfl) fun _ => rfl

theorem doCrbGrantLost_eq {s u : State} (hu : u = bark (crbIrq (s.count CRB_CNT.ARB) CRB_IRQ.ARB) Src.CRB_ARB) :
    doCrbGrantLost s = if s.bit CRB_STATUS.MASTER = false then s
      else if u.crb.cyc = .idle then crbRelease (crbEndHead u 7) else { u with crb := { u.crb with lost := true } } := by
  have fails : u = crbArbFail s := hu
  unfold doCrbGrantLost
  rw [← fails, ite_flag]
  refine ite_congr rfl (fun _ => rfl) fun _ => ?_
  by_cases idle : u.crb.cyc = .idle
  · rw [if_pos idle]
    simp only [idle]
  · rw [if_neg idle]
    dsimp only
    split
    next h => exact absurd h idle
    · rfl

theorem fromLands_grantLost {s u : State} (hu : u = bark (crbIrq (s.count CRB_CNT.ARB) CRB_IRQ.ARB) Src.CRB_ARB) :
    fromLands s doCrbGrantLost = if landsCut s = true ∨ s.bit CRB_STATUS.MASTER = false then s
      else if u.crb.cyc = .idle then crbRelease (crbEndHead u 7) else { u with crb := { u.crb with lost := true } } :=
  fromLands_guarded (doCrbGrantLost_eq hu) Iff.rfl

/-! ### Strobes and their answers (R508, R521 to R524, R535) -/

theorem doCrbOutboundCycle_eq (s : State) : doCrbOutboundCycle s =
    if crbActive s = true ∧ s.bit CRB_STATUS.MASTER = true ∧ s.bit CRB_STATUS.HUNG = false ∧ s.crb.cyc = .idle then
      (match s.crb.q with
        | r :: _ => if r.cut then crbEndHead s 7 else { s with crb := { s.crb with cyc := .data, dsAt := s.uptime } }
        | [] => s)
    else s := by
  refine ite_congr (by simp [and_assoc]) (fun _ => ?_) fun _ => rfl
  cases s.crb.q <;> rfl

section
variable {s : State} {rdy berr : Bool} {d : Nat}

theorem doCrbSlaveAnswer_none (none : (rdy = false) ∧ (berr = false) ∨ s.crb.cyc = .idle) : doCrbSlaveAnswer rdy berr d s = s := by
  unfold doCrbSlaveAnswer
  rcases none with ⟨rfl, rfl⟩ | idle
  · rfl
  · rw [idle]
    exact ite_self s

theorem doCrbSlaveAnswer_berr {u : State} (hu : u = if rdy then bark (s.count CRB_CNT.PROTO) Src.CRB_PROTO else s.count CRB_CNT.BERR_OUT) :
    (s.crb.cyc = .data → doCrbSlaveAnswer rdy true d s = crbWordFailed u) ∧
    (∀ l, s.crb.cyc = .iack l → doCrbSlaveAnswer rdy true d s = crbIackOver u l) ∧
    (s.crb.cyc = .foreign → doCrbSlaveAnswer rdy true d s =
      (if rdy then bark (s.count CRB_CNT.PROTO) Src.CRB_PROTO else s).modCrb fun c => { c with cyc := .idle }) := by
  subst hu
  refine ⟨fun h => ?_, fun l h => ?_, fun h => ?_⟩ <;> (unfold doCrbSlaveAnswer; rw [h]; cases rdy <;> rfl)

theorem doCrbSlaveAnswer_rdy :
    (s.crb.cyc = .data → doCrbSlaveAnswer true false d s = crbWordDone s d) ∧
    (∀ l, s.crb.cyc = .iack l → doCrbSlaveAnswer true false d s = crbIackOver (crbForward s (d % 256) l) l) ∧
    (s.crb.cyc = .foreign → doCrbSlaveAnswer true false d s = { s with crb := { s.crb with cyc := .idle } }) := by
  refine ⟨fun h => ?_, fun l h => ?_, fun h => ?_⟩ <;> (unfold doCrbSlaveAnswer; rw [h]; rfl)

end

theorem crbWordDone_eq {s u : State} {d a : Nat} {r g : CrbOut} {rest : List CrbOut} (head : s.crb.q = r :: rest)
    (ha : a = (match r.words with | w :: _ => w.addr | [] => 0)) (hg : g = takeRackWord r d)
    (hu : u = { s with crb := { s.crb with q := g :: rest } }) : crbWordDone s d =
      if g.words = [] then (if crbEnding s then crbRelease (crbEndHead u 0) else crbEndHead u 0)
      else if crbEnding s then crbRelease (crbEndHead u (if s.crb.stopping then 3 else 7))
      else if g.cut then crbEndHead u 7
      else if blockGoesOn g a then { u with crb := { u.crb with cyc := .data, dsAt := u.uptime } }
      else { u with crb := { u.crb with cyc := .idle } } := by
  subst ha hg hu
  unfold crbWordDone
  rw [head]
  exact ite_congr (by rw [List.isEmpty_iff]) (fun _ => rfl) fun _ => rfl

/-! ### The monitor and the deadlines (R515, R524, R537) -/

theorem doCrbMonTimeout_eq {s r u v : State} (hr : r = s.runTo (s.crb.dsAt + Nat.max 4 (s.fld CRB_MON_TIMEOUT.US) * 1000))
    (hu : u = { r with crb := { r.crb with ans := some (true, 0) } }) (hv : v = bark (u.count CRB_CNT.TIMEOUT) Src.CRB_TIMEOUT) :
    doCrbMonTimeout s = if crbWatching s = false then s else match s.crb.cyc with
      | .idle => s
      | .data => crbWordFailed v
      | .foreign => { v with crb := { v.crb with cyc := .idle } }
      | .iack l => crbIackOver ((bark (crbIrq (v.count CRB_CNT2.SPUR) CRB_IRQ.SPUR) Src.CRB_PROTO).modCrb fun c =>
          { c with spurAt := modAt c.spurAt l fun _ => some v.uptime }) l := by
  have spurious : (bark (crbIrq (v.count CRB_CNT2.SPUR) CRB_IRQ.SPUR) Src.CRB_PROTO).uptime = v.uptime := by
    rw [bark_uptime, crbIrq, raised_uptime, State.count_uptime]
  have timed : r.crb.cyc = s.crb.cyc := by rw [hr, State.runTo_crb]
  cases watching : crbWatching s with
  | false =>
    unfold doCrbMonTimeout
    rw [watching]
    rfl
  | true =>
    unfold doCrbMonTimeout
    dsimp only
    rw [watching, ← hr, timed]
    cases h : s.crb.cyc with
    | idle => rfl
    | data => subst hv hu; rfl
    | foreign => subst hv hu; rfl
    | iack l =>
      rw [← spurious]
      subst hv hu
      rfl

theorem doCrbStrobeDeadline_none {s : State} {k : Nat} (none : ∀ r, s.crb.q[k]? = some r → r.np = false) :
    doCrbStrobeDeadline k s = s := by
  unfold doCrbStrobeDeadline
  split
  · rfl
  next r found => exact if_pos (by rw [none r found]; rfl)

theorem doCrbStrobeDeadline_eq {s u : State} {k : Nat} {r : CrbOut} (found : s.crb.q[k]? = some r) (np : r.np = true)
    (hu : u = crbAdmit (crbEnd { s with crb := { s.crb with q := s.crb.q.eraseIdx k } } r 7)) : doCrbStrobeDeadline k s =
      if k = 0 ∧ s.crb.cyc = .data then
        { s with crb := { s.crb with q := modAt s.crb.q 0 fun r => { r with cut := true } } }
      else if u.crb.q = [] ∧ u.crb.cyc = .idle then crbRelease u else u := by
  subst hu
  unfold doCrbStrobeDeadline
  rw [found]
  refine (if_neg (by rw [np]; exact Bool.noConfusion)).trans
    (ite_congr rfl (fun _ => rfl) fun _ => ite_congr ?_ (fun _ => rfl) fun _ => rfl)
  rw [Bool.and_eq_true, List.isEmpty_iff, beq_iff_eq]
  rfl

/-! ### A held answer line (R517) -/

theorem hung_eq (s : State) : fromLands s (doCrbHung true) =
    if landsCut s = true ∨ crbActive s = false ∨ s.bit CRB_STATUS.HUNG = true then s
    else crbRelease (crbEndAll (crbProto (crbIrq (s.setBit CRB_STATUS.HUNG true) CRB_IRQ.HUNG)) 7) := by
  refine fromLands_guarded (c := crbActive s = false ∨ s.bit CRB_STATUS.HUNG = true) ?_ Iff.rfl
  unfold doCrbHung
  cases crbActive s with
  | false => rfl
  | true => cases s.bit CRB_STATUS.HUNG <;> rfl

theorem hungEnds_eq (s : State) : fromLands s (doCrbHung false) =
    if landsCut s = true ∨ crbActive s = false then s else s.setBit CRB_STATUS.HUNG false := by
  refine fromLands_guarded (c := crbActive s = false) ?_ Iff.rfl
  unfold doCrbHung
  cases crbActive s <;> rfl

/-- Settles O36: each event of mastership and of the outbound cycles, case by case; the spurious vector's instant is that of the
monitor's end, because raising an event takes no time (`bark_uptime`). -/
theorem rackMastershipComplete : Obligations.RackMastershipComplete := by
  refine ⟨fun s => next_congr (doCrbBusRequest_eq s), fun s u hu => next_congr (grant_eq hu),
    fun s r u hr hu => next_congr (doCrbArbTimeout_eq hr hu), fun s u hu => next_congr (fromLands_grantLost hu),
    fun s => next_congr (doCrbOutboundCycle_eq s), ?none, ?berr, ?rdy,
    fun s d r rest a g u head ha hg hu => crbWordDone_eq head ha hg hu, fun s => rfl,
    fun s r u v hr hu hv => next_congr (doCrbMonTimeout_eq hr hu hv),
    fun s k none => next_congr (doCrbStrobeDeadline_none none),
    fun s k r u found np hu => next_congr (doCrbStrobeDeadline_eq found np hu),
    fun s => ⟨next_congr (hung_eq s), next_congr (hungEnds_eq s)⟩⟩
  case none =>
    rintro s rdy berr d (cut | none)
    · exact next_congr (fromLands_cut _ cut)
    · exact next_congr (fromLands_id (doCrbSlaveAnswer_none none))
  case berr =>
    intro s rdy d u connected hu
    obtain ⟨data, iack, foreign⟩ := doCrbSlaveAnswer_berr (d := d.toNat) hu
    have acts := fromLands_connected (doCrbSlaveAnswer rdy true d.toNat) connected
    exact ⟨fun h => next_congr (acts.trans (data h)), fun l h => next_congr (acts.trans (iack l h)),
      fun h => next_congr (acts.trans (foreign h))⟩
  case rdy =>
    intro s d connected
    obtain ⟨data, iack, foreign⟩ := doCrbSlaveAnswer_rdy (s := s) (d := d.toNat)
    have acts := fromLands_connected (doCrbSlaveAnswer true false d.toNat) connected
    exact ⟨fun h => next_congr (acts.trans (data h)), fun l h => next_congr (acts.trans (iack l h)),
      fun h => next_congr (acts.trans (foreign h))⟩

end Sys2Proof.Machine
end
